-- ==== Sys2Proof/Word.lean ====
section
/-! DEFINITION. The word types of the Barentesh Event Controller block: register words are 32 bits wide and
registers are aligned to 4 bytes (R4); multi-byte values are little-endian (R3). -/

namespace Sys2Proof

/-- A register word (R4). -/
abbrev Word := BitVec 32

/-- One byte. -/
abbrev Byte := BitVec 8

/-- A 128-bit carriage descriptor (R38), ring entry (R238), journal record (R260) or Chetal record (R282). -/
abbrev Rec := BitVec 128

end Sys2Proof
end

