-- ==== Sys2Proof/Syntax.lean ====
section
/-! DEFINITION. The commands of the block: one constructor of `Instr` for each row of spec/opcode_table.json,
with the operands that the row's chapter gives the event (the table itself gives no bits). The operand types say
who performs a register access (R100), what an SRAM read finds (R408), and the like. -/

namespace Sys2Proof

/-- How a register access reaches the block (R48, R49, R63, R100, R302). The port it is attributed to follows from this
and the image. -/
inductive Port where
  /-- The register target path: REGT_SRC, REGT_FUNC and REGT_HPORT. -/
  | regt (src : Bool) (func : BitVec 12) (hport : BitVec 7)
  /-- Sideband commands 0x01 and 0x02. -/
  | sideband
  /-- The IEEE 1687 register instrument (R63). -/
  | debug
  /-- Register commands from the Tandem partner (R302), which come as PEER_REQUEST. -/
  | peer
  deriving DecidableEq, Repr

/-- Where an access goes: the two register spaces of R4, the configuration header of a function, and the SR-IOV
capability of the PF's header (R48, R100, R303). -/
inductive Space where
  /-- The direct page (DP offsets). -/
  | dp
  /-- The window space (WS offsets). -/
  | ws
  /-- The SR-IOV capability of function 0, by offset within it. -/
  | sriov
  /-- Every other word of a function's configuration space, by offset. -/
  | cfg
  deriving DecidableEq, Repr

/-- The two Chetal ring ports (R282). -/
inductive ChlPort where
  /-- The east port. -/
  | east
  /-- The west port. -/
  | west
  deriving DecidableEq, Repr

/-- The switched power domains, in the code order of PWR_PSW_TIMEOUT (R344). -/
inductive Pd where
  /-- Code 0. -/
  | core
  /-- Code 1. -/
  | state
  /-- Code 2. -/
  | log
  /-- Code 3. -/
  | tel
  /-- Code 4. -/
  | ring
  deriving DecidableEq, Repr

/-- The SRAM words that a step reads and R408 decides on. -/
inductive EccSite where
  /-- The descriptor at the lane's head (ingress buffer, lane FIFO, wake FIFO). -/
  | descriptor
  /-- The Source Table entry looked up. -/
  | sourceEntry
  /-- The translation entry read. -/
  | translation
  /-- The token state of the source meter (`dom = false`) or the domain meter (`dom = true`). -/
  | meterState (dom : Bool)
  /-- The parameters of the source meter or the domain meter. -/
  | meterParam (dom : Bool)
  /-- The state entry read, entry `slot` of its cache line where the step reads a whole line (SCRUB). -/
  | stateEntry (slot : Fin 8)
  /-- The hold-store group read. -/
  | holdGroup
  /-- The rank-store place read. -/
  | rankPlace
  /-- The waiting-set word read. -/
  | waitingWord
  /-- The calendar, zero-list or parked head read. -/
  | head
  /-- The active record read. -/
  | activeRecord
  /-- The journal write queue record read. -/
  | journalRecord
  /-- The gate-list word read. -/
  | gateWord
  /-- The token state of the head's target bucket, group bucket or domain bucket (0, 1, 2). -/
  | bucketState (kind : Fin 3)
  /-- The parameter word of the same bucket. -/
  | bucketParam (kind : Fin 3)
  /-- The Chetal transmit queue word. -/
  | chetalQueue
  /-- The word of the origin queue behind it. -/
  | originQueue
  /-- The egress queue write. -/
  | egressWrite
  /-- The image-derived tables. -/
  | imageTables
  /-- Telemetry counter `index` (R377). -/
  | counter (index : BitVec 24)
  /-- Telemetry accumulator: the sum, or the number (`num`), of a probe (R387). -/
  | accumulator (probe : BitVec 4) (num : Bool)
  deriving DecidableEq, Repr

/-- What a SECDED check finds in the step that reads the word (R408). -/
inductive Ecc where
  /-- No error. -/
  | none
  /-- A single-bit error: corrected and written back. -/
  | cor (site : EccSite)
  /-- An uncorrectable error in the payload. -/
  | unc (site : EccSite)
  /-- An uncorrectable error in the record's separate domain word. -/
  | uncDomain (site : EccSite)
  deriving DecidableEq, Repr

/-- How a sideband command arrived (R51): whole, or with a fault that makes the block carry out nothing. -/
inductive SbFrame where
  /-- A known code, the right byte count, PEC absent or right. -/
  | good
  /-- A PEC byte was present and wrong. -/
  | pecWrong
  /-- The command code is unknown. -/
  | unknownCode
  /-- The byte count differs from the table. -/
  | wrongCount
  deriving DecidableEq, Repr

/-- A policer meter (R147): a source meter by ordinal, or a domain meter by domain. -/
inductive MeterId where
  /-- POL_SRC_MTR. -/
  | src (ord : BitVec 16)
  /-- POL_DOM_MTR. -/
  | dom (d : BitVec 12)
  deriving DecidableEq, Repr

/-- The five registers of a meter (R147). -/
inductive MeterReg where
  /-- POL_MTR_CFG. -/
  | cfg
  /-- POL_MTR_CIR. -/
  | cir
  /-- POL_MTR_PIR. -/
  | pir
  /-- POL_MTR_CBS. -/
  | cbs
  /-- POL_MTR_PBS. -/
  | pbs
  deriving DecidableEq, Repr

/-- A sample of the hold-up monitor (R53): HU_ENERGY, HU_VALID, and whether HU_ENERGY has been unchanged for two ACLK
cycles. -/
structure Hu where
  energy : BitVec 16
  valid : Bool
  steady : Bool
  deriving DecidableEq, Repr

/-- What the TAP is told to do (R63). -/
inductive Tap where
  /-- A read or write through the register instrument of the IEEE 1687 network. -/
  | register (wr : Bool) (off : BitVec 30) (data : Word)
  /-- IDCODE. -/
  | idcode
  /-- BYPASS, with the bit on TDI. -/
  | bypass (tdi : Bool)
  /-- A scan dump of retention state. -/
  | scanDump
  deriving DecidableEq, Repr

/-- How an AVSBus frame ends (R52): the acknowledgement of the rail's response, `00` being "good CRC, action taken", or
no response with a right CRC. -/
inductive AvsAnswer where
  /-- A response whose own CRC is right, with its two acknowledgement bits. -/
  | ack (code : BitVec 2)
  /-- No response, or one with a wrong CRC. -/
  | bad
  deriving DecidableEq, Repr

/-- The commands of the block, one constructor per row of the table of operations and events. -/
inductive Instr where
  /-- INGRESS_BEAT (R40): A beat of four descriptors is accepted on carriage ingress against a credit and its descriptors go to the ingress buffer, or to the wake FIFO while FCLK is stopped. -/
  | ingressBeat (data : BitVec 512)
  /-- LANE_ENTRY (R132): A buffered descriptor enters its hashed lane FIFO, in slot order, once that FIFO has room. -/
  | laneEntry (ecc : Ecc)
  /-- INGR_CRED_RET (R40): One ingress credit is returned once every non-empty descriptor of a beat has entered a lane or the wake FIFO, subject to wake FIFO room. -/
  | ingrCredRet
  /-- EVENT_WINDOW_WRITE (R139): A descriptor at a lane head that writes into an EVENT window passes the Source Table lookup, translation, the domain checks and policing, and becomes an event record or a discard. -/
  | eventWindowWrite (lane : Fin 4) (ecc : Ecc)
  /-- MAP_READ_RETURN (R139): The depot read of an INDIRECT map word returns; the event gets its EID or is discarded with MAP_INVALID or MAP_POISON, and the domain checks follow. -/
  | mapReadReturn (tag : BitVec 10) (poison : Bool) (ecc : Ecc)
  /-- INTX_ASSERT (R142): An INTx Assert message updates the host port's virtual wire and yields a LEVEL_ASSERT, or is discarded with INTX_DUP. -/
  | intxAssert (ecc : Ecc)
  /-- INTX_DEASSERT (R142): An INTx Deassert message clears the virtual wire and yields a LEVEL_DEASSERT, or is discarded with INTX_DUP. -/
  | intxDeassert (ecc : Ecc)
  /-- LINE_CAPTURE (R47): An asserting edge on a line input sets the AO capture latch asynchronously and raises a wake request. -/
  | lineCapture (line : BitVec 10) (narrow : Bool)
  /-- LINE_LEVEL_CHANGE (R144): A change of a level-type line's synchronised level issues LEVEL_ASSERT or LEVEL_DEASSERT. -/
  | lineLevelChange (line : BitVec 10) (level : Bool)
  /-- LINE_SCAN (R144): The Line Collector takes the next latched edge-type line in round-robin order, issues one RAISE into lane 0 and clears the latch. -/
  | lineScan
  /-- STATE_MISS_FILL (R167): A state-cache line returns from the depot, is installed and ECC-checked, and the inputs waiting on it apply in their arrival order. -/
  | stateMissFill (line : BitVec 21) (poison : Bool) (ecc : Ecc)
  /-- VICTIM_WRITEBACK (R169): A dirty victim line in the victim buffer is written to the depot at the second depot priority, after its fill request has issued. -/
  | victimWriteback
  /-- DEP_RESPONSE (R45): An S2M NDR or DRS response arrives on the depot requester and completes its tag, or is discarded with SST_DEP_PROTO. -/
  | depResponse (data : Bool) (tag : BitVec 10) (poison : Bool) (ecc : Ecc)
  /-- SST_INIT_DONE (R157): The COLD initialisation of the state backing ends and SST_STATUS.INIT_DONE rises. -/
  | sstInitDone
  /-- SCRUB (R173): Every SCRUB_INT × 256 FCLK the scrubber reads one cache line and corrects it. -/
  | scrub (ecc : Ecc)
  /-- FLUSH (R170): SST_CTRL.FLUSH writes back every dirty line set by set; FLUSHED is set when the last write is acknowledged. -/
  | flush (p : Port)
  /-- READ_ENTRY (R165): SST_RTCMD OP 0b001 copies the first named entry into SST_ENTRY0 and SST_ENTRY1. -/
  | readEntry (p : Port) (d : BitVec 12) (eid : BitVec 24) (ecc : Ecc)
  /-- SET_EN (R161): SST_RTCMD OP 0b010 sets EN on a range of EIDs, at the next epoch close in a CARAVAN domain. -/
  | setEn (p : Port) (d : BitVec 12) (eid : BitVec 24) (ecc : Ecc)
  /-- CLEAR_EN (R161): SST_RTCMD OP 0b011 clears EN on a range, returning PENDING entries to IDLE and clearing RERAISE on ACTIVE ones. -/
  | clearEn (p : Port) (d : BitVec 12) (eid : BitVec 24) (ecc : Ecc)
  /-- SET_MASK (R161): SST_RTCMD OP 0b100 sets MASK on a range and withdraws PENDING entries from ranking. -/
  | setMask (p : Port) (d : BitVec 12) (eid : BitVec 24) (ecc : Ecc)
  /-- CLEAR_MASK (R161): SST_RTCMD OP 0b101 clears MASK on a range and offers PENDING entries to ranking in the next cycle. -/
  | clearMask (p : Port) (d : BitVec 12) (eid : BitVec 24) (ecc : Ecc)
  /-- SST_CFG_WRITE (R165): SST_CFGCMD OP 0b001 writes TYPE, PRIO, RKIND and ROUTE from SST_CFGDATA into a range of entries. -/
  | sstCfgWrite (p : Port) (d : BitVec 12) (eid : BitVec 24) (ecc : Ecc)
  /-- CLEAR_STATE (R165): SST_CFGCMD OP 0b010 returns every hardware field, EN and MASK of a range to their initial values while the domain is disabled. -/
  | clearState (p : Port) (d : BitVec 12) (eid : BitVec 24) (ecc : Ecc)
  /-- CLEAR_POISON (R172): SST_CFGCMD OP 0b011 rewrites an entry from SST_CFGDATA and initial values and frees its poison-list slot. -/
  | clearPoison (p : Port) (d : BitVec 12) (eid : BitVec 24) (ecc : Ecc)
  /-- WAYMARK_MARK (R178): A MARK waymark of a member source closes its epochs up to e, checks COUNT when CHK is set and is sent to every member. -/
  | waymarkMark (lane : Fin 4) (ecc : Ecc)
  /-- WAYMARK_QUIET (R178): A QUIET waymark acts as MARK and then puts the source into QUIET. -/
  | waymarkQuiet (lane : Fin 4) (ecc : Ecc)
  /-- WAYMARK_RESUME (R178): A RESUME waymark takes a QUIET source out of QUIET with open(s) set to the named epoch. -/
  | waymarkResume (lane : Fin 4) (ecc : Ecc)
  /-- SILENCE (R180): CVN_SRC_CMD OP SILENCE puts a member source into QUIET, clears condition 2 and sends a SILENT record. -/
  | silence (p : Port) (ord : BitVec 16)
  /-- HOLD_CLOCK_START (R185): EPOCH_LEN after an epoch became the oldest open epoch without a covering waymark, its hold clock starts. -/
  | holdClockStart (d : BitVec 12)
  /-- OVERDUE (R188): A hold clock reaches TS with a member missing; OVERDUE is set and counted. -/
  | overdue (d : BitVec 12)
  /-- STRAGGLER (R188): A hold clock reaches HC; the coordinator declares the missing members stragglers, the epoch closes and conditions 2 and 3 are cleared. -/
  | straggler (d : BitVec 12)
  /-- RELEASE (R190): Up to two release groups of a closed epoch are handed per FCLK, in canonical order, to their state entries and target streams. -/
  | release (ecc : Ecc)
  /-- RELEASE_RETRY (R192): A refused release is offered again to its entry each cycle until it enters. -/
  | releaseRetry (ecc : Ecc)
  /-- WAITING_ADMISSION (R202): The waiting scanner admits up to two waiting EIDs per FCLK as new offers once rank-store room frees. -/
  | waitingAdmission (ecc : Ecc)
  /-- HAND_OVER (R212): Each FCLK the Ranking Engine hands over up to two heads with the lowest competing keys, round-robin, to the Route Resolver. -/
  | handOver (ecc : Ecc)
  /-- RTE_TGT_READ (R207): RTE_TCMD OP 0b001 reads a target's RTE_TGT_RT into RTE_TDATA. -/
  | rteTgtRead (p : Port) (d : BitVec 12) (target : BitVec 16)
  /-- RTE_TGT_WRITE (R210): RTE_TCMD OP 0b010 writes RTE_TDATA into a target's RTE_TGT_RT. -/
  | rteTgtWrite (p : Port) (d : BitVec 12) (target : BitVec 16)
  /-- REFILL_TICK (R221): At each refill tick, enabled buckets gain RATE × T, buffered WWL_ and share values take effect and the calendar advances one slot. -/
  | refillTick (ecc : Ecc)
  /-- COMMIT_GATE (R229): OAS_GCMD.COMMIT copies the admin list with its computed start time into the pending list. -/
  | commitGate (p : Port) (g : BitVec 10)
  /-- PENDING_LIST_SWITCH (R229): At the start time the pending list becomes the oper list, and the gate-cycle start applies buffered OAS_ values. -/
  | pendingListSwitch (g : BitVec 10)
  /-- GATE_OPENING (R234): At a window opening, the heads waiting at the group's gate are tested again in the order in which they began to wait. -/
  | gateOpening (g : BitVec 10) (ecc : Ecc)
  /-- PARKED_RETURN (R241): When its cause clears, a parked head returns to the gate in parking order. -/
  | parkedReturn (ecc : Ecc)
  /-- EGRESS_ACK (R247): An egress acknowledgement frees its tag on status 0b00, or marks the host port down and puts the write on its unsent list. -/
  | egressAck (tag : BitVec 12) (st : BitVec 2)
  /-- RESUME (R247): DLV_HPORT_CMD.RESUME clears the port's DOWN bit and re-issues its unsent writes in list order. -/
  | resume (p : Port) (hport : BitVec 7)
  /-- RSTPTR (R236): DLV_RING_CFG.RSTPTR sets a disabled ring's PI, CI and ARM to 0. -/
  | rstptr (p : Port) (target : BitVec 16)
  /-- COMPLETE (R249): A COMPLETE doorbell through a DOORBELL window matches the active record by EID, HPORT and SEQ, frees it and resolves DONE. -/
  | complete (lane : Fin 4) (ecc : Ecc)
  /-- COMPLETE_ANY (R249): A COMPLETE_ANY doorbell completes an ACTIVE EID without the SEQ check. -/
  | completeAny (lane : Fin 4) (ecc : Ecc)
  /-- CONSUME (R236): A CONSUME doorbell advances a ring's CI and may arm its notification, writing a standalone notification when entries remain. -/
  | consume (lane : Fin 4) (ecc : Ecc)
  /-- DOORBELL_RESERVED_OP (R249): A doorbell with reserved OP 0b11 changes nothing and is logged with cause 1. -/
  | doorbellReservedOp (lane : Fin 4) (ecc : Ecc)
  /-- CMP_DBCMD_COMPLETE (R250): CMP_DBCMD OP COMPLETE completes an EID of the domain as a doorbell without the HPORT check. -/
  | cmpDbcmdComplete (p : Port) (d : BitVec 12) (ecc : Ecc)
  /-- CMP_DBCMD_COMPLETE_ANY (R250): CMP_DBCMD OP COMPLETE_ANY completes an EID of the domain without the SEQ check. -/
  | cmpDbcmdCompleteAny (p : Port) (d : BitVec 12) (ecc : Ecc)
  /-- CMP_DBCMD_CONSUME (R250): CMP_DBCMD OP CONSUME advances CI of a ring the domain owns, or of the fault ring from domain 0. -/
  | cmpDbcmdConsume (p : Port) (d : BitVec 12) (fring : Bool) (target : BitVec 16)
  /-- CMP_FORCE (R250): CMP_FORCE completes an ACTIVE EID without the HPORT and SEQ checks. -/
  | cmpForce (p : Port) (eid : BitVec 24) (ecc : Ecc)
  /-- REDELIVERY_TIMEOUT (R252): A redelivery timer expires with the delivery still ACTIVE and the tracker writes a redelivery or a LOST entry. -/
  | redeliveryTimeout (eid : BitVec 24)
  /-- LOST_RETRY (R254): An expiry that found the tracker's LOST list full is retried each µs. -/
  | lostRetry
  /-- FAULT_DELIVERY (R254): The engines issue a LOST entry or a fault-queue offer to the fault ring when it is enabled, has room and its port is up. -/
  | faultDelivery
  /-- VFM_VF_STATUS_READ (R305): A read of VFM_VF_STATUS clears the bits it returned and re-arms the status interrupt. -/
  | vfmVfStatusRead (p : Port) (d : BitVec 12)
  /-- JOURNAL_LINE_TIMEOUT (R263): A partly filled journal line with no further record for 256 FCLK is written with FREE padding. -/
  | journalLineTimeout (d : BitVec 12)
  /-- JOURNAL_LINE_WRITE (R266): A filled journal line leaves the write queue for the depot at the first depot priority. -/
  | journalLineWrite (ecc : Ecc)
  /-- WAY_FLUSH (R272): WAY_CMD.FLUSH writes every queued or partly filled record of the domain; FLUSHED is set at the last acknowledgement. -/
  | wayFlush (p : Port) (d : BitVec 12)
  /-- NEWSEG (R269): WAY_CMD.NEWSEG writes an END record, skips to the segment's end and starts a new segment. -/
  | newseg (p : Port) (d : BitVec 12)
  /-- WAY_ARCH_COMMIT (R270): A write of WAY_ARCH_LO commits both halves of the archive position and may release waiting records under STOP. -/
  | wayArchCommit (p : Port) (d : BitVec 12) (lo : Word)
  /-- WAYBILL_ENABLE (R259): WAY_MODE.MODE from 0 to 1 starts a new journal with the SEGMENT record of segment 0 in slot 0. -/
  | waybillEnable (p : Port) (d : BitVec 12)
  /-- REPLAY_RECORD (R275): The Replay Engine takes the next record read from the depot and acts on its KIND, making a DELIVERY a replay head. -/
  | replayRecord (d : BitVec 12)
  /-- STOP (R279): RPL_CMD.STOP ends the replay after the record being taken, with code 2. -/
  | stop (p : Port) (d : BitVec 12)
  /-- RPL_MODE_CLEAR (R280): Clearing RPL_MODE.MODE in a disabled domain resolves every parked entry in ascending EID under PARK_ACT. -/
  | rplModeClear (p : Port) (d : BitVec 12)
  /-- DOMAIN_ENABLE (R308): VFM_DOM_CTRL.EN from 0 to 1 starts or continues a run, a replay or the journal and offers PENDING entries. -/
  | domainEnable (p : Port) (d : BitVec 12)
  /-- DOMAIN_DISABLE (R308): VFM_DOM_CTRL.EN from 1 to 0 discards new events, removes offers and heads, ends the run and replay and flushes the journal. -/
  | domainDisable (p : Port) (d : BitVec 12)
  /-- MHOLD (R309): A write of VFM_DOM_CTRL.MHOLD holds or releases the domain's intake. -/
  | mhold (p : Port) (d : BitVec 12) (v : Bool)
  /-- THOLD (R309): A write of VFM_RT.THOLD by the tenant holds or releases the domain's intake. -/
  | thold (p : Port) (d : BitVec 12) (v : Bool)
  /-- FREEZE (R316): A write of VFM_DOM_CTRL.FREEZE stops or resumes the domain's delivery while intake runs. -/
  | freeze (p : Port) (d : BitVec 12) (v : Bool)
  /-- FLR (R312): An FLR of a VF, or a VF removed by SR-IOV, resets its domain and fences it when it was not drained. -/
  | flr (fn : BitVec 12)
  /-- DOMAIN_RESET (R366): VFM_DOM_RST.GO resets the named domain as an FLR does. -/
  | domainReset (p : Port) (d : BitVec 12)
  /-- RESET_WALK_END (R312): The FLR, fence or SEQ walk passes the domain's last line; RESETTING clears and VFM_FLR_DIRTY is filled. -/
  | resetWalkEnd (d : BitVec 12)
  /-- SAVE (R318): VFM_DOM_CMD OP SAVE takes a snapshot of a frozen domain and writes its save record to the depot. -/
  | save (p : Port) (d : BitVec 12)
  /-- SAVE_DONE (R318): The header of a domain save record is acknowledged; SAVED is set and VFM_XFER_LEN is filled. -/
  | saveDone (d : BitVec 12)
  /-- RESTORE (R319): VFM_DOM_CMD OP RESTORE checks a save record and applies its words and entries to a disabled domain. -/
  | restore (p : Port) (d : BitVec 12)
  /-- UNFENCE (R313): VFM_DOM_CMD OP UNFENCE ends the fence of a disabled domain whose walk has ended. -/
  | unfence (p : Port) (d : BitVec 12)
  /-- UNSAVE (R320): VFM_DOM_CMD OP UNSAVE clears SAVED without restoring. -/
  | unsave (p : Port) (d : BitVec 12)
  /-- DEPOT_READ_LINE (R321): VFM_DEP_CMD OP 0b01 reads a 64-byte depot line into VFM_DEP_DATA0 to VFM_DEP_DATA15. -/
  | depotReadLine (p : Port)
  /-- DEPOT_WRITE_LINE (R321): VFM_DEP_CMD OP 0b10 writes a 64-byte depot line, unless it lies in a protected region. -/
  | depotWriteLine (p : Port)
  /-- SHARE_WRITE (R307): A write of VFM_SHARE.RANK is buffered and applies the domain's rank-store limit at the next refill tick. -/
  | shareWrite (p : Port) (d : BitVec 12) (rank : BitVec 13)
  /-- EVENT_RECORD (R193): A received Chetal EVENT record is applied at its home under R163 or R158, or copied and forwarded. -/
  | eventRecord (rec : Rec)
  /-- WAYMARK_RECORD (R193): A received WAYMARK broadcast updates the source's epochs at the member and is forwarded, or removed by its sender. -/
  | waymarkRecord (rec : Rec)
  /-- SILENT_RECORD (R194): A received SILENT record puts the source into QUIET, or makes it a straggler for the named epoch, at the member. -/
  | silentRecord (rec : Rec)
  /-- CLOSE_RECORD (R194): A Tandem partner's CLOSE lets the unit release an epoch whose close it has already decided. -/
  | closeRecord (rec : Rec)
  /-- TANDEM_STATE (R296): The standby applies a mirrored STATE record to a state entry. -/
  | tandemState (rec : Rec)
  /-- TANDEM_DELIV (R296): The standby applies a mirrored issue or free of an active record. -/
  | tandemDeliv (rec : Rec)
  /-- TANDEM_CFG (R296): The standby applies a mirrored configuration write, computing a mirrored gate start from its k. -/
  | tandemCfg (rec : Rec)
  /-- TANDEM_DOORBELL (R295): The primary handles a doorbell forwarded by its standby. -/
  | tandemDoorbell (rec : Rec)
  /-- TANDEM_ACK (R297): The primary takes the standby's ACK of its commit sequence. -/
  | tandemAck (rec : Rec)
  /-- HEARTBEAT (R296): A partner's HEARTBEAT updates its sequence, role, CRC and DOZE state and may start arbitration. -/
  | heartbeat (rec : Rec)
  /-- HELLO (R294): A partner's HELLO forms the pair or refuses it. -/
  | hello (rec : Rec)
  /-- DIGEST (R301): A partner's epoch digest is compared with the unit's own; a difference sets DIGEST_DIFF and the standby resynchronises. -/
  | digest (rec : Rec)
  /-- BULK (R300): The resynchronising standby stores a bulk state word. -/
  | bulk (rec : Rec)
  /-- BULK_END (R300): At BULK_END the standby sends ACK and enters IN_STEP. -/
  | bulkEnd (rec : Rec)
  /-- HANDOVER (R298): On HANDOVER the units exchange roles without a change of commit sequence. -/
  | handover (rec : Rec)
  /-- CHECK (R286): A neighbour's CHECK record is compared with the hop's own count and CRC; a difference is a hop loss. -/
  | check (port : ChlPort) (rec : Rec)
  /-- CHECK_SEND (R286): The transmitter sends a CHECK record at least once in every 4,096 records. -/
  | checkSend (port : ChlPort)
  /-- BEACON (R289): A received BEACON updates JOINED, RTT and QLIVE and drives the join check. -/
  | beacon (rec : Rec)
  /-- BEACON_SEND (R287): The coordinator broadcasts a BEACON every 10,240 ns. -/
  | beaconSend
  /-- PROBE (R292): The coordinator's PROBE returns and its excess is recorded, or its round trip calibrates RTT in a window. -/
  | probe (rec : Rec)
  /-- PROBE_SEND (R287): The coordinator sends a PROBE every 1,024 ns. -/
  | probeSend
  /-- PAUSE (R285): A received PAUSE stops non-CTRL origination in its direction and stops the coordinator's hold clocks for the eastward direction. -/
  | pause (port : ChlPort) (rec : Rec)
  /-- RING_RESUME (R285): A received CTRL RESUME ends a pause, or with WEND ends a window. -/
  | ringResume (port : ChlPort) (rec : Rec)
  /-- TX_QUEUE_MARK (R285): A transmit queue crosses 4,096 or 2,048 records and the member sends PAUSE or RESUME. -/
  | txQueueMark (port : ChlPort)
  /-- WINDOW (R290): A received WINDOW makes the member originate only CTRL until OPEN. -/
  | window (rec : Rec)
  /-- WINDOW_SEND (R290): The coordinator sends a WINDOW every WIN_INT for missing members or after a LEAVE_REQ or WAKE_REQ. -/
  | windowSend
  /-- WINDOW_OPEN (R290): At OPEN, READY members join, leavers leave and wake requesters start the wake pattern. -/
  | windowOpen
  /-- JOIN_TIMEOUT (R290): A joiner with no LANE_UP at OPEN + 10 µs reasserts its bypass and returns to LISTEN. -/
  | joinTimeout
  /-- WINDOW_END (R290): At WIN_LEN the coordinator sends RESUME with WEND and origination resumes. -/
  | windowEnd
  /-- JOINED (R290): The coordinator takes a joiner's JOINED and recalibrates RTT with 16 PROBEs. -/
  | joined (rec : Rec)
  /-- LEAVE_REQ (R290): A member's LEAVE_REQ makes the coordinator send a window within 10 µs. -/
  | leaveReq (rec : Rec)
  /-- LEAVE (R292): A member's LEAVE removes it from the ring, and a new coordinator takes over when the coordinator left. -/
  | leave (rec : Rec)
  /-- LOSS (R286): A received LOSS is acted on as lost caravan records, and a standby resynchronises. -/
  | loss (port : ChlPort) (rec : Rec)
  /-- WAKE_REQ (R290): A member's WAKE_REQ makes the coordinator send a window within 10 µs. -/
  | wakeReq (rec : Rec)
  /-- PEER_REQUEST (R302): A PEER read or write from the Tandem partner is served on the PEER port and answered. -/
  | peerRequest (rec : Rec)
  /-- PEER_RESPONSE (R302): A PEER response fills TDM_PEER_DATA and ends the pending TDM_PEER_CMD. -/
  | peerResponse (rec : Rec)
  /-- TDM_PEER_CMD (R302): TDM_PEER_CMD.GO sends a PEER read or write request to the partner. -/
  | tdmPeerCmd (p : Port) (wr : Bool) (off : BitVec 27)
  /-- PEER_TIMEOUT (R302): A PEER request unanswered for 100 µs ends with ERR 2. -/
  | peerTimeout
  /-- HOP_LOSS (R286): A lane of a joined port loses LANE_UP; LOSS is set and broadcast. -/
  | hopLoss (port : ChlPort) (lanes : BitVec 4)
  /-- FOUNDING (R291): A member in LISTEN with no BEACON for (1 + POSITION) × 100 µs founds the ring. -/
  | founding
  /-- FOUNDING_TIMEOUT (R291): A founding attempt without LANE_UP on both ports within 20 µs reasserts the bypass and sets JERR 4. -/
  | foundingTimeout
  /-- FOUNDING_JOINED (R291): Both ports of a founder show LANE_UP; it is JOINED as coordinator and calibrates RTT. -/
  | foundingJoined
  /-- BEACON_MISS (R292): Three BEACONs in a row are missing and the next lowest joined member becomes coordinator. -/
  | beaconMiss
  /-- HEARTBEAT_SEND (R296): Each unit of a pair sends a HEARTBEAT every 1,024 ns. -/
  | heartbeatSend
  /-- HELLO_SEND (R296): Each unit sends HELLO at join and every 1 ms. -/
  | helloSend
  /-- ACK_SEND (R297): The standby sends ACK every 256 records or every 1,024 ns. -/
  | ackSend
  /-- PRIMARY_LOST (R298): The standby declares the primary lost and takes over as PRIMARY within 2 µs. -/
  | primaryLost
  /-- SWITCH (R298): TDM_CMD.SWITCH at an in-step primary stops issue and waits for the last ACK. -/
  | switch (p : Port)
  /-- CHL_LEAVE (R290): CHL_CTRL.LEAVE sends LEAVE_REQ and the member leaves at the window. -/
  | chlLeave (p : Port)
  /-- CHL_EN_WRITE (R288): A write of CHL_CTRL.EN enables or stops ring operation and clears REFUSED on 0 to 1. -/
  | chlEnWrite (p : Port) (v : Bool)
  /-- SLEEP (R328): PWR_CMD.SLEEP requests one entry when the conditions hold. -/
  | sleep (p : Port)
  /-- ENTRY_DECISION (R328): The Power Manager decides an entry when every condition holds and starts the drain. -/
  | entryDecision
  /-- DRAIN_END (R330): The drain ends and the entry passes AP1 to AP4, gating clocks, parking structures and switching domains off. -/
  | drainEnd
  /-- DRAIN_TIMEOUT (R329): A drain unfinished after DRAIN_MAX µs abandons the entry at AP1. -/
  | drainTimeout
  /-- PSW_ACK (R60): PSW_ACK_d asserts or deasserts and the power handshake takes its next step. -/
  | pswAck (pd : Pd) (v : Bool)
  /-- PSW_TIMEOUT (R60): A power-switch handshake still waits after 256 ACLK; switch-off aborts at AP4, switch-on is fatal. -/
  | pswTimeout (pd : Pd)
  /-- WAKE (R335): A honoured wake request reaches the Power Manager while dormant and starts the exit. -/
  | wake (code : BitVec 4) (detail : BitVec 12)
  /-- TIMER_WAKE (R335): Fabric time reaches the deadline minus 1,500 ns and wakes the block. -/
  | timerWake
  /-- SIGDET_WAKE (R335): A rising CHL_x_SIGDET after 1,000 ns of silence wakes a detached member. -/
  | sigdetWake (port : ChlPort) (quiet : BitVec 16)
  /-- SMBUS_ADDRESS_MATCH (R50): The clockless matcher acknowledges the address and holds SB_SCL until AO logic takes over. -/
  | smbusAddressMatch (addr : BitVec 7)
  /-- OFF_AREA_RESTORE_DONE (R336): The restore of OFF domains from the off area ends; the wake FIFO drains and the block enters RUN. -/
  | offAreaRestoreDone
  /-- VOTE (R326): A write of PWR_VOTE.AWAKE by its own function sets or releases the domain's vote. -/
  | vote (p : Port) (d : BitVec 12) (v : Bool)
  /-- VOTE_SB (R326): A write of PWR_VOTE_SB.AWAKE from SIDEBAND sets or releases its vote. -/
  | voteSb (p : Port) (v : Bool)
  /-- PERF_REQ (R340): A write of PWR_PERF.REQ requests a performance-point change. -/
  | perfReq (p : Port) (req : BitVec 2)
  /-- AVS_RESPONSE (R341): An AVSBus frame ends with good or bad acknowledgement and the change proceeds, retries or fails. -/
  | avsResponse (answer : AvsAnswer)
  /-- AVS_RETRY (R341): 1 µs after a failed frame the Voltage write is retried. -/
  | avsRetry
  /-- SETTLE_END (R341): SETTLE µs after the acknowledgement the retune to the faster point starts. -/
  | settleEnd
  /-- TO_PLL (R339): PWR_CLK.TO_PLL switches FCLK to FCLK_PLL. -/
  | toPll (p : Port)
  /-- TO_OSC (R339): PWR_CLK.TO_OSC switches FCLK back to the internal oscillator. -/
  | toOsc (p : Port)
  /-- PFAIL (R350): HU_PFAIL_N asserts and triggers a persistent save, ending in SAVED_OFF. -/
  | pfail (hu : Hu)
  /-- SAV_SAVE (R350): SAV_CMD.SAVE triggers a COMMAND persistent save. -/
  | savSave (p : Port) (hu : Hu)
  /-- PERIODIC (R350): Every PERIOD × 125 ms a periodic persistent save is triggered or skipped. -/
  | periodic (hu : Hu)
  /-- PERSISTENT_SAVE_DONE (R356): The save header is acknowledged; a COMMAND or PERIODIC save releases credits, issue and clocks, a PFAIL save enters SAVED_OFF. -/
  | persistentSaveDone
  /-- HOME_WRITE (R349): A configuration home write starts when 8 s have passed since the last one, after an accepted COMMIT. -/
  | homeWrite
  /-- COLD (R363): Deassertion of COLD_RST_N resets every field and structure and starts the COLD start-up sequence. -/
  | cold (straps : Word)
  /-- WARM (R364): WARM_RST_N clears intake in transit and non-W fields, keeps image and state and restarts the logic. -/
  | warm
  /-- WARM_DEPOT_WAIT_END (R364): After WARM, depot responses still missing after 10 µs are abandoned and their tags freed. -/
  | warmDepotWaitEnd
  /-- FABRIC_RST (R365): A FABRIC_RST pulse resets the PF configuration header, non-F fields and INTx wires. -/
  | fabricRst
  /-- STAGE_READY (R370): Start-up reaches READY: RST_DONE and INGR_READY rise, credits are granted, held FLRs run and the walker starts. -/
  | stageReady
  /-- IMAGE_CHUNK_SIDEBAND (R89): Sideband command 0x03 delivers image bytes for the pending chunk request. -/
  | imageChunkSideband (frame : SbFrame) (bytes : List Byte)
  /-- IMAGE_CHUNK_MAILBOX (R89): A write of IMG_MBOX_DATA15 delivers a mailbox chunk for the pending request. -/
  | imageChunkMailbox (p : Port) (data : Word)
  /-- TIMEOUT (R88): No chunk within 100 ms of its request fails the slot with code 0x02. -/
  | timeout
  /-- ABSENT (R89): IMG_CTRL.ABSENT declares the requested slot empty with code 0x01. -/
  | absent (p : Port)
  /-- ARBITRATION_DONE (R91): After both candidate reads the loader chooses a slot and starts its second read. -/
  | arbitrationDone
  /-- IMAGE_APPLY_DONE (R92): The second read ends; the image is in force, or the other slot or the no-image state is taken. -/
  | imageApplyDone
  /-- RELOAD (R95): IMG_CTRL.RELOAD runs arbitration with the current SLOT_SEL when every domain is disabled. -/
  | reload (p : Port)
  /-- ALERT_RESPONSE (R89): A read on the Alert Response Address returns SB_ADDR while SB_ALERT_N is asserted. -/
  | alertResponse
  /-- SB_REGISTER_READ (R51): Sideband command 0x01 reads a register in the direct page or window. -/
  | sbRegisterRead (frame : SbFrame) (off : Word)
  /-- SB_REGISTER_WRITE (R51): Sideband command 0x02 writes a register in the direct page or window. -/
  | sbRegisterWrite (frame : SbFrame) (off : Word) (data : Word)
  /-- SB_STATUS_READ (R51): Sideband command 0x04 returns SB_STATUS. -/
  | sbStatusRead (frame : SbFrame)
  /-- WIN_DATA (R104): A WIN_DATA access reaches the register at WIN_ADDR and then advances WIN_ADDR by 4. -/
  | winData (p : Port) (wr : Bool) (data : Word) (be : BitVec 4)
  /-- DORMANT_ACCESS_WAKE (R107): An access to a dormant domain's register wakes it and completes after the wake with WIN_STATUS.WAKE set. -/
  | dormantAccessWake (p : Port) (off : BitVec 30)
  /-- REGISTER_WRITE (R112): A write to a register without a row of its own passes authority, power, lock, freeze and apply-class checks and takes effect or is recorded as refused. -/
  | registerWrite (p : Port) (space : Space) (off : BitVec 30) (data : Word) (be : BitVec 4)
  /-- READ_CLEAR (R114): A read of an RC field from any port but DEBUG clears the bits it returned as 1. -/
  | readClear (p : Port) (space : Space) (off : BitVec 30)
  /-- WIDE_CAPTURE (R110): A write of REG_WIDE_SEL with CAPTURE copies the selected wide value into DATA0 to DATA3 and sets VALID. -/
  | wideCapture (p : Port) (kind : BitVec 7) (index : BitVec 24)
  /-- MGT_AUTH_WRITE (R122): A write of MGT_AUTH changes the live class mask unless it breaks the image's authority rules. -/
  | mgtAuthWrite (p : Port) (data : Word)
  /-- REG_LOCK_WRITE (R116): A write of REG_LOCK sets lock bits, SEAL freezing all of them. -/
  | regLockWrite (p : Port) (data : Word)
  /-- COMMIT (R126): CFG_CTRL.COMMIT copies CFG_CRC_LIVE into CFG_CRC_REF when LIVE_CLEAN is 1 and requests a home write. -/
  | commit (p : Port)
  /-- UNFREEZE (R127): CFG_CTRL.UNFREEZE clears FROZEN. -/
  | unfreeze (p : Port)
  /-- WALKER_PASS_END (R125): A walker pass of 2^20 ACLK ends; LIVE_CLEAN may be set and the live CRC is compared with the reference. -/
  | walkerPassEnd (bad : List (BitVec 13))
  /-- SRC_READ_SOURCE (R136): SRC_CMD OP 0b001 reads a Source Table entry into SRC_DATA. -/
  | srcReadSource (p : Port) (index : BitVec 16)
  /-- SRC_WRITE_SOURCE (R137): SRC_CMD OP 0b010 writes a Source Table entry unless a refusal condition holds. -/
  | srcWriteSource (p : Port) (index : BitVec 16)
  /-- SRC_READ_TRANSLATION (R136): SRC_CMD OP 0b011 reads a translation entry into SRC_DATA. -/
  | srcReadTranslation (p : Port) (index : BitVec 16)
  /-- SRC_WRITE_TRANSLATION (R137): SRC_CMD OP 0b100 writes a translation entry unless a refusal condition holds. -/
  | srcWriteTranslation (p : Port) (index : BitVec 16)
  /-- LIN_CFG_WRITE (R143): A write of LIN_CFG enables or disables a line, clearing its latch or issuing LEVEL_ASSERT. -/
  | linCfgWrite (p : Port) (line : BitVec 10) (data : Word)
  /-- METER_WRITE (R149): A write to a meter's registers fills its buckets on enable or brings them up to date at the old values. -/
  | meterWrite (p : Port) (m : MeterId) (r : MeterReg) (data : Word)
  /-- FT_TOGGLE (R54): FT_TOGGLE changes and the Time Base loads FT_TIME plus DELAY, holding on a backstep or flagging a jump. -/
  | ftToggle (ft : BitVec 64)
  /-- HOLDOVER (R54): No toggle for 2 µs sets TIM_HOLDOVER while time keeps counting. -/
  | holdover
  /-- SNAP (R383): TEL_CTRL.SNAP copies every counter, accumulator and probe value into the snapshot bank. -/
  | snap (p : Port)
  /-- SNAP_CLR (R383): TEL_CTRL.SNAP_CLR takes a snapshot and clears every live counter and accumulator. -/
  | snapClr (p : Port)
  /-- CLR_ALL (R384): TEL_CTRL.CLR_ALL clears every live counter, accumulator and probe value. -/
  | clrAll (p : Port)
  /-- BW_CLR (R394): TEL_CTRL.BW_CLR sets every bandwidth LAST and MAX to 0. -/
  | bwClr (p : Port)
  /-- TEL_CNT_WRITE (R381): TEL_CNT_CMD OP 0b01 sets a live counter and clears its OVF. -/
  | telCntWrite (p : Port) (index : BitVec 24)
  /-- TEL_CNT_CLEAR_OVF (R381): TEL_CNT_CMD OP 0b10 clears a counter's OVF. -/
  | telCntClearOvf (p : Port) (index : BitVec 24)
  /-- TELEMETRY_WINDOW_END (R385): At each multiple of TW the window maxima, WMAX and bandwidth registers move to their last-window values. -/
  | telemetryWindowEnd (ecc : Ecc)
  /-- LEVEL_SAMPLE (R387): Every (PERIOD + 1) × 128 ns the level probes sample their occupancies. -/
  | levelSample
  /-- PROBE_CFG_WRITE (R389): An accepted write to a disabled probe's configuration resets its buckets, accumulators and extrema. -/
  | probeCfgWrite (p : Port) (probe : BitVec 4) (base : Bool) (data : Word)
  /-- SAMPLER_RECORD (R391): A tracked sample completes, is dropped or times out after 2^32 ns, and its 64-byte record is written to the sampler ring. -/
  | samplerRecord
  /-- ERR_PEND_READ (R412): A read of ERR_PEND clears it and re-arms the manager interrupt. -/
  | errPendRead (p : Port)
  /-- DEBUG_ACCESS (R63): A register access through the IEEE 1687 instrument on the DEBUG port is served when C5 is granted. -/
  | debugAccess (tap : Tap)
  /-- LANE_LOCK (R290): The CHL_x_LANE_UP lanes of a port achieve lock and deskew; a joiner then sends JOINED and CHECK counts restart at lock. -/
  | laneLock (port : ChlPort)
  /-- GATE_CYCLE_START (R232): At each start of an oper list's cycle the OAS_MODE and OAS_GUARD values buffered for it take effect. -/
  | gateCycleStart (g : BitVec 10)
  /-- EGRESS_BEAT_TAKEN (R240): The switch accepts an egress beat with EGR_READY, freeing room in the 64-beat egress queue and ending a condition-5 stall. -/
  | egressBeatTaken
  /-- SAVE_INTERVAL_END (R350): A PFAIL save that found itself inside the save interval starts when the interval ends. -/
  | saveIntervalEnd
  /-- COLD_RST_N_ASSERTED (R58): COLD_RST_N asserts asynchronously and holds the whole block in reset, with REGT_READY and INGR_READY low and CHL_BYPASS_N asserted. -/
  | coldRstNAsserted
  /-- WARM_RST_N_DEASSERTED (R364): WARM_RST_N deasserts and the block waits for outstanding depot responses, then runs the WARM start-up steps. -/
  | warmRstNDeasserted
  /-- RECORD_PASSED_ON (R283): A received Chetal record not meant for the member is forwarded by the opposite port, or removed and counted when its unicast destination is unjoined. -/
  | recordPassedOn (port : ChlPort) (rec : Rec) (ecc : Ecc)
  /-- RESERVED_CTRL_SUBTYPE (R287): A received CTRL record with a reserved subtype is ignored and counted in CHL_CTRL_RSV. -/
  | reservedCtrlSubtype (port : ChlPort) (rec : Rec)
  deriving DecidableEq, Repr

end Sys2Proof
end

