-- ==== Sys2Proof/Config.lean ====
section
/-! DEFINITION. What the manual leaves open and one implementation fixes: constants without a body (free values), so
that no proof can know them. Each is named in the assumption log. -/

namespace Sys2Proof.Config

/-- R47: whether a line pulse shorter than 2 ns is captured. The argument is the n-th such pulse. -/
opaque narrowPulseCaptured : Nat → Bool

/-- R124: the byte layout of the tables derived from the image is not given; `imageBytes hdrCrc bodyCrc region` is
what the walker reads of them for one region. -/
opaque imageBytes : Word → Word → Nat → List Byte

/-- R125: the CRC the walker builds of a region whose bytes were corrupted behind software's back; the arguments are the
region and the number of the pass. -/
opaque corruptCrc : Nat → Nat → Word

/-- R242: which of the free egress tags a write takes; the argument counts the writes. Taken modulo the number of
free tags. -/
opaque egressTag : Nat → Nat

/-- R45: which of the free depot tags a request takes; the argument counts the requests. -/
opaque depotTag : Nat → Nat

/-- R406: the record index an ECC error logs, for a structure whose record numbers the manual does not tie to its
content; the arguments are the structure (in the order of R408's table) and the number of errors so far. -/
opaque recordIndex : Nat → Nat → Word

/-- R171, R172: what the fields other than STATE read in an entry that has become POISONED; the argument counts such
entries. -/
opaque poisonedEntry : Nat → BitVec 64

/-- R346, R348, R324: a byte of a save record's body (1), of a configuration home (2) or of the off area (3), whose layout
is internal to the block; the arguments are that class, the save's, home's or exit's sequence number, and the offset. -/
opaque internalByte : Nat → Nat → Nat → Byte

/-- R53, R352: the energy in use, in 10 µJ, at a save trigger that reaches SAV_CMD by a row which carries no sample of the
hold-up monitor; the argument counts such triggers. -/
opaque holdupEnergy : Nat → BitVec 16

/-- R280: the pair (ordinal, sequence) that stands first in the release group of a parked entry, which had no source
left to name; the argument is the EID. -/
opaque parkedFirst : Nat → BitVec 32

/-- R48, R100: what a word of a function's configuration header reads, whose layout the manual leaves to the PCI Express
standard; the arguments are the function, the word's number and the word last written there. -/
opaque configWord : Nat → Nat → Word → Word

/-- R63: what the n-th scan dump of retention state reads, whose chain the manual does not lay out. -/
opaque scanDump : Nat → Word

/-- R284, R295: the Tandem partner of the unit at a ring position, as a member outside that pair knows it; its own image
names only its own partner (R79). -/
opaque pairPartner : Nat → Option Nat

end Sys2Proof.Config
end

