-- ==== Sys2Proof/Machine/Image.lean ====
section
/-! DEFINITION. The decoded Fizin image (R66 to R87): what each section fixes, and the defaults of absent sections. -/

namespace Sys2Proof.Machine

/-- A DOMAINS entry (R73). -/
structure DomainEnt where
  domain : Nat
  perm : Nat
  eidBase : Nat
  eidCount : Nat
  part : Nat
  deriving DecidableEq, Repr

/-- A CACHE entry (R75). -/
structure CacheEnt where
  part : Nat
  units : Nat
  deriving DecidableEq, Repr

/-- A GROUPS entry (R76). -/
structure GroupEnt where
  group : Nat
  tgtBase : Nat
  tgtCount : Nat
  home : Nat
  arityLog2 : Nat
  prioM1 : Nat
  oasisPerm : Bool
  deriving DecidableEq, Repr

/-- A CARAVAN entry (R78). -/
structure CaravanEnt where
  domain : Nat
  ords : List Nat
  deriving DecidableEq, Repr

/-- The RING section (R79); `partner` is 0xFF for none. -/
structure RingSec where
  position : Nat
  members : Nat
  partner : Nat
  tandemPerm : Bool
  present : BitVec 32
  ringId : BitVec 32
  deriving DecidableEq, Repr

/-- The AUTHORITY section (R80). -/
structure AuthSec where
  classMask : Word
  mgrPorts : BitVec 128
  deriving DecidableEq, Repr

/-- The POWER section (R82). -/
structure PowerSec where
  autosleepPerm : Bool
  voters : BitVec 4
  offOk : BitVec 4
  perfMax : Nat
  deriving DecidableEq, Repr

/-- The DEPOT section (R83), in bytes of the window. -/
structure DepotSec where
  winSize : Nat
  stateBase : Nat
  tableBase : Nat
  tableSize : Nat
  vfsaveBase : Nat
  keepBase : Nat
  keepSize : Nat
  journalBase : Nat
  journalSize : Nat
  deriving DecidableEq, Repr

/-- The HOLDUP section (R85). -/
structure HoldupSec where
  epb : Nat
  overhead : Nat
  margin : Nat
  saveSlots : Nat
  shortPolicy : Nat
  partPrio : Nat
  deriving DecidableEq, Repr

/-- A PERSIST entry (R86). -/
structure PersistEnt where
  cls : Nat
  save : Bool
  prio : Nat
  deriving DecidableEq, Repr

/-- The ORDINALS section (R87). -/
structure OrdSec where
  lineBase : Nat
  intxBase : Nat
  deriving DecidableEq, Repr

/-- An image as applied: the header's values and every section with its default where it is absent. -/
structure Image where
  gen : Word
  length : Nat
  bodyCrc : Word
  hdrCrc : Word
  authLock : Bool
  keepLock : Bool
  domains : List DomainEnt
  cache : List CacheEnt
  groups : List GroupEnt
  caravan : List CaravanEnt
  ring : RingSec
  auth : AuthSec
  power : PowerSec
  depot : DepotSec
  holdup : HoldupSec
  persist : List PersistEnt
  ords : OrdSec
  deriving DecidableEq, Repr

/-- The defaults of R74. -/
def Image.defaultDomains : List DomainEnt := [⟨0, 7, 0, 16777216, 0⟩]

/-- The default of R75: partition 0 holds all 128 units. -/
def Image.defaultCache : List CacheEnt := []

/-- The default of R77; `pos` is the block's own position. -/
def Image.defaultGroups (pos : Nat) : List GroupEnt := [⟨0, 0, 65536, pos, 2, 255, true⟩]

/-- The default of R79: standalone at position 0. -/
def Image.defaultRing : RingSec := ⟨0, 1, 0xFF, false, 1, 0⟩

/-- The defaults of R81. -/
def Image.defaultAuth : AuthSec := ⟨0x0185F0DF#32, 1⟩

/-- The defaults of R82. -/
def Image.defaultPower : PowerSec := ⟨false, 3, 0, 0⟩

/-- The layout of R84. -/
def Image.defaultDepot : DepotSec :=
  ⟨2 ^ 41, 0, 0x08000000, 512 * 2 ^ 20, 0x28000000, 0x38000000, 512 * 2 ^ 20, 0x58000000,
   2 ^ 41 - 0x58000000⟩

/-- The defaults of R85. -/
def Image.defaultHoldup : HoldupSec := ⟨0, 0, 25, 0, 0, 0⟩

/-- The defaults of R86: every class saved, PRIORITY equal to its code. -/
def Image.defaultPersist : List PersistEnt := (List.range 8).map (fun c => ⟨c, true, c⟩)

/-- The defaults of R87. -/
def Image.defaultOrds : OrdSec := ⟨0xFC00, 0xFA00⟩

/-- The no-image state (R93): every section takes its default except DOMAINS, in which no domain has an EID. -/
def Image.noImage : Image :=
  { gen := 0, length := 0, bodyCrc := 0, hdrCrc := 0, authLock := false, keepLock := false,
    domains := [], cache := Image.defaultCache, groups := Image.defaultGroups 0, caravan := [],
    ring := Image.defaultRing, auth := Image.defaultAuth, power := Image.defaultPower,
    depot := Image.defaultDepot, holdup := Image.defaultHoldup, persist := Image.defaultPersist,
    ords := Image.defaultOrds }

/-- The DOMAINS entry of domain `d` (R73): a domain without one has zero EIDs and no permissions. -/
def Image.domainEnt (im : Image) (d : Nat) : DomainEnt :=
  (im.domains.find? (fun e => e.domain == d)).getD ⟨d, 0, 0, 0, 0⟩

/-- The domain whose range holds `eid`, if any (R73). -/
def Image.domainOf (im : Image) (eid : Nat) : Option Nat :=
  (im.domains.find? (fun e => decide (e.eidBase ≤ eid) && decide (eid < e.eidBase + e.eidCount))).map (·.domain)

/-- `eid` lies in the range of domain `d`. -/
def Image.inDomain (im : Image) (d eid : Nat) : Bool :=
  let e := im.domainEnt d
  decide (e.eidBase ≤ eid) && decide (eid < e.eidBase + e.eidCount)

/-- Mode permission `bit` of domain `d`: 0 CARAVAN, 1 WAYBILL, 2 REPLAY; a domain without EIDs has none (R73). -/
def Image.perm (im : Image) (d bit : Nat) : Bool := decide ((im.domainEnt d).eidCount ≠ 0) && (im.domainEnt d).perm.testBit bit

/-- The GROUPS entry of group `g`. -/
def Image.groupEnt (im : Image) (g : Nat) : Option GroupEnt := im.groups.find? (fun e => e.group == g)

/-- The group whose target range holds `t` (R76). -/
def Image.groupOf (im : Image) (t : Nat) : Option GroupEnt :=
  im.groups.find? (fun e => decide (e.tgtBase ≤ t) && decide (t < e.tgtBase + e.tgtCount))

/-- The members of the caravan group of domain `d` (R78): none listed is a group of zero sources. -/
def Image.members (im : Image) (d : Nat) : List Nat :=
  ((im.caravan.find? (fun e => e.domain == d)).map (·.ords)).getD []

/-- The domain whose caravan group lists ordinal `o` (R78). -/
def Image.caravanOf (im : Image) (o : Nat) : Option Nat :=
  (im.caravan.find? (fun e => e.ords.contains o)).map (·.domain)

/-- Units of partition `p`, unclaimed units joining partition 0 (R75). -/
def Image.units (im : Image) (p : Nat) : Nat :=
  let own := ((im.cache.find? (fun e => e.part == p)).map (·.units)).getD 0
  if p = 0 then own + (128 - (im.cache.map (·.units)).sum) else own

/-- Ring position `p` is expected on the ring (R79). -/
def Image.presentAt (im : Image) (p : Nat) : Bool := im.ring.present.getLsbD p

/-- Fabric mode (R16): a ring position with at least one other member. -/
def Image.fabric (im : Image) : Bool :=
  decide (2 ≤ im.ring.members) &&
    (List.range im.ring.members).any (fun p => im.presentAt p && p != im.ring.position)

/-- Host port `h` is a manager port (R80). -/
def Image.isMgrPort (im : Image) (h : Nat) : Bool := im.auth.mgrPorts.getLsbD h

/-- Tree depth of a group (R211): the smallest `d ≥ 1` with arity ^ d at least its targets; 0 without targets. -/
def Image.depth (e : GroupEnt) : Nat :=
  if e.tgtCount = 0 then 0
  else (((List.range 17).filter (fun d => decide (1 ≤ d) && decide (e.tgtCount ≤ 2 ^ (e.arityLog2 * d)))).head?).getD 16

end Sys2Proof.Machine
end

