-- ==== Sys2Proof/Machine/RegTable.lean ====
section
/-! DEFINITION. The register map of R414 to R425 and the register and field tables of the chapters (R7, R10, R11,
R12): every software-visible register of the block, its place, its power domain, its command class (R119), and its
fields with access code, reset value, apply class and Survives letters. -/

namespace Sys2Proof.Machine

/-- The register arrays of the block, by the manual's names; a replica number selects the register of an array. -/
inductive Reg where
  | REG_VERSION | REG_RST_STAT | REG_STRAPS | REG_PARTIAL_WR
  | WIN_ADDR | WIN_DATA | WIN_STATUS | REG_WIDE_SEL
  | REG_WIDE_STAT | REG_WIDE_DATA | SB_STATUS | MGT_PORT_ID
  | REG_LOCK | REG_LOCKED_WR | REG_LOCKED_IDX | MGT_AUTH
  | MGT_DENY | MGT_DENY_IDX | MGT_MGR_PORTS | TIM_FT_COMP
  | TIM_STATUS | INT_WFIFO_USE | ERR_PEND | ERR_MASK
  | ERR_IRQ_EN | ERR_CONTAIN | ERR_LOG | ERR_LOG_IDX
  | ERR_STATUS | ERR_CNT | PWR_AUTOSLEEP | PWR_CMD
  | PWR_POLICY | PWR_SLEEP_CFG | PWR_VOTE_SB | PWR_PERF
  | PWR_VPOINT | PWR_RAIL | PWR_AVS_CFG | PWR_CLK
  | PWR_STATUS | PWR_PD_STAT | PWR_VOTES | PWR_LAST_ABORT
  | PWR_PSW_TIMEOUT | PWR_ABORT_AP | PWR_REFUSE | PWR_ENTRIES
  | PWR_WAKE_LAST | VFM_SUM_EN | VFM_SUM_ATTN | LIN_PEND
  | LIN_LEVEL | LIN_EN | INT_WIN_CFG | INT_STATUS
  | INT_DISC_LOG | INT_DISC_SRC | INT_DISC_ORD | LIN_CFG
  | SRC_CMD | SRC_DATA | SST_CTRL | SST_STATUS
  | SST_ILL_LOG | SST_PSN | CVN_SRC_CMD | CVN_CAL
  | CVN_HOLD_USE | RNK_STATUS | RNK_NODES | RTE_FAULT_LOG
  | RTE_FAULT_EID | WWL_CTRL | WWL_STATUS | WWL_WHEEL
  | WWL_RESET_FALLBACK | DLV_FAULT_BASE_LO | DLV_FAULT_BASE_HI | DLV_FAULT_CFG
  | DLV_FAULT_NOTIFY_ADDR_LO | DLV_FAULT_NOTIFY_ADDR_HI | DLV_FAULT_NOTIFY_DATA | DLV_FAULT_PTR
  | DLV_FAULT_CI | DLV_HPORT_CMD | DLV_HPORT_DOWN | DLV_STATUS
  | CMP_FORCE | CMP_STATUS | CMP_DB_LOG | CMP_DB_DATA
  | CMP_ACT_USE | WAY_QUEUE | TDM_MODE | TDM_ROLE
  | TDM_CFG | TDM_CMD | TDM_STATUS | TDM_DIVERGE
  | TDM_PEER_CMD | TDM_PEER_DATA | CHL_CTRL | CHL_STATUS
  | CHL_JOINED | CHL_QUEUE | VFM_DOM_RST | VFM_DEP_CMD
  | VFM_DEP_ADDR_LO | VFM_DEP_ADDR_HI | VFM_DEP_DATA | IMG_CTRL
  | IMG_STATUS | IMG_FETCH | IMG_ERR_OFF | IMG_LOADED_GEN
  | IMG_LOADED_CRC | IMG_MBOX_DATA | CFG_CTRL | CFG_STATUS
  | CFG_CRC_LIVE | CFG_CRC_REF | CFG_REJECT | CFG_REJECT_INFO
  | CFG_BND_PEND | SAV_POLICY | SAV_CMD | SAV_STATUS
  | SAV_REQ | SAV_HAVE | SAV_LAST | SAV_SKIPPED
  | SAV_RESTORE | SAV_SEQ_LO | SAV_SEQ_HI | TEL_CTRL
  | TEL_CNT_CMD | TEL_CNT_DATA_LO | TEL_CNT_DATA_HI | TEL_WIN
  | TEL_LVL | TEL_STATUS | TEL_SNAP_TIME_LO | TEL_SNAP_TIME_HI
  | TEL_SMP_CFG | TEL_SMP_AREA_LO | TEL_SMP_AREA_HI | TEL_SMP_SIZE
  | TEL_SMP_WPTR | TEL_SMP_STAT | TEL_H_CFG | TEL_H_BASE
  | TEL_H_MIN | TEL_H_MAX | TEL_H_WMAX | TEL_BW_IN_LAST
  | TEL_BW_OUT_LAST | TEL_BW_IN_MAX | TEL_BW_OUT_MAX | POL_SRC_MTR_CFG
  | POL_SRC_MTR_CIR | POL_SRC_MTR_PIR | POL_SRC_MTR_CBS | POL_SRC_MTR_PBS
  | POL_DOM_MTR_CFG | POL_DOM_MTR_CIR | POL_DOM_MTR_PIR | POL_DOM_MTR_CBS
  | POL_DOM_MTR_PBS | WWL_DOM_RATE | WWL_DOM_BURST | WWL_DOM_TOKS
  | WWL_GRP_RATE | WWL_GRP_BURST | WWL_GRP_TOKS | WWL_TGT_RATE
  | WWL_TGT_BURST | WWL_TGT_TOKS | RTE_GRP_CFG | RTE_GRP_STAT
  | RTE_SPREAD_ROT | OAS_MODE | OAS_GUARD | OAS_GCMD
  | OAS_STATUS | OAS_LATE_K | OAS_LIVE | OAS_ADM_BASE_LO
  | OAS_ADM_BASE_HI | OAS_ADM_CYCLE | OAS_ADM_LEN | OAS_OPER_START_LO
  | OAS_OPER_START_HI | OAS_PEND_START_LO | OAS_PEND_START_HI | OAS_OPER_CYCLE
  | OAS_OPER_LEN | OAS_ADM_ENT | OAS_OPER_ENT | RTE_TGT_CFG
  | RTE_TGT_RT | RTE_TGT_STAT | CMP_TGT_CFG | DLV_RING_BASE_LO
  | DLV_RING_BASE_HI | DLV_RING_CFG | DLV_NOTIFY_ADDR_LO | DLV_NOTIFY_ADDR_HI
  | DLV_NOTIFY_DATA | DLV_RING_PTR | DLV_RING_CI | VFM_VF_STATUS
  | VFM_VF_IRQ_EN | VFM_RT | PWR_VOTE | PWR_WAKE_SRC
  | VFM_DOM_CTRL | VFM_SHARE | VFM_DOM_STAT | VFM_IRQ_CFG
  | VFM_IRQ_ADDR_LO | VFM_IRQ_ADDR_HI | VFM_IRQ_DATA | VFM_DOM_CMD
  | VFM_XFER_LO | VFM_XFER_HI | VFM_XFER_LEN | VFM_XFER_SKIP
  | VFM_SAVE_LOST | VFM_FLR_DIRTY | VFM_FLR_PEND | VFM_FLR_ACT
  | VFM_FLR_UNISS | VFM_FLR_EGR | VFM_FLR_DROP | SST_RTCMD
  | SST_RTCNT | SST_CFGCMD | SST_CFGCNT | SST_CFGDATA
  | SST_ENTRY0 | SST_ENTRY1 | CVN_MODE | CVN_EPOCH_CFG
  | CVN_HOLD_CFG | CVN_VERDICT | CVN_BREAK_EPOCH | CVN_RUN_IMG
  | CVN_RUN_CFG | CVN_RUN_ROLE | CVN_STATUS | CVN_STRAG_LOG
  | CVN_RTAPPLY | RTE_TCMD | RTE_TDATA | RNK_DOM_OCC
  | CMP_DBCMD | CMP_DBDATA | WAY_MODE | WAY_AREA_BASE
  | WAY_AREA_SIZE | WAY_SEG | WAY_ARCH_LO | WAY_ARCH_HI
  | WAY_CMD | WAY_STATUS | WAY_LOST_PEND | RPL_MODE
  | RPL_AREA_BASE | RPL_AREA_SIZE | RPL_START_LO | RPL_START_HI
  | RPL_LEN_LO | RPL_LEN_HI | RPL_CMD | RPL_STATUS
  | RPL_DONE_LO | RPL_DONE_HI | RPL_PARKED
  deriving DecidableEq, Repr

/-- Access codes of R7 (WO1 is the code of no field of the manual). -/
inductive Access where
  | rw | ro | rc | w1p | rwl
  deriving DecidableEq, Repr

/-- Apply classes of R11. -/
inductive Apply where
  | imm | bnd | dis | none
  deriving DecidableEq, Repr

/-- The Reset column of R10: a number, "img" or "hw". -/
inductive ResetKind where
  | num | img | hw
  deriving DecidableEq, Repr

/-- One row of a register's field table. `surv` is the Survives column as a sum of letters: W 1, F 2, L 4, D 8,
P 16 (R12). `reset` is the number of the Reset column, 0 where the column holds a word. -/
structure Field where
  reg : Reg
  name : String
  hi : Nat
  lo : Nat
  acc : Access
  reset : Nat
  rkind : ResetKind
  apply : Apply
  surv : Nat
  cls : Nat
  deriving DecidableEq, Repr

/-- What one replica of a register array stands for (R14, R421 to R424). -/
inductive RegKind where
  | glob | page | group | target | dom | meterSrc
  deriving DecidableEq, Repr

/-- Where a register array lies: replica `i * n2 + j` is at `base + s1 * i + s2 * j` of its space. `pd` is the
power domain R107 and R108 test (`none`: AO). -/
structure Placement where
  reg : Reg
  space : Space
  base : Nat
  s1 : Nat
  n1 : Nat
  s2 : Nat
  n2 : Nat
  pd : Option Pd
  cls : Nat
  kind : RegKind
  deriving DecidableEq, Repr

/-- REG_VERSION.MAJOR (R415). -/
def F.REG_VERSION_MAJOR : Field := ⟨.REG_VERSION, "MAJOR", 31, 16, .ro, 3, .num, .none, 15, 0⟩
/-- REG_VERSION.MINOR (R415). -/
def F.REG_VERSION_MINOR : Field := ⟨.REG_VERSION, "MINOR", 15, 0, .ro, 1, .num, .none, 15, 0⟩
/-- REG_RST_STAT.STAGE (R375). -/
def F.REG_RST_STAT_STAGE : Field := ⟨.REG_RST_STAT, "STAGE", 31, 29, .ro, 0, .num, .none, 0, 0⟩
/-- REG_RST_STAT.LAST (R375). -/
def F.REG_RST_STAT_LAST : Field := ⟨.REG_RST_STAT, "LAST", 28, 27, .ro, 0, .hw, .none, 0, 0⟩
/-- REG_RST_STAT.EARLY (R375). -/
def F.REG_RST_STAT_EARLY : Field := ⟨.REG_RST_STAT, "EARLY", 26, 26, .rc, 0, .num, .none, 14, 0⟩
/-- REG_RST_STAT.WARM_IMG (R375). -/
def F.REG_RST_STAT_WARM_IMG : Field := ⟨.REG_RST_STAT, "WARM_IMG", 25, 25, .rc, 0, .num, .none, 14, 0⟩
/-- REG_RST_STAT.WARM_IGN (R375). -/
def F.REG_RST_STAT_WARM_IGN : Field := ⟨.REG_RST_STAT, "WARM_IGN", 24, 24, .rc, 0, .num, .none, 14, 0⟩
/-- REG_RST_STAT.FABRIC_CNT (R375). -/
def F.REG_RST_STAT_FABRIC_CNT : Field := ⟨.REG_RST_STAT, "FABRIC_CNT", 15, 8, .ro, 0, .num, .none, 15, 0⟩
/-- REG_RST_STAT.WARM_CNT (R375). -/
def F.REG_RST_STAT_WARM_CNT : Field := ⟨.REG_RST_STAT, "WARM_CNT", 7, 0, .ro, 0, .num, .none, 15, 0⟩
/-- REG_STRAPS.DBG_MFR (R59). -/
def F.REG_STRAPS_DBG_MFR : Field := ⟨.REG_STRAPS, "DBG_MFR", 26, 16, .ro, 0, .hw, .none, 15, 0⟩
/-- REG_STRAPS.RING_PRESENT (R59). -/
def F.REG_STRAPS_RING_PRESENT : Field := ⟨.REG_STRAPS, "RING_PRESENT", 15, 15, .ro, 0, .hw, .none, 15, 0⟩
/-- REG_STRAPS.IMG_PATH (R59). -/
def F.REG_STRAPS_IMG_PATH : Field := ⟨.REG_STRAPS, "IMG_PATH", 14, 13, .ro, 0, .hw, .none, 15, 0⟩
/-- REG_STRAPS.AVS_EN (R59). -/
def F.REG_STRAPS_AVS_EN : Field := ⟨.REG_STRAPS, "AVS_EN", 12, 12, .ro, 0, .hw, .none, 15, 0⟩
/-- REG_STRAPS.AVS_RAIL (R59). -/
def F.REG_STRAPS_AVS_RAIL : Field := ⟨.REG_STRAPS, "AVS_RAIL", 11, 8, .ro, 0, .hw, .none, 15, 0⟩
/-- REG_STRAPS.SB_ADDR (R59). -/
def F.REG_STRAPS_SB_ADDR : Field := ⟨.REG_STRAPS, "SB_ADDR", 6, 0, .ro, 0, .hw, .none, 15, 0⟩
/-- REG_PARTIAL_WR.VALID (R415). -/
def F.REG_PARTIAL_WR_VALID : Field := ⟨.REG_PARTIAL_WR, "VALID", 31, 31, .rc, 0, .num, .none, 14, 0⟩
/-- REG_PARTIAL_WR.PORT (R415). -/
def F.REG_PARTIAL_WR_PORT : Field := ⟨.REG_PARTIAL_WR, "PORT", 30, 28, .rc, 0, .num, .none, 14, 0⟩
/-- REG_PARTIAL_WR.FUNC (R415). -/
def F.REG_PARTIAL_WR_FUNC : Field := ⟨.REG_PARTIAL_WR, "FUNC", 27, 16, .rc, 0, .num, .none, 14, 0⟩
/-- REG_PARTIAL_WR.CNT (R415). -/
def F.REG_PARTIAL_WR_CNT : Field := ⟨.REG_PARTIAL_WR, "CNT", 7, 0, .rc, 0, .num, .none, 14, 0⟩
/-- WIN_ADDR.ADDR (R106). -/
def F.WIN_ADDR_ADDR : Field := ⟨.WIN_ADDR, "ADDR", 29, 2, .rw, 0, .num, .imm, 12, 0⟩
/-- WIN_DATA.DATA (R106). -/
def F.WIN_DATA_DATA : Field := ⟨.WIN_DATA, "DATA", 31, 0, .rw, 0, .num, .imm, 0, 0⟩
/-- WIN_STATUS.OFF_PORT (R106). -/
def F.WIN_STATUS_OFF_PORT : Field := ⟨.WIN_STATUS, "OFF_PORT", 7, 5, .ro, 0, .num, .none, 12, 0⟩
/-- WIN_STATUS.OFF (R106). -/
def F.WIN_STATUS_OFF : Field := ⟨.WIN_STATUS, "OFF", 4, 4, .rc, 0, .num, .none, 12, 0⟩
/-- WIN_STATUS.WAKE (R106). -/
def F.WIN_STATUS_WAKE : Field := ⟨.WIN_STATUS, "WAKE", 3, 3, .rc, 0, .num, .none, 12, 0⟩
/-- REG_WIDE_SEL.CAPTURE (R109). -/
def F.REG_WIDE_SEL_CAPTURE : Field := ⟨.REG_WIDE_SEL, "CAPTURE", 31, 31, .w1p, 0, .num, .imm, 0, 0⟩
/-- REG_WIDE_SEL.KIND (R109). -/
def F.REG_WIDE_SEL_KIND : Field := ⟨.REG_WIDE_SEL, "KIND", 30, 24, .rw, 0, .num, .imm, 12, 0⟩
/-- REG_WIDE_SEL.INDEX (R109). -/
def F.REG_WIDE_SEL_INDEX : Field := ⟨.REG_WIDE_SEL, "INDEX", 23, 0, .rw, 0, .num, .imm, 12, 0⟩
/-- REG_WIDE_STAT.VALID (R109). -/
def F.REG_WIDE_STAT_VALID : Field := ⟨.REG_WIDE_STAT, "VALID", 31, 31, .ro, 0, .num, .none, 0, 0⟩
/-- REG_WIDE_STAT.BUSY (R109). -/
def F.REG_WIDE_STAT_BUSY : Field := ⟨.REG_WIDE_STAT, "BUSY", 30, 30, .ro, 0, .num, .none, 0, 0⟩
/-- REG_WIDE_STAT.ERR (R109). -/
def F.REG_WIDE_STAT_ERR : Field := ⟨.REG_WIDE_STAT, "ERR", 2, 0, .ro, 0, .num, .none, 0, 0⟩
/-- REG_WIDE_DATA.DATA (R109). -/
def F.REG_WIDE_DATA_DATA : Field := ⟨.REG_WIDE_DATA, "DATA", 31, 0, .ro, 0, .num, .none, 0, 0⟩
/-- SB_STATUS.BUSY (R415). -/
def F.SB_STATUS_BUSY : Field := ⟨.SB_STATUS, "BUSY", 31, 31, .ro, 0, .num, .none, 0, 0⟩
/-- SB_STATUS.RESULT (R415). -/
def F.SB_STATUS_RESULT : Field := ⟨.SB_STATUS, "RESULT", 30, 28, .ro, 0, .num, .none, 14, 0⟩
/-- SB_STATUS.PEC_ERR (R415). -/
def F.SB_STATUS_PEC_ERR : Field := ⟨.SB_STATUS, "PEC_ERR", 27, 27, .rc, 0, .num, .none, 14, 0⟩
/-- SB_STATUS.LAST_CMD (R415). -/
def F.SB_STATUS_LAST_CMD : Field := ⟨.SB_STATUS, "LAST_CMD", 26, 24, .ro, 0, .num, .none, 14, 0⟩
/-- MGT_PORT_ID.FUNC (R415). -/
def F.MGT_PORT_ID_FUNC : Field := ⟨.MGT_PORT_ID, "FUNC", 15, 4, .ro, 0, .hw, .none, 0, 0⟩
/-- MGT_PORT_ID.PORT (R415). -/
def F.MGT_PORT_ID_PORT : Field := ⟨.MGT_PORT_ID, "PORT", 2, 0, .ro, 0, .hw, .none, 0, 0⟩
/-- REG_LOCK.SEAL (R116). -/
def F.REG_LOCK_SEAL : Field := ⟨.REG_LOCK, "SEAL", 4, 4, .rwl, 0, .num, .imm, 14, 4⟩
/-- REG_LOCK.RAIL (R116). -/
def F.REG_LOCK_RAIL : Field := ⟨.REG_LOCK, "RAIL", 3, 3, .rwl, 0, .num, .imm, 14, 4⟩
/-- REG_LOCK.KEEP (R116). -/
def F.REG_LOCK_KEEP : Field := ⟨.REG_LOCK, "KEEP", 2, 2, .rwl, 0, .img, .imm, 14, 4⟩
/-- REG_LOCK.ROLE (R116). -/
def F.REG_LOCK_ROLE : Field := ⟨.REG_LOCK, "ROLE", 1, 1, .rwl, 0, .num, .imm, 14, 4⟩
/-- REG_LOCK.AUTH (R116). -/
def F.REG_LOCK_AUTH : Field := ⟨.REG_LOCK, "AUTH", 0, 0, .rwl, 0, .img, .imm, 14, 4⟩
/-- REG_LOCKED_WR.VALID (R118). -/
def F.REG_LOCKED_WR_VALID : Field := ⟨.REG_LOCKED_WR, "VALID", 31, 31, .rc, 0, .num, .none, 14, 0⟩
/-- REG_LOCKED_WR.PORT (R118). -/
def F.REG_LOCKED_WR_PORT : Field := ⟨.REG_LOCKED_WR, "PORT", 30, 28, .rc, 0, .num, .none, 14, 0⟩
/-- REG_LOCKED_WR.FUNC (R118). -/
def F.REG_LOCKED_WR_FUNC : Field := ⟨.REG_LOCKED_WR, "FUNC", 27, 16, .rc, 0, .num, .none, 14, 0⟩
/-- REG_LOCKED_WR.CNT (R118). -/
def F.REG_LOCKED_WR_CNT : Field := ⟨.REG_LOCKED_WR, "CNT", 7, 0, .rc, 0, .num, .none, 14, 0⟩
/-- REG_LOCKED_IDX.SPACE (R118). -/
def F.REG_LOCKED_IDX_SPACE : Field := ⟨.REG_LOCKED_IDX, "SPACE", 28, 28, .ro, 0, .num, .none, 14, 0⟩
/-- REG_LOCKED_IDX.INDEX (R118). -/
def F.REG_LOCKED_IDX_INDEX : Field := ⟨.REG_LOCKED_IDX, "INDEX", 27, 0, .ro, 0, .num, .none, 14, 0⟩
/-- MGT_AUTH.CLASS_MASK (R122). -/
def F.MGT_AUTH_CLASS_MASK : Field := ⟨.MGT_AUTH, "CLASS_MASK", 29, 0, .rwl, 0, .img, .imm, 14, 4⟩
/-- MGT_DENY.VALID (R121). -/
def F.MGT_DENY_VALID : Field := ⟨.MGT_DENY, "VALID", 31, 31, .rc, 0, .num, .none, 14, 0⟩
/-- MGT_DENY.PORT (R121). -/
def F.MGT_DENY_PORT : Field := ⟨.MGT_DENY, "PORT", 30, 28, .rc, 0, .num, .none, 14, 0⟩
/-- MGT_DENY.FUNC (R121). -/
def F.MGT_DENY_FUNC : Field := ⟨.MGT_DENY, "FUNC", 27, 16, .rc, 0, .num, .none, 14, 0⟩
/-- MGT_DENY.WR (R121). -/
def F.MGT_DENY_WR : Field := ⟨.MGT_DENY, "WR", 15, 15, .rc, 0, .num, .none, 14, 0⟩
/-- MGT_DENY.CLASS (R121). -/
def F.MGT_DENY_CLASS : Field := ⟨.MGT_DENY, "CLASS", 14, 12, .rc, 0, .num, .none, 14, 0⟩
/-- MGT_DENY.CNT (R121). -/
def F.MGT_DENY_CNT : Field := ⟨.MGT_DENY, "CNT", 7, 0, .rc, 0, .num, .none, 14, 0⟩
/-- MGT_DENY_IDX.SPACE (R121). -/
def F.MGT_DENY_IDX_SPACE : Field := ⟨.MGT_DENY_IDX, "SPACE", 28, 28, .ro, 0, .num, .none, 14, 0⟩
/-- MGT_DENY_IDX.INDEX (R121). -/
def F.MGT_DENY_IDX_INDEX : Field := ⟨.MGT_DENY_IDX, "INDEX", 27, 0, .ro, 0, .num, .none, 14, 0⟩
/-- MGT_MGR_PORTS.PORTS (R122). -/
def F.MGT_MGR_PORTS_PORTS : Field := ⟨.MGT_MGR_PORTS, "PORTS", 31, 0, .ro, 0, .img, .none, 14, 0⟩
/-- TIM_FT_COMP.DELAY (R54). -/
def F.TIM_FT_COMP_DELAY : Field := ⟨.TIM_FT_COMP, "DELAY", 9, 0, .rw, 120, .num, .imm, 15, 2⟩
/-- TIM_STATUS.HOLDOVER (R395). -/
def F.TIM_STATUS_HOLDOVER : Field := ⟨.TIM_STATUS, "HOLDOVER", 2, 2, .ro, 0, .num, .none, 0, 0⟩
/-- TIM_STATUS.JUMP (R395). -/
def F.TIM_STATUS_JUMP : Field := ⟨.TIM_STATUS, "JUMP", 1, 1, .rc, 0, .num, .none, 15, 0⟩
/-- TIM_STATUS.BACKSTEP (R395). -/
def F.TIM_STATUS_BACKSTEP : Field := ⟨.TIM_STATUS, "BACKSTEP", 0, 0, .rc, 0, .num, .none, 15, 0⟩
/-- INT_WFIFO_USE.USED (R415). -/
def F.INT_WFIFO_USE_USED : Field := ⟨.INT_WFIFO_USE, "USED", 10, 0, .ro, 0, .num, .none, 0, 0⟩
/-- ERR_PEND.PEND (R413). -/
def F.ERR_PEND_PEND : Field := ⟨.ERR_PEND, "PEND", 27, 1, .rc, 0, .num, .none, 14, 0⟩
/-- ERR_MASK.MASK (R413). -/
def F.ERR_MASK_MASK : Field := ⟨.ERR_MASK, "MASK", 27, 1, .rw, 0, .num, .imm, 15, 2⟩
/-- ERR_IRQ_EN.EN (R413). -/
def F.ERR_IRQ_EN_EN : Field := ⟨.ERR_IRQ_EN, "EN", 27, 1, .rw, 134217727, .num, .imm, 15, 2⟩
/-- ERR_CONTAIN.CONTAIN (R413). -/
def F.ERR_CONTAIN_CONTAIN : Field := ⟨.ERR_CONTAIN, "CONTAIN", 27, 1, .rw, 4224, .num, .imm, 15, 2⟩
/-- ERR_LOG.VALID (R413). -/
def F.ERR_LOG_VALID : Field := ⟨.ERR_LOG, "VALID", 31, 31, .rc, 0, .num, .none, 14, 0⟩
/-- ERR_LOG.CODE (R413). -/
def F.ERR_LOG_CODE : Field := ⟨.ERR_LOG, "CODE", 30, 26, .rc, 0, .num, .none, 14, 0⟩
/-- ERR_LOG.UNIT (R413). -/
def F.ERR_LOG_UNIT : Field := ⟨.ERR_LOG, "UNIT", 25, 22, .rc, 0, .num, .none, 14, 0⟩
/-- ERR_LOG.DOM_VALID (R413). -/
def F.ERR_LOG_DOM_VALID : Field := ⟨.ERR_LOG, "DOM_VALID", 21, 21, .rc, 0, .num, .none, 14, 0⟩
/-- ERR_LOG.DOMAIN (R413). -/
def F.ERR_LOG_DOMAIN : Field := ⟨.ERR_LOG, "DOMAIN", 20, 9, .rc, 0, .num, .none, 14, 0⟩
/-- ERR_LOG.CNT (R413). -/
def F.ERR_LOG_CNT : Field := ⟨.ERR_LOG, "CNT", 7, 0, .rc, 0, .num, .none, 14, 0⟩
/-- ERR_LOG_IDX.INDEX (R413). -/
def F.ERR_LOG_IDX_INDEX : Field := ⟨.ERR_LOG_IDX, "INDEX", 31, 0, .rc, 0, .num, .none, 14, 0⟩
/-- ERR_STATUS.HALTED (R413). -/
def F.ERR_STATUS_HALTED : Field := ⟨.ERR_STATUS, "HALTED", 31, 31, .ro, 0, .num, .none, 14, 0⟩
/-- ERR_STATUS.HALT_CODE (R413). -/
def F.ERR_STATUS_HALT_CODE : Field := ⟨.ERR_STATUS, "HALT_CODE", 4, 0, .ro, 0, .num, .none, 14, 0⟩
/-- ERR_CNT.CNT (R415). -/
def F.ERR_CNT_CNT : Field := ⟨.ERR_CNT, "CNT", 31, 0, .ro, 0, .num, .none, 14, 0⟩
/-- PWR_AUTOSLEEP.MODE (R343). -/
def F.PWR_AUTOSLEEP_MODE : Field := ⟨.PWR_AUTOSLEEP, "MODE", 0, 0, .rw, 0, .num, .imm, 14, 2⟩
/-- PWR_CMD.SLEEP (R343). -/
def F.PWR_CMD_SLEEP : Field := ⟨.PWR_CMD, "SLEEP", 31, 31, .w1p, 0, .num, .imm, 0, 4⟩
/-- PWR_CMD.BUSY (R343). -/
def F.PWR_CMD_BUSY : Field := ⟨.PWR_CMD, "BUSY", 30, 30, .ro, 0, .num, .none, 0, 4⟩
/-- PWR_CMD.ERR (R343). -/
def F.PWR_CMD_ERR : Field := ⟨.PWR_CMD, "ERR", 29, 28, .ro, 0, .num, .none, 0, 4⟩
/-- PWR_POLICY.LINE_WAKE (R343). -/
def F.PWR_POLICY_LINE_WAKE : Field := ⟨.PWR_POLICY, "LINE_WAKE", 8, 8, .rw, 1, .num, .imm, 14, 4⟩
/-- PWR_POLICY.DETACH (R343). -/
def F.PWR_POLICY_DETACH : Field := ⟨.PWR_POLICY, "DETACH", 4, 4, .rw, 0, .num, .imm, 14, 4⟩
/-- PWR_POLICY.OFF_RING (R343). -/
def F.PWR_POLICY_OFF_RING : Field := ⟨.PWR_POLICY, "OFF_RING", 3, 3, .rw, 0, .num, .imm, 14, 4⟩
/-- PWR_POLICY.OFF_TEL (R343). -/
def F.PWR_POLICY_OFF_TEL : Field := ⟨.PWR_POLICY, "OFF_TEL", 2, 2, .rw, 0, .num, .imm, 14, 4⟩
/-- PWR_POLICY.OFF_LOG (R343). -/
def F.PWR_POLICY_OFF_LOG : Field := ⟨.PWR_POLICY, "OFF_LOG", 1, 1, .rw, 0, .num, .imm, 14, 4⟩
/-- PWR_POLICY.OFF_STATE (R343). -/
def F.PWR_POLICY_OFF_STATE : Field := ⟨.PWR_POLICY, "OFF_STATE", 0, 0, .rw, 0, .num, .imm, 14, 4⟩
/-- PWR_SLEEP_CFG.DRAIN_MAX (R343). -/
def F.PWR_SLEEP_CFG_DRAIN_MAX : Field := ⟨.PWR_SLEEP_CFG, "DRAIN_MAX", 31, 22, .rw, 100, .num, .imm, 14, 4⟩
/-- PWR_SLEEP_CFG.MIN_AWAKE (R343). -/
def F.PWR_SLEEP_CFG_MIN_AWAKE : Field := ⟨.PWR_SLEEP_CFG, "MIN_AWAKE", 21, 11, .rw, 10, .num, .imm, 14, 4⟩
/-- PWR_SLEEP_CFG.MIN_SLEEP (R343). -/
def F.PWR_SLEEP_CFG_MIN_SLEEP : Field := ⟨.PWR_SLEEP_CFG, "MIN_SLEEP", 10, 0, .rw, 20, .num, .imm, 14, 4⟩
/-- PWR_VOTE_SB.AWAKE (R343). -/
def F.PWR_VOTE_SB_AWAKE : Field := ⟨.PWR_VOTE_SB, "AWAKE", 0, 0, .rw, 1, .num, .imm, 14, 4⟩
/-- PWR_PERF.CEIL (R343). -/
def F.PWR_PERF_CEIL : Field := ⟨.PWR_PERF, "CEIL", 9, 8, .rwl, 0, .img, .imm, 14, 4⟩
/-- PWR_PERF.CUR (R343). -/
def F.PWR_PERF_CUR : Field := ⟨.PWR_PERF, "CUR", 5, 4, .ro, 0, .hw, .none, 14, 4⟩
/-- PWR_PERF.REQ (R343). -/
def F.PWR_PERF_REQ : Field := ⟨.PWR_PERF, "REQ", 1, 0, .rw, 0, .img, .imm, 14, 4⟩
/-- PWR_VPOINT.MV (R343). -/
def F.PWR_VPOINT_MV : Field := ⟨.PWR_VPOINT, "MV", 11, 0, .rwl, 750, .num, .imm, 14, 4⟩
/-- PWR_RAIL.VMAX (R343). -/
def F.PWR_RAIL_VMAX : Field := ⟨.PWR_RAIL, "VMAX", 27, 16, .rwl, 800, .num, .imm, 14, 4⟩
/-- PWR_RAIL.VMIN (R343). -/
def F.PWR_RAIL_VMIN : Field := ⟨.PWR_RAIL, "VMIN", 11, 0, .rwl, 500, .num, .imm, 14, 4⟩
/-- PWR_AVS_CFG.RETRY (R343). -/
def F.PWR_AVS_CFG_RETRY : Field := ⟨.PWR_AVS_CFG, "RETRY", 9, 8, .rw, 3, .num, .imm, 14, 4⟩
/-- PWR_AVS_CFG.SETTLE (R343). -/
def F.PWR_AVS_CFG_SETTLE : Field := ⟨.PWR_AVS_CFG, "SETTLE", 7, 0, .rw, 10, .num, .imm, 14, 4⟩
/-- PWR_CLK.TO_PLL (R343). -/
def F.PWR_CLK_TO_PLL : Field := ⟨.PWR_CLK, "TO_PLL", 31, 31, .w1p, 0, .num, .imm, 0, 4⟩
/-- PWR_CLK.TO_OSC (R343). -/
def F.PWR_CLK_TO_OSC : Field := ⟨.PWR_CLK, "TO_OSC", 30, 30, .w1p, 0, .num, .imm, 0, 4⟩
/-- PWR_CLK.ERR (R343). -/
def F.PWR_CLK_ERR : Field := ⟨.PWR_CLK, "ERR", 3, 3, .rc, 0, .num, .none, 14, 4⟩
/-- PWR_CLK.PLL_LEFT (R343). -/
def F.PWR_CLK_PLL_LEFT : Field := ⟨.PWR_CLK, "PLL_LEFT", 2, 2, .rc, 0, .num, .none, 14, 4⟩
/-- PWR_CLK.SRC (R343). -/
def F.PWR_CLK_SRC : Field := ⟨.PWR_CLK, "SRC", 0, 0, .ro, 0, .num, .none, 0, 4⟩
/-- PWR_STATUS.STATE (R344). -/
def F.PWR_STATUS_STATE : Field := ⟨.PWR_STATUS, "STATE", 31, 29, .ro, 0, .num, .none, 0, 0⟩
/-- PWR_STATUS.DETACHED (R344). -/
def F.PWR_STATUS_DETACHED : Field := ⟨.PWR_STATUS, "DETACHED", 7, 7, .ro, 0, .num, .none, 0, 0⟩
/-- PWR_STATUS.VHIGH (R344). -/
def F.PWR_STATUS_VHIGH : Field := ⟨.PWR_STATUS, "VHIGH", 6, 6, .ro, 0, .num, .none, 0, 0⟩
/-- PWR_STATUS.AVS_BUSY (R344). -/
def F.PWR_STATUS_AVS_BUSY : Field := ⟨.PWR_STATUS, "AVS_BUSY", 5, 5, .ro, 0, .num, .none, 0, 0⟩
/-- PWR_STATUS.AVS_FAIL (R344). -/
def F.PWR_STATUS_AVS_FAIL : Field := ⟨.PWR_STATUS, "AVS_FAIL", 4, 4, .rc, 0, .num, .none, 14, 0⟩
/-- PWR_STATUS.NO_OFF_AREA (R344). -/
def F.PWR_STATUS_NO_OFF_AREA : Field := ⟨.PWR_STATUS, "NO_OFF_AREA", 3, 3, .rc, 0, .num, .none, 14, 0⟩
/-- PWR_STATUS.OFF_HOLDOFF (R344). -/
def F.PWR_STATUS_OFF_HOLDOFF : Field := ⟨.PWR_STATUS, "OFF_HOLDOFF", 2, 2, .rc, 0, .num, .none, 14, 0⟩
/-- PWR_PD_STAT.PD (R344). -/
def F.PWR_PD_STAT_PD : Field := ⟨.PWR_PD_STAT, "PD", 9, 0, .ro, 0, .num, .none, 0, 0⟩
/-- PWR_VOTES.VF_CNT (R344). -/
def F.PWR_VOTES_VF_CNT : Field := ⟨.PWR_VOTES, "VF_CNT", 19, 8, .ro, 0, .num, .none, 0, 0⟩
/-- PWR_VOTES.VF (R344). -/
def F.PWR_VOTES_VF : Field := ⟨.PWR_VOTES, "VF", 3, 3, .ro, 0, .num, .none, 0, 0⟩
/-- PWR_VOTES.TDM (R344). -/
def F.PWR_VOTES_TDM : Field := ⟨.PWR_VOTES, "TDM", 2, 2, .ro, 0, .num, .none, 0, 0⟩
/-- PWR_VOTES.SB (R344). -/
def F.PWR_VOTES_SB : Field := ⟨.PWR_VOTES, "SB", 1, 1, .ro, 0, .num, .none, 0, 0⟩
/-- PWR_VOTES.PF (R344). -/
def F.PWR_VOTES_PF : Field := ⟨.PWR_VOTES, "PF", 0, 0, .ro, 0, .num, .none, 0, 0⟩
/-- PWR_LAST_ABORT.VALID (R344). -/
def F.PWR_LAST_ABORT_VALID : Field := ⟨.PWR_LAST_ABORT, "VALID", 31, 31, .rc, 0, .num, .none, 14, 0⟩
/-- PWR_LAST_ABORT.AP (R344). -/
def F.PWR_LAST_ABORT_AP : Field := ⟨.PWR_LAST_ABORT, "AP", 30, 29, .rc, 0, .num, .none, 14, 0⟩
/-- PWR_LAST_ABORT.CAUSE (R344). -/
def F.PWR_LAST_ABORT_CAUSE : Field := ⟨.PWR_LAST_ABORT, "CAUSE", 28, 27, .rc, 0, .num, .none, 14, 0⟩
/-- PWR_LAST_ABORT.WHO (R344). -/
def F.PWR_LAST_ABORT_WHO : Field := ⟨.PWR_LAST_ABORT, "WHO", 26, 25, .rc, 0, .num, .none, 14, 0⟩
/-- PWR_LAST_ABORT.WAKE (R344). -/
def F.PWR_LAST_ABORT_WAKE : Field := ⟨.PWR_LAST_ABORT, "WAKE", 24, 21, .rc, 0, .num, .none, 14, 0⟩
/-- PWR_LAST_ABORT.FUNC (R344). -/
def F.PWR_LAST_ABORT_FUNC : Field := ⟨.PWR_LAST_ABORT, "FUNC", 11, 0, .rc, 0, .num, .none, 14, 0⟩
/-- PWR_PSW_TIMEOUT.VALID (R344). -/
def F.PWR_PSW_TIMEOUT_VALID : Field := ⟨.PWR_PSW_TIMEOUT, "VALID", 31, 31, .rc, 0, .num, .none, 14, 0⟩
/-- PWR_PSW_TIMEOUT.DIR (R344). -/
def F.PWR_PSW_TIMEOUT_DIR : Field := ⟨.PWR_PSW_TIMEOUT, "DIR", 30, 30, .rc, 0, .num, .none, 14, 0⟩
/-- PWR_PSW_TIMEOUT.DOMAIN (R344). -/
def F.PWR_PSW_TIMEOUT_DOMAIN : Field := ⟨.PWR_PSW_TIMEOUT, "DOMAIN", 2, 0, .rc, 0, .num, .none, 14, 0⟩
/-- PWR_ABORT_AP.CNT (R344). -/
def F.PWR_ABORT_AP_CNT : Field := ⟨.PWR_ABORT_AP, "CNT", 31, 0, .ro, 0, .num, .none, 14, 0⟩
/-- PWR_REFUSE.CNT (R344). -/
def F.PWR_REFUSE_CNT : Field := ⟨.PWR_REFUSE, "CNT", 31, 0, .ro, 0, .num, .none, 14, 0⟩
/-- PWR_ENTRIES.CNT (R344). -/
def F.PWR_ENTRIES_CNT : Field := ⟨.PWR_ENTRIES, "CNT", 31, 0, .ro, 0, .num, .none, 14, 0⟩
/-- PWR_WAKE_LAST.CODE (R344). -/
def F.PWR_WAKE_LAST_CODE : Field := ⟨.PWR_WAKE_LAST, "CODE", 31, 28, .ro, 0, .num, .none, 14, 0⟩
/-- PWR_WAKE_LAST.DETAIL (R344). -/
def F.PWR_WAKE_LAST_DETAIL : Field := ⟨.PWR_WAKE_LAST, "DETAIL", 11, 0, .ro, 0, .num, .none, 14, 0⟩
/-- VFM_SUM_EN.EN (R416). -/
def F.VFM_SUM_EN_EN : Field := ⟨.VFM_SUM_EN, "EN", 31, 0, .ro, 0, .hw, .none, 0, 0⟩
/-- VFM_SUM_ATTN.ATTN (R416). -/
def F.VFM_SUM_ATTN_ATTN : Field := ⟨.VFM_SUM_ATTN, "ATTN", 31, 0, .ro, 0, .hw, .none, 0, 0⟩
/-- LIN_PEND.PEND (R416). -/
def F.LIN_PEND_PEND : Field := ⟨.LIN_PEND, "PEND", 31, 0, .ro, 0, .hw, .none, 0, 0⟩
/-- LIN_LEVEL.LEVEL (R416). -/
def F.LIN_LEVEL_LEVEL : Field := ⟨.LIN_LEVEL, "LEVEL", 31, 0, .ro, 0, .hw, .none, 0, 0⟩
/-- LIN_EN.EN (R416). -/
def F.LIN_EN_EN : Field := ⟨.LIN_EN, "EN", 31, 0, .ro, 0, .hw, .none, 0, 0⟩
/-- INT_WIN_CFG.KEYSEL (R130). -/
def F.INT_WIN_CFG_KEYSEL : Field := ⟨.INT_WIN_CFG, "KEYSEL", 2, 2, .rw, 0, .num, .imm, 30, 2⟩
/-- INT_WIN_CFG.KIND (R130). -/
def F.INT_WIN_CFG_KIND : Field := ⟨.INT_WIN_CFG, "KIND", 1, 0, .rw, 0, .num, .imm, 30, 2⟩
/-- INT_STATUS.JRNL_STOP (R154). -/
def F.INT_STATUS_JRNL_STOP : Field := ⟨.INT_STATUS, "JRNL_STOP", 2, 2, .ro, 0, .num, .none, 0, 0⟩
/-- INT_STATUS.WFIFO_FULL (R154). -/
def F.INT_STATUS_WFIFO_FULL : Field := ⟨.INT_STATUS, "WFIFO_FULL", 1, 1, .rc, 0, .num, .none, 14, 0⟩
/-- INT_STATUS.CREDIT_OVR (R154). -/
def F.INT_STATUS_CREDIT_OVR : Field := ⟨.INT_STATUS, "CREDIT_OVR", 0, 0, .rc, 0, .num, .none, 14, 0⟩
/-- INT_DISC_LOG.VALID (R153). -/
def F.INT_DISC_LOG_VALID : Field := ⟨.INT_DISC_LOG, "VALID", 31, 31, .rc, 0, .num, .none, 14, 0⟩
/-- INT_DISC_LOG.REASON (R153). -/
def F.INT_DISC_LOG_REASON : Field := ⟨.INT_DISC_LOG, "REASON", 30, 26, .rc, 0, .num, .none, 14, 0⟩
/-- INT_DISC_LOG.LANE (R153). -/
def F.INT_DISC_LOG_LANE : Field := ⟨.INT_DISC_LOG, "LANE", 25, 24, .rc, 0, .num, .none, 14, 0⟩
/-- INT_DISC_LOG.CNT (R153). -/
def F.INT_DISC_LOG_CNT : Field := ⟨.INT_DISC_LOG, "CNT", 23, 16, .rc, 0, .num, .none, 14, 0⟩
/-- INT_DISC_SRC.LINE (R153). -/
def F.INT_DISC_SRC_LINE : Field := ⟨.INT_DISC_SRC, "LINE", 31, 31, .rc, 0, .num, .none, 14, 0⟩
/-- INT_DISC_SRC.SEG (R153). -/
def F.INT_DISC_SRC_SEG : Field := ⟨.INT_DISC_SRC, "SEG", 19, 16, .rc, 0, .num, .none, 14, 0⟩
/-- INT_DISC_SRC.RID (R153). -/
def F.INT_DISC_SRC_RID : Field := ⟨.INT_DISC_SRC, "RID", 15, 0, .rc, 0, .num, .none, 14, 0⟩
/-- INT_DISC_ORD.ORD_VALID (R153). -/
def F.INT_DISC_ORD_ORD_VALID : Field := ⟨.INT_DISC_ORD, "ORD_VALID", 31, 31, .rc, 0, .num, .none, 14, 0⟩
/-- INT_DISC_ORD.DOM_VALID (R153). -/
def F.INT_DISC_ORD_DOM_VALID : Field := ⟨.INT_DISC_ORD, "DOM_VALID", 30, 30, .rc, 0, .num, .none, 14, 0⟩
/-- INT_DISC_ORD.DOMAIN (R153). -/
def F.INT_DISC_ORD_DOMAIN : Field := ⟨.INT_DISC_ORD, "DOMAIN", 27, 16, .rc, 0, .num, .none, 14, 0⟩
/-- INT_DISC_ORD.ORDINAL (R153). -/
def F.INT_DISC_ORD_ORDINAL : Field := ⟨.INT_DISC_ORD, "ORDINAL", 15, 0, .rc, 0, .num, .none, 14, 0⟩
/-- LIN_CFG.LEVEL (R143). -/
def F.LIN_CFG_LEVEL : Field := ⟨.LIN_CFG, "LEVEL", 31, 31, .ro, 0, .hw, .none, 0, 2⟩
/-- LIN_CFG.PEND (R143). -/
def F.LIN_CFG_PEND : Field := ⟨.LIN_CFG, "PEND", 30, 30, .ro, 0, .num, .none, 0, 2⟩
/-- LIN_CFG.POL (R143). -/
def F.LIN_CFG_POL : Field := ⟨.LIN_CFG, "POL", 2, 2, .rw, 0, .num, .dis, 30, 2⟩
/-- LIN_CFG.MODE (R143). -/
def F.LIN_CFG_MODE : Field := ⟨.LIN_CFG, "MODE", 1, 1, .rw, 0, .num, .dis, 30, 2⟩
/-- LIN_CFG.EN (R143). -/
def F.LIN_CFG_EN : Field := ⟨.LIN_CFG, "EN", 0, 0, .rw, 0, .num, .imm, 30, 2⟩
/-- SRC_CMD.GO (R136). -/
def F.SRC_CMD_GO : Field := ⟨.SRC_CMD, "GO", 31, 31, .w1p, 0, .num, .imm, 0, 2⟩
/-- SRC_CMD.BUSY (R136). -/
def F.SRC_CMD_BUSY : Field := ⟨.SRC_CMD, "BUSY", 30, 30, .ro, 0, .num, .none, 0, 2⟩
/-- SRC_CMD.ERR (R136). -/
def F.SRC_CMD_ERR : Field := ⟨.SRC_CMD, "ERR", 29, 27, .ro, 0, .num, .none, 0, 2⟩
/-- SRC_CMD.OP (R136). -/
def F.SRC_CMD_OP : Field := ⟨.SRC_CMD, "OP", 26, 24, .rw, 0, .num, .imm, 0, 2⟩
/-- SRC_CMD.INDEX (R136). -/
def F.SRC_CMD_INDEX : Field := ⟨.SRC_CMD, "INDEX", 15, 0, .rw, 0, .num, .imm, 0, 2⟩
/-- SRC_DATA.DATA (R136). -/
def F.SRC_DATA_DATA : Field := ⟨.SRC_DATA, "DATA", 31, 0, .rw, 0, .num, .imm, 0, 2⟩
/-- SST_CTRL.SCRUB_INT (R175). -/
def F.SST_CTRL_SCRUB_INT : Field := ⟨.SST_CTRL, "SCRUB_INT", 11, 8, .rw, 4, .num, .imm, 15, 2⟩
/-- SST_CTRL.FLUSH (R175). -/
def F.SST_CTRL_FLUSH : Field := ⟨.SST_CTRL, "FLUSH", 0, 0, .w1p, 0, .num, .imm, 0, 2⟩
/-- SST_STATUS.INIT_DONE (R175). -/
def F.SST_STATUS_INIT_DONE : Field := ⟨.SST_STATUS, "INIT_DONE", 7, 7, .ro, 0, .num, .none, 3, 0⟩
/-- SST_STATUS.FLUSHED (R175). -/
def F.SST_STATUS_FLUSHED : Field := ⟨.SST_STATUS, "FLUSHED", 6, 6, .rc, 0, .num, .none, 3, 0⟩
/-- SST_STATUS.MQ_FULL (R175). -/
def F.SST_STATUS_MQ_FULL : Field := ⟨.SST_STATUS, "MQ_FULL", 5, 5, .rc, 0, .num, .none, 3, 0⟩
/-- SST_STATUS.PSN_OVF (R175). -/
def F.SST_STATUS_PSN_OVF : Field := ⟨.SST_STATUS, "PSN_OVF", 4, 4, .rc, 0, .num, .none, 3, 0⟩
/-- SST_STATUS.ILLEGAL (R175). -/
def F.SST_STATUS_ILLEGAL : Field := ⟨.SST_STATUS, "ILLEGAL", 3, 3, .rc, 0, .num, .none, 3, 0⟩
/-- SST_STATUS.ECC_UNC (R175). -/
def F.SST_STATUS_ECC_UNC : Field := ⟨.SST_STATUS, "ECC_UNC", 2, 2, .rc, 0, .num, .none, 3, 0⟩
/-- SST_STATUS.ECC_COR (R175). -/
def F.SST_STATUS_ECC_COR : Field := ⟨.SST_STATUS, "ECC_COR", 1, 1, .rc, 0, .num, .none, 3, 0⟩
/-- SST_STATUS.DEP_PROTO (R175). -/
def F.SST_STATUS_DEP_PROTO : Field := ⟨.SST_STATUS, "DEP_PROTO", 0, 0, .rc, 0, .num, .none, 3, 0⟩
/-- SST_ILL_LOG.VALID (R175). -/
def F.SST_ILL_LOG_VALID : Field := ⟨.SST_ILL_LOG, "VALID", 31, 31, .rc, 0, .num, .none, 3, 0⟩
/-- SST_ILL_LOG.CAUSE (R175). -/
def F.SST_ILL_LOG_CAUSE : Field := ⟨.SST_ILL_LOG, "CAUSE", 30, 28, .rc, 0, .num, .none, 3, 0⟩
/-- SST_ILL_LOG.EID (R175). -/
def F.SST_ILL_LOG_EID : Field := ⟨.SST_ILL_LOG, "EID", 23, 0, .rc, 0, .num, .none, 3, 0⟩
/-- SST_PSN.VALID (R172). -/
def F.SST_PSN_VALID : Field := ⟨.SST_PSN, "VALID", 31, 31, .ro, 0, .num, .none, 3, 0⟩
/-- SST_PSN.EID (R172). -/
def F.SST_PSN_EID : Field := ⟨.SST_PSN, "EID", 23, 0, .ro, 0, .num, .none, 3, 0⟩
/-- CVN_SRC_CMD.GO (R180). -/
def F.CVN_SRC_CMD_GO : Field := ⟨.CVN_SRC_CMD, "GO", 31, 31, .w1p, 0, .num, .imm, 0, 2⟩
/-- CVN_SRC_CMD.BUSY (R180). -/
def F.CVN_SRC_CMD_BUSY : Field := ⟨.CVN_SRC_CMD, "BUSY", 30, 30, .ro, 0, .num, .none, 0, 2⟩
/-- CVN_SRC_CMD.ERR (R180). -/
def F.CVN_SRC_CMD_ERR : Field := ⟨.CVN_SRC_CMD, "ERR", 29, 28, .ro, 0, .num, .none, 0, 2⟩
/-- CVN_SRC_CMD.OP (R180). -/
def F.CVN_SRC_CMD_OP : Field := ⟨.CVN_SRC_CMD, "OP", 27, 26, .rw, 0, .num, .imm, 0, 2⟩
/-- CVN_SRC_CMD.COORD_POS (R180). -/
def F.CVN_SRC_CMD_COORD_POS : Field := ⟨.CVN_SRC_CMD, "COORD_POS", 25, 21, .ro, 0, .hw, .none, 0, 2⟩
/-- CVN_SRC_CMD.IS_COORD (R180). -/
def F.CVN_SRC_CMD_IS_COORD : Field := ⟨.CVN_SRC_CMD, "IS_COORD", 20, 20, .ro, 0, .hw, .none, 0, 2⟩
/-- CVN_SRC_CMD.ORDINAL (R180). -/
def F.CVN_SRC_CMD_ORDINAL : Field := ⟨.CVN_SRC_CMD, "ORDINAL", 15, 0, .rw, 0, .num, .imm, 0, 2⟩
/-- CVN_CAL.QLIVE (R199). -/
def F.CVN_CAL_QLIVE : Field := ⟨.CVN_CAL, "QLIVE", 31, 16, .ro, 0, .num, .none, 0, 0⟩
/-- CVN_CAL.RTT (R199). -/
def F.CVN_CAL_RTT : Field := ⟨.CVN_CAL, "RTT", 15, 0, .ro, 0, .hw, .none, 0, 0⟩
/-- CVN_HOLD_USE.USED (R199). -/
def F.CVN_HOLD_USE_USED : Field := ⟨.CVN_HOLD_USE, "USED", 18, 0, .ro, 0, .num, .none, 0, 0⟩
/-- RNK_STATUS.FAULTQ_FULL (R219). -/
def F.RNK_STATUS_FAULTQ_FULL : Field := ⟨.RNK_STATUS, "FAULTQ_FULL", 2, 2, .rc, 0, .num, .none, 14, 0⟩
/-- RNK_STATUS.WAITING (R219). -/
def F.RNK_STATUS_WAITING : Field := ⟨.RNK_STATUS, "WAITING", 1, 1, .rc, 0, .num, .none, 14, 0⟩
/-- RNK_STATUS.NODES_FULL (R219). -/
def F.RNK_STATUS_NODES_FULL : Field := ⟨.RNK_STATUS, "NODES_FULL", 0, 0, .rc, 0, .num, .none, 14, 0⟩
/-- RNK_NODES.USED (R219). -/
def F.RNK_NODES_USED : Field := ⟨.RNK_NODES, "USED", 20, 0, .ro, 0, .num, .none, 0, 0⟩
/-- RTE_FAULT_LOG.VALID (R219). -/
def F.RTE_FAULT_LOG_VALID : Field := ⟨.RTE_FAULT_LOG, "VALID", 31, 31, .rc, 0, .num, .none, 14, 0⟩
/-- RTE_FAULT_LOG.REASON (R219). -/
def F.RTE_FAULT_LOG_REASON : Field := ⟨.RTE_FAULT_LOG, "REASON", 30, 28, .rc, 0, .num, .none, 14, 0⟩
/-- RTE_FAULT_LOG.DOMAIN (R219). -/
def F.RTE_FAULT_LOG_DOMAIN : Field := ⟨.RTE_FAULT_LOG, "DOMAIN", 27, 16, .rc, 0, .num, .none, 14, 0⟩
/-- RTE_FAULT_LOG.CNT (R219). -/
def F.RTE_FAULT_LOG_CNT : Field := ⟨.RTE_FAULT_LOG, "CNT", 15, 8, .rc, 0, .num, .none, 14, 0⟩
/-- RTE_FAULT_EID.EID (R219). -/
def F.RTE_FAULT_EID_EID : Field := ⟨.RTE_FAULT_EID, "EID", 23, 0, .rc, 0, .num, .none, 14, 0⟩
/-- WWL_CTRL.FB_FULL_GRP (R234). -/
def F.WWL_CTRL_FB_FULL_GRP : Field := ⟨.WWL_CTRL, "FB_FULL_GRP", 10, 10, .rw, 0, .num, .imm, 31, 2⟩
/-- WWL_CTRL.FB_FULL_DOM (R234). -/
def F.WWL_CTRL_FB_FULL_DOM : Field := ⟨.WWL_CTRL, "FB_FULL_DOM", 9, 9, .rw, 0, .num, .imm, 31, 2⟩
/-- WWL_CTRL.FB_FULL_TGT (R234). -/
def F.WWL_CTRL_FB_FULL_TGT : Field := ⟨.WWL_CTRL, "FB_FULL_TGT", 8, 8, .rw, 0, .num, .imm, 31, 2⟩
/-- WWL_CTRL.TICK (R234). -/
def F.WWL_CTRL_TICK : Field := ⟨.WWL_CTRL, "TICK", 7, 0, .rw, 7, .num, .bnd, 31, 2⟩
/-- WWL_STATUS.FAR (R234). -/
def F.WWL_STATUS_FAR : Field := ⟨.WWL_STATUS, "FAR", 2, 2, .rc, 0, .num, .none, 14, 0⟩
/-- WWL_STATUS.FALLBACK (R234). -/
def F.WWL_STATUS_FALLBACK : Field := ⟨.WWL_STATUS, "FALLBACK", 1, 1, .rc, 0, .num, .none, 14, 0⟩
/-- WWL_STATUS.ZERO_BLOCK (R234). -/
def F.WWL_STATUS_ZERO_BLOCK : Field := ⟨.WWL_STATUS, "ZERO_BLOCK", 0, 0, .rc, 0, .num, .none, 14, 0⟩
/-- WWL_WHEEL.WAITING (R234). -/
def F.WWL_WHEEL_WAITING : Field := ⟨.WWL_WHEEL, "WAITING", 16, 0, .ro, 0, .num, .none, 0, 0⟩
/-- WWL_RESET_FALLBACK.VALID (R234). -/
def F.WWL_RESET_FALLBACK_VALID : Field := ⟨.WWL_RESET_FALLBACK, "VALID", 31, 31, .rc, 0, .num, .none, 14, 0⟩
/-- WWL_RESET_FALLBACK.VALUE (R234). -/
def F.WWL_RESET_FALLBACK_VALUE : Field := ⟨.WWL_RESET_FALLBACK, "VALUE", 30, 30, .rc, 0, .num, .none, 14, 0⟩
/-- WWL_RESET_FALLBACK.KIND (R234). -/
def F.WWL_RESET_FALLBACK_KIND : Field := ⟨.WWL_RESET_FALLBACK, "KIND", 29, 28, .rc, 0, .num, .none, 14, 0⟩
/-- WWL_RESET_FALLBACK.CAUSE (R234). -/
def F.WWL_RESET_FALLBACK_CAUSE : Field := ⟨.WWL_RESET_FALLBACK, "CAUSE", 27, 26, .rc, 0, .num, .none, 14, 0⟩
/-- WWL_RESET_FALLBACK.CNT (R234). -/
def F.WWL_RESET_FALLBACK_CNT : Field := ⟨.WWL_RESET_FALLBACK, "CNT", 25, 16, .rc, 0, .num, .none, 14, 0⟩
/-- WWL_RESET_FALLBACK.INDEX (R234). -/
def F.WWL_RESET_FALLBACK_INDEX : Field := ⟨.WWL_RESET_FALLBACK, "INDEX", 15, 0, .rc, 0, .num, .none, 14, 0⟩
/-- DLV_FAULT_BASE_LO.BASE (R257). -/
def F.DLV_FAULT_BASE_LO_BASE : Field := ⟨.DLV_FAULT_BASE_LO, "BASE", 31, 12, .rw, 0, .num, .dis, 15, 2⟩
/-- DLV_FAULT_BASE_HI.BASE (R257). -/
def F.DLV_FAULT_BASE_HI_BASE : Field := ⟨.DLV_FAULT_BASE_HI, "BASE", 31, 0, .rw, 0, .num, .dis, 15, 2⟩
/-- DLV_FAULT_CFG.RSTPTR (R257). -/
def F.DLV_FAULT_CFG_RSTPTR : Field := ⟨.DLV_FAULT_CFG, "RSTPTR", 31, 31, .w1p, 0, .num, .dis, 0, 2⟩
/-- DLV_FAULT_CFG.NMODE (R257). -/
def F.DLV_FAULT_CFG_NMODE : Field := ⟨.DLV_FAULT_CFG, "NMODE", 30, 29, .rw, 0, .num, .imm, 15, 2⟩
/-- DLV_FAULT_CFG.NS (R257). -/
def F.DLV_FAULT_CFG_NS : Field := ⟨.DLV_FAULT_CFG, "NS", 28, 28, .rw, 0, .num, .dis, 15, 2⟩
/-- DLV_FAULT_CFG.EN (R257). -/
def F.DLV_FAULT_CFG_EN : Field := ⟨.DLV_FAULT_CFG, "EN", 15, 15, .rw, 0, .num, .imm, 15, 2⟩
/-- DLV_FAULT_CFG.HPORT (R257). -/
def F.DLV_FAULT_CFG_HPORT : Field := ⟨.DLV_FAULT_CFG, "HPORT", 14, 8, .rw, 0, .num, .dis, 15, 2⟩
/-- DLV_FAULT_CFG.ORDER (R257). -/
def F.DLV_FAULT_CFG_ORDER : Field := ⟨.DLV_FAULT_CFG, "ORDER", 4, 0, .rw, 0, .num, .dis, 15, 2⟩
/-- DLV_FAULT_NOTIFY_ADDR_LO.ADDR (R257). -/
def F.DLV_FAULT_NOTIFY_ADDR_LO_ADDR : Field := ⟨.DLV_FAULT_NOTIFY_ADDR_LO, "ADDR", 31, 2, .rw, 0, .num, .imm, 15, 2⟩
/-- DLV_FAULT_NOTIFY_ADDR_HI.ADDR (R257). -/
def F.DLV_FAULT_NOTIFY_ADDR_HI_ADDR : Field := ⟨.DLV_FAULT_NOTIFY_ADDR_HI, "ADDR", 31, 0, .rw, 0, .num, .imm, 15, 2⟩
/-- DLV_FAULT_NOTIFY_DATA.NDATA (R257). -/
def F.DLV_FAULT_NOTIFY_DATA_NDATA : Field := ⟨.DLV_FAULT_NOTIFY_DATA, "NDATA", 31, 0, .rw, 0, .num, .imm, 15, 2⟩
/-- DLV_FAULT_PTR.ARM (R257). -/
def F.DLV_FAULT_PTR_ARM : Field := ⟨.DLV_FAULT_PTR, "ARM", 31, 31, .ro, 0, .num, .none, 15, 0⟩
/-- DLV_FAULT_PTR.PI (R257). -/
def F.DLV_FAULT_PTR_PI : Field := ⟨.DLV_FAULT_PTR, "PI", 20, 0, .ro, 0, .num, .none, 15, 0⟩
/-- DLV_FAULT_CI.CI (R257). -/
def F.DLV_FAULT_CI_CI : Field := ⟨.DLV_FAULT_CI, "CI", 20, 0, .ro, 0, .num, .none, 15, 0⟩
/-- DLV_HPORT_CMD.RESUME (R257). -/
def F.DLV_HPORT_CMD_RESUME : Field := ⟨.DLV_HPORT_CMD, "RESUME", 31, 31, .w1p, 0, .num, .imm, 0, 2⟩
/-- DLV_HPORT_CMD.HPORT (R257). -/
def F.DLV_HPORT_CMD_HPORT : Field := ⟨.DLV_HPORT_CMD, "HPORT", 6, 0, .rw, 0, .num, .imm, 0, 2⟩
/-- DLV_HPORT_DOWN.DOWN (R257). -/
def F.DLV_HPORT_DOWN_DOWN : Field := ⟨.DLV_HPORT_DOWN, "DOWN", 31, 0, .ro, 0, .num, .none, 3, 0⟩
/-- DLV_STATUS.ACT_FULL (R257). -/
def F.DLV_STATUS_ACT_FULL : Field := ⟨.DLV_STATUS, "ACT_FULL", 6, 6, .rc, 0, .num, .none, 14, 0⟩
/-- DLV_STATUS.TAG_STALL (R257). -/
def F.DLV_STATUS_TAG_STALL : Field := ⟨.DLV_STATUS, "TAG_STALL", 5, 5, .rc, 0, .num, .none, 14, 0⟩
/-- DLV_STATUS.JRNL_PARK (R257). -/
def F.DLV_STATUS_JRNL_PARK : Field := ⟨.DLV_STATUS, "JRNL_PARK", 4, 4, .rc, 0, .num, .none, 14, 0⟩
/-- DLV_STATUS.HPORT_DOWN (R257). -/
def F.DLV_STATUS_HPORT_DOWN : Field := ⟨.DLV_STATUS, "HPORT_DOWN", 3, 3, .rc, 0, .num, .none, 14, 0⟩
/-- DLV_STATUS.CI_BAD (R257). -/
def F.DLV_STATUS_CI_BAD : Field := ⟨.DLV_STATUS, "CI_BAD", 2, 2, .rc, 0, .num, .none, 14, 0⟩
/-- DLV_STATUS.RING_FULL (R257). -/
def F.DLV_STATUS_RING_FULL : Field := ⟨.DLV_STATUS, "RING_FULL", 1, 1, .rc, 0, .num, .none, 14, 0⟩
/-- DLV_STATUS.ACK_STRAY (R257). -/
def F.DLV_STATUS_ACK_STRAY : Field := ⟨.DLV_STATUS, "ACK_STRAY", 0, 0, .rc, 0, .num, .none, 14, 0⟩
/-- CMP_FORCE.GO (R257). -/
def F.CMP_FORCE_GO : Field := ⟨.CMP_FORCE, "GO", 31, 31, .w1p, 0, .num, .imm, 0, 2⟩
/-- CMP_FORCE.BUSY (R257). -/
def F.CMP_FORCE_BUSY : Field := ⟨.CMP_FORCE, "BUSY", 30, 30, .ro, 0, .num, .none, 0, 2⟩
/-- CMP_FORCE.ERR (R257). -/
def F.CMP_FORCE_ERR : Field := ⟨.CMP_FORCE, "ERR", 29, 28, .ro, 0, .num, .none, 0, 2⟩
/-- CMP_FORCE.EID (R257). -/
def F.CMP_FORCE_EID : Field := ⟨.CMP_FORCE, "EID", 23, 0, .rw, 0, .num, .imm, 0, 2⟩
/-- CMP_STATUS.LOST (R257). -/
def F.CMP_STATUS_LOST : Field := ⟨.CMP_STATUS, "LOST", 1, 1, .rc, 0, .num, .none, 14, 0⟩
/-- CMP_STATUS.REDELIV (R257). -/
def F.CMP_STATUS_REDELIV : Field := ⟨.CMP_STATUS, "REDELIV", 0, 0, .rc, 0, .num, .none, 14, 0⟩
/-- CMP_DB_LOG.VALID (R257). -/
def F.CMP_DB_LOG_VALID : Field := ⟨.CMP_DB_LOG, "VALID", 31, 31, .rc, 0, .num, .none, 14, 0⟩
/-- CMP_DB_LOG.CAUSE (R257). -/
def F.CMP_DB_LOG_CAUSE : Field := ⟨.CMP_DB_LOG, "CAUSE", 30, 28, .rc, 0, .num, .none, 14, 0⟩
/-- CMP_DB_LOG.HPORT (R257). -/
def F.CMP_DB_LOG_HPORT : Field := ⟨.CMP_DB_LOG, "HPORT", 27, 21, .rc, 0, .num, .none, 14, 0⟩
/-- CMP_DB_LOG.CNT (R257). -/
def F.CMP_DB_LOG_CNT : Field := ⟨.CMP_DB_LOG, "CNT", 20, 16, .rc, 0, .num, .none, 14, 0⟩
/-- CMP_DB_LOG.TARGET (R257). -/
def F.CMP_DB_LOG_TARGET : Field := ⟨.CMP_DB_LOG, "TARGET", 15, 0, .rc, 0, .num, .none, 14, 0⟩
/-- CMP_DB_DATA.DATA (R257). -/
def F.CMP_DB_DATA_DATA : Field := ⟨.CMP_DB_DATA, "DATA", 31, 0, .rc, 0, .num, .none, 14, 0⟩
/-- CMP_ACT_USE.USED (R257). -/
def F.CMP_ACT_USE_USED : Field := ⟨.CMP_ACT_USE, "USED", 18, 0, .ro, 0, .num, .none, 0, 0⟩
/-- WAY_QUEUE.USED (R281). -/
def F.WAY_QUEUE_USED : Field := ⟨.WAY_QUEUE, "USED", 12, 0, .ro, 0, .num, .none, 0, 0⟩
/-- TDM_MODE.MODE (R302). -/
def F.TDM_MODE_MODE : Field := ⟨.TDM_MODE, "MODE", 0, 0, .rwl, 0, .num, .dis, 14, 2⟩
/-- TDM_ROLE.CUR (R302). -/
def F.TDM_ROLE_CUR : Field := ⟨.TDM_ROLE, "CUR", 5, 4, .ro, 0, .num, .none, 14, 2⟩
/-- TDM_ROLE.CFG (R302). -/
def F.TDM_ROLE_CFG : Field := ⟨.TDM_ROLE, "CFG", 1, 0, .rwl, 0, .num, .dis, 14, 2⟩
/-- TDM_CFG.LAG_MAX (R302). -/
def F.TDM_CFG_LAG_MAX : Field := ⟨.TDM_CFG, "LAG_MAX", 31, 16, .rw, 4096, .num, .dis, 31, 2⟩
/-- TDM_CFG.HB_MISS (R302). -/
def F.TDM_CFG_HB_MISS : Field := ⟨.TDM_CFG, "HB_MISS", 7, 0, .rw, 8, .num, .dis, 31, 2⟩
/-- TDM_CMD.SWITCH (R302). -/
def F.TDM_CMD_SWITCH : Field := ⟨.TDM_CMD, "SWITCH", 31, 31, .w1p, 0, .num, .imm, 0, 2⟩
/-- TDM_CMD.BUSY (R302). -/
def F.TDM_CMD_BUSY : Field := ⟨.TDM_CMD, "BUSY", 30, 30, .ro, 0, .num, .none, 0, 2⟩
/-- TDM_CMD.ERR (R302). -/
def F.TDM_CMD_ERR : Field := ⟨.TDM_CMD, "ERR", 29, 28, .ro, 0, .num, .none, 0, 2⟩
/-- TDM_STATUS.STATE (R302). -/
def F.TDM_STATUS_STATE : Field := ⟨.TDM_STATUS, "STATE", 31, 29, .ro, 0, .num, .none, 0, 0⟩
/-- TDM_STATUS.HERR (R302). -/
def F.TDM_STATUS_HERR : Field := ⟨.TDM_STATUS, "HERR", 28, 26, .ro, 0, .num, .none, 3, 0⟩
/-- TDM_STATUS.PARTNER_UP (R302). -/
def F.TDM_STATUS_PARTNER_UP : Field := ⟨.TDM_STATUS, "PARTNER_UP", 6, 6, .ro, 0, .num, .none, 0, 0⟩
/-- TDM_STATUS.LAG (R302). -/
def F.TDM_STATUS_LAG : Field := ⟨.TDM_STATUS, "LAG", 5, 5, .rc, 0, .num, .none, 3, 0⟩
/-- TDM_STATUS.DIGEST_DIFF (R302). -/
def F.TDM_STATUS_DIGEST_DIFF : Field := ⟨.TDM_STATUS, "DIGEST_DIFF", 4, 4, .rc, 0, .num, .none, 3, 0⟩
/-- TDM_STATUS.CFG_DIFF (R302). -/
def F.TDM_STATUS_CFG_DIFF : Field := ⟨.TDM_STATUS, "CFG_DIFF", 3, 3, .ro, 0, .num, .none, 0, 0⟩
/-- TDM_STATUS.DEMOTED (R302). -/
def F.TDM_STATUS_DEMOTED : Field := ⟨.TDM_STATUS, "DEMOTED", 2, 2, .rc, 0, .num, .none, 3, 0⟩
/-- TDM_STATUS.TAKEOVER (R302). -/
def F.TDM_STATUS_TAKEOVER : Field := ⟨.TDM_STATUS, "TAKEOVER", 1, 1, .rc, 0, .num, .none, 3, 0⟩
/-- TDM_DIVERGE.CNT (R302). -/
def F.TDM_DIVERGE_CNT : Field := ⟨.TDM_DIVERGE, "CNT", 31, 0, .ro, 0, .num, .none, 3, 0⟩
/-- TDM_PEER_CMD.GO (R302). -/
def F.TDM_PEER_CMD_GO : Field := ⟨.TDM_PEER_CMD, "GO", 31, 31, .w1p, 0, .num, .imm, 0, 2⟩
/-- TDM_PEER_CMD.BUSY (R302). -/
def F.TDM_PEER_CMD_BUSY : Field := ⟨.TDM_PEER_CMD, "BUSY", 30, 30, .ro, 0, .num, .none, 0, 2⟩
/-- TDM_PEER_CMD.ERR (R302). -/
def F.TDM_PEER_CMD_ERR : Field := ⟨.TDM_PEER_CMD, "ERR", 29, 28, .ro, 0, .num, .none, 0, 2⟩
/-- TDM_PEER_CMD.WR (R302). -/
def F.TDM_PEER_CMD_WR : Field := ⟨.TDM_PEER_CMD, "WR", 27, 27, .rw, 0, .num, .imm, 0, 2⟩
/-- TDM_PEER_CMD.OFFSET (R302). -/
def F.TDM_PEER_CMD_OFFSET : Field := ⟨.TDM_PEER_CMD, "OFFSET", 26, 0, .rw, 0, .num, .imm, 0, 2⟩
/-- TDM_PEER_DATA.DATA (R302). -/
def F.TDM_PEER_DATA_DATA : Field := ⟨.TDM_PEER_DATA, "DATA", 31, 0, .rw, 0, .num, .imm, 0, 0⟩
/-- CHL_CTRL.WIN_LEN (R302). -/
def F.CHL_CTRL_WIN_LEN : Field := ⟨.CHL_CTRL, "WIN_LEN", 23, 16, .rw, 50, .num, .imm, 31, 2⟩
/-- CHL_CTRL.WIN_INT (R302). -/
def F.CHL_CTRL_WIN_INT : Field := ⟨.CHL_CTRL, "WIN_INT", 15, 8, .rw, 10, .num, .imm, 31, 2⟩
/-- CHL_CTRL.LEAVE (R302). -/
def F.CHL_CTRL_LEAVE : Field := ⟨.CHL_CTRL, "LEAVE", 1, 1, .w1p, 0, .num, .imm, 0, 2⟩
/-- CHL_CTRL.EN (R302). -/
def F.CHL_CTRL_EN : Field := ⟨.CHL_CTRL, "EN", 0, 0, .rw, 1, .num, .imm, 31, 2⟩
/-- CHL_STATUS.STATE (R302). -/
def F.CHL_STATUS_STATE : Field := ⟨.CHL_STATUS, "STATE", 31, 28, .ro, 0, .num, .none, 0, 0⟩
/-- CHL_STATUS.COORD (R302). -/
def F.CHL_STATUS_COORD : Field := ⟨.CHL_STATUS, "COORD", 27, 23, .ro, 0, .num, .none, 0, 0⟩
/-- CHL_STATUS.JERR (R302). -/
def F.CHL_STATUS_JERR : Field := ⟨.CHL_STATUS, "JERR", 22, 20, .ro, 0, .num, .none, 3, 0⟩
/-- CHL_STATUS.RTT_LONG (R302). -/
def F.CHL_STATUS_RTT_LONG : Field := ⟨.CHL_STATUS, "RTT_LONG", 7, 7, .rc, 0, .num, .none, 3, 0⟩
/-- CHL_STATUS.FOUNDER (R302). -/
def F.CHL_STATUS_FOUNDER : Field := ⟨.CHL_STATUS, "FOUNDER", 6, 6, .rc, 0, .num, .none, 3, 0⟩
/-- CHL_STATUS.PAUSED (R302). -/
def F.CHL_STATUS_PAUSED : Field := ⟨.CHL_STATUS, "PAUSED", 5, 5, .ro, 0, .num, .none, 0, 0⟩
/-- CHL_STATUS.LOSS (R302). -/
def F.CHL_STATUS_LOSS : Field := ⟨.CHL_STATUS, "LOSS", 4, 4, .rc, 0, .num, .none, 3, 0⟩
/-- CHL_STATUS.WIN (R302). -/
def F.CHL_STATUS_WIN : Field := ⟨.CHL_STATUS, "WIN", 3, 3, .ro, 0, .num, .none, 0, 0⟩
/-- CHL_STATUS.W_UP (R302). -/
def F.CHL_STATUS_W_UP : Field := ⟨.CHL_STATUS, "W_UP", 2, 2, .ro, 0, .num, .none, 0, 0⟩
/-- CHL_STATUS.E_UP (R302). -/
def F.CHL_STATUS_E_UP : Field := ⟨.CHL_STATUS, "E_UP", 1, 1, .ro, 0, .num, .none, 0, 0⟩
/-- CHL_JOINED.JOINED (R302). -/
def F.CHL_JOINED_JOINED : Field := ⟨.CHL_JOINED, "JOINED", 31, 0, .ro, 0, .num, .none, 0, 0⟩
/-- CHL_QUEUE.W_USED (R302). -/
def F.CHL_QUEUE_W_USED : Field := ⟨.CHL_QUEUE, "W_USED", 29, 16, .ro, 0, .num, .none, 0, 0⟩
/-- CHL_QUEUE.E_USED (R302). -/
def F.CHL_QUEUE_E_USED : Field := ⟨.CHL_QUEUE, "E_USED", 13, 0, .ro, 0, .num, .none, 0, 0⟩
/-- VFM_DOM_RST.GO (R375). -/
def F.VFM_DOM_RST_GO : Field := ⟨.VFM_DOM_RST, "GO", 31, 31, .w1p, 0, .num, .imm, 0, 2⟩
/-- VFM_DOM_RST.BUSY (R375). -/
def F.VFM_DOM_RST_BUSY : Field := ⟨.VFM_DOM_RST, "BUSY", 30, 30, .ro, 0, .num, .none, 0, 2⟩
/-- VFM_DOM_RST.ERR (R375). -/
def F.VFM_DOM_RST_ERR : Field := ⟨.VFM_DOM_RST, "ERR", 29, 28, .ro, 0, .num, .none, 0, 2⟩
/-- VFM_DOM_RST.DOMAIN (R375). -/
def F.VFM_DOM_RST_DOMAIN : Field := ⟨.VFM_DOM_RST, "DOMAIN", 11, 0, .rw, 0, .num, .imm, 14, 2⟩
/-- VFM_DEP_CMD.GO (R321). -/
def F.VFM_DEP_CMD_GO : Field := ⟨.VFM_DEP_CMD, "GO", 31, 31, .w1p, 0, .num, .imm, 0, 2⟩
/-- VFM_DEP_CMD.BUSY (R321). -/
def F.VFM_DEP_CMD_BUSY : Field := ⟨.VFM_DEP_CMD, "BUSY", 30, 30, .ro, 0, .num, .none, 0, 2⟩
/-- VFM_DEP_CMD.ERR (R321). -/
def F.VFM_DEP_CMD_ERR : Field := ⟨.VFM_DEP_CMD, "ERR", 29, 28, .ro, 0, .num, .none, 0, 2⟩
/-- VFM_DEP_CMD.OP (R321). -/
def F.VFM_DEP_CMD_OP : Field := ⟨.VFM_DEP_CMD, "OP", 27, 26, .rw, 0, .num, .imm, 0, 2⟩
/-- VFM_DEP_ADDR_LO.ADDR (R321). -/
def F.VFM_DEP_ADDR_LO_ADDR : Field := ⟨.VFM_DEP_ADDR_LO, "ADDR", 31, 6, .rw, 0, .num, .imm, 0, 2⟩
/-- VFM_DEP_ADDR_HI.ADDR (R321). -/
def F.VFM_DEP_ADDR_HI_ADDR : Field := ⟨.VFM_DEP_ADDR_HI, "ADDR", 8, 0, .rw, 0, .num, .imm, 0, 2⟩
/-- VFM_DEP_DATA.DATA (R321). -/
def F.VFM_DEP_DATA_DATA : Field := ⟨.VFM_DEP_DATA, "DATA", 31, 0, .rw, 0, .num, .imm, 0, 2⟩
/-- IMG_CTRL.LOCK (R97). -/
def F.IMG_CTRL_LOCK : Field := ⟨.IMG_CTRL, "LOCK", 31, 31, .rwl, 0, .num, .imm, 14, 4⟩
/-- IMG_CTRL.ABSENT (R97). -/
def F.IMG_CTRL_ABSENT : Field := ⟨.IMG_CTRL, "ABSENT", 8, 8, .w1p, 0, .num, .imm, 0, 3⟩
/-- IMG_CTRL.RELOAD (R97). -/
def F.IMG_CTRL_RELOAD : Field := ⟨.IMG_CTRL, "RELOAD", 4, 4, .w1p, 0, .num, .imm, 0, 3⟩
/-- IMG_CTRL.SLOT_SEL (R97). -/
def F.IMG_CTRL_SLOT_SEL : Field := ⟨.IMG_CTRL, "SLOT_SEL", 1, 0, .rwl, 0, .num, .imm, 15, 3⟩
/-- IMG_STATUS.STATE (R98). -/
def F.IMG_STATUS_STATE : Field := ⟨.IMG_STATUS, "STATE", 31, 30, .ro, 0, .num, .none, 15, 0⟩
/-- IMG_STATUS.LOADED_SLOT (R98). -/
def F.IMG_STATUS_LOADED_SLOT : Field := ⟨.IMG_STATUS, "LOADED_SLOT", 29, 29, .ro, 0, .num, .none, 15, 0⟩
/-- IMG_STATUS.TWIN_CONFLICT (R98). -/
def F.IMG_STATUS_TWIN_CONFLICT : Field := ⟨.IMG_STATUS, "TWIN_CONFLICT", 28, 28, .rc, 0, .num, .none, 15, 0⟩
/-- IMG_STATUS.SKIPPED (R98). -/
def F.IMG_STATUS_SKIPPED : Field := ⟨.IMG_STATUS, "SKIPPED", 27, 27, .rc, 0, .num, .none, 15, 0⟩
/-- IMG_STATUS.STRAY (R98). -/
def F.IMG_STATUS_STRAY : Field := ⟨.IMG_STATUS, "STRAY", 26, 26, .rc, 0, .num, .none, 15, 0⟩
/-- IMG_STATUS.KEPT (R98). -/
def F.IMG_STATUS_KEPT : Field := ⟨.IMG_STATUS, "KEPT", 25, 25, .rc, 0, .num, .none, 15, 0⟩
/-- IMG_STATUS.B_ERR (R98). -/
def F.IMG_STATUS_B_ERR : Field := ⟨.IMG_STATUS, "B_ERR", 12, 8, .ro, 0, .num, .none, 15, 0⟩
/-- IMG_STATUS.A_ERR (R98). -/
def F.IMG_STATUS_A_ERR : Field := ⟨.IMG_STATUS, "A_ERR", 4, 0, .ro, 0, .num, .none, 15, 0⟩
/-- IMG_FETCH.REQ (R99). -/
def F.IMG_FETCH_REQ : Field := ⟨.IMG_FETCH, "REQ", 31, 31, .ro, 0, .num, .none, 0, 0⟩
/-- IMG_FETCH.SLOT (R99). -/
def F.IMG_FETCH_SLOT : Field := ⟨.IMG_FETCH, "SLOT", 30, 30, .ro, 0, .num, .none, 0, 0⟩
/-- IMG_FETCH.COUNT (R99). -/
def F.IMG_FETCH_COUNT : Field := ⟨.IMG_FETCH, "COUNT", 29, 23, .ro, 0, .num, .none, 0, 0⟩
/-- IMG_FETCH.OFFSET (R99). -/
def F.IMG_FETCH_OFFSET : Field := ⟨.IMG_FETCH, "OFFSET", 22, 0, .ro, 0, .num, .none, 0, 0⟩
/-- IMG_ERR_OFF.SLOT (R99). -/
def F.IMG_ERR_OFF_SLOT : Field := ⟨.IMG_ERR_OFF, "SLOT", 31, 31, .ro, 0, .num, .none, 15, 0⟩
/-- IMG_ERR_OFF.OFFSET (R99). -/
def F.IMG_ERR_OFF_OFFSET : Field := ⟨.IMG_ERR_OFF, "OFFSET", 22, 0, .ro, 0, .num, .none, 15, 0⟩
/-- IMG_LOADED_GEN.GEN (R99). -/
def F.IMG_LOADED_GEN_GEN : Field := ⟨.IMG_LOADED_GEN, "GEN", 31, 0, .ro, 0, .num, .none, 15, 0⟩
/-- IMG_LOADED_CRC.CRC (R99). -/
def F.IMG_LOADED_CRC_CRC : Field := ⟨.IMG_LOADED_CRC, "CRC", 31, 0, .ro, 0, .num, .none, 15, 0⟩
/-- IMG_MBOX_DATA.DATA (R90). -/
def F.IMG_MBOX_DATA_DATA : Field := ⟨.IMG_MBOX_DATA, "DATA", 31, 0, .rw, 0, .num, .imm, 0, 3⟩
/-- CFG_CTRL.POLICY (R127). -/
def F.CFG_CTRL_POLICY : Field := ⟨.CFG_CTRL, "POLICY", 3, 2, .rw, 1, .num, .imm, 14, 4⟩
/-- CFG_CTRL.UNFREEZE (R127). -/
def F.CFG_CTRL_UNFREEZE : Field := ⟨.CFG_CTRL, "UNFREEZE", 1, 1, .w1p, 0, .num, .imm, 0, 3⟩
/-- CFG_CTRL.COMMIT (R127). -/
def F.CFG_CTRL_COMMIT : Field := ⟨.CFG_CTRL, "COMMIT", 0, 0, .w1p, 0, .num, .imm, 0, 3⟩
/-- CFG_STATUS.FIRST_REGION (R127). -/
def F.CFG_STATUS_FIRST_REGION : Field := ⟨.CFG_STATUS, "FIRST_REGION", 19, 7, .ro, 0, .num, .none, 14, 0⟩
/-- CFG_STATUS.FROZEN (R127). -/
def F.CFG_STATUS_FROZEN : Field := ⟨.CFG_STATUS, "FROZEN", 4, 4, .ro, 0, .num, .none, 14, 0⟩
/-- CFG_STATUS.PARTIAL (R127). -/
def F.CFG_STATUS_PARTIAL : Field := ⟨.CFG_STATUS, "PARTIAL", 3, 3, .rc, 0, .num, .none, 14, 0⟩
/-- CFG_STATUS.MISMATCH (R127). -/
def F.CFG_STATUS_MISMATCH : Field := ⟨.CFG_STATUS, "MISMATCH", 2, 2, .rc, 0, .num, .none, 14, 0⟩
/-- CFG_STATUS.LIVE_CLEAN (R127). -/
def F.CFG_STATUS_LIVE_CLEAN : Field := ⟨.CFG_STATUS, "LIVE_CLEAN", 1, 1, .ro, 0, .num, .none, 0, 0⟩
/-- CFG_STATUS.REF_VALID (R127). -/
def F.CFG_STATUS_REF_VALID : Field := ⟨.CFG_STATUS, "REF_VALID", 0, 0, .ro, 0, .num, .none, 14, 0⟩
/-- CFG_CRC_LIVE.CRC (R127). -/
def F.CFG_CRC_LIVE_CRC : Field := ⟨.CFG_CRC_LIVE, "CRC", 31, 0, .ro, 0, .num, .none, 0, 0⟩
/-- CFG_CRC_REF.CRC (R127). -/
def F.CFG_CRC_REF_CRC : Field := ⟨.CFG_CRC_REF, "CRC", 31, 0, .ro, 0, .num, .none, 14, 0⟩
/-- CFG_REJECT.SPACE (R113). -/
def F.CFG_REJECT_SPACE : Field := ⟨.CFG_REJECT, "SPACE", 28, 28, .ro, 0, .num, .none, 14, 0⟩
/-- CFG_REJECT.INDEX (R113). -/
def F.CFG_REJECT_INDEX : Field := ⟨.CFG_REJECT, "INDEX", 27, 0, .ro, 0, .num, .none, 14, 0⟩
/-- CFG_REJECT_INFO.VALID (R113). -/
def F.CFG_REJECT_INFO_VALID : Field := ⟨.CFG_REJECT_INFO, "VALID", 31, 31, .rc, 0, .num, .none, 14, 0⟩
/-- CFG_REJECT_INFO.PORT (R113). -/
def F.CFG_REJECT_INFO_PORT : Field := ⟨.CFG_REJECT_INFO, "PORT", 30, 28, .rc, 0, .num, .none, 14, 0⟩
/-- CFG_REJECT_INFO.FUNC (R113). -/
def F.CFG_REJECT_INFO_FUNC : Field := ⟨.CFG_REJECT_INFO, "FUNC", 27, 16, .rc, 0, .num, .none, 14, 0⟩
/-- CFG_REJECT_INFO.REASON (R113). -/
def F.CFG_REJECT_INFO_REASON : Field := ⟨.CFG_REJECT_INFO, "REASON", 15, 12, .rc, 0, .num, .none, 14, 0⟩
/-- CFG_REJECT_INFO.CNT (R113). -/
def F.CFG_REJECT_INFO_CNT : Field := ⟨.CFG_REJECT_INFO, "CNT", 7, 0, .rc, 0, .num, .none, 14, 0⟩
/-- CFG_BND_PEND.WAY (R111). -/
def F.CFG_BND_PEND_WAY : Field := ⟨.CFG_BND_PEND, "WAY", 3, 3, .ro, 0, .num, .none, 0, 0⟩
/-- CFG_BND_PEND.OAS (R111). -/
def F.CFG_BND_PEND_OAS : Field := ⟨.CFG_BND_PEND, "OAS", 2, 2, .ro, 0, .num, .none, 0, 0⟩
/-- CFG_BND_PEND.WWL (R111). -/
def F.CFG_BND_PEND_WWL : Field := ⟨.CFG_BND_PEND, "WWL", 1, 1, .ro, 0, .num, .none, 0, 0⟩
/-- CFG_BND_PEND.CVN (R111). -/
def F.CFG_BND_PEND_CVN : Field := ⟨.CFG_BND_PEND, "CVN", 0, 0, .ro, 0, .num, .none, 0, 0⟩
/-- SAV_POLICY.PERIOD (R360). -/
def F.SAV_POLICY_PERIOD : Field := ⟨.SAV_POLICY, "PERIOD", 11, 4, .rwl, 0, .num, .imm, 14, 4⟩
/-- SAV_POLICY.SHORT (R360). -/
def F.SAV_POLICY_SHORT : Field := ⟨.SAV_POLICY, "SHORT", 3, 3, .ro, 0, .img, .none, 14, 4⟩
/-- SAV_POLICY.PART_PRIO (R360). -/
def F.SAV_POLICY_PART_PRIO : Field := ⟨.SAV_POLICY, "PART_PRIO", 2, 0, .rwl, 0, .img, .imm, 14, 4⟩
/-- SAV_CMD.SAVE (R360). -/
def F.SAV_CMD_SAVE : Field := ⟨.SAV_CMD, "SAVE", 31, 31, .w1p, 0, .num, .imm, 0, 4⟩
/-- SAV_CMD.BUSY (R360). -/
def F.SAV_CMD_BUSY : Field := ⟨.SAV_CMD, "BUSY", 30, 30, .ro, 0, .num, .none, 0, 4⟩
/-- SAV_CMD.ERR (R360). -/
def F.SAV_CMD_ERR : Field := ⟨.SAV_CMD, "ERR", 29, 28, .ro, 0, .num, .none, 0, 4⟩
/-- SAV_STATUS.NO_HOME (R360). -/
def F.SAV_STATUS_NO_HOME : Field := ⟨.SAV_STATUS, "NO_HOME", 7, 7, .ro, 0, .num, .none, 15, 0⟩
/-- SAV_STATUS.HOME_PEND (R360). -/
def F.SAV_STATUS_HOME_PEND : Field := ⟨.SAV_STATUS, "HOME_PEND", 6, 6, .ro, 0, .num, .none, 0, 0⟩
/-- SAV_STATUS.HOME_DONE (R360). -/
def F.SAV_STATUS_HOME_DONE : Field := ⟨.SAV_STATUS, "HOME_DONE", 5, 5, .rc, 0, .num, .none, 15, 0⟩
/-- SAV_STATUS.PARTIAL (R360). -/
def F.SAV_STATUS_PARTIAL : Field := ⟨.SAV_STATUS, "PARTIAL", 4, 4, .rc, 0, .num, .none, 15, 0⟩
/-- SAV_STATUS.NONE (R360). -/
def F.SAV_STATUS_NONE : Field := ⟨.SAV_STATUS, "NONE", 3, 3, .rc, 0, .num, .none, 15, 0⟩
/-- SAV_STATUS.HOLDUP_SHORT (R360). -/
def F.SAV_STATUS_HOLDUP_SHORT : Field := ⟨.SAV_STATUS, "HOLDUP_SHORT", 2, 2, .rc, 0, .num, .none, 15, 0⟩
/-- SAV_STATUS.DONE (R360). -/
def F.SAV_STATUS_DONE : Field := ⟨.SAV_STATUS, "DONE", 1, 1, .rc, 0, .num, .none, 15, 0⟩
/-- SAV_STATUS.BUSY (R360). -/
def F.SAV_STATUS_BUSY : Field := ⟨.SAV_STATUS, "BUSY", 0, 0, .ro, 0, .num, .none, 0, 0⟩
/-- SAV_REQ.UJ (R360). -/
def F.SAV_REQ_UJ : Field := ⟨.SAV_REQ, "UJ", 31, 0, .ro, 0, .num, .none, 15, 0⟩
/-- SAV_HAVE.UJ (R360). -/
def F.SAV_HAVE_UJ : Field := ⟨.SAV_HAVE, "UJ", 31, 0, .ro, 0, .num, .none, 15, 0⟩
/-- SAV_LAST.SLOT (R360). -/
def F.SAV_LAST_SLOT : Field := ⟨.SAV_LAST, "SLOT", 23, 18, .ro, 0, .hw, .none, 15, 0⟩
/-- SAV_LAST.TRIG (R360). -/
def F.SAV_LAST_TRIG : Field := ⟨.SAV_LAST, "TRIG", 17, 16, .ro, 0, .hw, .none, 15, 0⟩
/-- SAV_SKIPPED.CNT (R360). -/
def F.SAV_SKIPPED_CNT : Field := ⟨.SAV_SKIPPED, "CNT", 31, 0, .ro, 0, .num, .none, 15, 0⟩
/-- SAV_RESTORE.RESULT (R360). -/
def F.SAV_RESTORE_RESULT : Field := ⟨.SAV_RESTORE, "RESULT", 31, 29, .ro, 0, .hw, .none, 15, 0⟩
/-- SAV_RESTORE.PARTIAL (R360). -/
def F.SAV_RESTORE_PARTIAL : Field := ⟨.SAV_RESTORE, "PARTIAL", 28, 28, .ro, 0, .hw, .none, 15, 0⟩
/-- SAV_RESTORE.STALE2 (R360). -/
def F.SAV_RESTORE_STALE2 : Field := ⟨.SAV_RESTORE, "STALE2", 27, 27, .ro, 0, .hw, .none, 15, 0⟩
/-- SAV_RESTORE.CLASSES (R360). -/
def F.SAV_RESTORE_CLASSES : Field := ⟨.SAV_RESTORE, "CLASSES", 7, 0, .ro, 0, .hw, .none, 15, 0⟩
/-- SAV_SEQ_LO.SEQ (R360). -/
def F.SAV_SEQ_LO_SEQ : Field := ⟨.SAV_SEQ_LO, "SEQ", 31, 0, .ro, 0, .hw, .none, 15, 0⟩
/-- SAV_SEQ_HI.SEQ (R360). -/
def F.SAV_SEQ_HI_SEQ : Field := ⟨.SAV_SEQ_HI, "SEQ", 31, 0, .ro, 0, .hw, .none, 15, 0⟩
/-- TEL_CTRL.SNAP (R396). -/
def F.TEL_CTRL_SNAP : Field := ⟨.TEL_CTRL, "SNAP", 31, 31, .w1p, 0, .num, .imm, 0, 2⟩
/-- TEL_CTRL.SNAP_CLR (R396). -/
def F.TEL_CTRL_SNAP_CLR : Field := ⟨.TEL_CTRL, "SNAP_CLR", 30, 30, .w1p, 0, .num, .imm, 0, 2⟩
/-- TEL_CTRL.CLR_ALL (R396). -/
def F.TEL_CTRL_CLR_ALL : Field := ⟨.TEL_CTRL, "CLR_ALL", 29, 29, .w1p, 0, .num, .imm, 0, 2⟩
/-- TEL_CTRL.BW_CLR (R396). -/
def F.TEL_CTRL_BW_CLR : Field := ⟨.TEL_CTRL, "BW_CLR", 28, 28, .w1p, 0, .num, .imm, 0, 2⟩
/-- TEL_CTRL.FREEZE (R396). -/
def F.TEL_CTRL_FREEZE : Field := ⟨.TEL_CTRL, "FREEZE", 0, 0, .rw, 0, .num, .imm, 15, 2⟩
/-- TEL_CNT_CMD.GO (R396). -/
def F.TEL_CNT_CMD_GO : Field := ⟨.TEL_CNT_CMD, "GO", 31, 31, .w1p, 0, .num, .imm, 0, 2⟩
/-- TEL_CNT_CMD.BUSY (R396). -/
def F.TEL_CNT_CMD_BUSY : Field := ⟨.TEL_CNT_CMD, "BUSY", 30, 30, .ro, 0, .num, .none, 0, 2⟩
/-- TEL_CNT_CMD.ERR (R396). -/
def F.TEL_CNT_CMD_ERR : Field := ⟨.TEL_CNT_CMD, "ERR", 29, 28, .ro, 0, .num, .none, 0, 2⟩
/-- TEL_CNT_CMD.OP (R396). -/
def F.TEL_CNT_CMD_OP : Field := ⟨.TEL_CNT_CMD, "OP", 27, 26, .rw, 0, .num, .imm, 0, 2⟩
/-- TEL_CNT_CMD.INDEX (R396). -/
def F.TEL_CNT_CMD_INDEX : Field := ⟨.TEL_CNT_CMD, "INDEX", 23, 0, .rw, 0, .num, .imm, 0, 2⟩
/-- TEL_CNT_DATA_LO.DATA (R396). -/
def F.TEL_CNT_DATA_LO_DATA : Field := ⟨.TEL_CNT_DATA_LO, "DATA", 31, 0, .rw, 0, .num, .imm, 0, 2⟩
/-- TEL_CNT_DATA_HI.DATA (R396). -/
def F.TEL_CNT_DATA_HI_DATA : Field := ⟨.TEL_CNT_DATA_HI, "DATA", 31, 0, .rw, 0, .num, .imm, 0, 2⟩
/-- TEL_WIN.LEN (R396). -/
def F.TEL_WIN_LEN : Field := ⟨.TEL_WIN, "LEN", 15, 0, .rw, 99, .num, .imm, 15, 2⟩
/-- TEL_LVL.PERIOD (R396). -/
def F.TEL_LVL_PERIOD : Field := ⟨.TEL_LVL, "PERIOD", 7, 0, .rw, 7, .num, .imm, 15, 2⟩
/-- TEL_STATUS.WIN_SKIP (R396). -/
def F.TEL_STATUS_WIN_SKIP : Field := ⟨.TEL_STATUS, "WIN_SKIP", 1, 1, .rc, 0, .num, .none, 15, 0⟩
/-- TEL_STATUS.FROZEN (R396). -/
def F.TEL_STATUS_FROZEN : Field := ⟨.TEL_STATUS, "FROZEN", 0, 0, .ro, 0, .num, .none, 0, 0⟩
/-- TEL_SNAP_TIME_LO.TIME (R396). -/
def F.TEL_SNAP_TIME_LO_TIME : Field := ⟨.TEL_SNAP_TIME_LO, "TIME", 31, 0, .ro, 0, .num, .none, 15, 0⟩
/-- TEL_SNAP_TIME_HI.TIME (R396). -/
def F.TEL_SNAP_TIME_HI_TIME : Field := ⟨.TEL_SNAP_TIME_HI, "TIME", 31, 0, .ro, 0, .num, .none, 15, 0⟩
/-- TEL_SMP_CFG.EN (R396). -/
def F.TEL_SMP_CFG_EN : Field := ⟨.TEL_SMP_CFG, "EN", 31, 31, .rw, 0, .num, .imm, 15, 2⟩
/-- TEL_SMP_CFG.ANY (R396). -/
def F.TEL_SMP_CFG_ANY : Field := ⟨.TEL_SMP_CFG, "ANY", 30, 30, .rw, 1, .num, .dis, 15, 2⟩
/-- TEL_SMP_CFG.DOMAIN (R396). -/
def F.TEL_SMP_CFG_DOMAIN : Field := ⟨.TEL_SMP_CFG, "DOMAIN", 27, 16, .rw, 0, .num, .dis, 15, 2⟩
/-- TEL_SMP_CFG.PERIOD (R396). -/
def F.TEL_SMP_CFG_PERIOD : Field := ⟨.TEL_SMP_CFG, "PERIOD", 15, 0, .rw, 1023, .num, .dis, 15, 2⟩
/-- TEL_SMP_AREA_LO.ADDR (R396). -/
def F.TEL_SMP_AREA_LO_ADDR : Field := ⟨.TEL_SMP_AREA_LO, "ADDR", 31, 6, .rw, 0, .num, .dis, 15, 2⟩
/-- TEL_SMP_AREA_HI.ADDR (R396). -/
def F.TEL_SMP_AREA_HI_ADDR : Field := ⟨.TEL_SMP_AREA_HI, "ADDR", 8, 0, .rw, 0, .num, .dis, 15, 2⟩
/-- TEL_SMP_SIZE.SIZE (R396). -/
def F.TEL_SMP_SIZE_SIZE : Field := ⟨.TEL_SMP_SIZE, "SIZE", 4, 0, .rw, 0, .num, .dis, 15, 2⟩
/-- TEL_SMP_WPTR.WPTR (R396). -/
def F.TEL_SMP_WPTR_WPTR : Field := ⟨.TEL_SMP_WPTR, "WPTR", 31, 0, .ro, 0, .num, .none, 15, 0⟩
/-- TEL_SMP_STAT.MISSED (R396). -/
def F.TEL_SMP_STAT_MISSED : Field := ⟨.TEL_SMP_STAT, "MISSED", 31, 16, .rc, 0, .num, .none, 15, 0⟩
/-- TEL_SMP_STAT.DROPPED (R396). -/
def F.TEL_SMP_STAT_DROPPED : Field := ⟨.TEL_SMP_STAT, "DROPPED", 15, 0, .rc, 0, .num, .none, 15, 0⟩
/-- TEL_H_CFG.EN (R396). -/
def F.TEL_H_CFG_EN : Field := ⟨.TEL_H_CFG, "EN", 31, 31, .rw, 0, .num, .imm, 15, 2⟩
/-- TEL_H_CFG.MODE (R396). -/
def F.TEL_H_CFG_MODE : Field := ⟨.TEL_H_CFG, "MODE", 30, 30, .rw, 0, .num, .dis, 15, 2⟩
/-- TEL_H_CFG.SCOPE (R396). -/
def F.TEL_H_CFG_SCOPE : Field := ⟨.TEL_H_CFG, "SCOPE", 29, 28, .rw, 0, .num, .dis, 15, 2⟩
/-- TEL_H_CFG.SIDX (R396). -/
def F.TEL_H_CFG_SIDX : Field := ⟨.TEL_H_CFG, "SIDX", 27, 16, .rw, 0, .num, .dis, 15, 2⟩
/-- TEL_H_CFG.WIDTH (R396). -/
def F.TEL_H_CFG_WIDTH : Field := ⟨.TEL_H_CFG, "WIDTH", 15, 0, .rw, 1, .num, .dis, 15, 2⟩
/-- TEL_H_BASE.BASE (R396). -/
def F.TEL_H_BASE_BASE : Field := ⟨.TEL_H_BASE, "BASE", 31, 0, .rw, 0, .num, .dis, 15, 2⟩
/-- TEL_H_MIN.MIN (R396). -/
def F.TEL_H_MIN_MIN : Field := ⟨.TEL_H_MIN, "MIN", 31, 0, .ro, 4294967295, .num, .none, 15, 0⟩
/-- TEL_H_MAX.MAX (R396). -/
def F.TEL_H_MAX_MAX : Field := ⟨.TEL_H_MAX, "MAX", 31, 0, .ro, 0, .num, .none, 15, 0⟩
/-- TEL_H_WMAX.WMAX (R396). -/
def F.TEL_H_WMAX_WMAX : Field := ⟨.TEL_H_WMAX, "WMAX", 31, 0, .ro, 0, .num, .none, 15, 0⟩
/-- TEL_BW_IN_LAST.CNT (R396). -/
def F.TEL_BW_IN_LAST_CNT : Field := ⟨.TEL_BW_IN_LAST, "CNT", 31, 0, .ro, 0, .num, .none, 15, 0⟩
/-- TEL_BW_OUT_LAST.CNT (R396). -/
def F.TEL_BW_OUT_LAST_CNT : Field := ⟨.TEL_BW_OUT_LAST, "CNT", 31, 0, .ro, 0, .num, .none, 15, 0⟩
/-- TEL_BW_IN_MAX.CNT (R396). -/
def F.TEL_BW_IN_MAX_CNT : Field := ⟨.TEL_BW_IN_MAX, "CNT", 31, 0, .ro, 0, .num, .none, 15, 0⟩
/-- TEL_BW_OUT_MAX.CNT (R396). -/
def F.TEL_BW_OUT_MAX_CNT : Field := ⟨.TEL_BW_OUT_MAX, "CNT", 31, 0, .ro, 0, .num, .none, 15, 0⟩
/-- POL_SRC_MTR_CFG.FORCE (R147). -/
def F.POL_SRC_MTR_CFG_FORCE : Field := ⟨.POL_SRC_MTR_CFG, "FORCE", 8, 8, .rw, 0, .num, .imm, 30, 2⟩
/-- POL_SRC_MTR_CFG.RED_ACT (R147). -/
def F.POL_SRC_MTR_CFG_RED_ACT : Field := ⟨.POL_SRC_MTR_CFG, "RED_ACT", 7, 6, .rw, 0, .num, .imm, 30, 2⟩
/-- POL_SRC_MTR_CFG.YEL_ACT (R147). -/
def F.POL_SRC_MTR_CFG_YEL_ACT : Field := ⟨.POL_SRC_MTR_CFG, "YEL_ACT", 5, 4, .rw, 0, .num, .imm, 30, 2⟩
/-- POL_SRC_MTR_CFG.AWARE (R147). -/
def F.POL_SRC_MTR_CFG_AWARE : Field := ⟨.POL_SRC_MTR_CFG, "AWARE", 2, 2, .rw, 0, .num, .imm, 30, 2⟩
/-- POL_SRC_MTR_CFG.ALG (R147). -/
def F.POL_SRC_MTR_CFG_ALG : Field := ⟨.POL_SRC_MTR_CFG, "ALG", 1, 1, .rw, 0, .num, .imm, 30, 2⟩
/-- POL_SRC_MTR_CFG.EN (R147). -/
def F.POL_SRC_MTR_CFG_EN : Field := ⟨.POL_SRC_MTR_CFG, "EN", 0, 0, .rw, 0, .num, .imm, 30, 2⟩
/-- POL_SRC_MTR_CIR.CIR (R147). -/
def F.POL_SRC_MTR_CIR_CIR : Field := ⟨.POL_SRC_MTR_CIR, "CIR", 23, 0, .rw, 0, .num, .imm, 30, 2⟩
/-- POL_SRC_MTR_PIR.PIR (R147). -/
def F.POL_SRC_MTR_PIR_PIR : Field := ⟨.POL_SRC_MTR_PIR, "PIR", 23, 0, .rw, 0, .num, .imm, 30, 2⟩
/-- POL_SRC_MTR_CBS.CBS (R147). -/
def F.POL_SRC_MTR_CBS_CBS : Field := ⟨.POL_SRC_MTR_CBS, "CBS", 23, 0, .rw, 0, .num, .imm, 30, 2⟩
/-- POL_SRC_MTR_PBS.PBS (R147). -/
def F.POL_SRC_MTR_PBS_PBS : Field := ⟨.POL_SRC_MTR_PBS, "PBS", 23, 0, .rw, 0, .num, .imm, 30, 2⟩
/-- POL_DOM_MTR_CFG.FORCE (R147). -/
def F.POL_DOM_MTR_CFG_FORCE : Field := ⟨.POL_DOM_MTR_CFG, "FORCE", 8, 8, .rw, 0, .num, .imm, 30, 2⟩
/-- POL_DOM_MTR_CFG.RED_ACT (R147). -/
def F.POL_DOM_MTR_CFG_RED_ACT : Field := ⟨.POL_DOM_MTR_CFG, "RED_ACT", 7, 6, .rw, 0, .num, .imm, 30, 2⟩
/-- POL_DOM_MTR_CFG.YEL_ACT (R147). -/
def F.POL_DOM_MTR_CFG_YEL_ACT : Field := ⟨.POL_DOM_MTR_CFG, "YEL_ACT", 5, 4, .rw, 0, .num, .imm, 30, 2⟩
/-- POL_DOM_MTR_CFG.AWARE (R147). -/
def F.POL_DOM_MTR_CFG_AWARE : Field := ⟨.POL_DOM_MTR_CFG, "AWARE", 2, 2, .rw, 0, .num, .imm, 30, 2⟩
/-- POL_DOM_MTR_CFG.ALG (R147). -/
def F.POL_DOM_MTR_CFG_ALG : Field := ⟨.POL_DOM_MTR_CFG, "ALG", 1, 1, .rw, 0, .num, .imm, 30, 2⟩
/-- POL_DOM_MTR_CFG.EN (R147). -/
def F.POL_DOM_MTR_CFG_EN : Field := ⟨.POL_DOM_MTR_CFG, "EN", 0, 0, .rw, 0, .num, .imm, 30, 2⟩
/-- POL_DOM_MTR_CIR.CIR (R147). -/
def F.POL_DOM_MTR_CIR_CIR : Field := ⟨.POL_DOM_MTR_CIR, "CIR", 23, 0, .rw, 0, .num, .imm, 30, 2⟩
/-- POL_DOM_MTR_PIR.PIR (R147). -/
def F.POL_DOM_MTR_PIR_PIR : Field := ⟨.POL_DOM_MTR_PIR, "PIR", 23, 0, .rw, 0, .num, .imm, 30, 2⟩
/-- POL_DOM_MTR_CBS.CBS (R147). -/
def F.POL_DOM_MTR_CBS_CBS : Field := ⟨.POL_DOM_MTR_CBS, "CBS", 23, 0, .rw, 0, .num, .imm, 30, 2⟩
/-- POL_DOM_MTR_PBS.PBS (R147). -/
def F.POL_DOM_MTR_PBS_PBS : Field := ⟨.POL_DOM_MTR_PBS, "PBS", 23, 0, .rw, 0, .num, .imm, 30, 2⟩
/-- WWL_DOM_RATE.EN (R234). -/
def F.WWL_DOM_RATE_EN : Field := ⟨.WWL_DOM_RATE, "EN", 31, 31, .rw, 0, .num, .bnd, 31, 2⟩
/-- WWL_DOM_RATE.RATE (R234). -/
def F.WWL_DOM_RATE_RATE : Field := ⟨.WWL_DOM_RATE, "RATE", 23, 0, .rw, 0, .num, .bnd, 31, 2⟩
/-- WWL_DOM_BURST.BURST (R234). -/
def F.WWL_DOM_BURST_BURST : Field := ⟨.WWL_DOM_BURST, "BURST", 15, 0, .rw, 16, .num, .bnd, 31, 2⟩
/-- WWL_DOM_TOKS.TOKS (R234). -/
def F.WWL_DOM_TOKS_TOKS : Field := ⟨.WWL_DOM_TOKS, "TOKS", 31, 0, .ro, 0, .num, .none, 19, 0⟩
/-- WWL_GRP_RATE.EN (R234). -/
def F.WWL_GRP_RATE_EN : Field := ⟨.WWL_GRP_RATE, "EN", 31, 31, .rw, 0, .num, .bnd, 31, 2⟩
/-- WWL_GRP_RATE.RATE (R234). -/
def F.WWL_GRP_RATE_RATE : Field := ⟨.WWL_GRP_RATE, "RATE", 23, 0, .rw, 0, .num, .bnd, 31, 2⟩
/-- WWL_GRP_BURST.BURST (R234). -/
def F.WWL_GRP_BURST_BURST : Field := ⟨.WWL_GRP_BURST, "BURST", 15, 0, .rw, 16, .num, .bnd, 31, 2⟩
/-- WWL_GRP_TOKS.TOKS (R234). -/
def F.WWL_GRP_TOKS_TOKS : Field := ⟨.WWL_GRP_TOKS, "TOKS", 31, 0, .ro, 0, .num, .none, 31, 0⟩
/-- WWL_TGT_RATE.EN (R234). -/
def F.WWL_TGT_RATE_EN : Field := ⟨.WWL_TGT_RATE, "EN", 31, 31, .rw, 0, .num, .bnd, 31, 2⟩
/-- WWL_TGT_RATE.RATE (R234). -/
def F.WWL_TGT_RATE_RATE : Field := ⟨.WWL_TGT_RATE, "RATE", 23, 0, .rw, 0, .num, .bnd, 31, 2⟩
/-- WWL_TGT_BURST.BURST (R234). -/
def F.WWL_TGT_BURST_BURST : Field := ⟨.WWL_TGT_BURST, "BURST", 15, 0, .rw, 16, .num, .bnd, 31, 2⟩
/-- WWL_TGT_TOKS.TOKS (R234). -/
def F.WWL_TGT_TOKS_TOKS : Field := ⟨.WWL_TGT_TOKS, "TOKS", 31, 0, .ro, 0, .num, .none, 31, 0⟩
/-- RTE_GRP_CFG.AFFINITY (R219). -/
def F.RTE_GRP_CFG_AFFINITY : Field := ⟨.RTE_GRP_CFG, "AFFINITY", 1, 0, .rw, 1, .num, .imm, 31, 2⟩
/-- RTE_GRP_STAT.DEPTH (R219). -/
def F.RTE_GRP_STAT_DEPTH : Field := ⟨.RTE_GRP_STAT, "DEPTH", 31, 27, .ro, 0, .img, .none, 15, 0⟩
/-- RTE_GRP_STAT.NEN (R219). -/
def F.RTE_GRP_STAT_NEN : Field := ⟨.RTE_GRP_STAT, "NEN", 16, 0, .ro, 0, .num, .none, 15, 0⟩
/-- RTE_SPREAD_ROT.ROT (R219). -/
def F.RTE_SPREAD_ROT_ROT : Field := ⟨.RTE_SPREAD_ROT, "ROT", 15, 0, .ro, 0, .num, .none, 15, 0⟩
/-- OAS_MODE.MODE (R234). -/
def F.OAS_MODE_MODE : Field := ⟨.OAS_MODE, "MODE", 0, 0, .rw, 0, .num, .bnd, 31, 2⟩
/-- OAS_GUARD.GUARD (R234). -/
def F.OAS_GUARD_GUARD : Field := ⟨.OAS_GUARD, "GUARD", 15, 0, .rw, 500, .num, .bnd, 31, 2⟩
/-- OAS_GCMD.COMMIT (R234). -/
def F.OAS_GCMD_COMMIT : Field := ⟨.OAS_GCMD, "COMMIT", 31, 31, .w1p, 0, .num, .imm, 0, 2⟩
/-- OAS_GCMD.PENDING (R234). -/
def F.OAS_GCMD_PENDING : Field := ⟨.OAS_GCMD, "PENDING", 30, 30, .ro, 0, .num, .none, 31, 2⟩
/-- OAS_GCMD.ERR (R234). -/
def F.OAS_GCMD_ERR : Field := ⟨.OAS_GCMD, "ERR", 29, 28, .ro, 0, .num, .none, 0, 2⟩
/-- OAS_STATUS.NO_ROOM (R234). -/
def F.OAS_STATUS_NO_ROOM : Field := ⟨.OAS_STATUS, "NO_ROOM", 4, 4, .rc, 0, .num, .none, 14, 0⟩
/-- OAS_STATUS.DEFER (R234). -/
def F.OAS_STATUS_DEFER : Field := ⟨.OAS_STATUS, "DEFER", 3, 3, .rc, 0, .num, .none, 14, 0⟩
/-- OAS_STATUS.LATE (R234). -/
def F.OAS_STATUS_LATE : Field := ⟨.OAS_STATUS, "LATE", 2, 2, .rc, 0, .num, .none, 14, 0⟩
/-- OAS_STATUS.EMPTY (R234). -/
def F.OAS_STATUS_EMPTY : Field := ⟨.OAS_STATUS, "EMPTY", 1, 1, .ro, 0, .num, .none, 0, 0⟩
/-- OAS_STATUS.GATED (R234). -/
def F.OAS_STATUS_GATED : Field := ⟨.OAS_STATUS, "GATED", 0, 0, .ro, 0, .num, .none, 0, 0⟩
/-- OAS_LATE_K.K (R234). -/
def F.OAS_LATE_K_K : Field := ⟨.OAS_LATE_K, "K", 31, 0, .ro, 0, .num, .none, 14, 0⟩
/-- OAS_LIVE.LIVE (R234). -/
def F.OAS_LIVE_LIVE : Field := ⟨.OAS_LIVE, "LIVE", 15, 0, .ro, 0, .num, .none, 0, 0⟩
/-- OAS_ADM_BASE_LO.BASE (R234). -/
def F.OAS_ADM_BASE_LO_BASE : Field := ⟨.OAS_ADM_BASE_LO, "BASE", 31, 0, .rw, 0, .num, .imm, 31, 2⟩
/-- OAS_ADM_BASE_HI.BASE (R234). -/
def F.OAS_ADM_BASE_HI_BASE : Field := ⟨.OAS_ADM_BASE_HI, "BASE", 31, 0, .rw, 0, .num, .imm, 31, 2⟩
/-- OAS_ADM_CYCLE.CYCLE (R234). -/
def F.OAS_ADM_CYCLE_CYCLE : Field := ⟨.OAS_ADM_CYCLE, "CYCLE", 31, 0, .rw, 0, .num, .imm, 31, 2⟩
/-- OAS_ADM_LEN.LEN (R234). -/
def F.OAS_ADM_LEN_LEN : Field := ⟨.OAS_ADM_LEN, "LEN", 5, 0, .rw, 0, .num, .imm, 31, 2⟩
/-- OAS_OPER_START_LO.START (R234). -/
def F.OAS_OPER_START_LO_START : Field := ⟨.OAS_OPER_START_LO, "START", 31, 0, .ro, 0, .num, .none, 31, 0⟩
/-- OAS_OPER_START_HI.START (R234). -/
def F.OAS_OPER_START_HI_START : Field := ⟨.OAS_OPER_START_HI, "START", 31, 0, .ro, 0, .num, .none, 31, 0⟩
/-- OAS_PEND_START_LO.START (R234). -/
def F.OAS_PEND_START_LO_START : Field := ⟨.OAS_PEND_START_LO, "START", 31, 0, .ro, 0, .num, .none, 31, 0⟩
/-- OAS_PEND_START_HI.START (R234). -/
def F.OAS_PEND_START_HI_START : Field := ⟨.OAS_PEND_START_HI, "START", 31, 0, .ro, 0, .num, .none, 31, 0⟩
/-- OAS_OPER_CYCLE.CYCLE (R234). -/
def F.OAS_OPER_CYCLE_CYCLE : Field := ⟨.OAS_OPER_CYCLE, "CYCLE", 31, 0, .ro, 0, .num, .none, 31, 0⟩
/-- OAS_OPER_LEN.LEN (R234). -/
def F.OAS_OPER_LEN_LEN : Field := ⟨.OAS_OPER_LEN, "LEN", 5, 0, .ro, 0, .num, .none, 31, 0⟩
/-- OAS_ADM_ENT.OPEN (R234). -/
def F.OAS_ADM_ENT_OPEN : Field := ⟨.OAS_ADM_ENT, "OPEN", 31, 31, .rw, 0, .num, .imm, 31, 2⟩
/-- OAS_ADM_ENT.INTERVAL (R234). -/
def F.OAS_ADM_ENT_INTERVAL : Field := ⟨.OAS_ADM_ENT, "INTERVAL", 23, 0, .rw, 0, .num, .imm, 31, 2⟩
/-- OAS_OPER_ENT.OPEN (R234). -/
def F.OAS_OPER_ENT_OPEN : Field := ⟨.OAS_OPER_ENT, "OPEN", 31, 31, .ro, 0, .num, .none, 31, 0⟩
/-- OAS_OPER_ENT.INTERVAL (R234). -/
def F.OAS_OPER_ENT_INTERVAL : Field := ⟨.OAS_OPER_ENT, "INTERVAL", 23, 0, .ro, 0, .num, .none, 31, 0⟩
/-- RTE_TGT_CFG.EN (R219). -/
def F.RTE_TGT_CFG_EN : Field := ⟨.RTE_TGT_CFG, "EN", 31, 31, .rw, 0, .num, .imm, 31, 2⟩
/-- RTE_TGT_CFG.ANY (R219). -/
def F.RTE_TGT_CFG_ANY : Field := ⟨.RTE_TGT_CFG, "ANY", 30, 30, .rw, 0, .num, .imm, 31, 2⟩
/-- RTE_TGT_CFG.OWNER (R219). -/
def F.RTE_TGT_CFG_OWNER : Field := ⟨.RTE_TGT_CFG, "OWNER", 27, 16, .rw, 0, .num, .imm, 31, 2⟩
/-- RTE_TGT_CFG.PRE_MAX (R219). -/
def F.RTE_TGT_CFG_PRE_MAX : Field := ⟨.RTE_TGT_CFG, "PRE_MAX", 15, 12, .rw, 0, .num, .imm, 31, 2⟩
/-- RTE_TGT_CFG.OUT_MAX (R219). -/
def F.RTE_TGT_CFG_OUT_MAX : Field := ⟨.RTE_TGT_CFG, "OUT_MAX", 7, 0, .rw, 16, .num, .imm, 31, 2⟩
/-- RTE_TGT_RT.MASK (R219). -/
def F.RTE_TGT_RT_MASK : Field := ⟨.RTE_TGT_RT, "MASK", 31, 31, .rw, 0, .num, .imm, 19, 1⟩
/-- RTE_TGT_RT.RTHRESH (R219). -/
def F.RTE_TGT_RT_RTHRESH : Field := ⟨.RTE_TGT_RT, "RTHRESH", 7, 0, .rw, 255, .num, .imm, 19, 1⟩
/-- RTE_TGT_STAT.HEADP (R219). -/
def F.RTE_TGT_STAT_HEADP : Field := ⟨.RTE_TGT_STAT, "HEADP", 31, 24, .ro, 0, .num, .none, 0, 0⟩
/-- RTE_TGT_STAT.HEADV (R219). -/
def F.RTE_TGT_STAT_HEADV : Field := ⟨.RTE_TGT_STAT, "HEADV", 23, 23, .ro, 0, .num, .none, 0, 0⟩
/-- RTE_TGT_STAT.WAIT (R219). -/
def F.RTE_TGT_STAT_WAIT : Field := ⟨.RTE_TGT_STAT, "WAIT", 22, 20, .ro, 0, .num, .none, 0, 0⟩
/-- RTE_TGT_STAT.RUNP (R219). -/
def F.RTE_TGT_STAT_RUNP : Field := ⟨.RTE_TGT_STAT, "RUNP", 19, 12, .ro, 0, .num, .none, 0, 0⟩
/-- RTE_TGT_STAT.ACTIVE (R219). -/
def F.RTE_TGT_STAT_ACTIVE : Field := ⟨.RTE_TGT_STAT, "ACTIVE", 8, 0, .ro, 0, .num, .none, 0, 0⟩
/-- CMP_TGT_CFG.RD_MAX (R257). -/
def F.CMP_TGT_CFG_RD_MAX : Field := ⟨.CMP_TGT_CFG, "RD_MAX", 19, 16, .rw, 3, .num, .imm, 31, 2⟩
/-- CMP_TGT_CFG.RD_TIMEOUT (R257). -/
def F.CMP_TGT_CFG_RD_TIMEOUT : Field := ⟨.CMP_TGT_CFG, "RD_TIMEOUT", 15, 0, .rw, 0, .num, .imm, 31, 2⟩
/-- DLV_RING_BASE_LO.BASE (R257). -/
def F.DLV_RING_BASE_LO_BASE : Field := ⟨.DLV_RING_BASE_LO, "BASE", 31, 12, .rw, 0, .num, .dis, 31, 2⟩
/-- DLV_RING_BASE_HI.BASE (R257). -/
def F.DLV_RING_BASE_HI_BASE : Field := ⟨.DLV_RING_BASE_HI, "BASE", 31, 0, .rw, 0, .num, .dis, 31, 2⟩
/-- DLV_RING_CFG.RSTPTR (R257). -/
def F.DLV_RING_CFG_RSTPTR : Field := ⟨.DLV_RING_CFG, "RSTPTR", 31, 31, .w1p, 0, .num, .dis, 0, 2⟩
/-- DLV_RING_CFG.NMODE (R257). -/
def F.DLV_RING_CFG_NMODE : Field := ⟨.DLV_RING_CFG, "NMODE", 30, 29, .rw, 0, .num, .imm, 31, 2⟩
/-- DLV_RING_CFG.NS (R257). -/
def F.DLV_RING_CFG_NS : Field := ⟨.DLV_RING_CFG, "NS", 28, 28, .rw, 0, .num, .dis, 31, 2⟩
/-- DLV_RING_CFG.FUNC (R257). -/
def F.DLV_RING_CFG_FUNC : Field := ⟨.DLV_RING_CFG, "FUNC", 27, 16, .rw, 0, .num, .dis, 31, 2⟩
/-- DLV_RING_CFG.HPORT (R257). -/
def F.DLV_RING_CFG_HPORT : Field := ⟨.DLV_RING_CFG, "HPORT", 14, 8, .rw, 0, .num, .dis, 31, 2⟩
/-- DLV_RING_CFG.ORDER (R257). -/
def F.DLV_RING_CFG_ORDER : Field := ⟨.DLV_RING_CFG, "ORDER", 4, 0, .rw, 0, .num, .dis, 31, 2⟩
/-- DLV_NOTIFY_ADDR_LO.ADDR (R257). -/
def F.DLV_NOTIFY_ADDR_LO_ADDR : Field := ⟨.DLV_NOTIFY_ADDR_LO, "ADDR", 31, 2, .rw, 0, .num, .imm, 31, 2⟩
/-- DLV_NOTIFY_ADDR_HI.ADDR (R257). -/
def F.DLV_NOTIFY_ADDR_HI_ADDR : Field := ⟨.DLV_NOTIFY_ADDR_HI, "ADDR", 31, 0, .rw, 0, .num, .imm, 31, 2⟩
/-- DLV_NOTIFY_DATA.NDATA (R257). -/
def F.DLV_NOTIFY_DATA_NDATA : Field := ⟨.DLV_NOTIFY_DATA, "NDATA", 31, 0, .rw, 0, .num, .imm, 31, 2⟩
/-- DLV_RING_PTR.ARM (R257). -/
def F.DLV_RING_PTR_ARM : Field := ⟨.DLV_RING_PTR, "ARM", 31, 31, .ro, 0, .num, .none, 3, 0⟩
/-- DLV_RING_PTR.PI (R257). -/
def F.DLV_RING_PTR_PI : Field := ⟨.DLV_RING_PTR, "PI", 20, 0, .ro, 0, .num, .none, 3, 0⟩
/-- DLV_RING_CI.CI (R257). -/
def F.DLV_RING_CI_CI : Field := ⟨.DLV_RING_CI, "CI", 20, 0, .ro, 0, .num, .none, 3, 0⟩
/-- VFM_VF_STATUS.STATUS (R321). -/
def F.VFM_VF_STATUS_STATUS : Field := ⟨.VFM_VF_STATUS, "STATUS", 7, 0, .rc, 0, .num, .none, 3, 0⟩
/-- VFM_VF_IRQ_EN.EN (R321). -/
def F.VFM_VF_IRQ_EN_EN : Field := ⟨.VFM_VF_IRQ_EN, "EN", 7, 0, .rw, 0, .num, .imm, 3, 1⟩
/-- VFM_RT.THOLD (R321). -/
def F.VFM_RT_THOLD : Field := ⟨.VFM_RT, "THOLD", 0, 0, .rw, 0, .num, .imm, 3, 1⟩
/-- PWR_VOTE.AWAKE (R343). -/
def F.PWR_VOTE_AWAKE : Field := ⟨.PWR_VOTE, "AWAKE", 0, 0, .rw, 1, .num, .imm, 3, 1⟩
/-- PWR_WAKE_SRC.CODE (R344). -/
def F.PWR_WAKE_SRC_CODE : Field := ⟨.PWR_WAKE_SRC, "CODE", 31, 28, .ro, 0, .num, .none, 3, 0⟩
/-- PWR_WAKE_SRC.SEQ (R344). -/
def F.PWR_WAKE_SRC_SEQ : Field := ⟨.PWR_WAKE_SRC, "SEQ", 23, 0, .ro, 0, .num, .none, 3, 0⟩
/-- VFM_DOM_CTRL.FREEZE (R321). -/
def F.VFM_DOM_CTRL_FREEZE : Field := ⟨.VFM_DOM_CTRL, "FREEZE", 2, 2, .rw, 0, .num, .imm, 3, 2⟩
/-- VFM_DOM_CTRL.MHOLD (R321). -/
def F.VFM_DOM_CTRL_MHOLD : Field := ⟨.VFM_DOM_CTRL, "MHOLD", 1, 1, .rw, 0, .num, .imm, 3, 2⟩
/-- VFM_DOM_CTRL.EN (R321). -/
def F.VFM_DOM_CTRL_EN : Field := ⟨.VFM_DOM_CTRL, "EN", 0, 0, .rw, 0, .num, .imm, 3, 2⟩
/-- VFM_SHARE.RANK (R321). -/
def F.VFM_SHARE_RANK : Field := ⟨.VFM_SHARE, "RANK", 12, 0, .rw, 0, .num, .bnd, 31, 2⟩
/-- VFM_DOM_STAT.FENCE_CAUSE (R321). -/
def F.VFM_DOM_STAT_FENCE_CAUSE : Field := ⟨.VFM_DOM_STAT, "FENCE_CAUSE", 9, 7, .ro, 0, .num, .none, 15, 0⟩
/-- VFM_DOM_STAT.ADMIT_CLOSED (R321). -/
def F.VFM_DOM_STAT_ADMIT_CLOSED : Field := ⟨.VFM_DOM_STAT, "ADMIT_CLOSED", 6, 6, .ro, 0, .num, .none, 0, 0⟩
/-- VFM_DOM_STAT.RESETTING (R321). -/
def F.VFM_DOM_STAT_RESETTING : Field := ⟨.VFM_DOM_STAT, "RESETTING", 5, 5, .ro, 0, .num, .none, 0, 0⟩
/-- VFM_DOM_STAT.SAVED (R321). -/
def F.VFM_DOM_STAT_SAVED : Field := ⟨.VFM_DOM_STAT, "SAVED", 4, 4, .ro, 0, .num, .none, 3, 0⟩
/-- VFM_DOM_STAT.FENCED (R321). -/
def F.VFM_DOM_STAT_FENCED : Field := ⟨.VFM_DOM_STAT, "FENCED", 3, 3, .ro, 0, .num, .none, 15, 0⟩
/-- VFM_DOM_STAT.FROZEN (R321). -/
def F.VFM_DOM_STAT_FROZEN : Field := ⟨.VFM_DOM_STAT, "FROZEN", 2, 2, .ro, 0, .num, .none, 0, 0⟩
/-- VFM_DOM_STAT.DRAINED (R321). -/
def F.VFM_DOM_STAT_DRAINED : Field := ⟨.VFM_DOM_STAT, "DRAINED", 1, 1, .ro, 0, .num, .none, 0, 0⟩
/-- VFM_DOM_STAT.HELD (R321). -/
def F.VFM_DOM_STAT_HELD : Field := ⟨.VFM_DOM_STAT, "HELD", 0, 0, .ro, 0, .num, .none, 0, 0⟩
/-- VFM_IRQ_CFG.EN (R321). -/
def F.VFM_IRQ_CFG_EN : Field := ⟨.VFM_IRQ_CFG, "EN", 31, 31, .rw, 0, .num, .imm, 31, 2⟩
/-- VFM_IRQ_CFG.HPORT (R321). -/
def F.VFM_IRQ_CFG_HPORT : Field := ⟨.VFM_IRQ_CFG, "HPORT", 6, 0, .rw, 0, .num, .imm, 31, 2⟩
/-- VFM_IRQ_ADDR_LO.ADDR (R321). -/
def F.VFM_IRQ_ADDR_LO_ADDR : Field := ⟨.VFM_IRQ_ADDR_LO, "ADDR", 31, 2, .rw, 0, .num, .imm, 31, 2⟩
/-- VFM_IRQ_ADDR_HI.ADDR (R321). -/
def F.VFM_IRQ_ADDR_HI_ADDR : Field := ⟨.VFM_IRQ_ADDR_HI, "ADDR", 31, 0, .rw, 0, .num, .imm, 31, 2⟩
/-- VFM_IRQ_DATA.DATA (R321). -/
def F.VFM_IRQ_DATA_DATA : Field := ⟨.VFM_IRQ_DATA, "DATA", 31, 0, .rw, 0, .num, .imm, 31, 2⟩
/-- VFM_DOM_CMD.GO (R321). -/
def F.VFM_DOM_CMD_GO : Field := ⟨.VFM_DOM_CMD, "GO", 31, 31, .w1p, 0, .num, .imm, 0, 2⟩
/-- VFM_DOM_CMD.BUSY (R321). -/
def F.VFM_DOM_CMD_BUSY : Field := ⟨.VFM_DOM_CMD, "BUSY", 30, 30, .ro, 0, .num, .none, 0, 2⟩
/-- VFM_DOM_CMD.ERR (R321). -/
def F.VFM_DOM_CMD_ERR : Field := ⟨.VFM_DOM_CMD, "ERR", 29, 27, .ro, 0, .num, .none, 0, 2⟩
/-- VFM_DOM_CMD.OP (R321). -/
def F.VFM_DOM_CMD_OP : Field := ⟨.VFM_DOM_CMD, "OP", 26, 24, .rw, 0, .num, .imm, 0, 2⟩
/-- VFM_XFER_LO.ADDR (R321). -/
def F.VFM_XFER_LO_ADDR : Field := ⟨.VFM_XFER_LO, "ADDR", 31, 6, .rw, 0, .num, .imm, 11, 2⟩
/-- VFM_XFER_HI.ADDR (R321). -/
def F.VFM_XFER_HI_ADDR : Field := ⟨.VFM_XFER_HI, "ADDR", 8, 0, .rw, 0, .num, .imm, 11, 2⟩
/-- VFM_XFER_LEN.LEN (R321). -/
def F.VFM_XFER_LEN_LEN : Field := ⟨.VFM_XFER_LEN, "LEN", 24, 0, .ro, 0, .num, .none, 11, 0⟩
/-- VFM_XFER_SKIP.SKIP (R321). -/
def F.VFM_XFER_SKIP_SKIP : Field := ⟨.VFM_XFER_SKIP, "SKIP", 8, 0, .ro, 0, .num, .none, 11, 0⟩
/-- VFM_SAVE_LOST.CNT (R321). -/
def F.VFM_SAVE_LOST_CNT : Field := ⟨.VFM_SAVE_LOST, "CNT", 31, 0, .ro, 0, .num, .none, 3, 0⟩
/-- VFM_FLR_DIRTY.VALID (R321). -/
def F.VFM_FLR_DIRTY_VALID : Field := ⟨.VFM_FLR_DIRTY, "VALID", 31, 31, .rc, 0, .num, .none, 11, 0⟩
/-- VFM_FLR_DIRTY.DIRTY (R321). -/
def F.VFM_FLR_DIRTY_DIRTY : Field := ⟨.VFM_FLR_DIRTY, "DIRTY", 30, 30, .ro, 0, .num, .none, 11, 0⟩
/-- VFM_FLR_PEND.CNT (R321). -/
def F.VFM_FLR_PEND_CNT : Field := ⟨.VFM_FLR_PEND, "CNT", 31, 0, .ro, 0, .num, .none, 11, 0⟩
/-- VFM_FLR_ACT.CNT (R321). -/
def F.VFM_FLR_ACT_CNT : Field := ⟨.VFM_FLR_ACT, "CNT", 31, 0, .ro, 0, .num, .none, 11, 0⟩
/-- VFM_FLR_UNISS.CNT (R321). -/
def F.VFM_FLR_UNISS_CNT : Field := ⟨.VFM_FLR_UNISS, "CNT", 31, 0, .ro, 0, .num, .none, 11, 0⟩
/-- VFM_FLR_EGR.CNT (R321). -/
def F.VFM_FLR_EGR_CNT : Field := ⟨.VFM_FLR_EGR, "CNT", 31, 0, .ro, 0, .num, .none, 11, 0⟩
/-- VFM_FLR_DROP.CNT (R321). -/
def F.VFM_FLR_DROP_CNT : Field := ⟨.VFM_FLR_DROP, "CNT", 31, 0, .ro, 0, .num, .none, 11, 0⟩
/-- SST_RTCMD.GO (R165). -/
def F.SST_RTCMD_GO : Field := ⟨.SST_RTCMD, "GO", 31, 31, .w1p, 0, .num, .imm, 0, 1⟩
/-- SST_RTCMD.BUSY (R165). -/
def F.SST_RTCMD_BUSY : Field := ⟨.SST_RTCMD, "BUSY", 30, 30, .ro, 0, .num, .none, 0, 1⟩
/-- SST_RTCMD.ERR (R165). -/
def F.SST_RTCMD_ERR : Field := ⟨.SST_RTCMD, "ERR", 29, 27, .ro, 0, .num, .none, 0, 1⟩
/-- SST_RTCMD.OP (R165). -/
def F.SST_RTCMD_OP : Field := ⟨.SST_RTCMD, "OP", 26, 24, .rw, 0, .num, .imm, 0, 1⟩
/-- SST_RTCMD.EID (R165). -/
def F.SST_RTCMD_EID : Field := ⟨.SST_RTCMD, "EID", 23, 0, .rw, 0, .num, .imm, 0, 1⟩
/-- SST_RTCNT.CNT (R165). -/
def F.SST_RTCNT_CNT : Field := ⟨.SST_RTCNT, "CNT", 15, 0, .rw, 0, .num, .imm, 0, 1⟩
/-- SST_CFGCMD.GO (R165). -/
def F.SST_CFGCMD_GO : Field := ⟨.SST_CFGCMD, "GO", 31, 31, .w1p, 0, .num, .imm, 0, 2⟩
/-- SST_CFGCMD.BUSY (R165). -/
def F.SST_CFGCMD_BUSY : Field := ⟨.SST_CFGCMD, "BUSY", 30, 30, .ro, 0, .num, .none, 0, 2⟩
/-- SST_CFGCMD.ERR (R165). -/
def F.SST_CFGCMD_ERR : Field := ⟨.SST_CFGCMD, "ERR", 29, 27, .ro, 0, .num, .none, 0, 2⟩
/-- SST_CFGCMD.OP (R165). -/
def F.SST_CFGCMD_OP : Field := ⟨.SST_CFGCMD, "OP", 26, 24, .rw, 0, .num, .imm, 0, 2⟩
/-- SST_CFGCMD.EID (R165). -/
def F.SST_CFGCMD_EID : Field := ⟨.SST_CFGCMD, "EID", 23, 0, .rw, 0, .num, .imm, 0, 2⟩
/-- SST_CFGCNT.CNT (R165). -/
def F.SST_CFGCNT_CNT : Field := ⟨.SST_CFGCNT, "CNT", 15, 0, .rw, 0, .num, .imm, 0, 2⟩
/-- SST_CFGDATA.TYPE (R165). -/
def F.SST_CFGDATA_TYPE : Field := ⟨.SST_CFGDATA, "TYPE", 25, 25, .rw, 0, .num, .imm, 0, 2⟩
/-- SST_CFGDATA.PRIO (R165). -/
def F.SST_CFGDATA_PRIO : Field := ⟨.SST_CFGDATA, "PRIO", 24, 17, .rw, 255, .num, .imm, 0, 2⟩
/-- SST_CFGDATA.RKIND (R165). -/
def F.SST_CFGDATA_RKIND : Field := ⟨.SST_CFGDATA, "RKIND", 16, 16, .rw, 1, .num, .imm, 0, 2⟩
/-- SST_CFGDATA.ROUTE (R165). -/
def F.SST_CFGDATA_ROUTE : Field := ⟨.SST_CFGDATA, "ROUTE", 15, 0, .rw, 0, .num, .imm, 0, 2⟩
/-- SST_ENTRY0.ENTRY (R165). -/
def F.SST_ENTRY0_ENTRY : Field := ⟨.SST_ENTRY0, "ENTRY", 31, 0, .ro, 0, .num, .none, 0, 0⟩
/-- SST_ENTRY1.ENTRY (R165). -/
def F.SST_ENTRY1_ENTRY : Field := ⟨.SST_ENTRY1, "ENTRY", 31, 0, .ro, 0, .num, .none, 0, 0⟩
/-- CVN_MODE.CONTINUE (R199). -/
def F.CVN_MODE_CONTINUE : Field := ⟨.CVN_MODE, "CONTINUE", 1, 1, .rw, 0, .num, .dis, 31, 2⟩
/-- CVN_MODE.MODE (R199). -/
def F.CVN_MODE_MODE : Field := ⟨.CVN_MODE, "MODE", 0, 0, .rw, 0, .num, .dis, 31, 2⟩
/-- CVN_EPOCH_CFG.CEIL_MULT (R199). -/
def F.CVN_EPOCH_CFG_CEIL_MULT : Field := ⟨.CVN_EPOCH_CFG, "CEIL_MULT", 31, 24, .rw, 4, .num, .bnd, 31, 2⟩
/-- CVN_EPOCH_CFG.LEN (R199). -/
def F.CVN_EPOCH_CFG_LEN : Field := ⟨.CVN_EPOCH_CFG, "LEN", 13, 0, .rw, 39, .num, .bnd, 31, 2⟩
/-- CVN_HOLD_CFG.HOLD_MAX (R199). -/
def F.CVN_HOLD_CFG_HOLD_MAX : Field := ⟨.CVN_HOLD_CFG, "HOLD_MAX", 31, 16, .rw, 0, .num, .bnd, 31, 2⟩
/-- CVN_HOLD_CFG.SLACK (R199). -/
def F.CVN_HOLD_CFG_SLACK : Field := ⟨.CVN_HOLD_CFG, "SLACK", 15, 0, .rw, 64, .num, .bnd, 31, 2⟩
/-- CVN_VERDICT.RUN (R199). -/
def F.CVN_VERDICT_RUN : Field := ⟨.CVN_VERDICT, "RUN", 31, 31, .ro, 0, .num, .none, 19, 0⟩
/-- CVN_VERDICT.ENDED (R199). -/
def F.CVN_VERDICT_ENDED : Field := ⟨.CVN_VERDICT, "ENDED", 30, 30, .ro, 0, .num, .none, 19, 0⟩
/-- CVN_VERDICT.FIRST (R199). -/
def F.CVN_VERDICT_FIRST : Field := ⟨.CVN_VERDICT, "FIRST", 10, 8, .ro, 0, .num, .none, 19, 0⟩
/-- CVN_VERDICT.KEPT (R199). -/
def F.CVN_VERDICT_KEPT : Field := ⟨.CVN_VERDICT, "KEPT", 5, 0, .ro, 0, .num, .none, 19, 0⟩
/-- CVN_BREAK_EPOCH.EPOCH (R199). -/
def F.CVN_BREAK_EPOCH_EPOCH : Field := ⟨.CVN_BREAK_EPOCH, "EPOCH", 31, 0, .ro, 0, .num, .none, 19, 0⟩
/-- CVN_RUN_IMG.CRC (R199). -/
def F.CVN_RUN_IMG_CRC : Field := ⟨.CVN_RUN_IMG, "CRC", 31, 0, .ro, 0, .num, .none, 19, 0⟩
/-- CVN_RUN_CFG.CRC (R199). -/
def F.CVN_RUN_CFG_CRC : Field := ⟨.CVN_RUN_CFG, "CRC", 31, 0, .ro, 0, .num, .none, 19, 0⟩
/-- CVN_RUN_ROLE.REF_VALID (R199). -/
def F.CVN_RUN_ROLE_REF_VALID : Field := ⟨.CVN_RUN_ROLE, "REF_VALID", 2, 2, .ro, 0, .num, .none, 19, 0⟩
/-- CVN_RUN_ROLE.ROLE (R199). -/
def F.CVN_RUN_ROLE_ROLE : Field := ⟨.CVN_RUN_ROLE, "ROLE", 1, 0, .ro, 0, .num, .none, 19, 0⟩
/-- CVN_STATUS.HOLD_FULL (R199). -/
def F.CVN_STATUS_HOLD_FULL : Field := ⟨.CVN_STATUS, "HOLD_FULL", 8, 8, .rc, 0, .num, .none, 3, 0⟩
/-- CVN_STATUS.LATE (R199). -/
def F.CVN_STATUS_LATE : Field := ⟨.CVN_STATUS, "LATE", 7, 7, .rc, 0, .num, .none, 3, 0⟩
/-- CVN_STATUS.QUIET_EVT (R199). -/
def F.CVN_STATUS_QUIET_EVT : Field := ⟨.CVN_STATUS, "QUIET_EVT", 6, 6, .rc, 0, .num, .none, 3, 0⟩
/-- CVN_STATUS.NONMEMBER (R199). -/
def F.CVN_STATUS_NONMEMBER : Field := ⟨.CVN_STATUS, "NONMEMBER", 5, 5, .rc, 0, .num, .none, 3, 0⟩
/-- CVN_STATUS.COUNT_MISMATCH (R199). -/
def F.CVN_STATUS_COUNT_MISMATCH : Field := ⟨.CVN_STATUS, "COUNT_MISMATCH", 4, 4, .rc, 0, .num, .none, 3, 0⟩
/-- CVN_STATUS.WM_BAD (R199). -/
def F.CVN_STATUS_WM_BAD : Field := ⟨.CVN_STATUS, "WM_BAD", 3, 3, .rc, 0, .num, .none, 3, 0⟩
/-- CVN_STATUS.WM_STALE (R199). -/
def F.CVN_STATUS_WM_STALE : Field := ⟨.CVN_STATUS, "WM_STALE", 2, 2, .rc, 0, .num, .none, 3, 0⟩
/-- CVN_STATUS.STRAGGLER (R199). -/
def F.CVN_STATUS_STRAGGLER : Field := ⟨.CVN_STATUS, "STRAGGLER", 1, 1, .rc, 0, .num, .none, 3, 0⟩
/-- CVN_STATUS.OVERDUE (R199). -/
def F.CVN_STATUS_OVERDUE : Field := ⟨.CVN_STATUS, "OVERDUE", 0, 0, .rc, 0, .num, .none, 3, 0⟩
/-- CVN_STRAG_LOG.VALID (R199). -/
def F.CVN_STRAG_LOG_VALID : Field := ⟨.CVN_STRAG_LOG, "VALID", 31, 31, .rc, 0, .num, .none, 3, 0⟩
/-- CVN_STRAG_LOG.CAUSE (R199). -/
def F.CVN_STRAG_LOG_CAUSE : Field := ⟨.CVN_STRAG_LOG, "CAUSE", 30, 30, .rc, 0, .num, .none, 3, 0⟩
/-- CVN_STRAG_LOG.CNT (R199). -/
def F.CVN_STRAG_LOG_CNT : Field := ⟨.CVN_STRAG_LOG, "CNT", 29, 16, .rc, 0, .num, .none, 3, 0⟩
/-- CVN_STRAG_LOG.ORDINAL (R199). -/
def F.CVN_STRAG_LOG_ORDINAL : Field := ⟨.CVN_STRAG_LOG, "ORDINAL", 15, 0, .rc, 0, .num, .none, 3, 0⟩
/-- CVN_RTAPPLY.VALID (R199). -/
def F.CVN_RTAPPLY_VALID : Field := ⟨.CVN_RTAPPLY, "VALID", 31, 31, .rc, 0, .num, .none, 3, 0⟩
/-- CVN_RTAPPLY.CNT (R199). -/
def F.CVN_RTAPPLY_CNT : Field := ⟨.CVN_RTAPPLY, "CNT", 30, 24, .rc, 0, .num, .none, 3, 0⟩
/-- CVN_RTAPPLY.EPOCH (R199). -/
def F.CVN_RTAPPLY_EPOCH : Field := ⟨.CVN_RTAPPLY, "EPOCH", 23, 0, .rc, 0, .num, .none, 3, 0⟩
/-- RTE_TCMD.GO (R219). -/
def F.RTE_TCMD_GO : Field := ⟨.RTE_TCMD, "GO", 31, 31, .w1p, 0, .num, .imm, 0, 1⟩
/-- RTE_TCMD.BUSY (R219). -/
def F.RTE_TCMD_BUSY : Field := ⟨.RTE_TCMD, "BUSY", 30, 30, .ro, 0, .num, .none, 0, 1⟩
/-- RTE_TCMD.ERR (R219). -/
def F.RTE_TCMD_ERR : Field := ⟨.RTE_TCMD, "ERR", 29, 28, .ro, 0, .num, .none, 0, 1⟩
/-- RTE_TCMD.OP (R219). -/
def F.RTE_TCMD_OP : Field := ⟨.RTE_TCMD, "OP", 26, 24, .rw, 0, .num, .imm, 0, 1⟩
/-- RTE_TCMD.TARGET (R219). -/
def F.RTE_TCMD_TARGET : Field := ⟨.RTE_TCMD, "TARGET", 15, 0, .rw, 0, .num, .imm, 0, 1⟩
/-- RTE_TDATA.MASK (R219). -/
def F.RTE_TDATA_MASK : Field := ⟨.RTE_TDATA, "MASK", 31, 31, .rw, 0, .num, .imm, 0, 1⟩
/-- RTE_TDATA.RTHRESH (R219). -/
def F.RTE_TDATA_RTHRESH : Field := ⟨.RTE_TDATA, "RTHRESH", 7, 0, .rw, 0, .num, .imm, 0, 1⟩
/-- RNK_DOM_OCC.WAITV (R219). -/
def F.RNK_DOM_OCC_WAITV : Field := ⟨.RNK_DOM_OCC, "WAITV", 31, 31, .ro, 0, .num, .none, 0, 0⟩
/-- RNK_DOM_OCC.OCC (R219). -/
def F.RNK_DOM_OCC_OCC : Field := ⟨.RNK_DOM_OCC, "OCC", 20, 0, .ro, 0, .num, .none, 0, 0⟩
/-- CMP_DBCMD.GO (R257). -/
def F.CMP_DBCMD_GO : Field := ⟨.CMP_DBCMD, "GO", 31, 31, .w1p, 0, .num, .imm, 0, 1⟩
/-- CMP_DBCMD.BUSY (R257). -/
def F.CMP_DBCMD_BUSY : Field := ⟨.CMP_DBCMD, "BUSY", 30, 30, .ro, 0, .num, .none, 0, 1⟩
/-- CMP_DBCMD.ERR (R257). -/
def F.CMP_DBCMD_ERR : Field := ⟨.CMP_DBCMD, "ERR", 29, 28, .ro, 0, .num, .none, 0, 1⟩
/-- CMP_DBCMD.OP (R257). -/
def F.CMP_DBCMD_OP : Field := ⟨.CMP_DBCMD, "OP", 27, 26, .rw, 0, .num, .imm, 0, 1⟩
/-- CMP_DBCMD.FRING (R257). -/
def F.CMP_DBCMD_FRING : Field := ⟨.CMP_DBCMD, "FRING", 16, 16, .rw, 0, .num, .imm, 0, 1⟩
/-- CMP_DBCMD.TARGET (R257). -/
def F.CMP_DBCMD_TARGET : Field := ⟨.CMP_DBCMD, "TARGET", 15, 0, .rw, 0, .num, .imm, 0, 1⟩
/-- CMP_DBDATA.DATA (R257). -/
def F.CMP_DBDATA_DATA : Field := ⟨.CMP_DBDATA, "DATA", 31, 0, .rw, 0, .num, .imm, 0, 1⟩
/-- WAY_MODE.FULLACT (R281). -/
def F.WAY_MODE_FULLACT : Field := ⟨.WAY_MODE, "FULLACT", 1, 1, .rw, 0, .num, .dis, 11, 2⟩
/-- WAY_MODE.MODE (R281). -/
def F.WAY_MODE_MODE : Field := ⟨.WAY_MODE, "MODE", 0, 0, .rw, 0, .num, .dis, 11, 2⟩
/-- WAY_AREA_BASE.BASE (R281). -/
def F.WAY_AREA_BASE_BASE : Field := ⟨.WAY_AREA_BASE, "BASE", 20, 0, .rw, 0, .num, .dis, 11, 2⟩
/-- WAY_AREA_SIZE.SIZE (R281). -/
def F.WAY_AREA_SIZE_SIZE : Field := ⟨.WAY_AREA_SIZE, "SIZE", 20, 0, .rw, 0, .num, .dis, 11, 2⟩
/-- WAY_SEG.SEG_LEN (R281). -/
def F.WAY_SEG_SEG_LEN : Field := ⟨.WAY_SEG, "SEG_LEN", 15, 0, .rw, 0, .num, .bnd, 11, 2⟩
/-- WAY_ARCH_LO.ARCH (R281). -/
def F.WAY_ARCH_LO_ARCH : Field := ⟨.WAY_ARCH_LO, "ARCH", 31, 0, .rw, 0, .num, .imm, 19, 2⟩
/-- WAY_ARCH_HI.ARCH (R281). -/
def F.WAY_ARCH_HI_ARCH : Field := ⟨.WAY_ARCH_HI, "ARCH", 31, 0, .rw, 0, .num, .imm, 19, 2⟩
/-- WAY_CMD.FLUSH (R281). -/
def F.WAY_CMD_FLUSH : Field := ⟨.WAY_CMD, "FLUSH", 31, 31, .w1p, 0, .num, .imm, 0, 2⟩
/-- WAY_CMD.NEWSEG (R281). -/
def F.WAY_CMD_NEWSEG : Field := ⟨.WAY_CMD, "NEWSEG", 30, 30, .w1p, 0, .num, .imm, 0, 2⟩
/-- WAY_STATUS.LAP (R281). -/
def F.WAY_STATUS_LAP : Field := ⟨.WAY_STATUS, "LAP", 6, 6, .ro, 0, .num, .none, 19, 0⟩
/-- WAY_STATUS.BP (R281). -/
def F.WAY_STATUS_BP : Field := ⟨.WAY_STATUS, "BP", 5, 5, .ro, 0, .num, .none, 0, 0⟩
/-- WAY_STATUS.FULL (R281). -/
def F.WAY_STATUS_FULL : Field := ⟨.WAY_STATUS, "FULL", 4, 4, .ro, 0, .num, .none, 0, 0⟩
/-- WAY_STATUS.WRAPPED (R281). -/
def F.WAY_STATUS_WRAPPED : Field := ⟨.WAY_STATUS, "WRAPPED", 3, 3, .rc, 0, .num, .none, 3, 0⟩
/-- WAY_STATUS.GAP (R281). -/
def F.WAY_STATUS_GAP : Field := ⟨.WAY_STATUS, "GAP", 2, 2, .rc, 0, .num, .none, 3, 0⟩
/-- WAY_STATUS.FENCE (R281). -/
def F.WAY_STATUS_FENCE : Field := ⟨.WAY_STATUS, "FENCE", 1, 1, .rc, 0, .num, .none, 3, 0⟩
/-- WAY_STATUS.FLUSHED (R281). -/
def F.WAY_STATUS_FLUSHED : Field := ⟨.WAY_STATUS, "FLUSHED", 0, 0, .rc, 0, .num, .none, 3, 0⟩
/-- WAY_LOST_PEND.LOST (R281). -/
def F.WAY_LOST_PEND_LOST : Field := ⟨.WAY_LOST_PEND, "LOST", 31, 0, .ro, 0, .num, .none, 3, 0⟩
/-- RPL_MODE.LAP0 (R281). -/
def F.RPL_MODE_LAP0 : Field := ⟨.RPL_MODE, "LAP0", 2, 2, .rw, 0, .num, .dis, 11, 2⟩
/-- RPL_MODE.PARK_ACT (R281). -/
def F.RPL_MODE_PARK_ACT : Field := ⟨.RPL_MODE, "PARK_ACT", 1, 1, .rw, 0, .num, .dis, 11, 2⟩
/-- RPL_MODE.MODE (R281). -/
def F.RPL_MODE_MODE : Field := ⟨.RPL_MODE, "MODE", 0, 0, .rw, 0, .num, .dis, 11, 2⟩
/-- RPL_AREA_BASE.BASE (R281). -/
def F.RPL_AREA_BASE_BASE : Field := ⟨.RPL_AREA_BASE, "BASE", 20, 0, .rw, 0, .num, .dis, 11, 2⟩
/-- RPL_AREA_SIZE.SIZE (R281). -/
def F.RPL_AREA_SIZE_SIZE : Field := ⟨.RPL_AREA_SIZE, "SIZE", 20, 0, .rw, 0, .num, .dis, 11, 2⟩
/-- RPL_START_LO.START (R281). -/
def F.RPL_START_LO_START : Field := ⟨.RPL_START_LO, "START", 31, 0, .rw, 0, .num, .dis, 11, 2⟩
/-- RPL_START_HI.START (R281). -/
def F.RPL_START_HI_START : Field := ⟨.RPL_START_HI, "START", 4, 0, .rw, 0, .num, .dis, 11, 2⟩
/-- RPL_LEN_LO.LEN (R281). -/
def F.RPL_LEN_LO_LEN : Field := ⟨.RPL_LEN_LO, "LEN", 31, 0, .rw, 0, .num, .dis, 11, 2⟩
/-- RPL_LEN_HI.LEN (R281). -/
def F.RPL_LEN_HI_LEN : Field := ⟨.RPL_LEN_HI, "LEN", 5, 0, .rw, 0, .num, .dis, 11, 2⟩
/-- RPL_CMD.STOP (R281). -/
def F.RPL_CMD_STOP : Field := ⟨.RPL_CMD, "STOP", 31, 31, .w1p, 0, .num, .imm, 0, 2⟩
/-- RPL_STATUS.STATE (R281). -/
def F.RPL_STATUS_STATE : Field := ⟨.RPL_STATUS, "STATE", 31, 30, .ro, 0, .num, .none, 3, 0⟩
/-- RPL_STATUS.END (R281). -/
def F.RPL_STATUS_END : Field := ⟨.RPL_STATUS, "END", 29, 27, .ro, 0, .num, .none, 3, 0⟩
/-- RPL_STATUS.SKIP (R281). -/
def F.RPL_STATUS_SKIP : Field := ⟨.RPL_STATUS, "SKIP", 2, 2, .rc, 0, .num, .none, 3, 0⟩
/-- RPL_STATUS.FAULT (R281). -/
def F.RPL_STATUS_FAULT : Field := ⟨.RPL_STATUS, "FAULT", 1, 1, .rc, 0, .num, .none, 3, 0⟩
/-- RPL_STATUS.GAP (R281). -/
def F.RPL_STATUS_GAP : Field := ⟨.RPL_STATUS, "GAP", 0, 0, .rc, 0, .num, .none, 3, 0⟩
/-- RPL_DONE_LO.DONE (R281). -/
def F.RPL_DONE_LO_DONE : Field := ⟨.RPL_DONE_LO, "DONE", 31, 0, .ro, 0, .num, .none, 3, 0⟩
/-- RPL_DONE_HI.DONE (R281). -/
def F.RPL_DONE_HI_DONE : Field := ⟨.RPL_DONE_HI, "DONE", 5, 0, .ro, 0, .num, .none, 3, 0⟩
/-- RPL_PARKED.PARKED (R281). -/
def F.RPL_PARKED_PARKED : Field := ⟨.RPL_PARKED, "PARKED", 31, 0, .ro, 0, .num, .none, 3, 0⟩

/-- The fields of a register, reserved bits left out (R9). -/
def Reg.fields : Reg → List Field
  | .REG_VERSION => [F.REG_VERSION_MAJOR, F.REG_VERSION_MINOR]
  | .REG_RST_STAT => [F.REG_RST_STAT_STAGE, F.REG_RST_STAT_LAST, F.REG_RST_STAT_EARLY, F.REG_RST_STAT_WARM_IMG, F.REG_RST_STAT_WARM_IGN, F.REG_RST_STAT_FABRIC_CNT, F.REG_RST_STAT_WARM_CNT]
  | .REG_STRAPS => [F.REG_STRAPS_DBG_MFR, F.REG_STRAPS_RING_PRESENT, F.REG_STRAPS_IMG_PATH, F.REG_STRAPS_AVS_EN, F.REG_STRAPS_AVS_RAIL, F.REG_STRAPS_SB_ADDR]
  | .REG_PARTIAL_WR => [F.REG_PARTIAL_WR_VALID, F.REG_PARTIAL_WR_PORT, F.REG_PARTIAL_WR_FUNC, F.REG_PARTIAL_WR_CNT]
  | .WIN_ADDR => [F.WIN_ADDR_ADDR]
  | .WIN_DATA => [F.WIN_DATA_DATA]
  | .WIN_STATUS => [F.WIN_STATUS_OFF_PORT, F.WIN_STATUS_OFF, F.WIN_STATUS_WAKE]
  | .REG_WIDE_SEL => [F.REG_WIDE_SEL_CAPTURE, F.REG_WIDE_SEL_KIND, F.REG_WIDE_SEL_INDEX]
  | .REG_WIDE_STAT => [F.REG_WIDE_STAT_VALID, F.REG_WIDE_STAT_BUSY, F.REG_WIDE_STAT_ERR]
  | .REG_WIDE_DATA => [F.REG_WIDE_DATA_DATA]
  | .SB_STATUS => [F.SB_STATUS_BUSY, F.SB_STATUS_RESULT, F.SB_STATUS_PEC_ERR, F.SB_STATUS_LAST_CMD]
  | .MGT_PORT_ID => [F.MGT_PORT_ID_FUNC, F.MGT_PORT_ID_PORT]
  | .REG_LOCK => [F.REG_LOCK_SEAL, F.REG_LOCK_RAIL, F.REG_LOCK_KEEP, F.REG_LOCK_ROLE, F.REG_LOCK_AUTH]
  | .REG_LOCKED_WR => [F.REG_LOCKED_WR_VALID, F.REG_LOCKED_WR_PORT, F.REG_LOCKED_WR_FUNC, F.REG_LOCKED_WR_CNT]
  | .REG_LOCKED_IDX => [F.REG_LOCKED_IDX_SPACE, F.REG_LOCKED_IDX_INDEX]
  | .MGT_AUTH => [F.MGT_AUTH_CLASS_MASK]
  | .MGT_DENY => [F.MGT_DENY_VALID, F.MGT_DENY_PORT, F.MGT_DENY_FUNC, F.MGT_DENY_WR, F.MGT_DENY_CLASS, F.MGT_DENY_CNT]
  | .MGT_DENY_IDX => [F.MGT_DENY_IDX_SPACE, F.MGT_DENY_IDX_INDEX]
  | .MGT_MGR_PORTS => [F.MGT_MGR_PORTS_PORTS]
  | .TIM_FT_COMP => [F.TIM_FT_COMP_DELAY]
  | .TIM_STATUS => [F.TIM_STATUS_HOLDOVER, F.TIM_STATUS_JUMP, F.TIM_STATUS_BACKSTEP]
  | .INT_WFIFO_USE => [F.INT_WFIFO_USE_USED]
  | .ERR_PEND => [F.ERR_PEND_PEND]
  | .ERR_MASK => [F.ERR_MASK_MASK]
  | .ERR_IRQ_EN => [F.ERR_IRQ_EN_EN]
  | .ERR_CONTAIN => [F.ERR_CONTAIN_CONTAIN]
  | .ERR_LOG => [F.ERR_LOG_VALID, F.ERR_LOG_CODE, F.ERR_LOG_UNIT, F.ERR_LOG_DOM_VALID, F.ERR_LOG_DOMAIN, F.ERR_LOG_CNT]
  | .ERR_LOG_IDX => [F.ERR_LOG_IDX_INDEX]
  | .ERR_STATUS => [F.ERR_STATUS_HALTED, F.ERR_STATUS_HALT_CODE]
  | .ERR_CNT => [F.ERR_CNT_CNT]
  | .PWR_AUTOSLEEP => [F.PWR_AUTOSLEEP_MODE]
  | .PWR_CMD => [F.PWR_CMD_SLEEP, F.PWR_CMD_BUSY, F.PWR_CMD_ERR]
  | .PWR_POLICY => [F.PWR_POLICY_LINE_WAKE, F.PWR_POLICY_DETACH, F.PWR_POLICY_OFF_RING, F.PWR_POLICY_OFF_TEL, F.PWR_POLICY_OFF_LOG, F.PWR_POLICY_OFF_STATE]
  | .PWR_SLEEP_CFG => [F.PWR_SLEEP_CFG_DRAIN_MAX, F.PWR_SLEEP_CFG_MIN_AWAKE, F.PWR_SLEEP_CFG_MIN_SLEEP]
  | .PWR_VOTE_SB => [F.PWR_VOTE_SB_AWAKE]
  | .PWR_PERF => [F.PWR_PERF_CEIL, F.PWR_PERF_CUR, F.PWR_PERF_REQ]
  | .PWR_VPOINT => [F.PWR_VPOINT_MV]
  | .PWR_RAIL => [F.PWR_RAIL_VMAX, F.PWR_RAIL_VMIN]
  | .PWR_AVS_CFG => [F.PWR_AVS_CFG_RETRY, F.PWR_AVS_CFG_SETTLE]
  | .PWR_CLK => [F.PWR_CLK_TO_PLL, F.PWR_CLK_TO_OSC, F.PWR_CLK_ERR, F.PWR_CLK_PLL_LEFT, F.PWR_CLK_SRC]
  | .PWR_STATUS => [F.PWR_STATUS_STATE, F.PWR_STATUS_DETACHED, F.PWR_STATUS_VHIGH, F.PWR_STATUS_AVS_BUSY, F.PWR_STATUS_AVS_FAIL, F.PWR_STATUS_NO_OFF_AREA, F.PWR_STATUS_OFF_HOLDOFF]
  | .PWR_PD_STAT => [F.PWR_PD_STAT_PD]
  | .PWR_VOTES => [F.PWR_VOTES_VF_CNT, F.PWR_VOTES_VF, F.PWR_VOTES_TDM, F.PWR_VOTES_SB, F.PWR_VOTES_PF]
  | .PWR_LAST_ABORT => [F.PWR_LAST_ABORT_VALID, F.PWR_LAST_ABORT_AP, F.PWR_LAST_ABORT_CAUSE, F.PWR_LAST_ABORT_WHO, F.PWR_LAST_ABORT_WAKE, F.PWR_LAST_ABORT_FUNC]
  | .PWR_PSW_TIMEOUT => [F.PWR_PSW_TIMEOUT_VALID, F.PWR_PSW_TIMEOUT_DIR, F.PWR_PSW_TIMEOUT_DOMAIN]
  | .PWR_ABORT_AP => [F.PWR_ABORT_AP_CNT]
  | .PWR_REFUSE => [F.PWR_REFUSE_CNT]
  | .PWR_ENTRIES => [F.PWR_ENTRIES_CNT]
  | .PWR_WAKE_LAST => [F.PWR_WAKE_LAST_CODE, F.PWR_WAKE_LAST_DETAIL]
  | .VFM_SUM_EN => [F.VFM_SUM_EN_EN]
  | .VFM_SUM_ATTN => [F.VFM_SUM_ATTN_ATTN]
  | .LIN_PEND => [F.LIN_PEND_PEND]
  | .LIN_LEVEL => [F.LIN_LEVEL_LEVEL]
  | .LIN_EN => [F.LIN_EN_EN]
  | .INT_WIN_CFG => [F.INT_WIN_CFG_KEYSEL, F.INT_WIN_CFG_KIND]
  | .INT_STATUS => [F.INT_STATUS_JRNL_STOP, F.INT_STATUS_WFIFO_FULL, F.INT_STATUS_CREDIT_OVR]
  | .INT_DISC_LOG => [F.INT_DISC_LOG_VALID, F.INT_DISC_LOG_REASON, F.INT_DISC_LOG_LANE, F.INT_DISC_LOG_CNT]
  | .INT_DISC_SRC => [F.INT_DISC_SRC_LINE, F.INT_DISC_SRC_SEG, F.INT_DISC_SRC_RID]
  | .INT_DISC_ORD => [F.INT_DISC_ORD_ORD_VALID, F.INT_DISC_ORD_DOM_VALID, F.INT_DISC_ORD_DOMAIN, F.INT_DISC_ORD_ORDINAL]
  | .LIN_CFG => [F.LIN_CFG_LEVEL, F.LIN_CFG_PEND, F.LIN_CFG_POL, F.LIN_CFG_MODE, F.LIN_CFG_EN]
  | .SRC_CMD => [F.SRC_CMD_GO, F.SRC_CMD_BUSY, F.SRC_CMD_ERR, F.SRC_CMD_OP, F.SRC_CMD_INDEX]
  | .SRC_DATA => [F.SRC_DATA_DATA]
  | .SST_CTRL => [F.SST_CTRL_SCRUB_INT, F.SST_CTRL_FLUSH]
  | .SST_STATUS => [F.SST_STATUS_INIT_DONE, F.SST_STATUS_FLUSHED, F.SST_STATUS_MQ_FULL, F.SST_STATUS_PSN_OVF, F.SST_STATUS_ILLEGAL, F.SST_STATUS_ECC_UNC, F.SST_STATUS_ECC_COR, F.SST_STATUS_DEP_PROTO]
  | .SST_ILL_LOG => [F.SST_ILL_LOG_VALID, F.SST_ILL_LOG_CAUSE, F.SST_ILL_LOG_EID]
  | .SST_PSN => [F.SST_PSN_VALID, F.SST_PSN_EID]
  | .CVN_SRC_CMD => [F.CVN_SRC_CMD_GO, F.CVN_SRC_CMD_BUSY, F.CVN_SRC_CMD_ERR, F.CVN_SRC_CMD_OP, F.CVN_SRC_CMD_COORD_POS, F.CVN_SRC_CMD_IS_COORD, F.CVN_SRC_CMD_ORDINAL]
  | .CVN_CAL => [F.CVN_CAL_QLIVE, F.CVN_CAL_RTT]
  | .CVN_HOLD_USE => [F.CVN_HOLD_USE_USED]
  | .RNK_STATUS => [F.RNK_STATUS_FAULTQ_FULL, F.RNK_STATUS_WAITING, F.RNK_STATUS_NODES_FULL]
  | .RNK_NODES => [F.RNK_NODES_USED]
  | .RTE_FAULT_LOG => [F.RTE_FAULT_LOG_VALID, F.RTE_FAULT_LOG_REASON, F.RTE_FAULT_LOG_DOMAIN, F.RTE_FAULT_LOG_CNT]
  | .RTE_FAULT_EID => [F.RTE_FAULT_EID_EID]
  | .WWL_CTRL => [F.WWL_CTRL_FB_FULL_GRP, F.WWL_CTRL_FB_FULL_DOM, F.WWL_CTRL_FB_FULL_TGT, F.WWL_CTRL_TICK]
  | .WWL_STATUS => [F.WWL_STATUS_FAR, F.WWL_STATUS_FALLBACK, F.WWL_STATUS_ZERO_BLOCK]
  | .WWL_WHEEL => [F.WWL_WHEEL_WAITING]
  | .WWL_RESET_FALLBACK => [F.WWL_RESET_FALLBACK_VALID, F.WWL_RESET_FALLBACK_VALUE, F.WWL_RESET_FALLBACK_KIND, F.WWL_RESET_FALLBACK_CAUSE, F.WWL_RESET_FALLBACK_CNT, F.WWL_RESET_FALLBACK_INDEX]
  | .DLV_FAULT_BASE_LO => [F.DLV_FAULT_BASE_LO_BASE]
  | .DLV_FAULT_BASE_HI => [F.DLV_FAULT_BASE_HI_BASE]
  | .DLV_FAULT_CFG => [F.DLV_FAULT_CFG_RSTPTR, F.DLV_FAULT_CFG_NMODE, F.DLV_FAULT_CFG_NS, F.DLV_FAULT_CFG_EN, F.DLV_FAULT_CFG_HPORT, F.DLV_FAULT_CFG_ORDER]
  | .DLV_FAULT_NOTIFY_ADDR_LO => [F.DLV_FAULT_NOTIFY_ADDR_LO_ADDR]
  | .DLV_FAULT_NOTIFY_ADDR_HI => [F.DLV_FAULT_NOTIFY_ADDR_HI_ADDR]
  | .DLV_FAULT_NOTIFY_DATA => [F.DLV_FAULT_NOTIFY_DATA_NDATA]
  | .DLV_FAULT_PTR => [F.DLV_FAULT_PTR_ARM, F.DLV_FAULT_PTR_PI]
  | .DLV_FAULT_CI => [F.DLV_FAULT_CI_CI]
  | .DLV_HPORT_CMD => [F.DLV_HPORT_CMD_RESUME, F.DLV_HPORT_CMD_HPORT]
  | .DLV_HPORT_DOWN => [F.DLV_HPORT_DOWN_DOWN]
  | .DLV_STATUS => [F.DLV_STATUS_ACT_FULL, F.DLV_STATUS_TAG_STALL, F.DLV_STATUS_JRNL_PARK, F.DLV_STATUS_HPORT_DOWN, F.DLV_STATUS_CI_BAD, F.DLV_STATUS_RING_FULL, F.DLV_STATUS_ACK_STRAY]
  | .CMP_FORCE => [F.CMP_FORCE_GO, F.CMP_FORCE_BUSY, F.CMP_FORCE_ERR, F.CMP_FORCE_EID]
  | .CMP_STATUS => [F.CMP_STATUS_LOST, F.CMP_STATUS_REDELIV]
  | .CMP_DB_LOG => [F.CMP_DB_LOG_VALID, F.CMP_DB_LOG_CAUSE, F.CMP_DB_LOG_HPORT, F.CMP_DB_LOG_CNT, F.CMP_DB_LOG_TARGET]
  | .CMP_DB_DATA => [F.CMP_DB_DATA_DATA]
  | .CMP_ACT_USE => [F.CMP_ACT_USE_USED]
  | .WAY_QUEUE => [F.WAY_QUEUE_USED]
  | .TDM_MODE => [F.TDM_MODE_MODE]
  | .TDM_ROLE => [F.TDM_ROLE_CUR, F.TDM_ROLE_CFG]
  | .TDM_CFG => [F.TDM_CFG_LAG_MAX, F.TDM_CFG_HB_MISS]
  | .TDM_CMD => [F.TDM_CMD_SWITCH, F.TDM_CMD_BUSY, F.TDM_CMD_ERR]
  | .TDM_STATUS => [F.TDM_STATUS_STATE, F.TDM_STATUS_HERR, F.TDM_STATUS_PARTNER_UP, F.TDM_STATUS_LAG, F.TDM_STATUS_DIGEST_DIFF, F.TDM_STATUS_CFG_DIFF, F.TDM_STATUS_DEMOTED, F.TDM_STATUS_TAKEOVER]
  | .TDM_DIVERGE => [F.TDM_DIVERGE_CNT]
  | .TDM_PEER_CMD => [F.TDM_PEER_CMD_GO, F.TDM_PEER_CMD_BUSY, F.TDM_PEER_CMD_ERR, F.TDM_PEER_CMD_WR, F.TDM_PEER_CMD_OFFSET]
  | .TDM_PEER_DATA => [F.TDM_PEER_DATA_DATA]
  | .CHL_CTRL => [F.CHL_CTRL_WIN_LEN, F.CHL_CTRL_WIN_INT, F.CHL_CTRL_LEAVE, F.CHL_CTRL_EN]
  | .CHL_STATUS => [F.CHL_STATUS_STATE, F.CHL_STATUS_COORD, F.CHL_STATUS_JERR, F.CHL_STATUS_RTT_LONG, F.CHL_STATUS_FOUNDER, F.CHL_STATUS_PAUSED, F.CHL_STATUS_LOSS, F.CHL_STATUS_WIN, F.CHL_STATUS_W_UP, F.CHL_STATUS_E_UP]
  | .CHL_JOINED => [F.CHL_JOINED_JOINED]
  | .CHL_QUEUE => [F.CHL_QUEUE_W_USED, F.CHL_QUEUE_E_USED]
  | .VFM_DOM_RST => [F.VFM_DOM_RST_GO, F.VFM_DOM_RST_BUSY, F.VFM_DOM_RST_ERR, F.VFM_DOM_RST_DOMAIN]
  | .VFM_DEP_CMD => [F.VFM_DEP_CMD_GO, F.VFM_DEP_CMD_BUSY, F.VFM_DEP_CMD_ERR, F.VFM_DEP_CMD_OP]
  | .VFM_DEP_ADDR_LO => [F.VFM_DEP_ADDR_LO_ADDR]
  | .VFM_DEP_ADDR_HI => [F.VFM_DEP_ADDR_HI_ADDR]
  | .VFM_DEP_DATA => [F.VFM_DEP_DATA_DATA]
  | .IMG_CTRL => [F.IMG_CTRL_LOCK, F.IMG_CTRL_ABSENT, F.IMG_CTRL_RELOAD, F.IMG_CTRL_SLOT_SEL]
  | .IMG_STATUS => [F.IMG_STATUS_STATE, F.IMG_STATUS_LOADED_SLOT, F.IMG_STATUS_TWIN_CONFLICT, F.IMG_STATUS_SKIPPED, F.IMG_STATUS_STRAY, F.IMG_STATUS_KEPT, F.IMG_STATUS_B_ERR, F.IMG_STATUS_A_ERR]
  | .IMG_FETCH => [F.IMG_FETCH_REQ, F.IMG_FETCH_SLOT, F.IMG_FETCH_COUNT, F.IMG_FETCH_OFFSET]
  | .IMG_ERR_OFF => [F.IMG_ERR_OFF_SLOT, F.IMG_ERR_OFF_OFFSET]
  | .IMG_LOADED_GEN => [F.IMG_LOADED_GEN_GEN]
  | .IMG_LOADED_CRC => [F.IMG_LOADED_CRC_CRC]
  | .IMG_MBOX_DATA => [F.IMG_MBOX_DATA_DATA]
  | .CFG_CTRL => [F.CFG_CTRL_POLICY, F.CFG_CTRL_UNFREEZE, F.CFG_CTRL_COMMIT]
  | .CFG_STATUS => [F.CFG_STATUS_FIRST_REGION, F.CFG_STATUS_FROZEN, F.CFG_STATUS_PARTIAL, F.CFG_STATUS_MISMATCH, F.CFG_STATUS_LIVE_CLEAN, F.CFG_STATUS_REF_VALID]
  | .CFG_CRC_LIVE => [F.CFG_CRC_LIVE_CRC]
  | .CFG_CRC_REF => [F.CFG_CRC_REF_CRC]
  | .CFG_REJECT => [F.CFG_REJECT_SPACE, F.CFG_REJECT_INDEX]
  | .CFG_REJECT_INFO => [F.CFG_REJECT_INFO_VALID, F.CFG_REJECT_INFO_PORT, F.CFG_REJECT_INFO_FUNC, F.CFG_REJECT_INFO_REASON, F.CFG_REJECT_INFO_CNT]
  | .CFG_BND_PEND => [F.CFG_BND_PEND_WAY, F.CFG_BND_PEND_OAS, F.CFG_BND_PEND_WWL, F.CFG_BND_PEND_CVN]
  | .SAV_POLICY => [F.SAV_POLICY_PERIOD, F.SAV_POLICY_SHORT, F.SAV_POLICY_PART_PRIO]
  | .SAV_CMD => [F.SAV_CMD_SAVE, F.SAV_CMD_BUSY, F.SAV_CMD_ERR]
  | .SAV_STATUS => [F.SAV_STATUS_NO_HOME, F.SAV_STATUS_HOME_PEND, F.SAV_STATUS_HOME_DONE, F.SAV_STATUS_PARTIAL, F.SAV_STATUS_NONE, F.SAV_STATUS_HOLDUP_SHORT, F.SAV_STATUS_DONE, F.SAV_STATUS_BUSY]
  | .SAV_REQ => [F.SAV_REQ_UJ]
  | .SAV_HAVE => [F.SAV_HAVE_UJ]
  | .SAV_LAST => [F.SAV_LAST_SLOT, F.SAV_LAST_TRIG]
  | .SAV_SKIPPED => [F.SAV_SKIPPED_CNT]
  | .SAV_RESTORE => [F.SAV_RESTORE_RESULT, F.SAV_RESTORE_PARTIAL, F.SAV_RESTORE_STALE2, F.SAV_RESTORE_CLASSES]
  | .SAV_SEQ_LO => [F.SAV_SEQ_LO_SEQ]
  | .SAV_SEQ_HI => [F.SAV_SEQ_HI_SEQ]
  | .TEL_CTRL => [F.TEL_CTRL_SNAP, F.TEL_CTRL_SNAP_CLR, F.TEL_CTRL_CLR_ALL, F.TEL_CTRL_BW_CLR, F.TEL_CTRL_FREEZE]
  | .TEL_CNT_CMD => [F.TEL_CNT_CMD_GO, F.TEL_CNT_CMD_BUSY, F.TEL_CNT_CMD_ERR, F.TEL_CNT_CMD_OP, F.TEL_CNT_CMD_INDEX]
  | .TEL_CNT_DATA_LO => [F.TEL_CNT_DATA_LO_DATA]
  | .TEL_CNT_DATA_HI => [F.TEL_CNT_DATA_HI_DATA]
  | .TEL_WIN => [F.TEL_WIN_LEN]
  | .TEL_LVL => [F.TEL_LVL_PERIOD]
  | .TEL_STATUS => [F.TEL_STATUS_WIN_SKIP, F.TEL_STATUS_FROZEN]
  | .TEL_SNAP_TIME_LO => [F.TEL_SNAP_TIME_LO_TIME]
  | .TEL_SNAP_TIME_HI => [F.TEL_SNAP_TIME_HI_TIME]
  | .TEL_SMP_CFG => [F.TEL_SMP_CFG_EN, F.TEL_SMP_CFG_ANY, F.TEL_SMP_CFG_DOMAIN, F.TEL_SMP_CFG_PERIOD]
  | .TEL_SMP_AREA_LO => [F.TEL_SMP_AREA_LO_ADDR]
  | .TEL_SMP_AREA_HI => [F.TEL_SMP_AREA_HI_ADDR]
  | .TEL_SMP_SIZE => [F.TEL_SMP_SIZE_SIZE]
  | .TEL_SMP_WPTR => [F.TEL_SMP_WPTR_WPTR]
  | .TEL_SMP_STAT => [F.TEL_SMP_STAT_MISSED, F.TEL_SMP_STAT_DROPPED]
  | .TEL_H_CFG => [F.TEL_H_CFG_EN, F.TEL_H_CFG_MODE, F.TEL_H_CFG_SCOPE, F.TEL_H_CFG_SIDX, F.TEL_H_CFG_WIDTH]
  | .TEL_H_BASE => [F.TEL_H_BASE_BASE]
  | .TEL_H_MIN => [F.TEL_H_MIN_MIN]
  | .TEL_H_MAX => [F.TEL_H_MAX_MAX]
  | .TEL_H_WMAX => [F.TEL_H_WMAX_WMAX]
  | .TEL_BW_IN_LAST => [F.TEL_BW_IN_LAST_CNT]
  | .TEL_BW_OUT_LAST => [F.TEL_BW_OUT_LAST_CNT]
  | .TEL_BW_IN_MAX => [F.TEL_BW_IN_MAX_CNT]
  | .TEL_BW_OUT_MAX => [F.TEL_BW_OUT_MAX_CNT]
  | .POL_SRC_MTR_CFG => [F.POL_SRC_MTR_CFG_FORCE, F.POL_SRC_MTR_CFG_RED_ACT, F.POL_SRC_MTR_CFG_YEL_ACT, F.POL_SRC_MTR_CFG_AWARE, F.POL_SRC_MTR_CFG_ALG, F.POL_SRC_MTR_CFG_EN]
  | .POL_SRC_MTR_CIR => [F.POL_SRC_MTR_CIR_CIR]
  | .POL_SRC_MTR_PIR => [F.POL_SRC_MTR_PIR_PIR]
  | .POL_SRC_MTR_CBS => [F.POL_SRC_MTR_CBS_CBS]
  | .POL_SRC_MTR_PBS => [F.POL_SRC_MTR_PBS_PBS]
  | .POL_DOM_MTR_CFG => [F.POL_DOM_MTR_CFG_FORCE, F.POL_DOM_MTR_CFG_RED_ACT, F.POL_DOM_MTR_CFG_YEL_ACT, F.POL_DOM_MTR_CFG_AWARE, F.POL_DOM_MTR_CFG_ALG, F.POL_DOM_MTR_CFG_EN]
  | .POL_DOM_MTR_CIR => [F.POL_DOM_MTR_CIR_CIR]
  | .POL_DOM_MTR_PIR => [F.POL_DOM_MTR_PIR_PIR]
  | .POL_DOM_MTR_CBS => [F.POL_DOM_MTR_CBS_CBS]
  | .POL_DOM_MTR_PBS => [F.POL_DOM_MTR_PBS_PBS]
  | .WWL_DOM_RATE => [F.WWL_DOM_RATE_EN, F.WWL_DOM_RATE_RATE]
  | .WWL_DOM_BURST => [F.WWL_DOM_BURST_BURST]
  | .WWL_DOM_TOKS => [F.WWL_DOM_TOKS_TOKS]
  | .WWL_GRP_RATE => [F.WWL_GRP_RATE_EN, F.WWL_GRP_RATE_RATE]
  | .WWL_GRP_BURST => [F.WWL_GRP_BURST_BURST]
  | .WWL_GRP_TOKS => [F.WWL_GRP_TOKS_TOKS]
  | .WWL_TGT_RATE => [F.WWL_TGT_RATE_EN, F.WWL_TGT_RATE_RATE]
  | .WWL_TGT_BURST => [F.WWL_TGT_BURST_BURST]
  | .WWL_TGT_TOKS => [F.WWL_TGT_TOKS_TOKS]
  | .RTE_GRP_CFG => [F.RTE_GRP_CFG_AFFINITY]
  | .RTE_GRP_STAT => [F.RTE_GRP_STAT_DEPTH, F.RTE_GRP_STAT_NEN]
  | .RTE_SPREAD_ROT => [F.RTE_SPREAD_ROT_ROT]
  | .OAS_MODE => [F.OAS_MODE_MODE]
  | .OAS_GUARD => [F.OAS_GUARD_GUARD]
  | .OAS_GCMD => [F.OAS_GCMD_COMMIT, F.OAS_GCMD_PENDING, F.OAS_GCMD_ERR]
  | .OAS_STATUS => [F.OAS_STATUS_NO_ROOM, F.OAS_STATUS_DEFER, F.OAS_STATUS_LATE, F.OAS_STATUS_EMPTY, F.OAS_STATUS_GATED]
  | .OAS_LATE_K => [F.OAS_LATE_K_K]
  | .OAS_LIVE => [F.OAS_LIVE_LIVE]
  | .OAS_ADM_BASE_LO => [F.OAS_ADM_BASE_LO_BASE]
  | .OAS_ADM_BASE_HI => [F.OAS_ADM_BASE_HI_BASE]
  | .OAS_ADM_CYCLE => [F.OAS_ADM_CYCLE_CYCLE]
  | .OAS_ADM_LEN => [F.OAS_ADM_LEN_LEN]
  | .OAS_OPER_START_LO => [F.OAS_OPER_START_LO_START]
  | .OAS_OPER_START_HI => [F.OAS_OPER_START_HI_START]
  | .OAS_PEND_START_LO => [F.OAS_PEND_START_LO_START]
  | .OAS_PEND_START_HI => [F.OAS_PEND_START_HI_START]
  | .OAS_OPER_CYCLE => [F.OAS_OPER_CYCLE_CYCLE]
  | .OAS_OPER_LEN => [F.OAS_OPER_LEN_LEN]
  | .OAS_ADM_ENT => [F.OAS_ADM_ENT_OPEN, F.OAS_ADM_ENT_INTERVAL]
  | .OAS_OPER_ENT => [F.OAS_OPER_ENT_OPEN, F.OAS_OPER_ENT_INTERVAL]
  | .RTE_TGT_CFG => [F.RTE_TGT_CFG_EN, F.RTE_TGT_CFG_ANY, F.RTE_TGT_CFG_OWNER, F.RTE_TGT_CFG_PRE_MAX, F.RTE_TGT_CFG_OUT_MAX]
  | .RTE_TGT_RT => [F.RTE_TGT_RT_MASK, F.RTE_TGT_RT_RTHRESH]
  | .RTE_TGT_STAT => [F.RTE_TGT_STAT_HEADP, F.RTE_TGT_STAT_HEADV, F.RTE_TGT_STAT_WAIT, F.RTE_TGT_STAT_RUNP, F.RTE_TGT_STAT_ACTIVE]
  | .CMP_TGT_CFG => [F.CMP_TGT_CFG_RD_MAX, F.CMP_TGT_CFG_RD_TIMEOUT]
  | .DLV_RING_BASE_LO => [F.DLV_RING_BASE_LO_BASE]
  | .DLV_RING_BASE_HI => [F.DLV_RING_BASE_HI_BASE]
  | .DLV_RING_CFG => [F.DLV_RING_CFG_RSTPTR, F.DLV_RING_CFG_NMODE, F.DLV_RING_CFG_NS, F.DLV_RING_CFG_FUNC, F.DLV_RING_CFG_HPORT, F.DLV_RING_CFG_ORDER]
  | .DLV_NOTIFY_ADDR_LO => [F.DLV_NOTIFY_ADDR_LO_ADDR]
  | .DLV_NOTIFY_ADDR_HI => [F.DLV_NOTIFY_ADDR_HI_ADDR]
  | .DLV_NOTIFY_DATA => [F.DLV_NOTIFY_DATA_NDATA]
  | .DLV_RING_PTR => [F.DLV_RING_PTR_ARM, F.DLV_RING_PTR_PI]
  | .DLV_RING_CI => [F.DLV_RING_CI_CI]
  | .VFM_VF_STATUS => [F.VFM_VF_STATUS_STATUS]
  | .VFM_VF_IRQ_EN => [F.VFM_VF_IRQ_EN_EN]
  | .VFM_RT => [F.VFM_RT_THOLD]
  | .PWR_VOTE => [F.PWR_VOTE_AWAKE]
  | .PWR_WAKE_SRC => [F.PWR_WAKE_SRC_CODE, F.PWR_WAKE_SRC_SEQ]
  | .VFM_DOM_CTRL => [F.VFM_DOM_CTRL_FREEZE, F.VFM_DOM_CTRL_MHOLD, F.VFM_DOM_CTRL_EN]
  | .VFM_SHARE => [F.VFM_SHARE_RANK]
  | .VFM_DOM_STAT => [F.VFM_DOM_STAT_FENCE_CAUSE, F.VFM_DOM_STAT_ADMIT_CLOSED, F.VFM_DOM_STAT_RESETTING, F.VFM_DOM_STAT_SAVED, F.VFM_DOM_STAT_FENCED, F.VFM_DOM_STAT_FROZEN, F.VFM_DOM_STAT_DRAINED, F.VFM_DOM_STAT_HELD]
  | .VFM_IRQ_CFG => [F.VFM_IRQ_CFG_EN, F.VFM_IRQ_CFG_HPORT]
  | .VFM_IRQ_ADDR_LO => [F.VFM_IRQ_ADDR_LO_ADDR]
  | .VFM_IRQ_ADDR_HI => [F.VFM_IRQ_ADDR_HI_ADDR]
  | .VFM_IRQ_DATA => [F.VFM_IRQ_DATA_DATA]
  | .VFM_DOM_CMD => [F.VFM_DOM_CMD_GO, F.VFM_DOM_CMD_BUSY, F.VFM_DOM_CMD_ERR, F.VFM_DOM_CMD_OP]
  | .VFM_XFER_LO => [F.VFM_XFER_LO_ADDR]
  | .VFM_XFER_HI => [F.VFM_XFER_HI_ADDR]
  | .VFM_XFER_LEN => [F.VFM_XFER_LEN_LEN]
  | .VFM_XFER_SKIP => [F.VFM_XFER_SKIP_SKIP]
  | .VFM_SAVE_LOST => [F.VFM_SAVE_LOST_CNT]
  | .VFM_FLR_DIRTY => [F.VFM_FLR_DIRTY_VALID, F.VFM_FLR_DIRTY_DIRTY]
  | .VFM_FLR_PEND => [F.VFM_FLR_PEND_CNT]
  | .VFM_FLR_ACT => [F.VFM_FLR_ACT_CNT]
  | .VFM_FLR_UNISS => [F.VFM_FLR_UNISS_CNT]
  | .VFM_FLR_EGR => [F.VFM_FLR_EGR_CNT]
  | .VFM_FLR_DROP => [F.VFM_FLR_DROP_CNT]
  | .SST_RTCMD => [F.SST_RTCMD_GO, F.SST_RTCMD_BUSY, F.SST_RTCMD_ERR, F.SST_RTCMD_OP, F.SST_RTCMD_EID]
  | .SST_RTCNT => [F.SST_RTCNT_CNT]
  | .SST_CFGCMD => [F.SST_CFGCMD_GO, F.SST_CFGCMD_BUSY, F.SST_CFGCMD_ERR, F.SST_CFGCMD_OP, F.SST_CFGCMD_EID]
  | .SST_CFGCNT => [F.SST_CFGCNT_CNT]
  | .SST_CFGDATA => [F.SST_CFGDATA_TYPE, F.SST_CFGDATA_PRIO, F.SST_CFGDATA_RKIND, F.SST_CFGDATA_ROUTE]
  | .SST_ENTRY0 => [F.SST_ENTRY0_ENTRY]
  | .SST_ENTRY1 => [F.SST_ENTRY1_ENTRY]
  | .CVN_MODE => [F.CVN_MODE_CONTINUE, F.CVN_MODE_MODE]
  | .CVN_EPOCH_CFG => [F.CVN_EPOCH_CFG_CEIL_MULT, F.CVN_EPOCH_CFG_LEN]
  | .CVN_HOLD_CFG => [F.CVN_HOLD_CFG_HOLD_MAX, F.CVN_HOLD_CFG_SLACK]
  | .CVN_VERDICT => [F.CVN_VERDICT_RUN, F.CVN_VERDICT_ENDED, F.CVN_VERDICT_FIRST, F.CVN_VERDICT_KEPT]
  | .CVN_BREAK_EPOCH => [F.CVN_BREAK_EPOCH_EPOCH]
  | .CVN_RUN_IMG => [F.CVN_RUN_IMG_CRC]
  | .CVN_RUN_CFG => [F.CVN_RUN_CFG_CRC]
  | .CVN_RUN_ROLE => [F.CVN_RUN_ROLE_REF_VALID, F.CVN_RUN_ROLE_ROLE]
  | .CVN_STATUS => [F.CVN_STATUS_HOLD_FULL, F.CVN_STATUS_LATE, F.CVN_STATUS_QUIET_EVT, F.CVN_STATUS_NONMEMBER, F.CVN_STATUS_COUNT_MISMATCH, F.CVN_STATUS_WM_BAD, F.CVN_STATUS_WM_STALE, F.CVN_STATUS_STRAGGLER, F.CVN_STATUS_OVERDUE]
  | .CVN_STRAG_LOG => [F.CVN_STRAG_LOG_VALID, F.CVN_STRAG_LOG_CAUSE, F.CVN_STRAG_LOG_CNT, F.CVN_STRAG_LOG_ORDINAL]
  | .CVN_RTAPPLY => [F.CVN_RTAPPLY_VALID, F.CVN_RTAPPLY_CNT, F.CVN_RTAPPLY_EPOCH]
  | .RTE_TCMD => [F.RTE_TCMD_GO, F.RTE_TCMD_BUSY, F.RTE_TCMD_ERR, F.RTE_TCMD_OP, F.RTE_TCMD_TARGET]
  | .RTE_TDATA => [F.RTE_TDATA_MASK, F.RTE_TDATA_RTHRESH]
  | .RNK_DOM_OCC => [F.RNK_DOM_OCC_WAITV, F.RNK_DOM_OCC_OCC]
  | .CMP_DBCMD => [F.CMP_DBCMD_GO, F.CMP_DBCMD_BUSY, F.CMP_DBCMD_ERR, F.CMP_DBCMD_OP, F.CMP_DBCMD_FRING, F.CMP_DBCMD_TARGET]
  | .CMP_DBDATA => [F.CMP_DBDATA_DATA]
  | .WAY_MODE => [F.WAY_MODE_FULLACT, F.WAY_MODE_MODE]
  | .WAY_AREA_BASE => [F.WAY_AREA_BASE_BASE]
  | .WAY_AREA_SIZE => [F.WAY_AREA_SIZE_SIZE]
  | .WAY_SEG => [F.WAY_SEG_SEG_LEN]
  | .WAY_ARCH_LO => [F.WAY_ARCH_LO_ARCH]
  | .WAY_ARCH_HI => [F.WAY_ARCH_HI_ARCH]
  | .WAY_CMD => [F.WAY_CMD_FLUSH, F.WAY_CMD_NEWSEG]
  | .WAY_STATUS => [F.WAY_STATUS_LAP, F.WAY_STATUS_BP, F.WAY_STATUS_FULL, F.WAY_STATUS_WRAPPED, F.WAY_STATUS_GAP, F.WAY_STATUS_FENCE, F.WAY_STATUS_FLUSHED]
  | .WAY_LOST_PEND => [F.WAY_LOST_PEND_LOST]
  | .RPL_MODE => [F.RPL_MODE_LAP0, F.RPL_MODE_PARK_ACT, F.RPL_MODE_MODE]
  | .RPL_AREA_BASE => [F.RPL_AREA_BASE_BASE]
  | .RPL_AREA_SIZE => [F.RPL_AREA_SIZE_SIZE]
  | .RPL_START_LO => [F.RPL_START_LO_START]
  | .RPL_START_HI => [F.RPL_START_HI_START]
  | .RPL_LEN_LO => [F.RPL_LEN_LO_LEN]
  | .RPL_LEN_HI => [F.RPL_LEN_HI_LEN]
  | .RPL_CMD => [F.RPL_CMD_STOP]
  | .RPL_STATUS => [F.RPL_STATUS_STATE, F.RPL_STATUS_END, F.RPL_STATUS_SKIP, F.RPL_STATUS_FAULT, F.RPL_STATUS_GAP]
  | .RPL_DONE_LO => [F.RPL_DONE_LO_DONE]
  | .RPL_DONE_HI => [F.RPL_DONE_HI_DONE]
  | .RPL_PARKED => [F.RPL_PARKED_PARKED]

/-- The direct page (R414), the page-local pointer and mailboxes apart. -/
def dpPlacements : List Placement :=
  [⟨.REG_VERSION, .dp, 0x0, 4, 1, 0, 1, none, 0, .glob⟩,
   ⟨.REG_RST_STAT, .dp, 0x4, 4, 1, 0, 1, none, 0, .glob⟩,
   ⟨.REG_STRAPS, .dp, 0x8, 4, 1, 0, 1, none, 0, .glob⟩,
   ⟨.REG_PARTIAL_WR, .dp, 0xc, 4, 1, 0, 1, none, 0, .glob⟩,
   ⟨.SB_STATUS, .dp, 0x38, 4, 1, 0, 1, none, 0, .glob⟩,
   ⟨.MGT_PORT_ID, .dp, 0x3c, 4, 1, 0, 1, none, 0, .glob⟩,
   ⟨.REG_LOCK, .dp, 0x40, 4, 1, 0, 1, none, 4, .glob⟩,
   ⟨.REG_LOCKED_WR, .dp, 0x44, 4, 1, 0, 1, none, 0, .glob⟩,
   ⟨.REG_LOCKED_IDX, .dp, 0x48, 4, 1, 0, 1, none, 0, .glob⟩,
   ⟨.MGT_AUTH, .dp, 0x50, 4, 1, 0, 1, none, 4, .glob⟩,
   ⟨.MGT_DENY, .dp, 0x54, 4, 1, 0, 1, none, 0, .glob⟩,
   ⟨.MGT_DENY_IDX, .dp, 0x58, 4, 1, 0, 1, none, 0, .glob⟩,
   ⟨.MGT_MGR_PORTS, .dp, 0x60, 4, 4, 0, 1, none, 0, .glob⟩,
   ⟨.TIM_FT_COMP, .dp, 0x80, 4, 1, 0, 1, none, 2, .glob⟩,
   ⟨.TIM_STATUS, .dp, 0x84, 4, 1, 0, 1, none, 0, .glob⟩,
   ⟨.INT_WFIFO_USE, .dp, 0x88, 4, 1, 0, 1, none, 0, .glob⟩,
   ⟨.ERR_PEND, .dp, 0x100, 4, 1, 0, 1, none, 0, .glob⟩,
   ⟨.ERR_MASK, .dp, 0x104, 4, 1, 0, 1, none, 2, .glob⟩,
   ⟨.ERR_IRQ_EN, .dp, 0x108, 4, 1, 0, 1, none, 2, .glob⟩,
   ⟨.ERR_CONTAIN, .dp, 0x10c, 4, 1, 0, 1, none, 2, .glob⟩,
   ⟨.ERR_LOG, .dp, 0x110, 4, 1, 0, 1, none, 0, .glob⟩,
   ⟨.ERR_LOG_IDX, .dp, 0x114, 4, 1, 0, 1, none, 0, .glob⟩,
   ⟨.ERR_STATUS, .dp, 0x118, 4, 1, 0, 1, none, 0, .glob⟩,
   ⟨.ERR_CNT, .dp, 0x124, 4, 27, 0, 1, none, 0, .glob⟩,
   ⟨.PWR_AUTOSLEEP, .dp, 0x200, 4, 1, 0, 1, none, 2, .glob⟩,
   ⟨.PWR_CMD, .dp, 0x204, 4, 1, 0, 1, none, 4, .glob⟩,
   ⟨.PWR_POLICY, .dp, 0x208, 4, 1, 0, 1, none, 4, .glob⟩,
   ⟨.PWR_SLEEP_CFG, .dp, 0x20c, 4, 1, 0, 1, none, 4, .glob⟩,
   ⟨.PWR_VOTE_SB, .dp, 0x210, 4, 1, 0, 1, none, 4, .glob⟩,
   ⟨.PWR_PERF, .dp, 0x214, 4, 1, 0, 1, none, 4, .glob⟩,
   ⟨.PWR_VPOINT, .dp, 0x218, 4, 3, 0, 1, none, 4, .glob⟩,
   ⟨.PWR_RAIL, .dp, 0x224, 4, 1, 0, 1, none, 4, .glob⟩,
   ⟨.PWR_AVS_CFG, .dp, 0x228, 4, 1, 0, 1, none, 4, .glob⟩,
   ⟨.PWR_CLK, .dp, 0x22c, 4, 1, 0, 1, none, 4, .glob⟩,
   ⟨.PWR_STATUS, .dp, 0x240, 4, 1, 0, 1, none, 0, .glob⟩,
   ⟨.PWR_PD_STAT, .dp, 0x244, 4, 1, 0, 1, none, 0, .glob⟩,
   ⟨.PWR_VOTES, .dp, 0x248, 4, 1, 0, 1, none, 0, .glob⟩,
   ⟨.PWR_LAST_ABORT, .dp, 0x24c, 4, 1, 0, 1, none, 0, .glob⟩,
   ⟨.PWR_PSW_TIMEOUT, .dp, 0x250, 4, 1, 0, 1, none, 0, .glob⟩,
   ⟨.PWR_ABORT_AP, .dp, 0x260, 4, 4, 0, 1, none, 0, .glob⟩,
   ⟨.PWR_REFUSE, .dp, 0x270, 4, 4, 0, 1, none, 0, .glob⟩,
   ⟨.PWR_ENTRIES, .dp, 0x280, 4, 1, 0, 1, none, 0, .glob⟩,
   ⟨.PWR_WAKE_LAST, .dp, 0x284, 4, 1, 0, 1, none, 0, .glob⟩,
   ⟨.VFM_SUM_EN, .dp, 0x800, 4, 128, 0, 1, none, 0, .glob⟩,
   ⟨.VFM_SUM_ATTN, .dp, 0xa00, 4, 128, 0, 1, none, 0, .glob⟩,
   ⟨.LIN_PEND, .dp, 0xc00, 4, 32, 0, 1, none, 0, .glob⟩,
   ⟨.LIN_LEVEL, .dp, 0xc80, 4, 32, 0, 1, none, 0, .glob⟩,
   ⟨.LIN_EN, .dp, 0xd00, 4, 32, 0, 1, none, 0, .glob⟩]

/-- The registers every page and port has for itself (R304, R106, R109): replica = function number, 4096 SIDEBAND, 4097 DEBUG, 4098 PEER; the words of REG_WIDE_DATA are replicas 4 * page + k. -/
def pagePlacements : List Placement :=
  [⟨.WIN_ADDR, .dp, 0x10, 0, 4099, 0, 1, none, 0, .page⟩,
   ⟨.WIN_DATA, .dp, 0x14, 0, 4099, 0, 1, none, 0, .page⟩,
   ⟨.WIN_STATUS, .dp, 0x18, 0, 4099, 0, 1, none, 0, .page⟩,
   ⟨.REG_WIDE_SEL, .dp, 0x20, 0, 4099, 0, 1, none, 0, .page⟩,
   ⟨.REG_WIDE_STAT, .dp, 0x24, 0, 4099, 0, 1, none, 0, .page⟩,
   ⟨.REG_WIDE_DATA, .dp, 0x28, 0, 4099, 4, 4, none, 0, .page⟩]

/-- The global blocks of R420, first part. -/
def blockPlacements0 : List Placement :=
  [⟨.INT_WIN_CFG, .ws, 0x10000, 4, 16, 0, 1, some .core, 2, .glob⟩,
   ⟨.INT_STATUS, .ws, 0x10040, 4, 1, 0, 1, some .core, 0, .glob⟩,
   ⟨.INT_DISC_LOG, .ws, 0x10044, 4, 1, 0, 1, some .core, 0, .glob⟩,
   ⟨.INT_DISC_SRC, .ws, 0x10048, 4, 1, 0, 1, some .core, 0, .glob⟩,
   ⟨.INT_DISC_ORD, .ws, 0x1004c, 4, 1, 0, 1, some .core, 0, .glob⟩,
   ⟨.LIN_CFG, .ws, 0x11000, 4, 1024, 0, 1, some .core, 2, .glob⟩,
   ⟨.SRC_CMD, .ws, 0x12000, 4, 1, 0, 1, some .core, 2, .glob⟩,
   ⟨.SRC_DATA, .ws, 0x12004, 4, 4, 0, 1, some .core, 2, .glob⟩,
   ⟨.SST_CTRL, .ws, 0x13000, 4, 1, 0, 1, some .state, 2, .glob⟩,
   ⟨.SST_STATUS, .ws, 0x13004, 4, 1, 0, 1, some .state, 0, .glob⟩,
   ⟨.SST_ILL_LOG, .ws, 0x13008, 4, 1, 0, 1, some .state, 0, .glob⟩,
   ⟨.SST_PSN, .ws, 0x13100, 4, 64, 0, 1, some .state, 0, .glob⟩,
   ⟨.CVN_SRC_CMD, .ws, 0x14000, 4, 1, 0, 1, some .core, 2, .glob⟩,
   ⟨.CVN_CAL, .ws, 0x14004, 4, 1, 0, 1, some .core, 0, .glob⟩,
   ⟨.CVN_HOLD_USE, .ws, 0x14008, 4, 1, 0, 1, some .core, 0, .glob⟩,
   ⟨.RNK_STATUS, .ws, 0x15000, 4, 1, 0, 1, some .core, 0, .glob⟩,
   ⟨.RNK_NODES, .ws, 0x15004, 4, 1, 0, 1, some .core, 0, .glob⟩,
   ⟨.RTE_FAULT_LOG, .ws, 0x15008, 4, 1, 0, 1, some .core, 0, .glob⟩,
   ⟨.RTE_FAULT_EID, .ws, 0x1500c, 4, 1, 0, 1, some .core, 0, .glob⟩,
   ⟨.WWL_CTRL, .ws, 0x16000, 4, 1, 0, 1, some .core, 2, .glob⟩,
   ⟨.WWL_STATUS, .ws, 0x16004, 4, 1, 0, 1, some .core, 0, .glob⟩,
   ⟨.WWL_WHEEL, .ws, 0x16008, 4, 1, 0, 1, some .core, 0, .glob⟩,
   ⟨.WWL_RESET_FALLBACK, .ws, 0x1600c, 4, 1, 0, 1, some .core, 0, .glob⟩,
   ⟨.DLV_FAULT_BASE_LO, .ws, 0x17000, 4, 1, 0, 1, some .core, 2, .glob⟩,
   ⟨.DLV_FAULT_BASE_HI, .ws, 0x17004, 4, 1, 0, 1, some .core, 2, .glob⟩,
   ⟨.DLV_FAULT_CFG, .ws, 0x17008, 4, 1, 0, 1, some .core, 2, .glob⟩,
   ⟨.DLV_FAULT_NOTIFY_ADDR_LO, .ws, 0x1700c, 4, 1, 0, 1, some .core, 2, .glob⟩,
   ⟨.DLV_FAULT_NOTIFY_ADDR_HI, .ws, 0x17010, 4, 1, 0, 1, some .core, 2, .glob⟩,
   ⟨.DLV_FAULT_NOTIFY_DATA, .ws, 0x17014, 4, 1, 0, 1, some .core, 2, .glob⟩,
   ⟨.DLV_FAULT_PTR, .ws, 0x17018, 4, 1, 0, 1, some .core, 0, .glob⟩,
   ⟨.DLV_FAULT_CI, .ws, 0x1701c, 4, 1, 0, 1, some .core, 0, .glob⟩,
   ⟨.DLV_HPORT_CMD, .ws, 0x17020, 4, 1, 0, 1, some .core, 2, .glob⟩,
   ⟨.DLV_HPORT_DOWN, .ws, 0x17024, 4, 4, 0, 1, some .core, 0, .glob⟩,
   ⟨.DLV_STATUS, .ws, 0x17034, 4, 1, 0, 1, some .core, 0, .glob⟩,
   ⟨.CMP_FORCE, .ws, 0x17040, 4, 1, 0, 1, some .core, 2, .glob⟩,
   ⟨.CMP_STATUS, .ws, 0x17044, 4, 1, 0, 1, some .core, 0, .glob⟩,
   ⟨.CMP_DB_LOG, .ws, 0x17048, 4, 1, 0, 1, some .core, 0, .glob⟩,
   ⟨.CMP_DB_DATA, .ws, 0x1704c, 4, 1, 0, 1, some .core, 0, .glob⟩,
   ⟨.CMP_ACT_USE, .ws, 0x17050, 4, 1, 0, 1, some .core, 0, .glob⟩,
   ⟨.WAY_QUEUE, .ws, 0x18000, 4, 1, 0, 1, some .log, 0, .glob⟩,
   ⟨.TDM_MODE, .ws, 0x19000, 4, 1, 0, 1, some .ring, 2, .glob⟩,
   ⟨.TDM_ROLE, .ws, 0x19004, 4, 1, 0, 1, some .ring, 2, .glob⟩,
   ⟨.TDM_CFG, .ws, 0x19008, 4, 1, 0, 1, some .ring, 2, .glob⟩,
   ⟨.TDM_CMD, .ws, 0x1900c, 4, 1, 0, 1, some .ring, 2, .glob⟩,
   ⟨.TDM_STATUS, .ws, 0x19010, 4, 1, 0, 1, some .ring, 0, .glob⟩,
   ⟨.TDM_DIVERGE, .ws, 0x19014, 4, 1, 0, 1, some .ring, 0, .glob⟩,
   ⟨.TDM_PEER_CMD, .ws, 0x19018, 4, 1, 0, 1, some .ring, 2, .glob⟩,
   ⟨.TDM_PEER_DATA, .ws, 0x1901c, 4, 1, 0, 1, some .ring, 0, .glob⟩,
   ⟨.CHL_CTRL, .ws, 0x19040, 4, 1, 0, 1, some .ring, 2, .glob⟩,
   ⟨.CHL_STATUS, .ws, 0x19044, 4, 1, 0, 1, some .ring, 0, .glob⟩,
   ⟨.CHL_JOINED, .ws, 0x19048, 4, 1, 0, 1, some .ring, 0, .glob⟩,
   ⟨.CHL_QUEUE, .ws, 0x1904c, 4, 1, 0, 1, some .ring, 0, .glob⟩]

/-- The global blocks of R420, second part. -/
def blockPlacements1 : List Placement :=
  [⟨.VFM_DOM_RST, .ws, 0x1a000, 4, 1, 0, 1, some .core, 2, .glob⟩,
   ⟨.VFM_DEP_CMD, .ws, 0x1a004, 4, 1, 0, 1, some .core, 2, .glob⟩,
   ⟨.VFM_DEP_ADDR_LO, .ws, 0x1a008, 4, 1, 0, 1, some .core, 2, .glob⟩,
   ⟨.VFM_DEP_ADDR_HI, .ws, 0x1a00c, 4, 1, 0, 1, some .core, 2, .glob⟩,
   ⟨.VFM_DEP_DATA, .ws, 0x1a040, 4, 16, 0, 1, some .core, 2, .glob⟩,
   ⟨.IMG_CTRL, .ws, 0x1b000, 4, 1, 0, 1, some .core, 3, .glob⟩,
   ⟨.IMG_STATUS, .ws, 0x1b004, 4, 1, 0, 1, some .core, 0, .glob⟩,
   ⟨.IMG_FETCH, .ws, 0x1b008, 4, 1, 0, 1, some .core, 0, .glob⟩,
   ⟨.IMG_ERR_OFF, .ws, 0x1b00c, 4, 1, 0, 1, some .core, 0, .glob⟩,
   ⟨.IMG_LOADED_GEN, .ws, 0x1b010, 4, 1, 0, 1, some .core, 0, .glob⟩,
   ⟨.IMG_LOADED_CRC, .ws, 0x1b014, 4, 1, 0, 1, some .core, 0, .glob⟩,
   ⟨.IMG_MBOX_DATA, .ws, 0x1b040, 4, 16, 0, 1, some .core, 3, .glob⟩,
   ⟨.CFG_CTRL, .ws, 0x1c000, 4, 1, 0, 1, some .core, 3, .glob⟩,
   ⟨.CFG_STATUS, .ws, 0x1c004, 4, 1, 0, 1, some .core, 0, .glob⟩,
   ⟨.CFG_CRC_LIVE, .ws, 0x1c008, 4, 1, 0, 1, some .core, 0, .glob⟩,
   ⟨.CFG_CRC_REF, .ws, 0x1c00c, 4, 1, 0, 1, some .core, 0, .glob⟩,
   ⟨.CFG_REJECT, .ws, 0x1c010, 4, 1, 0, 1, some .core, 0, .glob⟩,
   ⟨.CFG_REJECT_INFO, .ws, 0x1c014, 4, 1, 0, 1, some .core, 0, .glob⟩,
   ⟨.CFG_BND_PEND, .ws, 0x1c018, 4, 1, 0, 1, some .core, 0, .glob⟩,
   ⟨.SAV_POLICY, .ws, 0x1d000, 4, 1, 0, 1, some .core, 4, .glob⟩,
   ⟨.SAV_CMD, .ws, 0x1d004, 4, 1, 0, 1, some .core, 4, .glob⟩,
   ⟨.SAV_STATUS, .ws, 0x1d008, 4, 1, 0, 1, some .core, 0, .glob⟩,
   ⟨.SAV_REQ, .ws, 0x1d00c, 4, 1, 0, 1, some .core, 0, .glob⟩,
   ⟨.SAV_HAVE, .ws, 0x1d010, 4, 1, 0, 1, some .core, 0, .glob⟩,
   ⟨.SAV_LAST, .ws, 0x1d014, 4, 1, 0, 1, some .core, 0, .glob⟩,
   ⟨.SAV_SKIPPED, .ws, 0x1d018, 4, 1, 0, 1, some .core, 0, .glob⟩,
   ⟨.SAV_RESTORE, .ws, 0x1d01c, 4, 1, 0, 1, some .core, 0, .glob⟩,
   ⟨.SAV_SEQ_LO, .ws, 0x1d020, 4, 1, 0, 1, some .core, 0, .glob⟩,
   ⟨.SAV_SEQ_HI, .ws, 0x1d024, 4, 1, 0, 1, some .core, 0, .glob⟩,
   ⟨.TEL_CTRL, .ws, 0x1e000, 4, 1, 0, 1, some .tel, 2, .glob⟩,
   ⟨.TEL_CNT_CMD, .ws, 0x1e004, 4, 1, 0, 1, some .tel, 2, .glob⟩,
   ⟨.TEL_CNT_DATA_LO, .ws, 0x1e008, 4, 1, 0, 1, some .tel, 2, .glob⟩,
   ⟨.TEL_CNT_DATA_HI, .ws, 0x1e00c, 4, 1, 0, 1, some .tel, 2, .glob⟩,
   ⟨.TEL_WIN, .ws, 0x1e010, 4, 1, 0, 1, some .tel, 2, .glob⟩,
   ⟨.TEL_LVL, .ws, 0x1e014, 4, 1, 0, 1, some .tel, 2, .glob⟩,
   ⟨.TEL_STATUS, .ws, 0x1e018, 4, 1, 0, 1, some .tel, 0, .glob⟩,
   ⟨.TEL_SNAP_TIME_LO, .ws, 0x1e01c, 4, 1, 0, 1, some .tel, 0, .glob⟩,
   ⟨.TEL_SNAP_TIME_HI, .ws, 0x1e020, 4, 1, 0, 1, some .tel, 0, .glob⟩,
   ⟨.TEL_SMP_CFG, .ws, 0x1e040, 4, 1, 0, 1, some .tel, 2, .glob⟩,
   ⟨.TEL_SMP_AREA_LO, .ws, 0x1e044, 4, 1, 0, 1, some .tel, 2, .glob⟩,
   ⟨.TEL_SMP_AREA_HI, .ws, 0x1e048, 4, 1, 0, 1, some .tel, 2, .glob⟩,
   ⟨.TEL_SMP_SIZE, .ws, 0x1e04c, 4, 1, 0, 1, some .tel, 2, .glob⟩,
   ⟨.TEL_SMP_WPTR, .ws, 0x1e050, 4, 1, 0, 1, some .tel, 0, .glob⟩,
   ⟨.TEL_SMP_STAT, .ws, 0x1e054, 4, 1, 0, 1, some .tel, 0, .glob⟩,
   ⟨.TEL_H_CFG, .ws, 0x1e200, 32, 16, 0, 1, some .tel, 2, .glob⟩,
   ⟨.TEL_H_BASE, .ws, 0x1e204, 32, 16, 0, 1, some .tel, 2, .glob⟩,
   ⟨.TEL_H_MIN, .ws, 0x1e208, 32, 16, 0, 1, some .tel, 0, .glob⟩,
   ⟨.TEL_H_MAX, .ws, 0x1e20c, 32, 16, 0, 1, some .tel, 0, .glob⟩,
   ⟨.TEL_H_WMAX, .ws, 0x1e210, 32, 16, 0, 1, some .tel, 0, .glob⟩,
   ⟨.TEL_BW_IN_LAST, .ws, 0x1e400, 16, 131, 0, 1, some .tel, 0, .glob⟩,
   ⟨.TEL_BW_OUT_LAST, .ws, 0x1e404, 16, 131, 0, 1, some .tel, 0, .glob⟩,
   ⟨.TEL_BW_IN_MAX, .ws, 0x1e408, 16, 131, 0, 1, some .tel, 0, .glob⟩,
   ⟨.TEL_BW_OUT_MAX, .ws, 0x1e40c, 16, 131, 0, 1, some .tel, 0, .glob⟩]

/-- The meter and bucket arrays (R424), the per-group (R422) and the per-target replicas (R423). -/
def arrayPlacements : List Placement :=
  [⟨.POL_SRC_MTR_CFG, .ws, 0x200000, 32, 65536, 0, 1, some .core, 2, .meterSrc⟩,
   ⟨.POL_SRC_MTR_CIR, .ws, 0x200004, 32, 65536, 0, 1, some .core, 2, .meterSrc⟩,
   ⟨.POL_SRC_MTR_PIR, .ws, 0x200008, 32, 65536, 0, 1, some .core, 2, .meterSrc⟩,
   ⟨.POL_SRC_MTR_CBS, .ws, 0x20000c, 32, 65536, 0, 1, some .core, 2, .meterSrc⟩,
   ⟨.POL_SRC_MTR_PBS, .ws, 0x200010, 32, 65536, 0, 1, some .core, 2, .meterSrc⟩,
   ⟨.POL_DOM_MTR_CFG, .ws, 0x400000, 32, 4096, 0, 1, some .core, 2, .dom⟩,
   ⟨.POL_DOM_MTR_CIR, .ws, 0x400004, 32, 4096, 0, 1, some .core, 2, .dom⟩,
   ⟨.POL_DOM_MTR_PIR, .ws, 0x400008, 32, 4096, 0, 1, some .core, 2, .dom⟩,
   ⟨.POL_DOM_MTR_CBS, .ws, 0x40000c, 32, 4096, 0, 1, some .core, 2, .dom⟩,
   ⟨.POL_DOM_MTR_PBS, .ws, 0x400010, 32, 4096, 0, 1, some .core, 2, .dom⟩,
   ⟨.WWL_DOM_RATE, .ws, 0x420000, 16, 4096, 0, 1, some .core, 2, .dom⟩,
   ⟨.WWL_DOM_BURST, .ws, 0x420004, 16, 4096, 0, 1, some .core, 2, .dom⟩,
   ⟨.WWL_DOM_TOKS, .ws, 0x420008, 16, 4096, 0, 1, some .core, 0, .dom⟩,
   ⟨.WWL_GRP_RATE, .ws, 0x430000, 16, 1024, 0, 1, some .core, 2, .group⟩,
   ⟨.WWL_GRP_BURST, .ws, 0x430004, 16, 1024, 0, 1, some .core, 2, .group⟩,
   ⟨.WWL_GRP_TOKS, .ws, 0x430008, 16, 1024, 0, 1, some .core, 0, .group⟩,
   ⟨.WWL_TGT_RATE, .ws, 0x500000, 16, 65536, 0, 1, some .core, 2, .target⟩,
   ⟨.WWL_TGT_BURST, .ws, 0x500004, 16, 65536, 0, 1, some .core, 2, .target⟩,
   ⟨.WWL_TGT_TOKS, .ws, 0x500008, 16, 65536, 0, 1, some .core, 0, .target⟩,
   ⟨.RTE_GRP_CFG, .ws, 0x440000, 512, 1024, 0, 1, some .core, 2, .group⟩,
   ⟨.RTE_GRP_STAT, .ws, 0x440004, 512, 1024, 0, 1, some .core, 0, .group⟩,
   ⟨.RTE_SPREAD_ROT, .ws, 0x440008, 512, 1024, 0, 1, some .core, 0, .group⟩,
   ⟨.OAS_MODE, .ws, 0x440010, 512, 1024, 0, 1, some .core, 2, .group⟩,
   ⟨.OAS_GUARD, .ws, 0x440014, 512, 1024, 0, 1, some .core, 2, .group⟩,
   ⟨.OAS_GCMD, .ws, 0x440018, 512, 1024, 0, 1, some .core, 2, .group⟩,
   ⟨.OAS_STATUS, .ws, 0x44001c, 512, 1024, 0, 1, some .core, 0, .group⟩,
   ⟨.OAS_LATE_K, .ws, 0x440020, 512, 1024, 0, 1, some .core, 0, .group⟩,
   ⟨.OAS_LIVE, .ws, 0x440024, 512, 1024, 0, 1, some .core, 0, .group⟩,
   ⟨.OAS_ADM_BASE_LO, .ws, 0x440030, 512, 1024, 0, 1, some .core, 2, .group⟩,
   ⟨.OAS_ADM_BASE_HI, .ws, 0x440034, 512, 1024, 0, 1, some .core, 2, .group⟩,
   ⟨.OAS_ADM_CYCLE, .ws, 0x440038, 512, 1024, 0, 1, some .core, 2, .group⟩,
   ⟨.OAS_ADM_LEN, .ws, 0x44003c, 512, 1024, 0, 1, some .core, 2, .group⟩,
   ⟨.OAS_OPER_START_LO, .ws, 0x440040, 512, 1024, 0, 1, some .core, 0, .group⟩,
   ⟨.OAS_OPER_START_HI, .ws, 0x440044, 512, 1024, 0, 1, some .core, 0, .group⟩,
   ⟨.OAS_PEND_START_LO, .ws, 0x440048, 512, 1024, 0, 1, some .core, 0, .group⟩,
   ⟨.OAS_PEND_START_HI, .ws, 0x44004c, 512, 1024, 0, 1, some .core, 0, .group⟩,
   ⟨.OAS_OPER_CYCLE, .ws, 0x440050, 512, 1024, 0, 1, some .core, 0, .group⟩,
   ⟨.OAS_OPER_LEN, .ws, 0x440054, 512, 1024, 0, 1, some .core, 0, .group⟩,
   ⟨.OAS_ADM_ENT, .ws, 0x440080, 512, 1024, 4, 32, some .core, 2, .group⟩,
   ⟨.OAS_OPER_ENT, .ws, 0x440100, 512, 1024, 4, 32, some .core, 0, .group⟩,
   ⟨.RTE_TGT_CFG, .ws, 0x600000, 64, 65536, 0, 1, some .core, 2, .target⟩,
   ⟨.RTE_TGT_RT, .ws, 0x600004, 64, 65536, 0, 1, some .core, 1, .target⟩,
   ⟨.RTE_TGT_STAT, .ws, 0x600008, 64, 65536, 0, 1, some .core, 0, .target⟩,
   ⟨.CMP_TGT_CFG, .ws, 0x60000c, 64, 65536, 0, 1, some .core, 2, .target⟩,
   ⟨.DLV_RING_BASE_LO, .ws, 0x600010, 64, 65536, 0, 1, some .core, 2, .target⟩,
   ⟨.DLV_RING_BASE_HI, .ws, 0x600014, 64, 65536, 0, 1, some .core, 2, .target⟩,
   ⟨.DLV_RING_CFG, .ws, 0x600018, 64, 65536, 0, 1, some .core, 2, .target⟩,
   ⟨.DLV_NOTIFY_ADDR_LO, .ws, 0x60001c, 64, 65536, 0, 1, some .core, 2, .target⟩,
   ⟨.DLV_NOTIFY_ADDR_HI, .ws, 0x600020, 64, 65536, 0, 1, some .core, 2, .target⟩,
   ⟨.DLV_NOTIFY_DATA, .ws, 0x600024, 64, 65536, 0, 1, some .core, 2, .target⟩,
   ⟨.DLV_RING_PTR, .ws, 0x600028, 64, 65536, 0, 1, some .core, 0, .target⟩,
   ⟨.DLV_RING_CI, .ws, 0x60002c, 64, 65536, 0, 1, some .core, 0, .target⟩]

/-- The per-domain replicas of R421. -/
def domPlacements : List Placement :=
  [⟨.VFM_VF_STATUS, .ws, 0x10000000, 65536, 4096, 0, 1, none, 0, .dom⟩,
   ⟨.VFM_VF_IRQ_EN, .ws, 0x10000004, 65536, 4096, 0, 1, none, 1, .dom⟩,
   ⟨.VFM_RT, .ws, 0x10000008, 65536, 4096, 0, 1, none, 1, .dom⟩,
   ⟨.PWR_VOTE, .ws, 0x1000000c, 65536, 4096, 0, 1, none, 1, .dom⟩,
   ⟨.PWR_WAKE_SRC, .ws, 0x10000010, 65536, 4096, 0, 1, none, 0, .dom⟩,
   ⟨.VFM_DOM_CTRL, .ws, 0x10000040, 65536, 4096, 0, 1, some .core, 2, .dom⟩,
   ⟨.VFM_SHARE, .ws, 0x10000044, 65536, 4096, 0, 1, some .core, 2, .dom⟩,
   ⟨.VFM_DOM_STAT, .ws, 0x10000048, 65536, 4096, 0, 1, some .core, 0, .dom⟩,
   ⟨.VFM_IRQ_CFG, .ws, 0x1000004c, 65536, 4096, 0, 1, some .core, 2, .dom⟩,
   ⟨.VFM_IRQ_ADDR_LO, .ws, 0x10000050, 65536, 4096, 0, 1, some .core, 2, .dom⟩,
   ⟨.VFM_IRQ_ADDR_HI, .ws, 0x10000054, 65536, 4096, 0, 1, some .core, 2, .dom⟩,
   ⟨.VFM_IRQ_DATA, .ws, 0x10000058, 65536, 4096, 0, 1, some .core, 2, .dom⟩,
   ⟨.VFM_DOM_CMD, .ws, 0x1000005c, 65536, 4096, 0, 1, some .core, 2, .dom⟩,
   ⟨.VFM_XFER_LO, .ws, 0x10000060, 65536, 4096, 0, 1, some .core, 2, .dom⟩,
   ⟨.VFM_XFER_HI, .ws, 0x10000064, 65536, 4096, 0, 1, some .core, 2, .dom⟩,
   ⟨.VFM_XFER_LEN, .ws, 0x10000068, 65536, 4096, 0, 1, some .core, 0, .dom⟩,
   ⟨.VFM_XFER_SKIP, .ws, 0x1000006c, 65536, 4096, 0, 1, some .core, 0, .dom⟩,
   ⟨.VFM_SAVE_LOST, .ws, 0x10000070, 65536, 4096, 0, 1, some .core, 0, .dom⟩,
   ⟨.VFM_FLR_DIRTY, .ws, 0x10000074, 65536, 4096, 0, 1, some .core, 0, .dom⟩,
   ⟨.VFM_FLR_PEND, .ws, 0x10000078, 65536, 4096, 0, 1, some .core, 0, .dom⟩,
   ⟨.VFM_FLR_ACT, .ws, 0x1000007c, 65536, 4096, 0, 1, some .core, 0, .dom⟩,
   ⟨.VFM_FLR_UNISS, .ws, 0x10000080, 65536, 4096, 0, 1, some .core, 0, .dom⟩,
   ⟨.VFM_FLR_EGR, .ws, 0x10000084, 65536, 4096, 0, 1, some .core, 0, .dom⟩,
   ⟨.VFM_FLR_DROP, .ws, 0x10000088, 65536, 4096, 0, 1, some .core, 0, .dom⟩,
   ⟨.SST_RTCMD, .ws, 0x10000100, 65536, 4096, 0, 1, some .state, 1, .dom⟩,
   ⟨.SST_RTCNT, .ws, 0x10000104, 65536, 4096, 0, 1, some .state, 1, .dom⟩,
   ⟨.SST_CFGCMD, .ws, 0x10000108, 65536, 4096, 0, 1, some .state, 2, .dom⟩,
   ⟨.SST_CFGCNT, .ws, 0x1000010c, 65536, 4096, 0, 1, some .state, 2, .dom⟩,
   ⟨.SST_CFGDATA, .ws, 0x10000110, 65536, 4096, 0, 1, some .state, 2, .dom⟩,
   ⟨.SST_ENTRY0, .ws, 0x10000114, 65536, 4096, 0, 1, some .state, 0, .dom⟩,
   ⟨.SST_ENTRY1, .ws, 0x10000118, 65536, 4096, 0, 1, some .state, 0, .dom⟩,
   ⟨.CVN_MODE, .ws, 0x10000200, 65536, 4096, 0, 1, some .core, 2, .dom⟩,
   ⟨.CVN_EPOCH_CFG, .ws, 0x10000204, 65536, 4096, 0, 1, some .core, 2, .dom⟩,
   ⟨.CVN_HOLD_CFG, .ws, 0x10000208, 65536, 4096, 0, 1, some .core, 2, .dom⟩,
   ⟨.CVN_VERDICT, .ws, 0x1000020c, 65536, 4096, 0, 1, some .core, 0, .dom⟩,
   ⟨.CVN_BREAK_EPOCH, .ws, 0x10000210, 65536, 4096, 0, 1, some .core, 0, .dom⟩,
   ⟨.CVN_RUN_IMG, .ws, 0x10000214, 65536, 4096, 0, 1, some .core, 0, .dom⟩,
   ⟨.CVN_RUN_CFG, .ws, 0x10000218, 65536, 4096, 0, 1, some .core, 0, .dom⟩,
   ⟨.CVN_RUN_ROLE, .ws, 0x1000021c, 65536, 4096, 0, 1, some .core, 0, .dom⟩,
   ⟨.CVN_STATUS, .ws, 0x10000220, 65536, 4096, 0, 1, some .core, 0, .dom⟩,
   ⟨.CVN_STRAG_LOG, .ws, 0x10000224, 65536, 4096, 0, 1, some .core, 0, .dom⟩,
   ⟨.CVN_RTAPPLY, .ws, 0x10000228, 65536, 4096, 0, 1, some .core, 0, .dom⟩,
   ⟨.RTE_TCMD, .ws, 0x10000300, 65536, 4096, 0, 1, some .core, 1, .dom⟩,
   ⟨.RTE_TDATA, .ws, 0x10000304, 65536, 4096, 0, 1, some .core, 1, .dom⟩,
   ⟨.RNK_DOM_OCC, .ws, 0x10000308, 65536, 4096, 0, 1, some .core, 0, .dom⟩,
   ⟨.CMP_DBCMD, .ws, 0x10000400, 65536, 4096, 0, 1, some .core, 1, .dom⟩,
   ⟨.CMP_DBDATA, .ws, 0x10000404, 65536, 4096, 0, 1, some .core, 1, .dom⟩,
   ⟨.WAY_MODE, .ws, 0x10000500, 65536, 4096, 0, 1, some .log, 2, .dom⟩,
   ⟨.WAY_AREA_BASE, .ws, 0x10000504, 65536, 4096, 0, 1, some .log, 2, .dom⟩,
   ⟨.WAY_AREA_SIZE, .ws, 0x10000508, 65536, 4096, 0, 1, some .log, 2, .dom⟩,
   ⟨.WAY_SEG, .ws, 0x1000050c, 65536, 4096, 0, 1, some .log, 2, .dom⟩,
   ⟨.WAY_ARCH_LO, .ws, 0x10000510, 65536, 4096, 0, 1, some .log, 2, .dom⟩,
   ⟨.WAY_ARCH_HI, .ws, 0x10000514, 65536, 4096, 0, 1, some .log, 2, .dom⟩,
   ⟨.WAY_CMD, .ws, 0x10000518, 65536, 4096, 0, 1, some .log, 2, .dom⟩,
   ⟨.WAY_STATUS, .ws, 0x1000051c, 65536, 4096, 0, 1, some .log, 0, .dom⟩,
   ⟨.WAY_LOST_PEND, .ws, 0x10000520, 65536, 4096, 0, 1, some .log, 0, .dom⟩,
   ⟨.RPL_MODE, .ws, 0x10000600, 65536, 4096, 0, 1, some .log, 2, .dom⟩,
   ⟨.RPL_AREA_BASE, .ws, 0x10000604, 65536, 4096, 0, 1, some .log, 2, .dom⟩,
   ⟨.RPL_AREA_SIZE, .ws, 0x10000608, 65536, 4096, 0, 1, some .log, 2, .dom⟩,
   ⟨.RPL_START_LO, .ws, 0x1000060c, 65536, 4096, 0, 1, some .log, 2, .dom⟩,
   ⟨.RPL_START_HI, .ws, 0x10000610, 65536, 4096, 0, 1, some .log, 2, .dom⟩,
   ⟨.RPL_LEN_LO, .ws, 0x10000614, 65536, 4096, 0, 1, some .log, 2, .dom⟩,
   ⟨.RPL_LEN_HI, .ws, 0x10000618, 65536, 4096, 0, 1, some .log, 2, .dom⟩,
   ⟨.RPL_CMD, .ws, 0x1000061c, 65536, 4096, 0, 1, some .log, 2, .dom⟩,
   ⟨.RPL_STATUS, .ws, 0x10000620, 65536, 4096, 0, 1, some .log, 0, .dom⟩,
   ⟨.RPL_DONE_LO, .ws, 0x10000624, 65536, 4096, 0, 1, some .log, 0, .dom⟩,
   ⟨.RPL_DONE_HI, .ws, 0x10000628, 65536, 4096, 0, 1, some .log, 0, .dom⟩,
   ⟨.RPL_PARKED, .ws, 0x1000062c, 65536, 4096, 0, 1, some .log, 0, .dom⟩]

/-- Every placement of the register map. -/
def placements : List Placement :=
  dpPlacements ++ pagePlacements ++ blockPlacements0 ++ blockPlacements1 ++ arrayPlacements ++ domPlacements

end Sys2Proof.Machine
end

