-- ==== Sys2Proof/Machine/SMap.lean ====
section
/-! DEFINITION. Sparse maps: a list of key and value pairs with strictly rising keys, in which no entry holds the
value an unlisted key reads as. They hold the register file, the tables and the state entries as plain data. -/

namespace Sys2Proof.Machine

/-- A sparse map from natural keys. -/
abbrev SMap (α : Type) := List (Nat × α)

/-- The value listed for `k`. -/
def SMap.find {α : Type} : SMap α → Nat → Option α
  | [], _ => none
  | (a, v) :: r, k => if a = k then some v else SMap.find r k

/-- The value at `k`, `d` where `k` is not listed. -/
def SMap.get {α : Type} (d : α) (m : SMap α) (k : Nat) : α := (SMap.find m k).getD d

/-- List `v` at `k`, keeping the keys rising. -/
def SMap.insert {α : Type} : SMap α → Nat → α → SMap α
  | [], k, v => [(k, v)]
  | (a, w) :: r, k, v =>
    if k < a then (k, v) :: (a, w) :: r
    else if k = a then (k, v) :: r
    else (a, w) :: SMap.insert r k v

/-- Remove the entry of `k`. -/
def SMap.erase {α : Type} (m : SMap α) (k : Nat) : SMap α := m.filter (fun p => decide (p.1 ≠ k))

/-- Make `k` read `v`, where an unlisted key reads `d`: the canonical form lists no `d`. -/
def SMap.set {α : Type} [DecidableEq α] (d : α) (m : SMap α) (k : Nat) (v : α) : SMap α :=
  if v = d then SMap.erase m k else SMap.insert m k v

/-- Every key of `m` is above `b` and the keys rise. -/
def SMap.risingFrom {α : Type} (b : Nat) : SMap α → Bool
  | [] => true
  | (a, _) :: r => decide (b ≤ a) && SMap.risingFrom (a + 1) r

/-- The canonical form: keys strictly rising, no entry equal to the default `d`. -/
def SMap.wf {α : Type} [DecidableEq α] (d : α) (m : SMap α) : Bool :=
  SMap.risingFrom 0 m && m.all (fun p => decide (p.2 ≠ d))

end Sys2Proof.Machine
end

