-- ==== Sys2Proof/Machine/Types.lean ====
section
/-! DEFINITION. The structures of the main path: state entries, descriptors and events, the queues of intake, the
state cache, the caravan sequencer, ranking, heads in flight, delivery, completion, the journal and replay. Times are
in units of 1/45 ns, in which every clock period of R30 is a whole number; epochs, counts and positions are numbers. -/

namespace Sys2Proof.Machine

/-- The stored STATE codes (R155): 0b00 to 0b11. DONE is never stored (R156). -/
inductive EState where
  | idle
  | pending
  | active
  | poisoned
  deriving DecidableEq, Repr

/-- A state entry (R155). -/
structure Entry where
  st : EState
  rerase : Bool
  lvl : Bool
  orig : Bool
  mark : Bool
  park : Bool
  en : Bool
  mask : Bool
  typ : Bool
  prio : BitVec 8
  rkind : Bool
  route : BitVec 16
  count : BitVec 16
  seq : BitVec 8
  deriving DecidableEq, Repr

/-- The initial values of R155. -/
def Entry.init : Entry :=
  { st := .idle, rerase := false, lvl := false, orig := false, mark := false, park := false, en := true, mask := true,
    typ := false, prio := 0xFF#8, rkind := true, route := 0#16, count := 0#16, seq := 0#8 }

/-- The kind of an event record (R128). -/
inductive EvKind where
  | raise
  | lvlAssert
  | lvlDeassert
  deriving DecidableEq, Repr

/-- What R181 gives a member's event in lane order: its epoch and arrival sequence; `no` numbers the source's events at
this member, so that a waymark waits behind those before it and no others. -/
structure EvPos where
  epoch : Nat
  seq : Nat
  no : Nat
  deriving DecidableEq, Repr

/-- The event at the head of a lane whose ordinal the Source Table has named while translation stalls: the epoch and sequence
it took then, and its intake (R181). -/
structure Named where
  lane : Nat
  ord : Nat
  pos : Option EvPos
  t0 : Nat
  deriving DecidableEq, Repr

/-- An event record (R128), with what the path keeps beside it: the epoch and sequence of a member's event (R181),
the fabric time of its intake, and the number of its sample when the sampler follows it (R390). -/
structure Ev where
  dom : Nat
  eid : Nat
  ord : Nat
  lane : Nat
  kind : EvKind
  mark : Bool
  /-- What R181 gave a member's event; none for a non-member. -/
  pos : Option EvPos
  /-- The event came from the ring (an EVENT record at its home). -/
  ring : Bool
  t0 : Nat
  /-- The sample that tracks it (R390). -/
  smp : Option Nat
  deriving DecidableEq, Repr

/-- What waits in a lane: a carriage descriptor (R38) or an event of the Line Collector (R144). -/
inductive LaneItem where
  | desc (d : Rec)
  | line (n : Nat) (kind : EvKind)
  deriving DecidableEq, Repr

/-- A map read in progress (R139): the event translation holds, with its meters and precolour. -/
structure MapWait where
  tag : Nat
  ord : Nat
  dom : Nat
  index : Nat
  lane : Nat
  kind : EvKind
  pos : Option EvPos
  msel : Nat
  pre : Nat
  seg : Nat
  rid : Nat
  line : Bool
  t0 : Nat
  deriving DecidableEq, Repr

/-- Carriage Intake and the Line Collector (R128 to R154). -/
structure Intk where
  /-- INGR_READY. -/
  ready : Bool
  /-- Beat credits the switch holds. -/
  credits : Nat
  /-- The ingress buffer: the descriptors still waiting of each accepted beat, oldest first. -/
  buf : List (List Rec)
  /-- Credits due for return. -/
  due : Nat
  /-- The wake FIFO in AO: each descriptor with the number of beats in the buffer that came before it. -/
  wake : List (Nat × Rec)
  /-- The four lane FIFOs. -/
  lane0 : List LaneItem
  lane1 : List LaneItem
  lane2 : List LaneItem
  lane3 : List LaneItem
  /-- Lane 0 took a line event last (R132). -/
  lineLast : Bool
  /-- The INTx virtual wires, bit 4 × HPORT + PIN (R142). -/
  wires : BitVec 512
  /-- The capture latches of the lines (R47). -/
  latch : BitVec 1024
  /-- Latches set since CORE's clock stopped, which LIN_PEND does not show (R417). -/
  fresh : BitVec 1024
  /-- The raw input levels of the lines, and the levels the synchroniser last passed on. -/
  level : BitVec 1024
  sync : BitVec 1024
  /-- Heads of lanes that have been named. -/
  named : List Named
  /-- Level events of lines that wait for lane 0. -/
  linePend : List (Nat × EvKind)
  /-- The line served last. -/
  lastLine : Nat
  /-- Pulses narrower than 2 ns seen (the counter of a free value, R47). -/
  narrow : Nat
  maps : List MapWait
  deriving DecidableEq, Repr

/-- The token state of a meter (R148). `last` is in fabric ns. `paramBad` marks parameters with an uncorrectable
error (R151). -/
structure Meter where
  tc : Nat
  tp : Nat
  last : Nat
  paramBad : Bool
  deriving DecidableEq, Repr

/-- The Source Table, the translation table and the meters. `srcBad` and `xlateBad` list entries treated as VALID 0
until they are written (R408). -/
structure Src where
  source : SMap (BitVec 64)
  xlate : SMap (BitVec 128)
  srcBad : List Nat
  xlateBad : List Nat
  srcMtr : SMap Meter
  domMtr : SMap Meter
  deriving DecidableEq, Repr

/-- A release group of the hold store (R182). -/
structure Group where
  dom : Nat
  epoch : Nat
  eid : Nat
  p : Nat
  fo : Nat
  fs : Nat
  k : Nat
  lvl : Option Bool
  lo : Nat
  ls : Nat
  t0 : Nat
  /-- When it began to wait at the sequencer (R387). -/
  arr : Nat
  deriving DecidableEq, Repr

/-- Where the Route Resolver sends an offer (R214, R216): a target, or the fault ring with a code. -/
inductive Route where
  | tgt (t : Nat)
  | fault (code : Nat)
  deriving DecidableEq, Repr

/-- A group handed to the store at release: its route and its place in the release order. -/
structure Release where
  g : Group
  route : Route
  ro : Nat
  deriving DecidableEq, Repr

/-- What a head is. -/
inductive HeadKind where
  /-- The head of an offer. -/
  | live
  /-- A replay head (R276), with the journal record it came from. -/
  | replay (r : Rec)
  /-- A redelivery (R252), with the ring entry it repeats. -/
  | redeliv (r : Rec)
  deriving DecidableEq, Repr

/-- The cause of parking (R240, R428). -/
inductive ParkCause where
  | hport
  | full
  | journal
  | miss
  deriving DecidableEq, Repr

/-- Where a head in flight stands (R209). -/
inductive Stage where
  /-- At the Route Resolver, waiting for the fault queue, with its code (R217). -/
  | rte (code : Nat)
  /-- In the shaper's input queue (R228). -/
  | input
  /-- In a slot of the calendar. -/
  | wheel (slot : Nat)
  /-- Its slot has come due, or its bucket stopped blocking it: it waits for its re-test (R228). -/
  | due
  /-- On the zero list of a bucket: kind 0 target, 1 domain, 2 group. -/
  | zero (kind idx : Nat)
  /-- At the gate, to be tested again at a fabric time (R234); `none`: the gate opens at no time known yet. -/
  | gate (atTime : Option Nat)
  /-- At the gate without one of the two places of the cycle, to be tested again in the next: class 1 re-tested at an
  opening, 2 returning from parking, 3 new from the shaper (R234). -/
  | line (cls : Nat)
  /-- Passed the gate, waiting for a place at the engines. -/
  | place
  /-- Parked (R240). -/
  | parked (c : ParkCause)
  deriving DecidableEq, Repr

/-- A head in flight. `ro` is the release order of a CARAVAN head. -/
structure Head where
  eid : Nat
  dom : Nat
  tgt : Nat
  p : Nat
  ro : Option Nat
  kind : HeadKind
  stage : Stage
  /-- The line this head needs is held in the cache for it (R428). -/
  lineHeld : Bool
  /-- The journal has accepted its record (R265). -/
  jrnl : Bool
  start : Nat
  held : Nat
  since : Nat
  deriving DecidableEq, Repr

/-- An input waiting on a state-cache miss (R167). A command input continues the first running range command. -/
inductive MissInput where
  /-- An event; `sent` when its EVENT record has gone and only its own entry or group is left. -/
  | event (e : Ev) (sent : Bool)
  | complete (eid : Nat) (seq : Option Nat)
  | release (r : Release)
  | issue (h : Head)
  | cmd (cfg : Bool) (d : Nat)
  /-- A fault delivery that needs the line of its entry. -/
  | fault (eid : Nat)
  deriving DecidableEq, Repr

/-- A line miss. `tag` is the depot tag of its read, once issued. -/
structure Miss where
  line : Nat
  tag : Option Nat
  inputs : List MissInput
  t0 : Nat
  /-- The line has returned and waits for a place in the cache (R169); `true` when it came poisoned. -/
  got : Option Bool
  deriving DecidableEq, Repr

/-- A line of the state cache: the eight entries of EIDs 8n to 8n + 7. -/
structure Line where
  entries : List Entry
  dirty : Bool
  /-- Time of last use, for replacement (R166). -/
  stamp : Nat
  deriving DecidableEq, Repr

/-- A range command of SST_RTCMD or SST_CFGCMD that is running (R165). -/
structure RangeCmd where
  cfg : Bool
  d : Nat
  op : Nat
  eid : Nat
  left : Nat
  /-- It waits for an epoch close (R163). -/
  wait : Bool
  skipped : Bool
  deriving DecidableEq, Repr

/-- A line of the victim buffer (R169): its number and entries, the depot tag of its write once issued, and whether a
running flush waits for it (R170). -/
structure Victim where
  line : Nat
  entries : List Entry
  tag : Option Nat
  flush : Bool
  deriving DecidableEq, Repr

/-- The Event State Store (R155 to R175). -/
structure Sst where
  cache : SMap Line
  /-- The victim buffer, oldest first. -/
  victims : List Victim
  missq : List Miss
  /-- Events that hold their lanes: for room in the miss queue or the origin queue, or for a hold record (R133, R183,
  R285); `true` when the EVENT record has gone. -/
  stalled : List (Ev × Bool)
  /-- Completions that wait in the Completion Tracker for room in the miss queue. -/
  comps : List (Nat × Option Nat)
  cmds : List RangeCmd
  clock : Nat
  /-- Entries that became POISONED so far (the counter of a free value: their other fields). -/
  psn : Nat
  /-- The next set a flush visits; `none` when no flush runs. -/
  flush : Option Nat
  scrub : Nat
  deriving DecidableEq, Repr

/-- What moves a run of depot lines by itself. -/
inductive JobKind where
  /-- The save record of a domain: SAVE writes it, RESTORE reads it (R318, R319). -/
  | save (d : Nat)
  | restore (d : Nat)
  /-- The line of VFM_DEP_CMD, with the data that it writes (R321). -/
  | line (data : BitVec 512)
  /-- The record of a persistent save (R354). -/
  | record
  /-- A copy of the configuration home (R349). -/
  | home
  /-- The off area, written before domains go OFF and read back at the exit (R324, R336). -/
  | off
  | offBack
  /-- Start-up restore: the header of every slot, the body of one slot's record, and a copy of the home (R358). -/
  | headers
  | body (slot : Nat)
  | homeBody (slot : Nat)
  deriving DecidableEq, Repr

/-- A run of `count` line requests from window offset `base` on, `next` of which have been made. `id` tells it apart from
every other; `bad` says that a line it read came poisoned. -/
structure Job where
  id : Nat
  kind : JobKind
  write : Bool
  base : Nat
  count : Nat
  next : Nat
  bad : Bool
  deriving DecidableEq, Repr

/-- What a depot tag is outstanding for (R45). -/
inductive TagUse where
  | fill (line : Nat)
  | map
  | stateWb (line : Nat)
  | jrnl (d : Nat)
  /-- A line of a domain's replay area. -/
  | replay (d : Nat)
  /-- Request `n` of a job. -/
  | job (id n : Nat)
  /-- An after-save marker or a sampler record. -/
  | other
  deriving DecidableEq, Repr

/-- An outstanding depot request: its purpose, its direction, and its line, a window offset over 64 (DEP_REQ_ADDR). -/
structure DepTag where
  use : TagUse
  write : Bool
  line : Nat
  deriving DecidableEq, Repr

/-- A request that stands at the depot port, with its tag and what DEP_WDATA carries (R37). -/
structure DepOut where
  tag : Nat
  write : Bool
  line : Nat
  data : BitVec 512
  deriving DecidableEq, Repr

/-- The depot and its requester: content outside the backing, the backing itself, and tags outstanding. -/
structure Dep where
  mem : List Host.Cell
  backing : SMap Entry
  tags : SMap DepTag
  /-- Requests made so far (the counter of a free value: the tag taken). -/
  n : Nat
  /-- Requests not yet taken, oldest first, and the directions of those taken in the last four FCLK cycles (R46). -/
  out : List DepOut
  past : List (Option Bool)
  jobs : List Job
  /-- Jobs begun so far. -/
  jobNo : Nat
  deriving DecidableEq, Repr

/-- What the block keeps for one member source (R178): `opn`, `seq` and `quiet` at intake, in lane order; `cls`, the
first epoch the source has not closed, and `cquiet` at the sequencer, where a waymark applies behind the source's
earlier events (R181). `cov` is the first epoch that no accepted MARK or QUIET of the source covers (R185), and `sent`
the number of its events that took a sequence. -/
structure CvnSrc where
  opn : Nat
  seq : Nat
  quiet : Bool
  cls : Nat
  cquiet : Bool
  cov : Nat
  sent : Nat
  deriving DecidableEq, Repr

/-- A waymark that waits behind earlier events of its source (R181). `own` is set at its intake member, which sends the
WAYMARK record when it applies. -/
structure WmWait where
  ord : Nat
  dom : Nat
  wkind : Nat
  epoch : Nat
  own : Bool
  /-- The source's events before it: those numbered below. -/
  no : Nat
  deriving DecidableEq, Repr

/-- What the sequencer keeps for one running domain (R184 to R197). -/
structure Run where
  /-- The oldest open epoch. -/
  oldest : Nat
  /-- Fabric time at which it became the oldest. -/
  since : Nat
  /-- The hold clock: time run, when it has started. -/
  clock : Option Nat
  /-- Members declared stragglers for the oldest epoch. -/
  strag : List Nat
  /-- OVERDUE has been counted for the oldest epoch. -/
  overdue : Bool
  /-- Non-member events placed, per ordinal (R176). -/
  nonmem : SMap Nat
  deriving DecidableEq, Repr

/-- A closed epoch whose groups are being released (R190). -/
structure Closed where
  dom : Nat
  epoch : Nat
  groups : List Group
  /-- Groups routed so far to each target group: the canonical position r of R214. -/
  pos : SMap Nat
  /-- In a TANDEM pair, the partner's CLOSE has come (R194). -/
  agreed : Bool
  /-- When it closed, in 1/45 ns. -/
  since : Nat
  deriving DecidableEq, Repr

/-- The Caravan Sequencer. -/
structure Cvn where
  srcs : SMap CvnSrc
  runs : SMap Run
  groups : List Group
  closed : List Closed
  refused : List Release
  wms : List WmWait
  /-- Epochs whose CLOSE came from the partner before the unit's own decision. -/
  peer : List (Nat × Nat)
  /-- The release order number of the next release. -/
  ro : Nat
  /-- Domains of which a release has been refused in this cycle (R379). -/
  waits : List Nat
  deriving DecidableEq, Repr

/-- An offer: a place of the rank store (R200 to R205). `ro` is set for a CARAVAN stream entry. -/
structure Offer where
  eid : Nat
  dom : Nat
  tgt : Nat
  p : Nat
  ro : Option Nat
  ready : Bool
  /-- The cycle and the slot in which it was placed, and its number among those (R203, R204). -/
  at_ : Nat
  slot : Nat
  no : Nat
  deriving DecidableEq, Repr

/-- A faulted offer (R217). `rpl` is the journal record of a faulted replay head (R276). -/
structure FaultItem where
  eid : Nat
  dom : Nat
  code : Nat
  ro : Option Nat
  rpl : Option Rec
  deriving DecidableEq, Repr

/-- An offer that waits in its source's queue for a slot (R203): slots 0 to 3 are the lanes', 6 the two shared ones, whose
sources `kind` are 1 completion, 2 ring, 3 unmask or configuration change, 4 the waiting scanner. `keep` is the release order and the p of a
CARAVAN head that is routed again. -/
structure OfferWait where
  slot : Nat
  kind : Nat
  eid : Nat
  keep : Option (Nat × Nat)
  deriving DecidableEq, Repr

/-- Ranking and routing. -/
structure Rnk where
  offers : List Offer
  no : Nat
  /-- Offers that wait for a slot, and those that used one in this cycle (R203). -/
  queue : List OfferWait
  used : List OfferWait
  /-- CARAVAN stream entries, offered outside a release, that wait for a place of the rank store. -/
  held : List Offer
  waiting : List Nat
  lastDom : Nat
  /-- The EID of each domain that the waiting scanner admitted last (R202). -/
  lastEid : SMap Nat
  heads : List Head
  faultQ : List FaultItem
  heldFaults : List FaultItem
  lastGroup : Nat
  last : SMap Nat
  deriving DecidableEq, Repr

/-- A shaper bucket (R221): the signed count and whether its parameter word is bad (R225 cause 1). -/
structure Bucket where
  tok : Int
  bad : Bool
  deriving DecidableEq, Repr

/-- The shaper. -/
structure Wwl where
  tgt : SMap Bucket
  dom : SMap Bucket
  grp : SMap Bucket
  tick : Nat
  /-- Fabric time, in ns, of the next refill tick. -/
  tickAt : Nat
  /-- A forward step of fabric time makes every bucket fall back (R225 cause 3). -/
  jumped : Bool
  /-- This FCLK cycle so far (R222, R228): re-tests, re-tests that passed, heads tested from the input queue, and the
  buckets debited. -/
  tests : Nat
  passes : Nat
  inputs : Nat
  debits : List (Nat × Nat)
  deriving DecidableEq, Repr

/-- A gate list: start, cycle, length, and all 32 entries (open, interval), in ns (R229). -/
structure GateList where
  start : Nat
  cycle : Nat
  len : Nat
  ents : List (Bool × Nat)
  deriving DecidableEq, Repr

/-- The Oasis Gate Controller. -/
structure Oas where
  /-- Pending lists by group. -/
  pend : SMap GateList
  /-- Groups whose oper list is damaged (R232). -/
  damaged : List Nat
  /-- Gate cycles of each group's oper list whose start has been taken, or has passed when a value was buffered (R232). -/
  cyc : SMap Nat
  /-- Places to the engines used in this FCLK cycle (R234). -/
  placed : Nat
  /-- Live issue-to-acknowledge maxima, per group, of the window running and of the last window, ns (R233). -/
  cur : SMap Nat
  prev : SMap Nat
  deriving DecidableEq, Repr

/-- A write toward host memory (R42). -/
structure EgrWrite where
  tag : Nat
  data : Rec
  addr : Nat
  hport : Nat
  len : Nat
  ns : Bool
  wkind : Nat
  func : Nat
  dom : Nat
  /-- The group of the delivery, and whether this is its last write, whose acknowledgement ends the measurement of the
  guard band (R233). -/
  grp : Option Nat
  last : Bool
  /-- Issue number. -/
  no : Nat
  issued : Nat
  /-- It is the ring entry, not a notification or status write. -/
  entry : Bool
  /-- The cycle of its issue: time since COLD. -/
  cyc : Nat
  deriving DecidableEq, Repr

/-- An active record (R242), with the ring entry it stands for. -/
structure ActiveRec where
  eid : Nat
  seq : Nat
  tgt : Nat
  hport : Nat
  dom : Nat
  p : Nat
  fault : Bool
  replay : Bool
  redelivs : Nat
  /-- Running time of the redelivery timer; none when it is off or stopped. -/
  timer : Option Nat
  rdMax : Nat
  entry : Rec
  issued : Nat
  deriving DecidableEq, Repr

/-- The Delivery Engines and the Completion Tracker. -/
structure Dlv where
  /-- Records whose completion has freed them while DONE still waits for the entry's line (R207). -/
  closing : List ActiveRec
  egr : List EgrWrite
  reissue : List EgrWrite
  tags : List EgrWrite
  unsent : List EgrWrite
  active : List ActiveRec
  /-- LOST entries of the tracker, in order of expiry: the ring entry. -/
  lost : List Rec
  /-- Expiries that found the list full. -/
  lostRetry : List Rec
  /-- Status writes and notifications that wait for a tag or for room. -/
  writes : List EgrWrite
  /-- Writes issued so far (issue numbers; the counter of a free value: the tag taken). -/
  no : Nat
  deriving DecidableEq, Repr

/-- A journal record at its write position (R258). -/
structure JRec where
  d : Nat
  pos : Nat
  data : Rec
  deriving DecidableEq, Repr

/-- One Chetal port (R284 to R286). -/
structure ChlSide where
  /-- The transmit queue and the origin queue behind it; records that wait for the origin queue stand at its end. -/
  tx : List Rec
  orig : List Rec
  /-- CHL_x_LANE_UP. -/
  lanes : BitVec 4
  /-- Records sent, and received, on this hop since the last CHECK, with the CRC register over their images. -/
  sent : Nat
  sentCrc : Word
  rcvd : Nat
  rcvdCrc : Word
  /-- This member's PAUSE for this port's direction is in force. -/
  pausing : Bool
  /-- The records of the beat on CHL_x_TXD (R54, R282); empty without a valid beat. -/
  out : List Rec
  /-- The start of the wake pattern that the port sends (R293). -/
  pattern : Option Nat
  deriving DecidableEq, Repr

/-- CHL_STATUS.STATE (R288). -/
inductive ChlSt where
  | off
  | listen
  | ready
  | joined
  | found
  | refused
  deriving DecidableEq, Repr

/-- The Chetal Ring Port. Times are in 1/45 ns; OPEN, the end of a window and RTT are fabric times in ns. -/
structure Chl where
  st : ChlSt
  east : ChlSide
  west : ChlSide
  /-- PAUSEs in force: the sender and DIR. -/
  pauses : List (Nat × Bool)
  /-- The window in force: OPEN in ns and WIN_LEN in µs; and whether OPEN has been acted on. -/
  window : Option (Nat × Nat)
  opened : Bool
  /-- This member asked to leave, or asked for a wake. -/
  leaving : Bool
  waking : Bool
  /-- The coordinator owes a window after a LEAVE_REQ or WAKE_REQ. -/
  winWant : Bool
  /-- End of the last window, in ns, and the sending of the last one. -/
  winEnd : Option Nat
  winSent : Nat
  /-- Calibration: the time its PROBEs carry, those still to come back, and the largest round trip so far, in ns. -/
  calib : Option (Nat × Nat × Nat)
  /-- The last BEACON, or the start of listening. -/
  beacon : Nat
  /-- Time of entering FOUND, or of OPEN for a joiner. -/
  tried : Nat
  /-- This member is joining: OPEN has come and its ports are to lock. -/
  joining : Bool
  /-- Ports that have locked since OPEN: east and west. -/
  lockE : Bool
  lockW : Bool
  /-- Times of the last BEACON and PROBE this coordinator sent. -/
  beaconSent : Nat
  probeSent : Nat
  /-- LEAVE is in the transmit queue: the bypass closes once it has gone (R290). -/
  departing : Bool
  /-- Records that the receive path holds until CORE runs (R333), with the port they came in on. -/
  rxw : List (ChlPort × Rec)
  /-- BEACONs in a row that did not list the Tandem primary (R298). -/
  absent : Nat
  deriving DecidableEq, Repr

/-- What the last HEARTBEAT of the partner said (R296). -/
structure Partner where
  seq : Nat
  crc : Word
  cur : Nat
  cfg : Nat
  intact : Bool
  doze : Bool
  deriving DecidableEq, Repr

/-- The Tandem Unit. -/
structure Tdm where
  seq : Nat
  acked : Nat
  /-- Records applied since the last ACK. -/
  sinceAck : Nat
  /-- Time of the last TANDEM record of the partner, 1/45 ns; none before the first. -/
  heard : Option Nat
  partner : Option Partner
  /-- An uncorrectable state or hold-store error since the last resynchronisation (R297). -/
  damaged : Bool
  /-- The partner's HELLO agrees; its HEARTBEAT then forms the pair. -/
  helloOk : Bool
  /-- SWITCH waits for the last ACK. -/
  switching : Bool
  /-- The standby's resynchronisation: one above the highest word that has arrived; `none` outside it. -/
  bulk : Option Nat
  /-- The winner's resynchronisation: the next word to send, and the words sent. -/
  bulkOut : Option (Nat × Nat)
  /-- The words of a structure of several words that the standby has taken so far. -/
  bulkBuf : List Nat
  /-- Times of the last HEARTBEAT, HELLO and ACK sent. -/
  hbSent : Nat
  helloSent : Nat
  ackSent : Nat
  /-- Digests of this unit and of the partner that have not met: domain, epoch, CRC (R301). -/
  digests : List (Nat × Nat × Word)
  peerDigests : List (Nat × Nat × Word)
  /-- The PEER request that waits: its tag and the time of sending. -/
  request : Option (Nat × Nat)
  tag : Nat
  deriving DecidableEq, Repr

/-- What the journal keeps for one domain. -/
structure Jrnl where
  pos : Nat
  segno : Nat
  /-- Write position at which the present segment started. -/
  segStart : Nat
  /-- Records of the present segment, and the time since COLD at which it started. -/
  inSeg : Nat
  segAt : Option Nat
  /-- Fabric time (ns) of the last record with a full TIME. -/
  lastFull : Nat
  lostTime : Nat
  /-- FENCE, END and TIME records that wait for room under STOP. -/
  waiting : List Rec
  /-- The partly filled line: its first position and its records so far. -/
  part : List JRec
  /-- How many of these have been written to the depot in a line that was not full, and when the last one came, since
  COLD. -/
  done : Nat
  partAt : Nat
  /-- A flush command of this cycle; the write position up to which a flush still has records to write, and, once they are
written, the depot tags whose acknowledgements it awaits (R272). -/
  flushAsk : Bool
  flush : Option Nat
  acks : Option (List Nat)
  /-- The Survives letter of a reset whose WAY_ fields are reset once the flush ends (R272); 0 none. -/
  resetAfter : Nat
  /-- WAY_ARCH_HI as written, until a write of WAY_ARCH_LO commits it (R270). -/
  archHi : Option Word
  /-- WAY_ARCH at the start of the cycle, where a commit of the cycle has changed it (R270). -/
  archWas : Option Nat
  deriving DecidableEq, Repr

/-- The Waybill Journal. -/
structure Way where
  q : List JRec
  doms : SMap Jrnl
  /-- Intake is stopped for back-pressure (R24). -/
  stop : Bool
  deriving DecidableEq, Repr

/-- A replay in progress (R273 to R279). -/
structure Replay where
  /-- The next slot to take, the lap expected there, and slots to pass over. -/
  slot : Nat
  lap : Bool
  taken : Nat
  /-- Records waiting in the window for their target. -/
  window : List Rec
  /-- The last counted record has been taken, and when. -/
  allTaken : Bool
  /-- Events that DISCARD has discarded (R280). -/
  discarded : Nat
  takenAt : Nat
  /-- The depot line whose read is outstanding, and the line last read with its content and its poison. -/
  ask : Option Nat
  line : Option (Nat × BitVec 512 × Bool)
  deriving DecidableEq, Repr

/-- A walk over a domain's entries (R197, R312, R313). -/
structure Walk where
  /-- FLR or DOMAIN reset: entries return to their initial values. -/
  reset : Bool
  /-- Fence: PENDING and ACTIVE entries are cleared. -/
  fence : Bool
  /-- Run start: SEQ to 0. -/
  seq : Bool
  dirty : Bool
  /-- The counts of R314, held until the walk ends. -/
  pend : Nat
  act : Nat
  uniss : Nat
  egr : Nat
  /-- When it began, in 1/45 ns. -/
  since : Nat
  deriving DecidableEq, Repr

/-- A SAVE or RESTORE that is running (R318, R319): the record's header, of a SAVE without its CRCs, and the bytes from
0x40 on that have been composed or read so far. -/
structure VfMove where
  len : Nat
  hdr : List Byte
  body : List Byte
  deriving DecidableEq, Repr

/-- The Virtual Function Manager. -/
structure Vfm where
  /-- VFs that SR-IOV has enabled: NumVFs, or 0 while VF Enable is 0 (R48, R303). -/
  vfs : Nat
  /-- VF Enable and NumVFs of the SR-IOV capability. -/
  vfEn : Bool
  numVfs : Nat
  /-- Words written to the configuration headers of the functions, VF Enable and NumVFs apart: function × 1,024 + word,
  and 4,096 × 1,024 + word for the SR-IOV capability of function 0. -/
  hdr : SMap Word
  /-- Writes that were in the egress queue at a domain's last dirty FLRs, by their tags, not yet acknowledged (R314). -/
  egr : SMap (List Nat)
  /-- The domain whose VFM_DOM_RST walk runs (R366). -/
  rst : Option Nat
  /-- Domains whose status interrupt is not armed (R305). -/
  disarmed : List Nat
  walks : SMap Walk
  /-- The SAVEs and RESTOREs that run, by domain. -/
  saves : SMap VfMove
  restores : SMap VfMove
  /-- Domains restored since (R308). -/
  restored : List Nat
  /-- Functions whose FLR is held until READY (R362). -/
  heldFlr : List Nat
  /-- Domains whose DRAINED was 0 when last looked at. -/
  undrained : List Nat
  /-- Parked entries to be released as groups of epoch 0 at the next enable (R280). -/
  parkGroups : List Group
  deriving DecidableEq, Repr

/-- One telemetry counter (R376). -/
structure Ctr where
  val : BitVec 64
  ovf : Bool
  deriving DecidableEq, Repr

/-- A tracked sample (R390 to R392): the times of its stages, in 1/45 ns. -/
structure Sample where
  id : Nat
  eid : Nat
  dom : Nat
  ord : Nat
  tgt : Nat
  lane : Nat
  prio : Nat
  flags : BitVec 8
  no : Nat
  t0 : Nat
  state : Option Nat
  rel : Option Nat
  hand : Option Nat
  shaped : Option Nat
  gated : Option Nat
  issue : Option Nat
  ack : Option Nat
  fin : Option Nat
  tag : Option Nat
  epoch : Nat
  /-- The fabric time at which it completed or was dropped. -/
  endTime : Option Nat
  deriving DecidableEq, Repr

/-- Telemetry (R376 to R394). -/
structure Tel where
  cnt : SMap Ctr
  snapCnt : SMap Ctr
  acc : SMap (BitVec 128)
  snapAcc : SMap (BitVec 128)
  /-- MIN, MAX and WMAX of each probe in the snapshot bank. -/
  snapProbe : SMap (Word × Word × Word)
  /-- The running window maximum of each probe. -/
  wmax : SMap Nat
  /-- Running bandwidth counts in bytes: 2 × port for IN, 2 × port + 1 for OUT. -/
  bw : SMap Nat
  /-- Number of the telemetry window running, and the fabric ns at which it ends. -/
  winEnd : Nat
  /-- Fabric ns of the next sample of the level probes. -/
  lvlAt : Nat
  /-- Start of the pending delivery of an EID (R387), and its hold time at the sequencer. -/
  starts : SMap Nat
  holds : SMap Nat
  cand : Nat
  smpNo : Nat
  /-- What tells the next sample apart from the others. -/
  smpId : Nat
  samples : List Sample
  /-- Finished sampler records waiting for the depot. -/
  smpBuf : List (BitVec 512)
  /-- Live ring queueing maxima (R386), ns: this window and the last. -/
  qCur : Nat
  qPrev : Nat
  deriving DecidableEq, Repr

/-- The row of R60's tables that a handshake has reached. -/
inductive PswPhase where
  /-- No handshake runs. -/
  | rest
  /-- Switch-off, row 0: isolated; `keep` says that retention follows. -/
  | iso (keep : Bool)
  /-- Switch-off, row 1: retention, or not. -/
  | ret
  /-- PSW_EN has changed; PSW_ACK is awaited. -/
  | wait
  /-- Switch-on, row k: PSW_ACK is there. -/
  | acked
  /-- Switch-on, row k + 1: retention is released. -/
  | held
  deriving DecidableEq, Repr

/-- The power handshake of one switched domain (R60): the four signals, the row reached, and when. -/
structure Psw where
  en : Bool
  ack : Bool
  iso : Bool
  ret : Bool
  phase : PswPhase
  since : Nat
  deriving DecidableEq, Repr

/-- Where a change of performance point stands (R341). -/
inductive PerfPhase where
  /-- A Voltage write is on the bus, or its retry waits (`true`). -/
  | frame (retry : Bool)
  | settle
  /-- FCLK is stopped for the retune. -/
  | retune
  deriving DecidableEq, Repr

/-- A change of performance point that runs. -/
structure PerfChange where
  point : Nat
  /-- The millivolts of its Voltage write. -/
  mv : Nat
  up : Bool
  phase : PerfPhase
  /-- Retries left. -/
  left : Nat
  since : Nat
  deriving DecidableEq, Repr

/-- A register access (R48, R100): how it came, its space and offset, and, for a write, the data and byte enables. `tag`
is the TAG of a PEER request; `ecc` is what a command that it starts finds in the SRAM word it reads. -/
structure RegAcc where
  port : Port
  space : Space
  off : Nat
  wr : Bool
  data : Word
  be : Nat
  tag : Nat
  ecc : Ecc
  deriving DecidableEq, Repr

/-- A sideband command (R51), with how its frame arrived. -/
inductive SbCmd where
  /-- Commands 0x01 and 0x02: a register at an offset of either space, read or written. -/
  | register (frame : SbFrame) (off : Word) (wr : Bool) (data : Word)
  /-- Command 0x04. -/
  | status (frame : SbFrame)
  /-- Command 0x03: the bytes after the code. -/
  | image (frame : SbFrame) (bytes : List Byte)
  deriving DecidableEq, Repr

/-- The Power Manager (R322 to R342). Times are time since COLD, in 1/45 ns. -/
structure Pwr where
  /-- The clocks of CORE, STATE, LOG and TEL are stopped. -/
  gated : Bool
  /-- The entry that runs, or the dormancy, has the form DOZE. -/
  doze : Bool
  /-- Start of the drain of the entry that runs. -/
  decided : Option Nat
  /-- The end of its drain, and the row after it that R330's table has reached; none before and after. -/
  rows : Option (Nat × Nat)
  /-- An abandoned entry is being taken back until this time, and until every domain is on again (R331). -/
  back : Option Nat
  /-- The last clocked cycle of the exit's handshakes has come; OFF domains are being restored. -/
  restoring : Bool
  exiting : Bool
  lastExit : Nat
  exits : Nat
  /-- CORE, STATE, LOG, TEL and RING. -/
  psw : List Psw
  /-- Domains that go OFF in this entry, by their code. -/
  off : List Nat
  offAt : Option Nat
  /-- Wake requests sampled and not yet acted on: code and detail. -/
  wakes : List (Nat × Nat)
  change : Option PerfChange
  /-- Accesses that wait for the wake they requested (R107). -/
  accs : List RegAcc
  /-- The member left the ring to sleep. -/
  detached : Bool
  /-- The request that waits for its change. -/
  want : Bool
  /-- A switch of the FCLK source runs (to the PLL), since when. -/
  clk : Option (Bool × Nat)
  deriving DecidableEq, Repr

/-- The Time Base (R54). -/
structure Tim where
  /-- Time since COLD, never held. -/
  now : Nat
  /-- Fabric time; it holds on a backward step. -/
  ft : Nat
  /-- The time last loaded, running on; fabric time follows it from above. -/
  ref : Nat
  /-- Time of the last toggle, since COLD; until the first, fabric time reads 0 (R368). -/
  tog : Nat
  seen : Bool
  deriving DecidableEq, Repr

/-- A slot that arbitration found intact (R91): its first 64 bytes. -/
structure Cand where
  hdr : List Byte
  deriving DecidableEq, Repr

/-- Where the Image Loader stands (R89 to R92). -/
inductive LoadPhase where
  | idle
  /-- It reads a candidate slot. -/
  | reading
  /-- Every candidate has been read; the choice follows. -/
  | judged
  /-- The second read of the chosen slot. -/
  | loading
  /-- The second read has ended. -/
  | loaded
  deriving DecidableEq, Repr

/-- The Image Loader (R88 to R95). -/
structure Loader where
  phase : LoadPhase
  /-- A reload: an image is in force. -/
  reload : Bool
  /-- SLOT_SEL of this arbitration. -/
  sel : Nat
  /-- The slot that is read: `true` for B. -/
  slot : Bool
  /-- The bytes of it that have arrived. -/
  buf : List Byte
  a : Option Cand
  b : Option Cand
  /-- The code with which the second read ended. -/
  code : Nat
  /-- Time of the pending request, since COLD, in 1/45 ns. -/
  since : Nat
  deriving DecidableEq, Repr

/-- The configuration walker (R123 to R127). -/
structure Cfg where
  /-- Passes run: STAGE has reached READY. -/
  on : Bool
  /-- Time with CORE running in this pass, 1/45 ns. -/
  ran : Nat
  /-- Nothing covered has changed since the pass began, and no Bnd value waited at its start. -/
  clean : Bool
  /-- A field of a domain that was off was passed over. -/
  skipped : Bool
  /-- Passes ended so far. -/
  pass : Nat
  /-- The CRCs of the regions that this pass has read, region 0 first: its position. -/
  read : List Word
  /-- The region CRCs of the last pass, and the region references. -/
  crcs : List Word
  refs : List Word
  deriving DecidableEq, Repr

/-- What a save record holds (R346, R355), class by class; the layout of its bytes is internal to the block. -/
structure SaveRec where
  seq : Nat
  trig : Nat
  part : Bool
  imgCrc : Word
  homeGen : Nat
  time : Nat
  classes : BitVec 8
  dirty : Nat
  length : Nat
  /-- The P fields of the classes held that are not in the home. -/
  regs : SMap Word
  /-- Class 3. -/
  srcs : SMap CvnSrc
  runs : SMap Run
  /-- Class 4. -/
  tgt : SMap Bucket
  dom : SMap Bucket
  grp : SMap Bucket
  oas : Oas
  /-- Class 5. -/
  way : SMap Jrnl
  rpl : SMap Replay
  /-- Class 6. -/
  cnt : SMap (BitVec 64)
  /-- Class 7. -/
  commit : Nat
  /-- Domains recorded as RESETTING. -/
  resetting : List Nat
  deriving DecidableEq, Repr

/-- What a copy of the configuration home holds (R348, R349): its GEN, the CFG_CRC_REF it was taken under, and the
configuration. -/
structure Home where
  gen : Nat
  ref : Word
  regs : SMap Word
  source : SMap (BitVec 64)
  xlate : SMap (BitVec 128)
  deriving DecidableEq, Repr

/-- A save that runs: its trigger, slot and classes, and the snapshot once it has been taken. -/
structure SaveRun where
  trig : Nat
  slot : Nat
  part : Bool
  classes : BitVec 8
  snap : Option SaveRec
  deriving DecidableEq, Repr

/-- The Persistent Save Unit. Times are time since COLD, in 1/45 ns. -/
structure Sav where
  /-- What the bytes of completed save records and home copies in the depot spell, by window offset. -/
  recs : SMap SaveRec
  homes : SMap Home
  run : Option SaveRun
  /-- The home write that runs: the copy's window offset and what it writes. -/
  home : Option (Nat × Home)
  /-- The last save start, and the PERIODIC triggers since. -/
  last : Option Nat
  skips : Nat
  /-- A PFAIL save has run since the last COLD. -/
  pfailed : Bool
  /-- Triggers that wait, PFAIL for the interval and each trigger for RUN, with what the hold-up check at the trigger
answered (R353): 0 FULL, 1 PARTIAL, 2 NONE. -/
  wait : List (Nat × Nat)
  /-- The last home write's start; a COMMIT awaits its 8 s; a home write is due. -/
  homeAt : Option Nat
  homeWant : Bool
  /-- The save whose after-save marker the next state write-back writes: window offset of its slot and sequence. -/
  mark : Option (Nat × Nat)
  /-- Start-up restore reads the keep region: the slots that have failed a check so far (R358). -/
  scan : Option (List Nat)
  /-- Save triggers without a sample of the hold-up monitor so far (the counter of a free value). -/
  asks : Nat
  deriving DecidableEq, Repr

/-- What the rules about one cycle look back on: it begins with a clock tick. -/
structure Errs where
  /-- ERR_LOG was filled in this cycle (R407). -/
  fresh : Bool
  /-- Domains that an error has fenced in this cycle (R409). -/
  fences : List Nat
  /-- Domains whose CVN_VERDICT.FIRST was recorded in this cycle (R198). -/
  firsts : List Nat
  /-- Domains whose DRAINED was 0 when this cycle began (R312, R315). -/
  undrained : List Nat
  deriving DecidableEq, Repr

/-- Reset and start-up (R361 to R374). -/
structure Boot where
  /-- COLD_RST_N, or WARM_RST_N, is asserted. -/
  held : Bool
  warmHeld : Bool
  /-- WARM_RST_N is low: a WARM that waits for it may find it high again. -/
  warmLow : Bool
  /-- A WARM waits for the end of an entry or of an exit. -/
  warmWant : Bool
  /-- WARM start-up runs arbitration (R94). -/
  warmArb : Bool
  /-- Start-up after COLD, or after WARM. -/
  cold : Bool
  /-- The wait for depot responses after WARM, since when (R364). -/
  depWait : Option Nat
  /-- FABRIC resets that wait for the end of MGT-PF requests in progress (R365). -/
  fabrics : Nat
  deriving DecidableEq, Repr

/-- The last completion the block returned to a requester, and what the wires show. -/
structure Io where
  /-- REGT_RDATA or the data a sideband, debug or peer access returned. -/
  rdata : Word
  /-- The last register target request completed Unsupported Request (R48). -/
  ur : Bool
  /-- Bytes the sideband returned last. -/
  sb : List Byte
  /-- Sideband commands whose code byte came while BUSY was 1: SB_SCL is held low until it clears (R414). -/
  sbQ : List SbCmd
  /-- The sample of the hold-up monitor that the command at work brings, in 10 µJ (R53). -/
  hu : Option Nat
  /-- SB_SCL is held low after an address match, since when (R50). -/
  scl : Option Nat
  /-- The bypass register of the TAP (R63). -/
  bypass : Bool
  /-- Scan dumps taken (the counter of a free value, R63). -/
  dumps : Nat
  deriving DecidableEq, Repr

end Sys2Proof.Machine
end

