-- ==== Sys2Proof/Machine/State.lean ====
section
/-! DEFINITION. The state of the block: every register, table, FIFO, queue, counter and mode the manual gives it, as
plain data, the reasons a step may stop, and the state after reset. -/

namespace Sys2Proof.Machine

/-- Why the machine stops with a fault: no command of the block does. -/
inductive Fault where
  /-- Raised by no command: the manual gives every command an effect. Safe. -/
  | none
  deriving DecidableEq, Repr

/-- Why a command has no meaning. -/
inductive Refusal where
  /-- The command's arm is not modelled yet. Safe. -/
  | notModelled (mnemonic : String)
  deriving DecidableEq, Repr

/-- The state of the block. -/
structure State where
  /-- The register file in force, by `Reg.key`; a register at its reset word is not listed. -/
  regs : SMap Word
  /-- Buffered (Bnd) values that await their boundary (R11). -/
  bnd : SMap Word
  /-- The image in force (R95). -/
  img : Image
  tim : Tim
  tel : Tel
  intk : Intk
  src : Src
  sst : Sst
  dep : Dep
  cvn : Cvn
  rnk : Rnk
  wwl : Wwl
  oas : Oas
  dlv : Dlv
  way : Way
  rpl : SMap Replay
  vfm : Vfm
  chl : Chl
  tdm : Tdm
  pwr : Pwr
  imgl : Loader
  cfg : Cfg
  sav : Sav
  boot : Boot
  errs : Errs
  io : Io
  /-- Commands that are waiting, first in, first out. -/
  pending : List Instr
  deriving DecidableEq, Repr

/-- Telemetry as COLD leaves it. -/
def Tel.cold : Tel :=
  { cnt := [], snapCnt := [], acc := [], snapAcc := [], snapProbe := [], wmax := [], bw := [], winEnd := 1000000, lvlAt := 1024,
    starts := [], holds := [], cand := 0, smpNo := 0, smpId := 0, samples := [], smpBuf := [], qCur := 0, qPrev := 0 }

/-- Intake as COLD leaves it. -/
def Intk.cold : Intk :=
  { ready := false, credits := 0, buf := [], due := 0, wake := [], lane0 := [], lane1 := [], lane2 := [], lane3 := [],
    lineLast := false, wires := 0, latch := 0, fresh := 0, level := 0, sync := 0, named := [], linePend := [], lastLine := 1023, narrow := 0, maps := [] }

/-- The Source Table, the translation table and the meters as COLD leaves them. -/
def Src.cold : Src := { source := [], xlate := [], srcBad := [], xlateBad := [], srcMtr := [], domMtr := [] }

/-- The state store as COLD leaves it. -/
def Sst.cold : Sst :=
  { cache := [], victims := [], missq := [], stalled := [], comps := [], cmds := [], clock := 0, psn := 0,
    flush := none, scrub := 0 }

/-- The sequencer as COLD leaves it. -/
def Cvn.cold : Cvn :=
  { srcs := [], runs := [], groups := [], closed := [], refused := [], wms := [], peer := [], ro := 0, waits := [] }

/-- Ranking as COLD leaves it. -/
def Rnk.cold : Rnk :=
  { offers := [], no := 0, queue := [], used := [], held := [], waiting := [], lastDom := 4095, lastEid := [], heads := [], faultQ := [],
    heldFaults := [], lastGroup := 1023, last := [] }

/-- The shaper as COLD leaves it. -/
def Wwl.cold : Wwl :=
  { tgt := [], dom := [], grp := [], tick := 0, tickAt := 1024, jumped := false, tests := 0, passes := 0, inputs := 0,
    debits := [] }

/-- The gates as COLD leaves them. -/
def Oas.cold : Oas := { pend := [], damaged := [], cyc := [], placed := 0, cur := [], prev := [] }

/-- Delivery as COLD leaves it. -/
def Dlv.cold : Dlv :=
  { closing := [], egr := [], reissue := [], tags := [], unsent := [], active := [], lost := [], lostRetry := [], writes := [],
    no := 0 }

/-- The journal as COLD leaves it. -/
def Way.cold : Way := { q := [], doms := [], stop := false }

/-- A Chetal port as COLD leaves it. -/
def ChlSide.cold : ChlSide :=
  { tx := [], orig := [], lanes := 0, sent := 0, sentCrc := 0xFFFFFFFF#32, rcvd := 0, rcvdCrc := 0xFFFFFFFF#32,
    pausing := false, out := [], pattern := none }

/-- The ring port as COLD leaves it. -/
def Chl.cold : Chl :=
  { st := .off, east := .cold, west := .cold, pauses := [], window := none, opened := false, leaving := false,
    waking := false, winWant := false, winEnd := none, winSent := 0, calib := none, beacon := 0, tried := 0,
    joining := false, lockE := false, lockW := false, beaconSent := 0, probeSent := 0, departing := false, rxw := [], absent := 0 }

/-- The Tandem Unit as COLD leaves it. -/
def Tdm.cold : Tdm :=
  { seq := 0, acked := 0, sinceAck := 0, heard := none, partner := none, damaged := false, helloOk := false, switching := false,
    bulk := none, bulkOut := none, bulkBuf := [], hbSent := 0, helloSent := 0, ackSent := 0, digests := [], peerDigests := [], request := none, tag := 0 }

/-- The Virtual Function Manager as COLD leaves it. -/
def Vfm.cold : Vfm :=
  { vfs := 0, vfEn := false, numVfs := 0, hdr := [], egr := [], rst := none, disarmed := [], walks := [], saves := [], restores := [], restored := [], heldFlr := [], undrained := [], parkGroups := [] }

/-- The power handshake of a domain that is on. -/
def Psw.on : Psw := { en := true, ack := true, iso := false, ret := false, phase := .rest, since := 0 }

/-- The power handshake of a domain that is off, or waits for its switch-on. -/
def Psw.down (ret : Bool) : Psw := { en := false, ack := false, iso := true, ret := ret, phase := .rest, since := 0 }

/-- The Power Manager as COLD leaves it. -/
def Pwr.cold : Pwr :=
  { gated := true, doze := false, decided := none, rows := none, back := none, restoring := false, exiting := false, lastExit := 0, exits := 0,
    psw := [{ en := true, ack := false, iso := true, ret := false, phase := .wait, since := 0 }, .down false, .down false, .down false, .down false],
    off := [], offAt := none, wakes := [], change := none, accs := [], detached := false, want := false, clk := none }

/-- The Image Loader at rest. -/
def Loader.idle : Loader :=
  { phase := .idle, reload := false, sel := 0, slot := false, buf := [], a := none, b := none, code := 0, since := 0 }

/-- The configuration walker as COLD leaves it. -/
def Cfg.cold : Cfg := { on := false, ran := 0, clean := false, skipped := false, pass := 0, read := [], crcs := [], refs := [] }

/-- The Persistent Save Unit with an empty keep region. -/
def Sav.cold : Sav :=
  { recs := [], homes := [], run := none, home := none, last := none, skips := 0, pfailed := false, wait := [], homeAt := none,
    homeWant := false, mark := none, scan := none, asks := 0 }

/-- A cycle in which nothing has happened. -/
def Errs.none : Errs := { fresh := false, fences := [], firsts := [], undrained := [] }

/-- Start-up as the deassertion of COLD_RST_N begins it (R372 step 2). -/
def Boot.start : Boot :=
  { held := false, warmHeld := false, warmLow := false, warmWant := false, warmArb := false, cold := true, depWait := none, fabrics := 0 }

/-- The registers whose value after COLD is not their Reset number: the defaults of R81 and R77 until an image is
applied, and the performance point P2 of R373. -/
def coldRegs : SMap Word :=
  [(Reg.ctorIdx .MGT_AUTH * 65536, 0x0185F0DF#32), (Reg.ctorIdx .MGT_MGR_PORTS * 65536, 1#32),
   (Reg.ctorIdx .PWR_PERF * 65536, 0x20#32), (Reg.ctorIdx .RTE_GRP_STAT * 65536, 0x40000000#32)]

/-- The state right after reset: COLD_RST_N has deasserted, CORE is being switched on, and STAGE reads 0 (R372). -/
def State.reset : State :=
  { regs := coldRegs, bnd := [], img := Image.noImage, tim := { now := 0, ft := 0, ref := 0, tog := 0, seen := false }, tel := Tel.cold,
    intk := Intk.cold, src := Src.cold, sst := Sst.cold, dep := { mem := [], backing := [], tags := [], n := 0, out := [], past := [], jobs := [], jobNo := 0 },
    cvn := Cvn.cold, rnk := Rnk.cold, wwl := Wwl.cold, oas := Oas.cold, dlv := Dlv.cold, way := Way.cold, rpl := [],
    vfm := Vfm.cold, chl := Chl.cold, tdm := Tdm.cold, pwr := Pwr.cold, imgl := Loader.idle, cfg := Cfg.cold,
    sav := Sav.cold, boot := Boot.start, errs := Errs.none, io := { rdata := 0, ur := false, sb := [], sbQ := [], hu := none, scl := none, bypass := false, dumps := 0 }, pending := [] }

end Sys2Proof.Machine
end

