-- ==== Sys2Proof/Machine/Regs.lean ====
section
/-! DEFINITION. The register file: reading and writing one register or one field, in force or buffered (R7, R10,
R11, R102). -/

namespace Sys2Proof.Machine

/-- The place of replica `i` of register `r` in the register file. -/
def Reg.key (r : Reg) (i : Nat) : Nat := r.ctorIdx * 65536 + i

/-- The width of a field. -/
def Field.width (f : Field) : Nat := f.hi + 1 - f.lo

/-- The bits of a field. -/
def Field.mask (f : Field) : Word := (BitVec.allOnes 32 >>> (31 - (f.hi - f.lo))) <<< f.lo

/-- The value of a field in a register word. -/
def Field.get (f : Field) (w : Word) : Nat := ((w &&& f.mask) >>> f.lo).toNat

/-- A register word with one field replaced. -/
def Field.put (f : Field) (w : Word) (v : Nat) : Word :=
  (w &&& ~~~f.mask) ||| ((BitVec.ofNat 32 v <<< f.lo) &&& f.mask)

/-- The Reset column of one field of replica `i` (R10); an "img" or "hw" field holds 0 until its value is taken.
PWR_VPOINT0 to PWR_VPOINT2 reset to 750, 650 and 550 (R343). -/
def Field.resetAt (f : Field) (i : Nat) : Nat :=
  if f.reg = .PWR_VPOINT then [750, 650, 550].getD i 0 else f.reset

/-- The reset value of replica `i` of a register: every field at its Reset column. -/
def Reg.resetWord (r : Reg) (i : Nat) : Word :=
  r.fields.foldl (fun w f => f.put w (f.resetAt i)) 0

/-- A register word in force. -/
def State.reg (s : State) (r : Reg) (i : Nat := 0) : Word := SMap.get (r.resetWord i) s.regs (r.key i)

/-- Replace a register word in force. -/
def State.setReg (s : State) (r : Reg) (i : Nat) (w : Word) : State :=
  { s with regs := SMap.set (r.resetWord i) s.regs (r.key i) w }

/-- The value in force of a field of replica `i`. -/
def State.fld (s : State) (f : Field) (i : Nat := 0) : Nat := f.get (s.reg f.reg i)

/-- A one-bit field in force. -/
def State.bit (s : State) (f : Field) (i : Nat := 0) : Bool := s.fld f i ≠ 0

/-- Replace the value in force of a field. -/
def State.setFld (s : State) (f : Field) (i : Nat) (v : Nat) : State := s.setReg f.reg i (f.put (s.reg f.reg i) v)

/-- Set a one-bit field of replica 0. -/
def State.raise (s : State) (f : Field) (i : Nat := 0) : State := s.setFld f i 1

/-- Clear a field. -/
def State.lower (s : State) (f : Field) (i : Nat := 0) : State := s.setFld f i 0

/-- Raise a field by `n`, saturating at its greatest value. -/
def State.bump (s : State) (f : Field) (i : Nat := 0) (n : Nat := 1) : State :=
  s.setFld f i (min (s.fld f i + n) (2 ^ f.width - 1))

/-- The fields of a register whose value a write buffers (R11). -/
def Reg.bndMask (r : Reg) : Word := (r.fields.filter (·.apply == .bnd)).foldl (fun m f => m ||| f.mask) 0

/-- The bits of a register that the walker covers (R123): RW and RWL fields of classes C2 to C4. -/
def Reg.covMask (r : Reg) : Word :=
  (r.fields.filter (fun f => decide (2 ≤ f.cls) && decide (f.cls ≤ 4) && (f.acc == .rw || f.acc == .rwl))).foldl
    (fun m f => m ||| f.mask) 0

/-- A buffered value waits for replica `i` of the register. -/
def State.bndWaiting (s : State) (r : Reg) (i : Nat) : Bool := (SMap.find s.bnd (r.key i)).isSome

/-- The word a read of the register finds: buffered fields show the buffered value (R11, R102). -/
def State.regRead (s : State) (r : Reg) (i : Nat) : Word :=
  let w := s.reg r i
  match SMap.find s.bnd (r.key i) with
  | none => w
  | some b => (w &&& ~~~r.bndMask) ||| (b &&& r.bndMask)

/-- Buffer the Bnd fields of a written word; a later write replaces it (R11). -/
def State.setBnd (s : State) (r : Reg) (i : Nat) (w : Word) : State :=
  { s with bnd := SMap.insert s.bnd (r.key i) (w &&& r.bndMask) }

/-- Drop a buffered value. -/
def State.dropBnd (s : State) (r : Reg) (i : Nat) : State := { s with bnd := SMap.erase s.bnd (r.key i) }

/-- The owner's boundary: a waiting value of the register takes effect. -/
def State.applyBnd (s : State) (r : Reg) (i : Nat) : State :=
  if s.bndWaiting r i then (s.setReg r i (s.regRead r i)).dropBnd r i else s

/-- The replicas of a register array with a waiting value. -/
def State.bndIdxs (s : State) (r : Reg) : List Nat :=
  s.bnd.filterMap (fun p => if p.1 / 65536 = r.ctorIdx then some (p.1 % 65536) else none)

/-- The boundary of every replica of a register array. -/
def State.applyBndAll (s : State) (r : Reg) : State := (s.bndIdxs r).foldl (fun s i => s.applyBnd r i) s

/-- The replicas of a register array that do not hold their reset word. -/
def State.regIdxs (s : State) (r : Reg) : List Nat :=
  s.regs.filterMap (fun p => if p.1 / 65536 = r.ctorIdx then some (p.1 % 65536) else none)

/-- A register pair as one number: `lo` holds bits 31:0, `hi` the bits above. -/
def State.reg64 (s : State) (lo hi : Reg) (i : Nat := 0) : Nat := (s.reg lo i).toNat + (s.reg hi i).toNat * 2 ^ 32

/-- Fill a register pair from a number. -/
def State.setReg64 (s : State) (lo hi : Reg) (i : Nat) (v : Nat) : State :=
  (s.setReg lo i (BitVec.ofNat 32 v)).setReg hi i (BitVec.ofNat 32 (v / 2 ^ 32))

/-- What a field with Reset "img" takes from the image in force (R10, R95). -/
def Field.imgValue (f : Field) (im : Image) (i : Nat) : Nat :=
  if f = F.REG_LOCK_KEEP then (if im.keepLock then 1 else 0)
  else if f = F.REG_LOCK_AUTH then (if im.authLock then 1 else 0)
  else if f = F.MGT_AUTH_CLASS_MASK then im.auth.classMask.toNat
  else if f = F.MGT_MGR_PORTS_PORTS then (im.auth.mgrPorts.toNat / 2 ^ (32 * i)) % 2 ^ 32
  else if f = F.PWR_PERF_CEIL then im.power.perfMax
  else if f = F.PWR_PERF_REQ then im.power.perfMax
  else if f = F.SAV_POLICY_SHORT then im.holdup.shortPolicy
  else if f = F.SAV_POLICY_PART_PRIO then im.holdup.partPrio
  else if f = F.RTE_GRP_STAT_DEPTH then ((im.groupEnt i).map Image.depth).getD 0
  else 0

/-- The value a reset gives a field it does not survive (R10); a field with Reset "hw" keeps what it reports. -/
def State.fieldReset (s : State) (f : Field) (i : Nat) : Nat :=
  match f.rkind with
  | .num => f.resetAt i
  | .img => f.imgValue s.img i
  | .hw => s.fld f i

/-- The Survives letters of a field list the reset of `letter` (R12): W 1, F 2, L 4, D 8. -/
def Field.survives (f : Field) (letter : Nat) : Bool := f.surv / letter % 2 = 1

/-- The letters of one replica: WIN_ADDR.ADDR and WIN_STATUS.OFF and WAKE of a VF page survive FABRIC only (R106). -/
def Field.survivesAt (f : Field) (i letter : Nat) : Bool :=
  if (f = F.WIN_ADDR_ADDR ∨ f = F.WIN_STATUS_OFF ∨ f = F.WIN_STATUS_WAKE) ∧ 1 ≤ i ∧ i < 4096 then letter = 2
  else f.survives letter

/-- A reset of one register: every field that does not survive `letter` takes its Reset value, and a buffered value
of such a field is discarded (R111). -/
def State.resetReg (s : State) (r : Reg) (i letter : Nat) : State :=
  let s := r.fields.foldl (fun s f => if f.survivesAt i letter then s else s.setFld f i (s.fieldReset f i)) s
  match SMap.find s.bnd (r.key i) with
  | none => s
  | some b =>
    let keep := (r.fields.filter (fun f => f.apply == .bnd && f.survivesAt i letter)).length
    if keep = 0 then s.dropBnd r i else { s with bnd := SMap.insert s.bnd (r.key i) b }

/-- Two states differ in covered bits of one of these registers. -/
def covDiffer (a b : State) (l : List (Reg × Nat)) : Bool :=
  l.any (fun x => ((a.reg x.1 x.2 ^^^ b.reg x.1 x.2) &&& x.1.covMask) != 0)

end Sys2Proof.Machine
end

