-- ==== Sys2Proof/Machine/Ops.lean ====
section
/-! DEFINITION. The named operations every meaning shares: fabric time, counters, probes, first-record logs, domain
predicates, the determinism verdict, egress writes and the status interrupt. -/

namespace Sys2Proof.Machine

/-- What a command answers. -/
abbrev Out := Host.Outcome State Fault Refusal

/-- Fabric time in ns (R5). -/
def State.ns (s : State) : Nat := s.tim.ft / 45

/-- At least `ns` nanoseconds have passed since `since`. -/
def State.passed (s : State) (since ns : Nat) : Bool := decide (since + ns * 45 ≤ s.tim.now)

/-- At most `ns` nanoseconds have passed since `since`. -/
def State.within (s : State) (since ns : Nat) : Bool := decide (s.tim.now ≤ since + ns * 45)

/-- The FCLK period in 1/45 ns at a performance point (R30). -/
def perfPeriod (point : Nat) : Nat := if point = 0 then 36 else if point = 1 then 50 else 90

/-- The FCLK period in force, in 1/45 ns. -/
def State.period (s : State) : Nat := perfPeriod (s.fld F.PWR_PERF_CUR)

/-! ### Power -/

/-- FCLK runs for CORE, STATE, LOG and TEL. -/
def State.clocked (s : State) : Bool := !s.pwr.gated && decide (s.fld F.PWR_STATUS_STATE ≠ 5)

/-- CORE, STATE, LOG and TEL have their clocks: the main path works. -/
def State.coreOn (s : State) : Bool := s.clocked && !s.pwr.restoring

/-- Accepted descriptors go to the wake FIFO: while FCLK is stopped, and from the start of a drain (R145, R329). -/
def State.capturing (s : State) : Bool := !s.coreOn || s.pwr.decided.isSome

/-- A command of the main path comes about only while its clocks run and the block is not halted (R13, R410). -/
def State.onPathClock (s : State) (f : State → State) : State := if s.coreOn && !s.bit F.ERR_STATUS_HALTED then f s else s

/-- A persistent save is past its snapshot point: intake, issue and the clocks of R354 stand still. -/
def State.saving (s : State) : Bool := s.sav.run.any (fun x => x.snap.isSome)

/-- The same for what a halt does not stop. -/
def State.onCoreClock (s : State) (f : State → State) : State := if s.coreOn then f s else s

/-- A wake request that the configuration honours is kept while an entry runs or the block is dormant (R335). -/
def State.wakeReq (s : State) (code detail : Nat) : State :=
  let st := s.fld F.PWR_STATUS_STATE
  let honoured : Bool := match code with
    | 2 => s.bit F.PWR_POLICY_LINE_WAKE
    | 3 => !s.img.fabric
    | 4 => s.img.fabric
    | _ => true
  if honoured ∧ (st = 1 ∨ st = 2 ∨ st = 3) ∧ !(s.pwr.wakes.any (fun w => w.1 == code)) then
    { s with pwr := { s.pwr with wakes := s.pwr.wakes ++ [(code, detail)] } }
  else s

/-! ### Telemetry -/

/-- A counter after `n` more happenings (R376). -/
def Ctr.add (c : Ctr) (n : Nat) : Ctr :=
  { val := c.val + BitVec.ofNat 64 n, ovf := c.ovf || decide (2 ^ 64 ≤ c.val.toNat + n) }

/-- The value of an uncounted counter. -/
def Ctr.zero : Ctr := ⟨0, false⟩

/-- Add to counter `idx` of R377, unless telemetry is frozen (R382). -/
def State.count (s : State) (idx : Nat) (n : Nat := 1) : State :=
  if s.bit F.TEL_CTRL_FREEZE then s
  else { s with tel := { s.tel with cnt := SMap.set Ctr.zero s.tel.cnt idx ((SMap.get Ctr.zero s.tel.cnt idx).add n) } }

/-- A global counter (R378). -/
def State.countG (s : State) (c : Nat) (n : Nat := 1) : State := s.count c n

/-- A domain's counter (R379). -/
def State.countD (s : State) (d c : Nat) (n : Nat := 1) : State := s.count (0x10000 + 32 * d + c) n

/-- A target group's counter (R379). -/
def State.countGrp (s : State) (g c : Nat) (n : Nat := 1) : State := s.count (0x30000 + 4 * g + c) n

/-- The bucket a sample falls into (R388). -/
def probeBucket (log2 : Bool) (base width v : Nat) : Nat :=
  let w := if width = 0 then 1 else width
  if v < base then 0
  else if log2 then (if v - base < w then 1 else min 31 (Nat.log2 ((v - base) / w) + 2))
  else min 31 ((v - base) / w + 1)

/-- The probes whose scope R387 gives as "global only". -/
def probeGlobalOnly (p : Nat) : Bool := p = 4 || p = 5 || decide (8 ≤ p)

/-- A sample in scope of probe `p` (R387). -/
def State.probeInScope (s : State) (p : Nat) (dom grp hp : Option Nat) : Bool :=
  let i := s.fld F.TEL_H_CFG_SIDX p
  if probeGlobalOnly p then true
  else match s.fld F.TEL_H_CFG_SCOPE p with
    | 0 => true
    | 1 => dom == some i
    | 2 => grp == some i
    | _ => hp == some i

/-- Take sample `v` at probe `p` (R387, R388, R382). -/
def State.probe (s : State) (p v : Nat) (dom grp hp : Option Nat := none) : State :=
  if !s.bit F.TEL_H_CFG_EN p || s.bit F.TEL_CTRL_FREEZE || !s.probeInScope p dom grp hp || p = 7 then s
  else
    let b := probeBucket (s.bit F.TEL_H_CFG_MODE p) (s.fld F.TEL_H_BASE_BASE p) (s.fld F.TEL_H_CFG_WIDTH p) v
    let s := s.count (0x34000 + 32 * p + b)
    let a := s.tel.acc
    let a := SMap.set 0 a p (SMap.get 0 a p + BitVec.ofNat 128 v)
    let a := SMap.set 0 a (16 + p) (SMap.get 0 a (16 + p) + 1)
    let c := min v 0xFFFFFFFE
    let s := { s with tel := { s.tel with acc := a, wmax := SMap.set 0 s.tel.wmax p (max c (SMap.get 0 s.tel.wmax p)) } }
    let s := s.setFld F.TEL_H_MIN_MIN p (min c (s.fld F.TEL_H_MIN_MIN p))
    s.setFld F.TEL_H_MAX_MAX p (max c (s.fld F.TEL_H_MAX_MAX p))

/-- Count `n` bytes of traffic of port `i`, IN or OUT (R394). -/
def State.traffic (s : State) (i : Nat) (out : Bool) (n : Nat) : State :=
  if s.bit F.TEL_CTRL_FREEZE then s
  else
  let k := 2 * i + (if out then 1 else 0)
  { s with tel := { s.tel with bw := SMap.set 0 s.tel.bw k (SMap.get 0 s.tel.bw k + n) } }

/-- Note that an entry became PENDING (the start of a delivery, R387); no hold of an earlier delivery counts for it. -/
def State.noteStart (s : State) (eid t : Nat) : State :=
  { s with tel := { s.tel with starts := SMap.insert s.tel.starts eid t, holds := SMap.erase s.tel.holds eid } }

/-- Change the tracked samples that `p` picks among those that are not over. -/
def State.onSamples (s : State) (p : Sample → Bool) (f : Sample → Sample) : State :=
  { s with tel := { s.tel with samples := s.tel.samples.map (fun m => if m.endTime.isNone && p m then f m else m) } }

/-- The sample's event has reached its entry, of CARAVAN with its release, and the next issue delivers it (R391). -/
def Sample.rides (m : Sample) (eid : Nat) : Bool :=
  m.eid == eid && m.state.isSome && m.issue.isNone && (!m.flags.getLsbD 0 || m.rel.isSome)

/-- Change the tracked samples that the next issue of an EID delivers (R391). -/
def State.onSample (s : State) (eid : Nat) (f : Sample → Sample) : State := s.onSamples (fun m => m.rides eid) f

/-- The sample ends at time `t` without its delivery: DROPPED is set (R391). -/
def Sample.drop (t : Nat) (m : Sample) : Sample := { m with flags := m.flags ||| 0x20#8, endTime := some t }

/-! ### First-record logs -/

/-- The registers that record the first of a kind of happening since their last read: a count of all of them, and
the fields of the first (R113, R118, R121, R153, R413 and their like). -/
def State.logFirst (s : State) (valid cnt : Field) (i : Nat) (fill : List (Field × Nat)) : State :=
  let s := s.bump cnt i
  if s.bit valid i then s else fill.foldl (fun s p => s.setFld p.1 i p.2) (s.raise valid i)

/-- The same for a record without a count. -/
def State.logOne (s : State) (valid : Field) (i : Nat) (fill : List (Field × Nat)) : State :=
  if s.bit valid i then s else fill.foldl (fun s p => s.setFld p.1 i p.2) (s.raise valid i)

/-! ### Domains -/

/-- VFM_DOM_CTRL.EN of a domain. -/
def State.domEn (s : State) (d : Nat) : Bool := s.bit F.VFM_DOM_CTRL_EN d

/-- The domain is in REPLAY mode: live events park (R162, R280, R397). -/
def State.replaying (s : State) (d : Nat) : Bool := s.bit F.RPL_MODE_MODE d

/-- CVN_MODE of the domain reads 1 (R33, R197). -/
def State.caravan (s : State) (d : Nat) : Bool := s.bit F.CVN_MODE_MODE d || s.replaying d

/-- The domain orders by epochs: CVN_MODE reads 1 and it does not replay (R163). -/
def State.sequenced (s : State) (d : Nat) : Bool := s.bit F.CVN_MODE_MODE d && !s.replaying d

/-- WAY_MODE.MODE of a domain. -/
def State.waybill (s : State) (d : Nat) : Bool := s.bit F.WAY_MODE_MODE d

/-- The domain's intake is held (R309). -/
def State.held (s : State) (d : Nat) : Bool := s.bit F.VFM_DOM_CTRL_MHOLD d || s.bit F.VFM_RT_THOLD d

/-- An FLR or fence walk runs: RESETTING (R312, R313). -/
def State.resetting (s : State) (d : Nat) : Bool :=
  match SMap.find s.vfm.walks d with
  | some w => w.reset || w.fence
  | none => false

/-- Every domain is disabled. -/
def State.allDisabled (s : State) : Bool :=
  (s.regIdxs .VFM_DOM_CTRL).all (fun d => !s.domEn d)

/-- The block is halted (R410). -/
def State.halted (s : State) : Bool := s.bit F.ERR_STATUS_HALTED

/-- The group that holds target `t`. -/
def State.groupNo (s : State) (t : Nat) : Option Nat := (s.img.groupOf t).map (·.group)

/-! ### Egress writes -/

/-- A free egress tag: the manual does not say which of the free ones a write takes (R43). -/
def State.pickTag (s : State) : Nat :=
  let free := (List.range 4096).filter (fun t => !(s.dlv.tags.any (fun w => w.tag == t)))
  free.getD (Config.egressTag s.dlv.no % free.length) 0

/-- `n` tags are free (R240 condition 4). -/
def State.tagsFree (s : State) (n : Nat) : Bool := decide (s.dlv.tags.length + n ≤ 4096)

/-- The 64-beat egress queue has room for `n` writes, two to a beat (R240 condition 5). -/
def State.egrRoom (s : State) (n : Nat) : Bool :=
  s.dlv.reissue.isEmpty && decide (s.dlv.egr.length + n ≤ 128)

/-- Issue a write: it takes a tag and enters the egress queue (R42, R43). -/
def State.issueWrite (s : State) (w : EgrWrite) : State :=
  let w := { w with tag := s.pickTag, no := s.dlv.no, issued := s.tim.ft, cyc := s.tim.now }
  let q := s.dlv.egr
  let k := if w.wkind = 1 then q.length - (q.reverse.takeWhile (fun x => x.cyc == w.cyc && x.wkind != 1)).length else q.length
  let late := q.drop k
  let up : EgrWrite → EgrWrite := fun x => { x with no := x.no + 1 }
  let w := { w with no := w.no - late.length }
  { s with dlv := { s.dlv with
      egr := q.take k ++ w :: late.map up
      tags := s.dlv.tags.map (fun x => if late.any (fun y => y.tag == x.tag) then up x else x) ++ [w], no := s.dlv.no + 1 } }

/-- Send a status write or standalone notification: at once when a tag and room are free and nothing waits before
it, else it waits. -/
def State.sendWrite (s : State) (w : EgrWrite) : State :=
  let s := s.countG 0x1B
  if s.dlv.writes.isEmpty && s.tagsFree 1 && s.egrRoom 1 && !s.halted then s.issueWrite w
  else { s with dlv := { s.dlv with writes := s.dlv.writes ++ [w] } }

/-- Move re-issued writes and then waiting writes into the egress queue while there is room (`n` of them at most). -/
def State.pumpWrites : Nat → State → State
  | 0, s => s
  | n + 1, s =>
    if s.halted || decide (128 ≤ s.dlv.egr.length) then s
    else match s.dlv.reissue with
      | w :: r => State.pumpWrites n { s with dlv := { s.dlv with egr := s.dlv.egr ++ [w], reissue := r } }
      | [] =>
        match s.dlv.writes with
        | [] => s
        | w :: r => if s.tagsFree 1 then State.pumpWrites n ({ s with dlv := { s.dlv with writes := r } }.issueWrite w)
                    else s

/-! ### The status interrupt of a domain (R305) -/

/-- The status write of a domain: LEN 1, WKIND 0b01, FUNC the domain. -/
def State.statusWrite (s : State) (d : Nat) : EgrWrite :=
  { tag := 0, data := BitVec.setWidth 128 (s.reg .VFM_IRQ_DATA d),
    addr := s.reg64 .VFM_IRQ_ADDR_LO .VFM_IRQ_ADDR_HI d, hport := s.fld F.VFM_IRQ_CFG_HPORT d, len := 1, ns := false,
    wkind := 1, func := d, dom := d, grp := none, last := false, no := 0, issued := 0, entry := false, cyc := 0 }

/-- The status interrupt is enabled, armed and the block not halted. -/
def State.irqReady (s : State) (d : Nat) : Bool :=
  s.bit F.VFM_IRQ_CFG_EN d && !(s.vfm.disarmed.contains d) && !s.halted

/-- Send the status write and disarm. -/
def State.irqSend (s : State) (d : Nat) : State :=
  { s with vfm := { s.vfm with disarmed := d :: s.vfm.disarmed } }.sendWrite (s.statusWrite d)

/-- Set bit `b` of VFM_VF_STATUS; when it becomes 1, is enabled and the interrupt is armed, the write goes out. -/
def State.vfStatus (s : State) (d b : Nat) : State :=
  let old := (s.reg .VFM_VF_STATUS d).getLsbD b
  let s := s.setReg .VFM_VF_STATUS d (s.reg .VFM_VF_STATUS d ||| BitVec.ofNat 32 (2 ^ b))
  if !old && (s.reg .VFM_VF_IRQ_EN d).getLsbD b && s.irqReady d then s.irqSend d else s

/-- Re-arm the interrupt after a read; enabled bits still 1 send the next write at once. Domain 0's also serves
ERR_PEND (R412). -/
def State.irqRearm (s : State) (d : Nat) : State :=
  let s := { s with vfm := { s.vfm with disarmed := s.vfm.disarmed.filter (· ≠ d) } }
  let on := (s.reg .VFM_VF_STATUS d &&& s.reg .VFM_VF_IRQ_EN d) ≠ 0
  let err := d = 0 ∧ (s.reg .ERR_PEND &&& s.reg .ERR_IRQ_EN) ≠ 0
  if (on ∨ err) ∧ s.irqReady d then s.irqSend d else s

/-! ### The determinism verdict -/

/-- A condition of R34 is broken: its KEPT bit clears, the first records FIRST and the epoch, the lowest of those that one
cycle breaks (R198). -/
def State.breach (s : State) (d n : Nat) : State :=
  let k := s.fld F.CVN_VERDICT_KEPT d
  if s.bit F.CVN_VERDICT_RUN d && k.testBit (n - 1) then
    let s := s.setFld F.CVN_VERDICT_KEPT d (k - 2 ^ (n - 1))
    let old := s.fld F.CVN_VERDICT_FIRST d
    let s := if old = 0 ∨ (s.errs.firsts.contains d ∧ n < old) then
        let e := ((SMap.find s.cvn.runs d).map (·.oldest)).getD 0
        let s := (s.setFld F.CVN_VERDICT_FIRST d n).setFld F.CVN_BREAK_EPOCH_EPOCH d (e % 2 ^ 32)
        { s with errs := { s.errs with firsts := d :: s.errs.firsts } }
      else s
    s.vfStatus d 5
  else s

/-- Domains whose CARAVAN run is in progress. -/
def State.runDoms (s : State) : List Nat := s.cvn.runs.map (·.1)

/-- A condition breaks for every run in progress. -/
def State.breachAll (s : State) (n : Nat) : State := s.runDoms.foldl (fun s d => s.breach d n) s

/-- Covered configuration has changed: the reference and the live value are no longer current (R126). -/
def State.cfgStale (s : State) : State :=
  let s := (s.lower F.CFG_STATUS_REF_VALID).lower F.CFG_STATUS_LIVE_CLEAN
  { s with cfg := { s.cfg with clean := false } }

/-- An accepted change of covered configuration: the reference and the live value are no longer current (R126), and
condition 6 breaks: of the domain of region d + 1, or of every run for region 0 (R198). -/
def State.cfgChanged (s : State) (dom : Option Nat) : State :=
  let s := s.cfgStale
  match dom with
  | some d => s.breach d 6
  | none => s.breachAll 6

/-- The handshake of a domain. -/
def State.psw (s : State) (d : Nat) : Psw := s.pwr.psw.getD d Psw.on

end Sys2Proof.Machine
end

