-- ==== Sys2Proof/Machine/Depot.lean ====
section
/-! DEFINITION. The depot: state entries as 8-byte words, bytes of the 2 TiB window, whole-line requests and their
tags (R45, R83, R155). -/

namespace Sys2Proof.Machine

/-- The two-bit code of STATE (R155). -/
def EState.code : EState → Nat
  | .idle => 0
  | .pending => 1
  | .active => 2
  | .poisoned => 3

/-- The STATE of a code; 0b11 is POISONED (R156). -/
def EState.ofCode (c : Nat) : EState :=
  if c = 0 then .idle else if c = 1 then .pending else if c = 2 then .active else .poisoned

/-- One bit as a number. -/
def bitNat (b : Bool) : Nat := if b then 1 else 0

/-- The entry as stored (R155). -/
def Entry.toBits (e : Entry) : BitVec 64 :=
  BitVec.ofNat 64 (e.st.code * 2 ^ 62 + bitNat e.rerase * 2 ^ 61 + bitNat e.lvl * 2 ^ 60 + bitNat e.orig * 2 ^ 59
    + bitNat e.mark * 2 ^ 58 + bitNat e.park * 2 ^ 57 + bitNat e.en * 2 ^ 56 + bitNat e.mask * 2 ^ 55
    + bitNat e.typ * 2 ^ 54 + e.prio.toNat * 2 ^ 46 + bitNat e.rkind * 2 ^ 45 + e.route.toNat * 2 ^ 29
    + e.count.toNat * 2 ^ 13 + e.seq.toNat * 2 ^ 5)

/-- Read an entry from its stored word. -/
def Entry.ofBits (w : BitVec 64) : Entry :=
  { st := .ofCode (w.extractLsb' 62 2).toNat, rerase := w.getLsbD 61, lvl := w.getLsbD 60, orig := w.getLsbD 59,
    mark := w.getLsbD 58, park := w.getLsbD 57, en := w.getLsbD 56, mask := w.getLsbD 55, typ := w.getLsbD 54,
    prio := w.extractLsb' 46 8, rkind := w.getLsbD 45, route := w.extractLsb' 29 16, count := w.extractLsb' 13 16,
    seq := w.extractLsb' 5 8 }

/-- The number in bits `lo + n - 1 : lo` of a 16-byte record. -/
def recFld (r : Rec) (lo n : Nat) : Nat := (r.extractLsb' lo n).toNat

/-- The little-endian bytes of a number. -/
def leBytes : Nat → Nat → List Byte
  | 0, _ => []
  | n + 1, v => BitVec.ofNat 8 v :: leBytes n (v / 256)

/-- The number little-endian bytes spell (R3). -/
def ofLeBytes : List Byte → Nat
  | [] => 0
  | b :: r => b.toNat + 256 * ofLeBytes r

/-- The bytes of the state backing (R28, R83). -/
def backingBytes : Nat := 2 ^ 27

/-- Window offset `a` lies in the state backing. -/
def State.inBacking (s : State) (a : Nat) : Bool :=
  decide (s.img.depot.stateBase ≤ a) && decide (a < s.img.depot.stateBase + backingBytes)

/-- A byte of the depot. -/
def State.depByte (s : State) (a : Nat) : Byte :=
  if s.inBacking a then
    let o := a - s.img.depot.stateBase
    BitVec.ofNat 8 ((SMap.get Entry.init s.dep.backing (o / 8)).toBits.toNat / 2 ^ (8 * (o % 8)))
  else SMap.get 0 s.dep.mem a

/-- `n` bytes of the depot from offset `a`. -/
def State.depBytes (s : State) (a : Nat) : Nat → List Byte
  | 0 => []
  | n + 1 => s.depByte a :: s.depBytes (a + 1) n

/-- A little-endian number of `n` bytes at offset `a`. -/
def State.depNat (s : State) (a n : Nat) : Nat := ofLeBytes (s.depBytes a n)

/-- Write one byte outside the backing. -/
def State.setDepByte (s : State) (a : Nat) (b : Byte) : State :=
  { s with dep := { s.dep with mem := SMap.set 0 s.dep.mem a b } }

/-- Write bytes from offset `a`, outside the backing. -/
def State.setDepBytes (s : State) (a : Nat) : List Byte → State
  | [] => s
  | b :: r => (s.setDepByte a b).setDepBytes (a + 1) r

/-- Write eight entries of the backing: one line (R166). -/
def State.setBackingLine (s : State) (line : Nat) (es : List Entry) : State :=
  { s with dep := { s.dep with
      backing := (List.range 8).foldl (fun m k => SMap.set Entry.init m (8 * line + k) (es.getD k Entry.init))
        s.dep.backing } }

/-- The eight entries of a line of the backing. -/
def State.backingLine (s : State) (line : Nat) : List Entry :=
  (List.range 8).map (fun k => SMap.get Entry.init s.dep.backing (8 * line + k))

/-- A free depot tag: the manual does not say which of the free ones a request takes (R45). -/
def State.pickDepTag (s : State) : Option Nat :=
  let free := (List.range 1024).filter (fun t => (SMap.find s.dep.tags t).isNone)
  free[Config.depotTag s.dep.n % free.length]?

/-- A depot request can be made now: a tag is free, and no retune waits to stop FCLK (R45, R342). -/
def State.depReady (s : State) : Bool := !s.pwr.change.any (fun c => c.phase == .retune) && s.pickDepTag.isSome

/-- A request of the other direction is outstanding to a line: the request waits (R45). -/
def State.depClash (s : State) (write : Bool) (line : Nat) : Bool := s.dep.tags.any (fun t => t.2.line == line && t.2.write != write)

/-- What DEP_WDATA carries for the bytes of a line, the first one lowest. -/
def lineData (b : List Byte) : BitVec 512 := BitVec.ofNat 512 (ofLeBytes b)

/-- Make a depot request for a line: it takes a tag, goes to the port and counts as its traffic (R45, R394). None without
a free tag, while a retune waits to stop FCLK, and while a request of the other direction to the line is outstanding. -/
def State.depReq (s : State) (u : TagUse) (write : Bool) (line : Nat) (data : BitVec 512) : Option (Nat × State) :=
  match (if s.depReady && !s.depClash write line then s.pickDepTag else none) with
  | none => none
  | some t =>
    some (t, { s with dep := { s.dep with
      tags := SMap.insert s.dep.tags t (DepTag.mk u write line), n := s.dep.n + 1, out := s.dep.out ++ [DepOut.mk t write line data] } }.traffic 128 write 64)

/-- Read a line. -/
def State.depRead (s : State) (u : TagUse) (line : Nat) : Option (Nat × State) := s.depReq u false line 0

/-- Write the 64 bytes of a line, outside the backing. -/
def State.depWrite (s : State) (u : TagUse) (line : Nat) (bytes : List Byte) : Option (Nat × State) :=
  (s.depReq u true line (lineData bytes)).map (fun r => (r.1, r.2.setDepBytes (64 * line) (bytes.take 64)))

/-- The bytes of eight entries (R155, R166). -/
def entryBytes (es : List Entry) : List Byte := es.flatMap (fun e => leBytes 8 e.toBits.toNat)

/-- The line of the window that holds line `n` of the backing (R166). -/
def State.backLine (s : State) (n : Nat) : Nat := s.img.depot.stateBase / 64 + n

/-- Free a depot tag. -/
def State.freeDepTag (s : State) (t : Nat) : State :=
  { s with dep := { s.dep with tags := SMap.erase s.dep.tags t, out := s.dep.out.filter (fun x => x.tag ≠ t) } }

/-- A cycle of the depot port (R37, R46): the oldest request is taken, unless at P0 four of its direction went in the last
four cycles. DEP_REQ_READY is 1 (DESIGN CHOICE: no command of the table moves it). -/
def State.depPort (s : State) : State :=
  let push (x : Option Bool) : List (Option Bool) := (x :: s.dep.past).take 4
  match s.dep.out with
  | [] => if s.dep.past.isEmpty then s else { s with dep := { s.dep with past := push none } }
  | r :: rest =>
    if s.fld F.PWR_PERF_CUR = 0 && s.dep.past.length == 4 && s.dep.past.all (· == some r.write) then
      { s with dep := { s.dep with past := push none } }
    else { s with dep := { s.dep with out := rest, past := push (some r.write) } }

/-! ### Jobs -/

/-- A job of a kind. -/
def State.job (s : State) (k : JobKind) : Option Job := s.dep.jobs.find? (fun j => j.kind == k)

/-- Begin a job of `count` lines. -/
def State.startJob (s : State) (k : JobKind) (write : Bool) (base count : Nat) : State :=
  { s with dep := { s.dep with jobs := s.dep.jobs ++ [Job.mk s.dep.jobNo k write base count 0 false], jobNo := s.dep.jobNo + 1 } }

/-- Give up the jobs of some kinds; tags of their requests stay until the answers come. -/
def State.dropJobs (s : State) (p : JobKind → Bool) : State :=
  { s with dep := { s.dep with jobs := s.dep.jobs.filter (fun j => !p j.kind) } }

/-- Every request that a job has made is answered. -/
def State.jobAcked (s : State) (j : Job) : Bool :=
  !s.dep.tags.any (fun t => match t.2.use with | .job i _ => i == j.id | _ => false)

/-- A job is complete: every request has been made and answered. -/
def State.jobDone (s : State) (k : JobKind) : Bool := (s.job k).any (fun j => j.next == j.count && s.jobAcked j)

/-- The line of request `n` of a job: a record's header goes last; a persistent record's line 1 is the after-save marker;
headers lie one slot apart (R318, R354, R355). -/
def Job.line (j : Job) (n : Nat) : Nat :=
  j.base / 64 + match j.kind with
    | .save _ => if n + 1 = j.count then 0 else n + 1
    | .record => if n + 1 = j.count then 0 else n + 2
    | .headers => 2 ^ 17 * n
    | _ => n

end Sys2Proof.Machine
end

