-- ==== Sys2Proof/Machine/Ring.lean ====
section
/-! DEFINITION. What every unit says to the Chetal ring and to the Tandem partner: records, originating them, mirror
records, roles and homes, and the CRC of R69 (R193, R282 to R296). -/

namespace Sys2Proof.Machine

/-! ### CRC-32C (R69) -/

/-- One bit of the reflected CRC. -/
def crcBit (c : Word) : Word := if c.getLsbD 0 then (c >>> 1) ^^^ 0x82F63B78#32 else c >>> 1

/-- One byte. -/
def crcByte (c : Word) (b : Byte) : Word :=
  crcBit (crcBit (crcBit (crcBit (crcBit (crcBit (crcBit (crcBit (c ^^^ b.setWidth 32))))))))

/-- The CRC register after a list of bytes, from a given register. -/
def crcRun (c : Word) (l : List Byte) : Word := l.foldl crcByte c

/-- CRC-32C of a list of bytes in ascending offset order. -/
def crc32c (l : List Byte) : Word := crcRun 0xFFFFFFFF#32 l ^^^ 0xFFFFFFFF#32

/-- The 16 bytes of a record, least significant first (R3). -/
def recBytes (r : Rec) : List Byte := (List.range 16).map (fun k => BitVec.ofNat 8 (r.toNat / 2 ^ (8 * k)))

/-! ### Roles and homes -/

/-- The unit's role is STANDBY: it ranks, shapes and delivers nothing (R295). -/
def State.standby (s : State) : Bool := s.fld F.TDM_ROLE_CUR = 2

/-- The unit's role is PRIMARY. -/
def State.primary (s : State) : Bool := s.fld F.TDM_ROLE_CUR = 1

/-- The position of the Tandem partner the image names (R79). -/
def State.partnerPos (s : State) : Option Nat := if s.img.ring.partner = 0xFF then none else some s.img.ring.partner

/-- A pair is in force: IN_STEP or RESYNC (R397). -/
def State.paired (s : State) : Bool := s.fld F.TDM_STATUS_STATE = 2 || s.fld F.TDM_STATUS_STATE = 3

/-- The unit takes part in a pair as its image and TDM_MODE say. -/
def State.tandem (s : State) : Bool := s.bit F.TDM_MODE_MODE && s.partnerPos.isSome

/-- A HOME position is this unit's, or its Tandem partner's (R295). -/
def State.homeHere (s : State) (home : Nat) : Bool :=
  home = s.img.ring.position || (s.tandem && s.partnerPos == some home)

/-- A group is homed at the pair. -/
def State.pairHomed (s : State) (home : Nat) : Bool := s.tandem && s.homeHere home

/-- Ring position `p` is in the JOINED mask of the last BEACON. -/
def State.joinedAt (s : State) (p : Nat) : Bool := (s.reg .CHL_JOINED 0).getLsbD p

/-- The member is joined to the ring. -/
def State.onRing (s : State) : Bool := s.chl.st = .joined

/-- The coordinator of R194: a standalone block, or the joined member that CHL_STATUS.COORD names. -/
def State.coordinator (s : State) : Bool :=
  !s.img.fabric || (s.onRing && s.fld F.CHL_STATUS_COORD = s.img.ring.position) || s.chl.st = .off

/-! ### Records -/

/-- TYPE codes of R282. -/
def chEvent : Nat := 1
def chWaymark : Nat := 2
def chSilent : Nat := 3
def chClose : Nat := 4
def chTandem : Nat := 5
def chCtrl : Nat := 6
def chPeer : Nat := 7

/-- A record of a type, with its POS and its payload bits (R282). -/
def chRec (ty pos body : Nat) : Rec := BitVec.ofNat 128 (ty * 2 ^ 125 + pos % 32 * 2 ^ 120 + body % 2 ^ 120)

/-- A CTRL record of this member (R287). -/
def State.ctrlRec (s : State) (sub body : Nat) : Rec := chRec chCtrl s.img.ring.position (sub * 2 ^ 112 + body)

/-- The east or west port. -/
def State.side (s : State) (p : ChlPort) : ChlSide := match p with | .east => s.chl.east | .west => s.chl.west

/-- Replace a port. -/
def State.setSide (s : State) (p : ChlPort) (x : ChlSide) : State :=
  match p with
  | .east => { s with chl := { s.chl with east := x } }
  | .west => { s with chl := { s.chl with west := x } }

/-- The other port. -/
def otherPort : ChlPort → ChlPort
  | .east => .west
  | .west => .east

/-- Originate a record at a port (R285). A member that is not joined has no ring to send on. -/
def State.originate (s : State) (p : ChlPort) (r : Rec) : State :=
  if s.onRing then s.setSide p { s.side p with orig := (s.side p).orig ++ [r] } else s

/-- The transmit queue of a port has room (R285). -/
def State.txRoom (s : State) (p : ChlPort) : Bool := decide ((s.side p).tx.length < 8192)

/-- Originate a CTRL record: no PAUSE and no window withholds it (R285, R290). Behind a full transmit queue it waits in
the origin queue. -/
def State.sendCtrl (s : State) (p : ChlPort) (sub body : Nat) : State :=
  let r := s.ctrlRec sub body
  if !s.onRing then s
  else if s.txRoom p then s.setSide p { s.side p with tx := (s.side p).tx ++ [r] }
  else s.setSide p { s.side p with orig := (s.side p).orig ++ [r] }

/-- The unit of a HOME's pair that an EVENT record names: the joined one that comes second eastward from this member;
positions rise eastward (R284, R333). -/
def State.eventPos (s : State) (home : Nat) : Nat :=
  let far (p : Nat) : Nat := (p + s.img.ring.members - s.img.ring.position) % s.img.ring.members
  match Config.pairPartner home with
  | none => home
  | some q => if s.joinedAt q ∧ (!s.joinedAt home ∨ far home < far q) then q else home

/-- The origin queue of a port has room (R285). -/
def State.origRoom (s : State) (p : ChlPort) : Bool := decide ((s.side p).orig.length < 4096)

/-- The Chetal ports stop and the bypass closes: every queue is cleared (R363, R364, R288, R410). -/
def Chl.stop (c : Chl) : Chl :=
  { Chl.cold with east := { ChlSide.cold with lanes := c.east.lanes }, west := { ChlSide.cold with lanes := c.west.lanes } }

/-- Ring operation stops: no joined positions, no coordinator. -/
def State.ringStop (s : State) : State :=
  ({ s with chl := s.chl.stop }.setFld F.CHL_JOINED_JOINED 0 0).setFld F.CHL_STATUS_COORD 0 0

/-! ### Mirroring (R296, R297) -/

/-- The primary sends mirror records: a pair is in force. -/
def State.mirroring (s : State) : Bool := s.primary && s.paired

/-- Send a mirror record: the commit sequence counts it and its low 28 bits travel in it. -/
def State.mirror (s : State) (sub body : Nat) : State :=
  if s.mirroring then
    let n := (s.tdm.seq + 1) % 2 ^ 64
    { s with tdm := { s.tdm with seq := n } }.originate .west
      (chRec chTandem (s.partnerPos.getD 0) (sub * 2 ^ 116 + body + n % 2 ^ 28))
  else s

/-- Send another TANDEM record to the partner. -/
def State.toPartner (s : State) (sub body : Nat) : State :=
  s.originate .west (chRec chTandem (s.partnerPos.getD 0) (sub * 2 ^ 116 + body))

/-- Mirror records not acknowledged have reached LAG_MAX (R297). -/
def State.lagFull (s : State) : Bool :=
  s.mirroring && decide (max (s.fld F.TDM_CFG_LAG_MAX) 1 ≤ s.tdm.seq - s.tdm.acked)

/-- The group an entry's ROUTE names (R214). -/
def State.routeGroup (s : State) (e : Entry) : Option GroupEnt :=
  if e.rkind then s.img.groupEnt (e.route.toNat % 1024) else s.img.groupOf e.route.toNat

/-- The group whose HOME an entry's route leads to. -/
def State.entryHome (s : State) (e : Entry) : Option Nat := (s.routeGroup e).map (·.home)

/-- Mirror a change of an entry to the partner (R296): a STATE record, for an entry homed at the pair. -/
def State.mirrorEntry (s : State) (eid : Nat) (e : Entry) : State :=
  if (s.entryHome e).any s.pairHomed then s.mirror 1 (eid * 2 ^ 92 + e.toBits.toNat * 2 ^ 28) else s

/-- Mirror an issue or a free of an active record (R296). Bit 46, which the layout leaves unused, marks a delivery of the
fault ring, whose PI it then carries (DESIGN CHOICE). -/
def State.mirrorDeliv (s : State) (eid tgt hport : Nat) (alloc : Bool) (pi : Nat) (fault : Bool) : State :=
  s.mirror 2 ((if fault then 2 ^ 46 else 0) + eid * 2 ^ 92 + tgt % 2 ^ 16 * 2 ^ 76 + hport * 2 ^ 69 + (if alloc then 2 ^ 68 else 0) + pi % 2 ^ 21 * 2 ^ 47)

/-- Mirror an accepted write to a window offset (R296). `k` fills bits 55:28. -/
def State.mirrorCfg (s : State) (off : Nat) (data : Word) (k : Nat := 0) : State :=
  s.mirror 3 (off / 4 * 2 ^ 88 + data.toNat * 2 ^ 56 + k % 2 ^ 28 * 2 ^ 28)

/-- Lost caravan records: every CARAVAN run in progress loses condition 5 (R195). -/
def State.caravanLost (s : State) : State := s.breachAll 5

end Sys2Proof.Machine
end

