-- ==== Sys2Proof/Machine/ImageParse.lean ====
section
/-! DEFINITION. The Fizin image: reading its bytes, the checks of R88 in their order, and the decoded image (R66 to
R87, R427). Every check is a triple: it fails, its code, the offset IMG_ERR_OFF names. -/

namespace Sys2Proof.Machine

/-- The little-endian number in `n` bytes at offset `o`. -/
def imgNat (bs : List Byte) (o n : Nat) : Nat := ofLeBytes ((bs.drop o).take n)

/-- A check: it fails, its code and its offset. -/
abbrev Check := Bool × Nat × Nat

/-- The first check that fails: code and offset. -/
def firstFail (l : List Check) : Option (Nat × Nat) := (l.find? (·.1)).map (·.2)

/-- Header checks on bytes 0x00 to 0x3F (R67, R88). -/
def headerChecks (bs : List Byte) : List Check :=
  let len := imgNat bs 0x0C 4
  let core := imgNat bs 0x10 4
  [(imgNat bs 0 4 != 0x4E495A46, 0x03, 0),
   (imgNat bs 0x3C 4 != (crc32c (bs.take 0x3C)).toNat, 0x04, 0x3C),
   (imgNat bs 4 1 != 3, 0x05, 4), (decide (1 < imgNat bs 5 1), 0x05, 5),
   (core / 65536 != 3 || decide (1 < core % 65536), 0x06, 0x10),
   (decide (len < 80) || decide (0x800000 < len) || len % 8 != 0, 0x07, 0x0C)]

/-- The checks of the whole slot before its sections (R68, R88). -/
def bodyChecks (bs : List Byte) : List Check :=
  let n := bs.length
  let t := n - 16
  [(imgNat bs t 4 != 0x444E455A, 0x03, t),
   (imgNat bs 0x38 4 != (crc32c (bs.drop 0x40)).toNat, 0x08, 0x38),
   (imgNat bs (t + 4) 4 != imgNat bs 8 4, 0x09, t + 4), (imgNat bs (t + 8) 4 != imgNat bs 0x0C 4, 0x09, t + 8),
   (imgNat bs (t + 12) 2 != imgNat bs 6 2, 0x09, t + 12),
   (imgNat bs 0x14 4 / 4 != 0, 0x12, 0x14), (imgNat bs 0x28 16 != 0, 0x12, 0x28), (imgNat bs (t + 14) 2 != 0, 0x12, t + 14),
   (decide (64 < imgNat bs 6 2), 0x0B, 6)]

/-- What the sections read so far say, with the offsets of what they hold. -/
structure ImgAcc where
  domains : Option (List (DomainEnt × Nat))
  cache : Option (List (CacheEnt × Nat) × Nat)
  groups : Option (List (GroupEnt × Nat))
  caravan : Option (List (CaravanEnt × Nat))
  ring : Option RingSec
  auth : Option AuthSec
  power : Option (PowerSec × Nat)
  depot : Option (DepotSec × Nat)
  holdup : Option (HoldupSec × Nat)
  persist : Option (List PersistEnt)
  ords : Option OrdSec
  skipped : Bool
  deriving DecidableEq, Repr

/-- No section read. -/
def ImgAcc.empty : ImgAcc := ⟨none, none, none, none, none, none, none, none, none, none, none, false⟩

/-- Offsets of `n` entries of `sz` bytes from `o`. -/
def entryOffs (o sz n : Nat) : List Nat := (List.range n).map (fun k => o + sz * k)

/-- Two ranges `(base, count)` overlap. -/
def rangesHit (a b : Nat × Nat) : Bool := a.2 != 0 && b.2 != 0 && decide (a.1 < b.1 + b.2) && decide (b.1 < a.1 + a.2)

/-- For each entry: its key repeats an earlier one (R427), then its range overlaps an earlier one. -/
def overlapChecks (l : List (Nat × Nat × Nat × Nat × Nat)) : List Check :=
  -- an element: offset of the key, key, offset of the range, base, count
  (List.range l.length).flatMap (fun i =>
    let before := l.take i
    match l[i]? with
    | none => []
    | some (ko, k, ro, b, c) =>
      [(before.any (fun x => x.2.1 == k), 0x0E, ko), (before.any (fun x => rangesHit (x.2.2.2.1, x.2.2.2.2) (b, c)), 0x0E, ro)])

/-- DOMAINS (R73). -/
def domainsAt (bs : List Byte) (o n : Nat) : List (DomainEnt × Nat) :=
  (entryOffs o 16 n).map (fun e =>
    (⟨imgNat bs e 2 % 4096, imgNat bs (e + 2) 2 % 8, imgNat bs (e + 4) 4, imgNat bs (e + 8) 4, imgNat bs (e + 12) 1⟩, e))

/-- Local checks of DOMAINS. -/
def domainsChecks (bs : List Byte) (o n : Nat) : List Check :=
  let l := domainsAt bs o n
  l.flatMap (fun (x, e) =>
    [(decide (0xFFFFFF < x.eidBase) || (x.eidCount == 0 && x.eidBase != 0), 0x0D, e + 4),
     (decide (2 ^ 24 < x.eidCount) || decide (2 ^ 24 < x.eidBase + x.eidCount), 0x0D, e + 8), (decide (63 < x.part), 0x0D, e + 12)])
  ++ overlapChecks (l.map (fun (x, e) => (e, x.domain, e + 4, x.eidBase, x.eidCount)))
  ++ l.flatMap (fun (_, e) =>
    [(imgNat bs e 2 / 4096 != 0, 0x12, e), (imgNat bs (e + 2) 2 / 8 != 0, 0x12, e + 2), (imgNat bs (e + 13) 3 != 0, 0x12, e + 13)])

/-- CACHE (R75). -/
def cacheAt (bs : List Byte) (o n : Nat) : List (CacheEnt × Nat) :=
  (entryOffs o 8 n).map (fun e => (⟨imgNat bs e 1, imgNat bs (e + 2) 2⟩, e))

/-- Local checks of CACHE. -/
def cacheChecks (bs : List Byte) (o n : Nat) : List Check :=
  let l := cacheAt bs o n
  (List.range n).flatMap (fun i =>
    match l[i]? with
    | none => []
    | some (x, e) =>
      [(decide (63 < x.part), 0x0D, e),
       (x.units == 0 || decide (128 < x.units) || decide (128 < ((l.take (i + 1)).map (fun y => y.1.units)).sum), 0x0D, e + 2)])
  ++ overlapChecks (l.map (fun (x, e) => (e, x.part, e, 0, 0)))
  ++ l.flatMap (fun (_, e) => [(imgNat bs (e + 1) 1 != 0, 0x12, e + 1), (imgNat bs (e + 4) 4 != 0, 0x12, e + 4)])

/-- GROUPS (R76). -/
def groupsAt (bs : List Byte) (o n : Nat) : List (GroupEnt × Nat) :=
  (entryOffs o 16 n).map (fun e =>
    (⟨imgNat bs e 2 % 1024, imgNat bs (e + 2) 2, imgNat bs (e + 4) 4, imgNat bs (e + 8) 1, imgNat bs (e + 9) 1,
      imgNat bs (e + 10) 1, imgNat bs (e + 11) 1 % 2 == 1⟩, e))

/-- Local checks of GROUPS. -/
def groupsChecks (bs : List Byte) (o n : Nat) : List Check :=
  let l := groupsAt bs o n
  l.flatMap (fun (x, e) =>
    [(decide (65536 < x.tgtCount) || decide (65536 < x.tgtBase + x.tgtCount), 0x0D, e + 4),
     (x.arityLog2 == 0 || decide (4 < x.arityLog2), 0x0D, e + 9)])
  ++ overlapChecks (l.map (fun (x, e) => (e, x.group, e + 2, x.tgtBase, x.tgtCount)))
  ++ l.flatMap (fun (_, e) =>
    [(imgNat bs e 2 / 1024 != 0, 0x12, e), (imgNat bs (e + 11) 1 / 2 != 0, 0x12, e + 11), (imgNat bs (e + 12) 4 != 0, 0x12, e + 12)])

/-- Bytes of a CARAVAN entry with `n` members (R78). -/
def caravanSize (n : Nat) : Nat := (8 + 2 * n + 7) / 8 * 8

/-- CARAVAN (R78): the entries from offset `o`, each with its offset, and the offset behind the last. -/
def caravanAt (bs : List Byte) : Nat → Nat → List (CaravanEnt × Nat) × Nat
  | o, 0 => ([], o)
  | o, n + 1 =>
    let k := imgNat bs (o + 2) 2
    let e : CaravanEnt := ⟨imgNat bs o 2 % 4096, (List.range k).map (fun i => imgNat bs (o + 8 + 2 * i) 2)⟩
    let r := caravanAt bs (o + caravanSize k) n
    ((e, o) :: r.1, r.2)

/-- The member ordinals of CARAVAN with the offsets of their fields. -/
def caravanOrds (l : List (CaravanEnt × Nat)) : List (Nat × Nat) :=
  l.flatMap (fun x => (List.range x.1.ords.length).map (fun i => (x.1.ords.getD i 0, x.2 + 8 + 2 * i)))

/-- Insert a check behind those of lower or equal offset. -/
def insertCheck (c : Check) : List Check → List Check
  | [] => [c]
  | y :: r => if c.2.2 < y.2.2 then c :: y :: r else y :: insertCheck c r

/-- Checks in the order of their offsets. -/
def byOffset (l : List Check) : List Check := l.foldl (fun b c => insertCheck c b) []

/-- Local checks of CARAVAN. -/
def caravanChecks (bs : List Byte) (o n : Nat) : List Check :=
  let l := (caravanAt bs o n).1
  let ords := caravanOrds l
  l.map (fun (x, e) => (decide (4096 < x.ords.length), 0x0D, e + 2))
  ++ byOffset (overlapChecks (l.map (fun (x, e) => (e, x.domain, e, 0, 0)))
    ++ (List.range ords.length).map (fun i =>
      match ords[i]? with
      | none => (false, 0, 0)
      | some (v, e) => ((ords.take i).any (fun y => y.1 == v), 0x0E, e)))
  ++ l.flatMap (fun (x, e) =>
    let k := x.ords.length
    [(imgNat bs e 2 / 4096 != 0, 0x12, e), (imgNat bs (e + 4) 4 != 0, 0x12, e + 4),
     (imgNat bs (e + 8 + 2 * k) (caravanSize k - 8 - 2 * k) != 0, 0x12, e + 8 + 2 * k)])

/-- RING (R79). -/
def ringAt (bs : List Byte) (o : Nat) : RingSec :=
  ⟨imgNat bs o 1, imgNat bs (o + 1) 1, imgNat bs (o + 2) 1, imgNat bs (o + 3) 1 % 2 == 1,
   BitVec.ofNat 32 (imgNat bs (o + 4) 4), BitVec.ofNat 32 (imgNat bs (o + 8) 4)⟩

/-- Local checks of RING; `strap` is RING_PRESENT, `sec` the section header. -/
def ringChecks (bs : List Byte) (o sec : Nat) (strap : Bool) : List Check :=
  let r := ringAt bs o
  let has := r.partner != 0xFF
  [(decide (31 < r.position) || decide (r.members ≤ r.position), 0x0D, o),
   (r.members == 0 || decide (32 < r.members), 0x0D, o + 1), (has && decide (r.members ≤ r.partner), 0x0D, o + 2),
   (has && (r.partner == r.position || !r.present.getLsbD r.partner), 0x0F, o + 2), (r.tandemPerm && !has, 0x0F, o + 3),
   (!r.present.getLsbD r.position, 0x0F, o + 4), (decide (2 ≤ r.members) && !strap, 0x11, sec),
   (imgNat bs (o + 3) 1 / 2 != 0, 0x12, o + 3), (imgNat bs (o + 12) 4 != 0, 0x12, o + 12)]

/-- The authority rules of R80 on a class mask: VF pages beyond C0 and C1, or no port with both C3 and C4. -/
def authBad (m : Word) : Bool :=
  let f := fun p => m.toNat / 2 ^ (6 * p) % 64
  f 1 / 4 != 0 || !([0, 1, 2, 3, 4].any (fun p => f p / 8 % 4 == 3))

/-- AUTHORITY (R80). -/
def authAt (bs : List Byte) (o : Nat) : AuthSec := ⟨BitVec.ofNat 32 (imgNat bs o 4), BitVec.ofNat 128 (imgNat bs (o + 8) 16)⟩

/-- Local checks of AUTHORITY. -/
def authChecks (bs : List Byte) (o : Nat) : List Check :=
  [(authBad (authAt bs o).classMask, 0x10, o), (imgNat bs (o + 8) 16 == 0, 0x10, o + 8),
   (imgNat bs o 4 / 2 ^ 30 != 0, 0x12, o), (imgNat bs (o + 4) 4 != 0, 0x12, o + 4)]

/-- POWER (R82). -/
def powerAt (bs : List Byte) (o : Nat) : PowerSec :=
  ⟨imgNat bs o 1 % 2 == 1, BitVec.ofNat 4 (imgNat bs (o + 1) 1), BitVec.ofNat 4 (imgNat bs (o + 2) 1), imgNat bs (o + 3) 1⟩

/-- Local checks of POWER. -/
def powerChecks (bs : List Byte) (o : Nat) : List Check :=
  [(decide (2 < imgNat bs (o + 3) 1), 0x0D, o + 3), (imgNat bs o 1 / 2 != 0, 0x12, o),
   (imgNat bs (o + 1) 1 / 16 != 0, 0x12, o + 1), (imgNat bs (o + 2) 1 / 16 != 0, 0x12, o + 2),
   (imgNat bs (o + 4) 4 != 0, 0x12, o + 4)]

/-- DEPOT (R83). -/
def depotAt (bs : List Byte) (o : Nat) : DepotSec :=
  let f := fun k => imgNat bs (o + 8 * k) 8
  ⟨f 0, f 1, f 2, f 3, f 4, f 5, f 6, f 7, f 8⟩

/-- The regions of the depot: offset of the BASE field, base, size. -/
def DepotSec.regions (d : DepotSec) (o : Nat) : List (Nat × Nat × Nat) :=
  [(o + 8, d.stateBase, 2 ^ 27), (o + 16, d.tableBase, d.tableSize), (o + 32, d.vfsaveBase, 2 ^ 28),
   (o + 40, d.keepBase, d.keepSize), (o + 56, d.journalBase, d.journalSize)]

/-- Local checks of DEPOT. -/
def depotChecks (bs : List Byte) (o : Nat) : List Check :=
  let d := depotAt bs o
  (List.range 9).map (fun k => (imgNat bs (o + 8 * k) 8 % 2 ^ 20 != 0, 0x0D, o + 8 * k))
  ++ [(decide (d.winSize < 2 ^ 30) || decide (2 ^ 41 < d.winSize), 0x0D, o), (decide (2 ^ 29 < d.tableSize), 0x0D, o + 24),
      (decide (7 * 2 ^ 30 < d.keepSize), 0x0D, o + 48)]
  ++ (d.regions o).map (fun r => (decide (d.winSize < r.2.1 + r.2.2), 0x0D, r.1))
  ++ overlapChecks ((d.regions o).map (fun r => (r.1, r.1, r.1, r.2.1, r.2.2)))

/-- HOLDUP (R85). -/
def holdupAt (bs : List Byte) (o : Nat) : HoldupSec :=
  ⟨imgNat bs o 4, imgNat bs (o + 4) 4, imgNat bs (o + 8) 1, imgNat bs (o + 9) 1, imgNat bs (o + 10) 1, imgNat bs (o + 11) 1⟩

/-- Local checks of HOLDUP. -/
def holdupChecks (bs : List Byte) (o : Nat) : List Check :=
  let h := holdupAt bs o
  [(decide (100 < h.margin), 0x0D, o + 8), (decide (64 < h.saveSlots), 0x0D, o + 9), (decide (1 < h.shortPolicy), 0x0D, o + 10),
   (decide (7 < h.partPrio), 0x0D, o + 11), (imgNat bs (o + 12) 4 != 0, 0x12, o + 12)]

/-- PERSIST (R86). -/
def persistAt (bs : List Byte) (o n : Nat) : List PersistEnt :=
  (entryOffs o 8 n).map (fun e => ⟨imgNat bs e 1, imgNat bs (e + 1) 1 == 1, imgNat bs (e + 2) 1⟩)

/-- Local checks of PERSIST. -/
def persistChecks (bs : List Byte) (o n : Nat) : List Check :=
  let l := entryOffs o 8 n
  l.flatMap (fun e => [(decide (7 < imgNat bs e 1), 0x0D, e), (decide (1 < imgNat bs (e + 1) 1), 0x0D, e + 1),
                       (decide (7 < imgNat bs (e + 2) 1), 0x0D, e + 2)])
  ++ overlapChecks (l.map (fun e => (e, imgNat bs e 1, e, 0, 0))) ++ l.map (fun e => (imgNat bs (e + 3) 5 != 0, 0x12, e + 3))

/-- ORDINALS (R87). -/
def ordsAt (bs : List Byte) (o : Nat) : OrdSec := ⟨imgNat bs o 2, imgNat bs (o + 2) 2⟩

/-- Local checks of ORDINALS. -/
def ordsChecks (bs : List Byte) (o : Nat) : List Check :=
  let x := ordsAt bs o
  [(decide (64512 < x.lineBase), 0x0D, o), (decide (65024 < x.intxBase), 0x0D, o + 2),
   (rangesHit (x.lineBase, 1024) (x.intxBase, 512), 0x0E, o + 2), (imgNat bs (o + 4) 4 != 0, 0x12, o + 4)]

/-- Bytes a body of `n` entries takes, and whether `n` lies in the COUNT column of R72. -/
def sectSize (bs : List Byte) (t o n : Nat) : Nat × Bool :=
  match t with
  | 1 => (16 * n, decide (n ≤ 4096))
  | 2 => (8 * n, decide (n ≤ 64))
  | 3 => (16 * n, decide (n ≤ 1024))
  | 4 => ((caravanAt bs o (min n 4097)).2 - o, decide (n ≤ 4096))
  | 5 => (16, n == 1)
  | 6 => (24, n == 1)
  | 7 => (8, n == 1)
  | 8 => (72, n == 1)
  | 9 => (16, n == 1)
  | 10 => (8 * n, decide (n ≤ 8))
  | _ => (8, n == 1)

/-- Local checks of a body (R73 to R87). -/
def sectChecks (bs : List Byte) (t o n sec : Nat) (strap : Bool) : List Check :=
  match t with
  | 1 => domainsChecks bs o n
  | 2 => cacheChecks bs o n
  | 3 => groupsChecks bs o n
  | 4 => caravanChecks bs o n
  | 5 => ringChecks bs o sec strap
  | 6 => authChecks bs o
  | 7 => powerChecks bs o
  | 8 => depotChecks bs o
  | 9 => holdupChecks bs o
  | 10 => persistChecks bs o n
  | _ => ordsChecks bs o

/-- A body joins what has been read. -/
def ImgAcc.add (a : ImgAcc) (bs : List Byte) (t o n sec : Nat) : ImgAcc :=
  match t with
  | 1 => { a with domains := some (domainsAt bs o n) }
  | 2 => { a with cache := some (cacheAt bs o n, sec) }
  | 3 => { a with groups := some (groupsAt bs o n) }
  | 4 => { a with caravan := some (caravanAt bs o n).1 }
  | 5 => { a with ring := some (ringAt bs o) }
  | 6 => { a with auth := some (authAt bs o) }
  | 7 => { a with power := some (powerAt bs o, o) }
  | 8 => { a with depot := some (depotAt bs o, o) }
  | 9 => { a with holdup := some (holdupAt bs o, o) }
  | 10 => { a with persist := some (persistAt bs o n) }
  | _ => { a with ords := some (ordsAt bs o) }

/-- Units of a partition (R75). -/
def ImgAcc.units (a : ImgAcc) (p : Nat) : Nat :=
  let l := (a.cache.map (fun c => c.1.map (·.1))).getD []
  let own := ((l.find? (fun e => e.part == p)).map (·.units)).getD 0
  if p = 0 then own + (128 - (l.map (·.units)).sum) else own

/-- The rules that cross sections, checked at type `t` (R75, R76, R78, R82, R83). -/
def ImgAcc.crossing (a : ImgAcc) (t : Nat) : List Check :=
  match t with
  | 2 =>
    match a.domains with
    | some l => l.map (fun x => (x.1.eidCount != 0 && a.units x.1.part == 0, 0x0F, x.2 + 12))
    | none => [(a.units 0 == 0, 0x0F, (a.cache.map (·.2)).getD 0)]
  | 4 =>
    let dl := (a.domains.map (fun l => l.map (·.1))).getD Image.defaultDomains
    (a.caravan.getD []).map (fun x =>
      (!(dl.any (fun d => d.domain == x.1.domain && d.perm % 2 == 1)), 0x0F, x.2))
  | 5 => (a.groups.getD []).map (fun x => (decide ((a.ring.getD Image.defaultRing).members ≤ x.1.home), 0x0F, x.2 + 8))
  | 7 =>
    match a.power with
    | some (p, o) => [(p.voters.getLsbD 2 && (a.ring.getD Image.defaultRing).partner == 0xFF, 0x0F, o + 1)]
    | none => []
  | 9 =>
    let slots := ((a.holdup.map (·.1)).getD Image.defaultHoldup).saveSlots
    let keep := ((a.depot.map (·.1)).getD Image.defaultDepot).keepSize
    let off := match a.depot, a.holdup with
      | some d, _ => d.2 + 48
      | none, some h => h.2 + 9
      | none, none => 0
    [(decide (keep < slots * 2 ^ 23), 0x0D, off)]
  | 11 =>
    let x := a.ords.getD Image.defaultOrds
    (caravanOrds (a.caravan.getD [])).map (fun v =>
      (rangesHit (v.1, 1) (x.lineBase, 1024) || rangesHit (v.1, 1) (x.intxBase, 512), 0x0E, v.2))
  | _ => []

/-- Crossing rules of the absent types between two section types (R88). -/
def ImgAcc.absent (a : ImgAcc) (lo hi : Nat) : List Check :=
  ((List.range 12).filter (fun t => decide (lo < t) && decide (t < hi))).flatMap a.crossing

/-- The sections from offset `o`, `n` of them left, the last type read being `prev`. A COUNT outside the column of R72
reports SIZE, also where SLEN fits it (DESIGN CHOICE: R72 gives no code for it). -/
def readSections (bs : List Byte) (strap : Bool) : Nat → Nat → Option Nat → ImgAcc → Except (Nat × Nat) ImgAcc
  | 0, o, prev, a =>
    match firstFail ((o != bs.length - 16, 0x0B, 6) :: a.absent (prev.getD 0) 12) with
    | some e => .error e
    | none => .ok a
  | n + 1, o, prev, a =>
    let fin := bs.length - 16
    if fin < o + 16 then .error (0x0B, 6)
    else
      let t := imgNat bs o 2 % 32768
      let opt := imgNat bs o 2 / 32768 == 1
      let len := imgNat bs (o + 4) 4
      let cnt := imgNat bs (o + 8) 4
      let listed := decide (1 ≤ t) && decide (t ≤ 11)
      let head : List Check := a.absent (prev.getD 0) t ++
        [(prev.any (fun q => decide (t ≤ q)), 0x0A, o), (len % 8 != 0 || decide (fin < o + 16 + len), 0x0B, o + 4)]
      let hres : Check := (imgNat bs (o + 12) 4 != 0, 0x12, o + 12)
      if !listed then
        match firstFail (head ++ [(len == 0 && cnt != 0, 0x0B, o + 8), (!opt, 0x0C, o), hres]) with
        | some e => .error e
        | none => readSections bs strap n (o + 16 + len) (some t) { a with skipped := true }
      else
        let sz := sectSize bs t (o + 16) cnt
        let common : List Check := [(imgNat bs (o + 2) 2 != 1, 0x0C, o + 2)]
        if len = 0 then
          match firstFail (head ++ [(cnt != 0, 0x0B, o + 8)] ++ common ++ [hres] ++ a.crossing t) with
          | some e => .error e
          | none => readSections bs strap n (o + 16) (some t) a
        else
          match firstFail (head ++ [(cnt == 0 || !sz.2, 0x0B, o + 8), (sz.1 != len, 0x0B, o + 4)] ++ common) with
          | some e => .error e
          | none =>
            let loc := sectChecks bs t (o + 16) cnt o strap
            let early := loc.filter (fun c => decide (c.2.1 < 0x12))
            let late := loc.filter (fun c => decide (0x12 ≤ c.2.1))
            let a' := a.add bs t (o + 16) cnt o
            match firstFail (early ++ [hres] ++ late ++ a'.crossing t) with
            | some e => .error e
            | none => readSections bs strap n (o + 16 + len) (some t) a'

/-- The image of checked bytes and their sections: a missing section takes its default. -/
def ImgAcc.image (a : ImgAcc) (bs : List Byte) : Image :=
  let ring := a.ring.getD Image.defaultRing
  { gen := BitVec.ofNat 32 (imgNat bs 8 4), length := bs.length, bodyCrc := BitVec.ofNat 32 (imgNat bs 0x38 4),
    hdrCrc := BitVec.ofNat 32 (imgNat bs 0x3C 4), authLock := imgNat bs 0x14 4 % 2 == 1,
    keepLock := imgNat bs 0x14 4 / 2 % 2 == 1,
    domains := (a.domains.map (fun l => l.map (·.1))).getD Image.defaultDomains,
    cache := (a.cache.map (fun c => c.1.map (·.1))).getD Image.defaultCache,
    groups := (a.groups.map (fun l => l.map (·.1))).getD (Image.defaultGroups ring.position),
    caravan := (a.caravan.map (fun l => l.map (·.1))).getD [],
    ring := ring, auth := a.auth.getD Image.defaultAuth,
    power := (a.power.map (·.1)).getD Image.defaultPower,
    depot := (a.depot.map (·.1)).getD Image.defaultDepot,
    holdup := (a.holdup.map (·.1)).getD Image.defaultHoldup,
    persist := a.persist.getD Image.defaultPersist, ords := a.ords.getD Image.defaultOrds }

/-- The sections of a slot whose header and body checks hold (R88). -/
def readBody (bs : List Byte) (strap : Bool) : Except (Nat × Nat) (Image × Bool) :=
  (readSections bs strap (imgNat bs 6 2) 0x40 none ImgAcc.empty).map (fun a => (a.image bs, a.skipped))

/-- Every check of R88 beyond the header checks, on a whole slot: the image, and whether a section was skipped. -/
def readImage (bs : List Byte) (strap : Bool) : Except (Nat × Nat) (Image × Bool) :=
  (firstFail (bodyChecks bs)).elim (readBody bs strap) .error

end Sys2Proof.Machine
end

