-- ==== Sys2Proof/Machine/Journal.lean ====
section
/-! DEFINITION. The Waybill Journal: composing records, segments, the write queue, back-pressure, gaps, lines and
flushes (R258 to R272). -/

namespace Sys2Proof.Machine

/-- A journal that has not begun. -/
def Jrnl.zero : Jrnl :=
  { pos := 0, segno := 0, segStart := 0, inSeg := 0, segAt := none, lastFull := 0, lostTime := 0, waiting := [], part := [], done := 0, partAt := 0,
    flushAsk := false, flush := none, acks := none, resetAfter := 0, archHi := none, archWas := none }

/-- The line of a journal holds records that are not written. -/
def Jrnl.unwritten (j : Jrnl) : Bool := decide (j.done < j.part.length)

/-- A journal without the flush that runs. -/
def Jrnl.quiet (j : Jrnl) : Jrnl := { j with segAt := none, flushAsk := false, flush := none, acks := none }

/-- The journal of a domain. -/
def State.jrnl (s : State) (d : Nat) : Jrnl := SMap.get Jrnl.zero s.way.doms d

/-- Replace the journal of a domain. -/
def State.setJrnl (s : State) (d : Nat) (j : Jrnl) : State :=
  { s with way := { s.way with doms := SMap.set Jrnl.zero s.way.doms d j } }

/-- Record slots of a domain's area (R258). -/
def State.jSlots (s : State) (d : Nat) : Nat := s.fld F.WAY_AREA_SIZE_SIZE d * 65536

/-- Depot offset of a domain's area (R258). -/
def State.jBase (s : State) (d : Nat) : Nat := s.img.depot.journalBase + s.fld F.WAY_AREA_BASE_BASE d * 2 ^ 20

/-- WAY_ARCH of a domain, committed. -/
def State.jArch (s : State) (d : Nat) : Nat := s.reg64 .WAY_ARCH_LO .WAY_ARCH_HI d

/-- The archive position lets a record be written at the present position; the test uses WAY_ARCH as it stood at the
start of the cycle (R270). -/
def State.jCanWrite (s : State) (d : Nat) : Bool :=
  !s.bit F.WAY_MODE_FULLACT d || decide ((s.jrnl d).pos < (s.jrnl d).archWas.getD (s.jArch d) + s.jSlots d)

/-- Kind codes of R260. -/
def jrDelivery : Nat := 1
def jrFence : Nat := 2
def jrGap : Nat := 3
def jrSegment : Nat := 4
def jrEnd : Nat := 5
def jrTime : Nat := 6

/-- A record with the common fields of R260 but LAP and REPLAYED, which its place in the journal gives, and a body in
bits 110:0. -/
def jRec (kind d body : Nat) : Rec := BitVec.ofNat 128 (kind * 2 ^ 125 + d * 2 ^ 111 + body)

/-- The body of a record with a full TIME: a 47-bit upper part and the time (R261). -/
def jTimeBody (upper ns : Nat) : Nat := upper * 2 ^ 64 + ns

/-- A DELIVERY record for a ring entry (R261): its fields are those of the entry (R238). -/
def jDelivery (d tgt : Nat) (e : Rec) (ns : Nat) : Rec :=
  jRec jrDelivery d (tgt * 2 ^ 95 + recFld e 0 24 * 2 ^ 71 + recFld e 24 8 * 2 ^ 63 + recFld e 32 16 * 2 ^ 47
    + recFld e 48 8 * 2 ^ 39 + recFld e 58 1 * 2 ^ 38 + recFld e 57 1 * 2 ^ 37 + recFld e 56 1 * 2 ^ 36 + ns % 2 ^ 36)

/-- A journal status bit, with the status interrupt's JOURNAL cause (R305). -/
def State.wayStatus (s : State) (f : Field) (d : Nat) : State := (s.raise f d).vfStatus d 2

/-- The queue passes its high mark, or falls below its low mark (R24, R266). -/
def State.jMarks (s : State) : State :=
  let n := s.way.q.length
  let stop := if 3072 < n then true else if n < 2048 then false else s.way.stop
  { s with way := { s.way with stop := stop } }

/-- Put a record at the write position: LAP and REPLAYED are set, the position advances, and a segment filled to its
end asks for a SEGMENT record next (R258, R260, R268). -/
def State.jPut (s : State) (d : Nat) (r : Rec) : State :=
  let j := s.jrnl d
  let n := s.jSlots d
  let lap := if n = 0 then 0 else j.pos / n % 2
  let r := r ||| BitVec.ofNat 128 (lap * 2 ^ 124 + bitNat (s.replaying d) * 2 ^ 123)
  let next := j.pos + 1
  let full := n ≠ 0 ∧ next % n = 0 ∨ j.segStart + s.fld F.WAY_SEG_SEG_LEN d * 65536 ≤ next
  let s := if n ≠ 0 ∧ j.pos = n ∧ !s.bit F.WAY_MODE_FULLACT d then s.wayStatus F.WAY_STATUS_WRAPPED d else s
  let s := s.setJrnl d { j with pos := next, inSeg := if full then 0 else j.inSeg + 1 }
  { s with way := { s.way with q := s.way.q ++ [JRec.mk d j.pos r] } }.jMarks

/-- A record with a full TIME: R262 measures from the time it carries. -/
def State.jPutFull (s : State) (d : Nat) (r : Rec) : State :=
  let s := s.jPut d r
  s.setJrnl d { s.jrnl d with lastFull := recFld r 0 64 }

/-- The queue and the area take a record at the present position (R266, R270). -/
def State.jRoom (s : State) (d : Nat) : Bool := s.jCanWrite d && decide (s.way.q.length < 4096)

/-- The next record begins a segment: the present one is filled, or a SEG_LEN written since ends it here (R268). -/
def State.jBegins (s : State) (d : Nat) : Bool :=
  let j := s.jrnl d
  decide (j.inSeg = 0 ∨ j.segStart + s.fld F.WAY_SEG_SEG_LEN d * 65536 ≤ j.pos)

/-- Start a segment when the next slot begins one: the buffered SEG_LEN takes effect and the SEGMENT record is
written (R268). False when it has no room. -/
def State.jSegment (s : State) (d : Nat) : Bool × State :=
  let j := s.jrnl d
  if !s.jBegins d then (true, s)
  else if !s.jRoom d then (false, s)
  else
    let s := s.applyBnd .WAY_SEG d
    let s := s.setJrnl d { j with segStart := j.pos, segno := (j.segno + 1) % 2 ^ 32, inSeg := 0, segAt := some s.tim.now }
    (true, s.jPutFull d (jRec jrSegment d (jTimeBody (j.segno * 2 ^ 15) s.ns)))

/-- Write one record, after the SEGMENT record it may need. -/
def State.jEmit (s : State) (d : Nat) (r : Rec) (full : Bool) : Bool × State :=
  let (ok, s) := s.jSegment d
  if !ok || !s.jRoom d then (false, s)
  else (true, if full then s.jPutFull d r else s.jPut d r)

/-- Write the GAP record that a domain with lost records owes (R267). -/
def State.jGap (s : State) (d : Nat) : Bool × State :=
  let lost := s.fld F.WAY_LOST_PEND_LOST d
  if lost = 0 then (true, s)
  else
    let (ok, s) := s.jEmit d (jRec jrGap d (jTimeBody (lost * 2 ^ 15) (s.jrnl d).lostTime)) true
    if ok then (true, (s.lower F.WAY_LOST_PEND_LOST d).wayStatus F.WAY_STATUS_GAP d) else (false, s)

/-- Fewer than 65 places are free (R266, R267). -/
def State.jRefused (s : State) : Bool := decide (4096 < s.way.q.length + 65)

/-- Offer a DELIVERY record: GAP, SEGMENT and TIME records it needs go first; refused for queue room, or under STOP
for room in the area (R262, R265, R267, R270). The last 64 places never take it, whatever went first (R266). -/
def State.jOffer (s : State) (d : Nat) (r : Rec) : Bool × State :=
  if s.jRefused then (false, s)
  else
    let (ok, s) := s.jGap d
    if !ok then (false, s)
    else
      let (ok, s) := s.jSegment d
      if !ok then (false, s)
      else
        let (ok, s) := if (s.jrnl d).lastFull + 2 ^ 35 < s.ns
          then s.jEmit d (jRec jrTime d (jTimeBody 0 s.ns)) true else (true, s)
        if !ok then (false, s)
        else
          let (ok, s) := s.jSegment d
          if !ok || s.jRefused || !s.jRoom d then (false, s) else (true, s.jPut d r)

/-- A refused record of a domain outside CARAVAN is lost (R267). -/
def State.jLose (s : State) (d : Nat) : State :=
  let s := s.countG 0x1D
  let s := if s.fld F.WAY_LOST_PEND_LOST d = 0 then s.setJrnl d { s.jrnl d with lostTime := s.ns } else s
  s.bump F.WAY_LOST_PEND_LOST d

/-- A record joins those of its domain that wait for room. -/
def State.jWait (s : State) (d : Nat) (r : Rec) : State :=
  s.setJrnl d { s.jrnl d with waiting := (s.jrnl d).waiting ++ [r] }

/-- Write a FENCE record; without room it waits (R266, R270). -/
def State.jSpecial (s : State) (d : Nat) (r : Rec) : State :=
  if (s.jrnl d).waiting ≠ [] then s.jWait d r
  else
    let (ok, s) := s.jGap d
    if !ok then s.jWait d r
    else
      let (ok, s) := s.jEmit d r true
      if ok then s else s.jWait d r

/-- Cut the present segment short (R269): an END record, the slots up to the segment's natural end skipped; the
buffered values take effect and the next record is the new segment's SEGMENT record. False when the END record has no room. -/
def State.jCut (s : State) (d : Nat) : Bool × State :=
  if !s.jRoom d then (false, s)
  else
    let j := s.jrnl d
    let n := max (s.jSlots d) 1
    let fin := min (j.segStart + s.fld F.WAY_SEG_SEG_LEN d * 65536) ((j.segStart / n + 1) * n)
    let s := s.jPutFull d (jRec jrEnd d (jTimeBody ((fin - j.pos) * 2 ^ 15) s.ns))
    let s := s.setJrnl d { s.jrnl d with pos := fin, inSeg := 0 }
    (true, s.applyBnd .WAY_SEG d)

/-- There is nothing to cut: the next record begins a segment, the present one holds only its SEGMENT record, or it started
in this cycle (R269). -/
def State.jNoCut (s : State) (d : Nat) : Bool :=
  decide ((s.jrnl d).inSeg ≤ 1) || s.jBegins d || (s.jrnl d).segAt == some s.tim.now

/-- WAY_CMD.NEWSEG (R269): without room the END record waits (R270). -/
def State.newseg (s : State) (d : Nat) : State :=
  if !s.waybill d || s.jNoCut d then s
  else if (s.jrnl d).waiting ≠ [] then s.jWait d (jRec jrEnd d 0)
  else
    let (ok, s) := s.jGap d
    if s.jNoCut d then s
    else if ok && s.jRoom d then (s.jCut d).2
    else s.jWait d (jRec jrEnd d 0)

/-- Write a record that waited, after the GAP record that the domain owes; the END record of a cut takes its SKIP now,
and cuts nothing when the segment has ended meanwhile. -/
def State.jWaited (s : State) (d : Nat) (r : Rec) : Bool × State :=
  let (ok, s) := s.jGap d
  if !ok then (false, s)
  else if recFld r 125 3 = jrEnd then (if s.jNoCut d then (true, s) else s.jCut d)
  else s.jEmit d r true

/-- A waiting record has been written: a reset's flush covers it as well (R272). -/
def State.jWaitOver (s : State) (d : Nat) (rest : List Rec) : State :=
  let j := s.jrnl d
  s.setJrnl d { j with waiting := rest, flush := if j.resetAfter ≠ 0 then j.flush.map (fun _ => j.pos) else j.flush }

/-- Write the waiting records of a domain that have room now (R270). -/
def State.jDrain : Nat → State → Nat → State
  | 0, s, _ => s
  | n + 1, s, d =>
    match (s.jrnl d).waiting with
    | [] => s
    | r :: rest =>
      let (ok, s') := s.jWaited d r
      if ok then State.jDrain n (s'.jWaitOver d rest) d else s'

/-- The FENCE record of a fence of the domain (R264). -/
def State.jFence (s : State) (d cause : Nat) : State :=
  if s.waybill d then
    (s.jSpecial d (jRec jrFence d (jTimeBody (cause * 2 ^ 43) s.ns))).wayStatus F.WAY_STATUS_FENCE d
  else s

/-- Start a new journal: position, archive position and segment number are 0 (R259). Records of the old journal that
wait for room are never lost (R270): they wait on. -/
def State.jStart (s : State) (d : Nat) : State :=
  let j := s.jrnl d
  (s.setJrnl d { Jrnl.zero with
      waiting := j.waiting, flushAsk := j.flushAsk, flush := j.flush, acks := j.acks, partAt := j.partAt,
      part := if j.unwritten then j.part else [], done := if j.unwritten then j.done else 0 }).setReg64
    .WAY_ARCH_LO .WAY_ARCH_HI d 0

/-- The 16 bytes that slot `p` of a line takes: its record, FREE while it is unfilled, or what it held where NEWSEG skipped
it (R263, R269). -/
def State.jSlot (s : State) (d : Nat) (recs : List JRec) (p : Nat) : List Byte :=
  match recs.find? (fun r => r.pos == p) with
  | some r => leBytes 16 r.data.toNat
  | none =>
    if (s.jrnl d).pos ≤ p ∨ s.way.q.any (fun r => r.d == d && r.pos == p) then leBytes 16 0
    else s.depBytes (s.jBase d + 16 * (p % max (s.jSlots d) 1)) 16

/-- Write a line of the journal to the depot: `recs` fill some of its four slots. None: no depot tag is free, and the line
waits (R46). -/
def State.jWriteLine (s : State) (d : Nat) (recs : List JRec) : Option State :=
  match recs with
  | [] => some s
  | r0 :: _ =>
    if recs.length ≤ (s.jrnl d).done then some s else
    let p := r0.pos - r0.pos % 4
    let line := (s.jBase d + 16 * (p % max (s.jSlots d) 1)) / 64
    (s.depWrite (.jrnl d) line ((List.range 4).flatMap (fun k => s.jSlot d recs (p + k)))).map (fun (_, s) =>
      (s.countG 0x1C (recs.length - (s.jrnl d).done)).setJrnl d { s.jrnl d with done := recs.length })

/-- The line of a domain that records go into, and how many of them are written. -/
def State.setPart (s : State) (d : Nat) (part : List JRec) (done : Nat) : State :=
  s.setJrnl d { s.jrnl d with part := part, done := done, partAt := s.tim.now }

/-- Move the oldest queued record into the partly filled line of its domain, or write the line it leaves behind (R263).
True when a line was written; none while nothing is queued or the line waits for a depot tag. -/
def State.jLeave (s : State) : Option (Bool × State) :=
  match s.way.q with
  | [] => none
  | r :: q =>
    let j := s.jrnl r.d
    let out (s : State) : State := { s with way := { s.way with q := q } }.jMarks
    if !j.part.all (fun x => x.pos / 4 == r.pos / 4 && decide (x.pos < r.pos)) then
      (s.jWriteLine r.d j.part).map (fun (s : State) => (j.unwritten, s.setPart r.d [] 0))
    else
      let part := j.part ++ [r]
      if r.pos % 4 = 3 then (s.jWriteLine r.d part).map (fun (s : State) => (true, out (s.setPart r.d [] 0)))
      else some (false, out (s.setPart r.d part j.done))

/-- A whole line of records waits in the queue: no other depot write goes before it (R169). -/
def State.jLineDue (s : State) : Bool := s.way.q.any (fun r => r.pos % 4 == 3)

/-- Let records leave the queue until a line has been written; `n` bounds the steps. -/
def State.jLineWrite : Nat → State → State
  | 0, s => s
  | n + 1, s =>
    match s.jLeave with
    | none => s
    | some (true, s) => s
    | some (false, s) => State.jLineWrite n s

/-- Records of domain `d` before position `p` are queued. -/
def State.jQueued (s : State) (d p : Nat) : Bool := s.way.q.any (fun r => r.d == d && decide (r.pos < p))

/-- Let every queued record leave up to and including those of domain `d` before position `p`: records leave in order
(R266, R272). -/
def State.jLeaveAll : Nat → State → Nat → Nat → State
  | 0, s, _, _ => s
  | n + 1, s, d, p =>
    if s.jQueued d p then
      match s.jLeave with
      | none => s
      | some (_, s) => State.jLeaveAll n s d p
    else s

/-- The depot tags of a domain's journal writes that are not acknowledged. -/
def State.jOutstanding (s : State) (d : Nat) : List Nat :=
  (s.dep.tags.filter (fun p => p.2.use == TagUse.jrnl d)).map (·.1)

/-- The per-domain WAY_ registers a reset acts on after the flush (R272). -/
def wayRegs : List Reg :=
  [.WAY_MODE, .WAY_AREA_BASE, .WAY_AREA_SIZE, .WAY_SEG, .WAY_ARCH_LO, .WAY_ARCH_HI, .WAY_CMD, .WAY_STATUS,
   .WAY_LOST_PEND]

/-- The reset of the WAY_ fields that a FLR or DOMAIN reset left to the end of its flush (R272); a journal whose MODE
stays 1 begins anew (R259). -/
def State.jReset (s : State) (d : Nat) : State :=
  let letter := (s.jrnl d).resetAfter
  if letter = 0 then s
  else
    let s := s.setJrnl d { s.jrnl d with resetAfter := 0, archHi := none, archWas := none }
    let s0 := s
    let s := wayRegs.foldl (fun s r => s.resetReg r d letter) s
    let s := if covDiffer s0 s (wayRegs.map (fun r => (r, d))) then s.cfgStale else s
    if s.waybill d then s.jStart d else s

/-- The records of domain `d` before position `p` leave the queue and its line is written. True once they all are;
false while a line waits for a depot tag. -/
def State.jPush (s : State) (d p : Nat) : Bool × State :=
  let s := State.jLeaveAll (2 * s.way.q.length + 1) s d p
  if s.jQueued d p then (false, s)
  else match s.jWriteLine d (s.jrnl d).part with
    | none => (false, s)
    | some s => (true, s)

/-- The flush of a domain ends when the last of its lines is acknowledged: FLUSHED is set (R272). -/
def State.jFlushEnd (s : State) (d : Nat) : State :=
  let j := s.jrnl d
  match j.acks with
  | some [] => ((s.setJrnl d { j with acks := none }).raise F.WAY_STATUS_FLUSHED d).jReset d
  | _ => s

/-- A flush goes on: its records are written, then their acknowledgements are awaited. That of a FLR or DOMAIN reset
waits for the records that have no room, its FENCE record among them (R270, R272). -/
def State.jFlushRun (s : State) (d : Nat) : State :=
  match (s.jrnl d).flush with
  | none => s
  | some p =>
    let (ok, s) := s.jPush d p
    let j := s.jrnl d
    if !ok || (decide (j.resetAfter ≠ 0) && !j.waiting.isEmpty) then s
    else (s.setJrnl d { j with flush := none, acks := some (s.jOutstanding d) }).jFlushEnd d

/-- A journal line is acknowledged: depot tag `t` is free. -/
def State.jAck (s : State) (d t : Nat) : State :=
  let j := s.jrnl d
  ((s.freeDepTag t).setJrnl d { j with acks := j.acks.map (fun l => l.filter (· ≠ t)) }).jFlushEnd d

/-- A commit of WAY_ARCH (R270): it counts from the next cycle. -/
def State.jArchive (s : State) (d : Nat) (lo hi : Word) : State :=
  let was := (s.jrnl d).archWas.getD (s.jArch d)
  let s := (s.setReg .WAY_ARCH_LO d lo).setReg .WAY_ARCH_HI d hi
  s.setJrnl d { s.jrnl d with archHi := none, archWas := some was }

/-- Flush a domain: the records that have entered and its partly filled line are written (R272). The flush that stands in
place of one that a command asked for in this cycle covers what that covers. -/
def State.jFlush (s : State) (d : Nat) : State :=
  (s.setJrnl d { s.jrnl d with flush := some (s.jrnl d).pos, acks := none }).jFlushRun d

/-- WAY_CMD.FLUSH: it covers the records that enter up to the end of this cycle (R272). -/
def State.jFlushCmd (s : State) (d : Nat) : State := s.setJrnl d { s.jrnl d with flushAsk := true }

/-- The cycle of a flush command has ended. -/
def State.jFlushDue (s : State) (d : Nat) : State :=
  let j := s.jrnl d
  if j.flushAsk then s.setJrnl d { j with flushAsk := false, flush := some j.pos, acks := none } else s

/-- A cycle of one journal: a flush command of the last one begins, a committed WAY_ARCH counts, waiting records that have
room are written, a flush goes on. -/
def State.jCycle (s : State) (d : Nat) : State :=
  let s := s.jFlushDue d
  let s := if (s.jrnl d).archWas.isSome then s.setJrnl d { s.jrnl d with archWas := none } else s
  (State.jDrain ((s.jrnl d).waiting.length + 1) s d).jFlushRun d

/-- The domains that have a journal. -/
def State.journalDoms (s : State) : List Nat := s.way.doms.map (·.1)

/-- A cycle of every journal. -/
def State.jCycles (s : State) : State := s.journalDoms.foldl State.jCycle s

/-- JOURNAL_LINE_TIMEOUT (R263): a partly filled line to which no record has come for 256 FCLK is written with FREE
padding. -/
def State.jLineTimeout (s : State) (d : Nat) : State :=
  let j := s.jrnl d
  if !(s.way.q.any (fun r => r.d == d)) && decide (j.partAt + 256 * s.period ≤ s.tim.now) then (s.jWriteLine d j.part).getD s else s

end Sys2Proof.Machine
end

