-- ==== Sys2Proof/Machine/Contain.lean ====
section
/-! DEFINITION. State entries where they stand, the walks over a domain's entries, the removal of a domain's work from
every queue, the fence, the recording of an error and the halt (R155, R206, R312 to R314, R406 to R412). -/

namespace Sys2Proof.Machine

/-! ### Entries where they stand -/

/-- The line of an EID (R166). -/
def lineOf (eid : Nat) : Nat := eid / 8

/-- The newest victim-buffer copy of a line whose write has not been acknowledged (R167). -/
def State.victim (s : State) (n : Nat) : Option (List Entry) :=
  ((s.sst.victims.filter (fun v => v.line == n)).getLast?).map (·.entries)

/-- The entries of a line as the block holds them: in the cache, in the victim buffer, or in the backing. -/
def State.lineNow (s : State) (n : Nat) : List Entry :=
  match SMap.find s.sst.cache n with
  | some l => l.entries
  | none => (s.victim n).getD (s.backingLine n)

/-- The entry of an EID as the block holds it. -/
def State.entryNow (s : State) (eid : Nat) : Entry := (s.lineNow (lineOf eid)).getD (eid % 8) Entry.init

/-- Dirty lines of the state cache. -/
def State.dirtyLines (s : State) : List (Nat × Line) := s.sst.cache.filter (fun x => x.2.dirty)

/-- With persistence on, at most 51,072 lines are dirty (R347). -/
def State.dirtyFull (s : State) : Bool := decide (s.img.holdup.saveSlots ≠ 0) && decide (51072 ≤ s.dirtyLines.length)

/-- An input that would make one more line dirty waits: the victim buffer of 32 lines is full (R347). -/
def State.dirtyBlocked (s : State) : Bool := s.dirtyFull && decide (32 ≤ s.sst.victims.length)

/-- The partition of a line: that of the domain of its EIDs (R166). -/
def State.linePart (s : State) (n : Nat) : Nat :=
  (((List.range 8).filterMap (fun k => s.img.domainOf (8 * n + k))).head?).elim 0 (fun d => (s.img.domainEnt d).part)

/-- Sets of a partition (R166). -/
def State.partSets (s : State) (p : Nat) : Nat := 32 * s.img.units p

/-- The cache-wide number of a line's set. -/
def State.setIndex (s : State) (n : Nat) : Nat :=
  let p := s.linePart n
  32 * ((List.range p).map s.img.units).sum + n % max (s.partSets p) 1

/-- A running flush has yet to visit the set of a line, and so waits for its write (R170). -/
def State.flushAwaits (s : State) (n : Nat) : Bool := s.sst.flush.any (fun k => decide (k ≤ s.setIndex n))

/-- The least recently used dirty line moves to the victim buffer before one more becomes dirty (R347). -/
def State.capDirty (s : State) : State :=
  if !s.dirtyFull || s.dirtyBlocked then s
  else
    match s.dirtyLines.foldl (fun (b : Option (Nat × Line)) x =>
        match b with | none => some x | some y => if x.2.stamp < y.2.stamp then some x else b) none with
    | none => s
    | some (n, l) =>
      { s with sst := { s.sst with cache := SMap.insert s.sst.cache n { l with dirty := false },
                                   victims := s.sst.victims ++ [⟨n, l.entries, none, s.flushAwaits n⟩] } }

/-- Replace an entry of a cached line; the line becomes dirty. -/
def State.setCached (s : State) (eid : Nat) (e : Entry) : State :=
  match SMap.find s.sst.cache (lineOf eid) with
  | none => s
  | some l =>
    let s := if l.dirty then s else s.capDirty
    { s with sst := { s.sst with
        cache := SMap.insert s.sst.cache (lineOf eid) { l with entries := l.entries.set (eid % 8) e, dirty := true } } }

/-- Input for a line would make one more line dirty while none may (R347). -/
def State.dirtyWaits (s : State) (n : Nat) : Bool := s.dirtyBlocked && !(SMap.find s.sst.cache n).any (·.dirty)

/-- Change an entry where it stands. A copy in the victim buffer, or one that may not become dirty, and the backing behind
it change together. -/
def State.setEntryNow (s : State) (eid : Nat) (e : Entry) : State :=
  if (SMap.find s.sst.cache (lineOf eid)).isSome && !s.dirtyWaits (lineOf eid) then s.setCached eid e
  else
    { s with
      sst := { s.sst with
        cache := s.sst.cache.map (fun x => if x.1 = lineOf eid then (x.1, { x.2 with entries := x.2.entries.set (eid % 8) e }) else x)
        victims := s.sst.victims.map (fun (v : Victim) =>
          if v.line = lineOf eid then { v with entries := v.entries.set (eid % 8) e } else v) }
      dep := { s.dep with backing := SMap.set Entry.init s.dep.backing eid e } }

/-- The EIDs that may hold other than the initial values: those listed in the backing and those of lines held in the
cache or the victim buffer. -/
def State.listedEids (s : State) : List Nat :=
  let lines := s.sst.cache.map (·.1) ++ s.sst.victims.map (·.line)
  (s.dep.backing.map (·.1)).filter (fun e => !(lines.contains (lineOf e)))
    ++ (lines.dedup.flatMap (fun n => (List.range 8).map (fun k => 8 * n + k)))

/-- Those of a domain, in ascending order. -/
def State.domEids (s : State) (d : Nat) : List Nat :=
  (s.listedEids.filter (fun e => s.img.inDomain d e)).mergeSort (fun a b => decide (a ≤ b))

/-- Change every entry of a domain; `f` must keep the initial values. -/
def State.walkEntries (s : State) (d : Nat) (f : Entry → Entry) : State :=
  (s.domEids d).foldl (fun s e =>
    let x := s.entryNow e
    if f x = x then s else (s.setEntryNow e (f x)).mirrorEntry e (f x)) s

/-- Fields of a PENDING or ACTIVE entry that a fence clears (R313). -/
def Entry.fenced (e : Entry) : Entry :=
  if e.st = .pending ∨ e.st = .active then
    { e with st := .idle, count := 0, orig := false, mark := false, rerase := false, park := false }
  else e

/-- What an FLR or DOMAIN reset leaves of an entry: TYPE, PRIO, RKIND and ROUTE (R155). -/
def Entry.flr (e : Entry) : Entry :=
  { Entry.init with typ := e.typ, prio := e.prio, rkind := e.rkind, route := e.route }

/-! ### The poison list (R172) -/

/-- Free the slot of an EID. -/
def State.psnFree (s : State) (eid : Nat) : State :=
  (List.range 64).foldl (fun s k =>
    if s.bit F.SST_PSN_VALID k && s.fld F.SST_PSN_EID k = eid then s.setReg .SST_PSN k 0 else s) s

/-- Enter an EID at the lowest free index; none when the list is full. -/
def State.psnEnter (s : State) (eid : Nat) : Option State :=
  ((List.range 64).find? (fun k => !s.bit F.SST_PSN_VALID k)).map (fun k =>
    (s.setFld F.SST_PSN_EID k eid).raise F.SST_PSN_VALID k)

/-! ### Withdrawal (R206) -/

/-- Remove the offer, the waiting bit, the fault-queue place and the waiting head of an EID (R206, R209, R228,
R234, R241). Redeliveries and replay heads are not offers of the EID. -/
def State.withdraw (s : State) (eid : Nat) : State :=
  { s with rnk := { s.rnk with
      offers := s.rnk.offers.filter (·.eid ≠ eid), held := s.rnk.held.filter (·.eid ≠ eid),
      queue := s.rnk.queue.filter (·.eid ≠ eid), waiting := s.rnk.waiting.filter (· ≠ eid),
      heads := s.rnk.heads.filter (fun h => h.eid ≠ eid ∨ h.kind ≠ .live),
      faultQ := s.rnk.faultQ.filter (fun x => x.eid ≠ eid ∨ x.rpl.isSome),
      heldFaults := s.rnk.heldFaults.filter (·.eid ≠ eid) } }

/-- An input of the miss queue that belongs to domain `d`. -/
def MissInput.ofDom (im : Image) (d : Nat) : MissInput → Bool
  | .event e _ => e.dom == d
  | .complete eid _ => im.inDomain d eid
  | .release r => r.g.dom == d
  | .issue h => h.dom == d
  | .cmd _ _ => false
  | .fault eid => im.inDomain d eid

/-- The head is a redelivery. -/
def HeadKind.isRedeliv : HeadKind → Bool
  | .redeliv _ => true
  | _ => false

/-- The sampled events of a domain that will not be delivered are dropped (R391). -/
def State.dropSample (s : State) (d : Nat) : State :=
  s.onSamples (fun m => m.dom == d && m.issue.isNone) (Sample.drop s.tim.ft)

/-- Releases that wait on a state-cache miss. -/
def State.missRels (s : State) : List Release :=
  s.sst.missq.flatMap (fun m => m.inputs.filterMap (fun i => match i with | .release r => some r | _ => none))

/-- Remove the domain's unissued work from ranking: offers, heads, waiting bits and fault-queue offers; the number of
those and of the groups removed comes first (R312 to R314). -/
def State.purge (s : State) (d : Nat) : Nat × State :=
  let n := (s.rnk.offers.filter (·.dom = d)).length + (s.rnk.held.filter (·.dom = d)).length
    + (s.rnk.waiting.filter (s.img.inDomain d)).length + (s.rnk.heldFaults.filter (·.dom = d)).length
    + (s.rnk.heads.filter (fun h => h.dom == d && !h.kind.isRedeliv)).length
    + (s.rnk.faultQ.filter (·.dom = d)).length + (s.cvn.groups.filter (·.dom = d)).length
    + (s.rnk.queue.filter (fun w => s.img.inDomain d w.eid)).length + (s.missRels.filter (·.g.dom = d)).length
    + ((s.cvn.closed.filter (·.dom = d)).map (·.groups.length)).sum + (s.cvn.refused.filter (·.g.dom = d)).length
  let rnk := { s.rnk with
    offers := s.rnk.offers.filter (·.dom ≠ d), held := s.rnk.held.filter (·.dom ≠ d),
    queue := s.rnk.queue.filter (fun w => !s.img.inDomain d w.eid),
    waiting := s.rnk.waiting.filter (fun e => !s.img.inDomain d e), heads := s.rnk.heads.filter (·.dom ≠ d), faultQ := s.rnk.faultQ.filter (·.dom ≠ d),
    heldFaults := s.rnk.heldFaults.filter (·.dom ≠ d) }
  let cvn := { s.cvn with
    groups := s.cvn.groups.filter (·.dom ≠ d), closed := s.cvn.closed.filter (·.dom ≠ d),
    refused := s.cvn.refused.filter (·.g.dom ≠ d) }
  let drop := fun (m : Miss) => { m with inputs := m.inputs.filter (fun i => !(i.ofDom s.img d)) }
  let sst := { s.sst with missq := s.sst.missq.map drop, comps := s.sst.comps.filter (fun x => !s.img.inDomain d x.1), stalled := s.sst.stalled.filter (fun x => x.1.dom ≠ d) }
  let s := { s with rnk := rnk, cvn := cvn, sst := sst }
  (n, s.dropSample d)

/-- Free the domain's active records, with the expiries that wait for room in the tracker's list (R255, R313); a Tandem
partner hears of each (R296). -/
def State.freeActive (s : State) (d : Nat) : State :=
  let gone := s.dlv.active.filter (·.dom = d)
  let s := { s with dlv := { s.dlv with
      active := s.dlv.active.filter (·.dom ≠ d), closing := s.dlv.closing.filter (·.dom ≠ d), lostRetry := s.dlv.lostRetry.filter (fun r => recFld r 64 12 ≠ d) } }
  gone.foldl (fun (s : State) a => s.mirrorDeliv a.eid a.tgt a.hport false 0 a.fault) s

/-- Take the domain's writes off the unsent lists, those that a RESUME has not brought into the egress queue yet with
them, and free their tags (R255). -/
def State.freeUnsent (s : State) (d : Nat) : State :=
  let gone := (s.dlv.unsent ++ s.dlv.reissue).filter (·.dom = d)
  { s with dlv := { s.dlv with
      unsent := s.dlv.unsent.filter (·.dom ≠ d), reissue := s.dlv.reissue.filter (·.dom ≠ d),
      tags := s.dlv.tags.filter (fun w => !(gone.any (fun g => g.tag == w.tag))) } }

/-- PENDING and ACTIVE entries of a domain. -/
def State.countSt (s : State) (d : Nat) (st : EState) : Nat :=
  ((s.domEids d).filter (fun e => (s.entryNow e).st = st)).length

/-- No walk. -/
def Walk.none : Walk := ⟨false, false, false, false, 0, 0, 0, 0, 0⟩

/-- Two walks over one domain: the second restarts the first, and their counts add (R315). -/
def Walk.join (a b : Walk) : Walk :=
  ⟨a.reset || b.reset, a.fence || b.fence, a.seq || b.seq, a.dirty || b.dirty, a.pend + b.pend, a.act + b.act,
   a.uniss + b.uniss, a.egr + b.egr, b.since⟩

/-- Begin, or join, a walk over the domain's entries. -/
def State.beginWalk (s : State) (d : Nat) (w : Walk) : State :=
  let old := (SMap.find s.vfm.walks d).getD Walk.none
  { s with vfm := { s.vfm with walks := SMap.insert s.vfm.walks d (old.join { w with since := s.tim.now }) } }

/-- The walk of a domain has passed the line of an EID: it rewrites one line per ns, in ascending order (R312). -/
def State.walkPassed (s : State) (d eid : Nat) : Bool :=
  match SMap.find s.vfm.walks d with
  | none => true
  | some w => decide (w.since + 45 * (eid / 8 - (s.img.domainEnt d).eidBase / 8 + 1) ≤ s.tim.now)

/-- The records that wait in the replay window of a domain are gone. -/
def State.dropWindow (s : State) (d : Nat) : State :=
  { s with rpl := s.rpl.map (fun p => if p.1 = d then (d, { p.2 with window := [] }) else p) }

/-- Fence a domain (R313): its work is discarded, its PENDING and ACTIVE entries are cleared by a walk that no access
sees under way (R312), its records are freed, the FENCE record follows, condition 5 breaks. A second fence keeps the
first cause. -/
def State.fence (s : State) (d cause : Nat) : State :=
  let first := !s.bit F.VFM_DOM_STAT_FENCED d
  let s := (s.purge d).2
  let s := (s.freeActive d).dropWindow d
  let s := s.walkEntries d Entry.fenced
  let s := s.beginWalk d { Walk.none with fence := true }
  let s := s.jFence d cause
  let s := s.breach d 5
  let s := if first then
      ((s.raise F.VFM_DOM_STAT_FENCED d).setFld F.VFM_DOM_STAT_FENCE_CAUSE d cause).lower F.VFM_FLR_DROP_CNT d
    else s
  s.vfStatus d 6

/-! ### Recording an error (R406, R407) -/

/-- The Verdict column of R406. -/
inductive ErrVerdict where
  | none
  | dom
  | all
  deriving DecidableEq, Repr

/-- Codes of class FATAL. -/
def errFatal (code : Nat) : Bool := code = 26 || code = 27

/-- A COMMAND or PERIODIC save stops without its header (R410, R362). -/
def State.saveStop (s : State) : State :=
  match s.sav.run with
  | some x => if x.trig = 0 then s else
      (({ s with sav := { s.sav with run := none } }.dropJobs (· == JobKind.record)).lower F.SAV_STATUS_BUSY).lower F.SAV_CMD_BUSY
  | none => s

/-- Halt the block (R410): the verdicts, the ring and a save that runs. -/
def State.halt (s : State) (code : Nat) : State :=
  if s.halted then s
  else ((((s.raise F.ERR_STATUS_HALTED).setFld F.ERR_STATUS_HALT_CODE 0 code).breachAll 5).ringStop).saveStop

/-- The first-error log: of the errors of the cycle that fills it, it takes the lowest code (R407). -/
def State.logError (s : State) (code unit : Nat) (dom : Option Nat) (index : Nat) : State :=
  let old := s.bit F.ERR_LOG_VALID
  let fill := [(F.ERR_LOG_CODE, code), (F.ERR_LOG_UNIT, unit), (F.ERR_LOG_DOM_VALID, bitNat dom.isSome),
     (F.ERR_LOG_DOMAIN, dom.getD 0), (F.ERR_LOG_IDX_INDEX, index)]
  let lower := old && s.errs.fresh && decide (code < s.fld F.ERR_LOG_CODE)
  let s := s.logFirst F.ERR_LOG_VALID F.ERR_LOG_CNT 0 fill
  let s : State := if lower then fill.foldl (fun (s : State) p => s.setFld p.1 0 p.2) s else s
  { s with errs := { s.errs with fresh := s.errs.fresh || !old } }

/-- Containment fences a domain (R409). -/
def State.contain (s : State) (d : Nat) : State :=
  let s : State := if s.bit F.VFM_DOM_STAT_FENCED d then s else { s with errs := { s.errs with fences := d :: s.errs.fences } }
  s.fence d 3

/-- Record error `code` found by `unit`: ERR_PEND, ERR_CNT, the first-error log, the verdict, the manager interrupt,
containment of the domain it names and the halt (R407, R409, R410, R412). After an uncorrectable error in the
image-derived tables, WARM runs arbitration (R94). -/
def State.error (s : State) (code unit : Nat) (dom : Option Nat) (index : Nat) (v : ErrVerdict) : State :=
  let was := (s.reg .ERR_PEND).getLsbD code
  let s := s.setReg .ERR_PEND 0 (s.reg .ERR_PEND ||| BitVec.ofNat 32 (2 ^ code))
  let s := s.bump F.ERR_CNT_CNT (code - 1)
  let s := s.logError code unit dom index
  let s := match v, dom with
    | .none, _ => s
    | .dom, some d => s.breach d 5
    | .dom, none => s
    | .all, _ => s.breachAll 5
  let s := if !was && (s.reg .ERR_IRQ_EN).getLsbD code && s.irqReady 0 then s.irqSend 0 else s
  let s := match dom with
    | some d => if (s.reg .ERR_CONTAIN).getLsbD code then s.contain d else s
    | none => s
  let s : State := if code = 26 ∧ unit = 15 then { s with boot := { s.boot with warmArb := true } } else s
  if errFatal code then s.halt code else s

/-- An EID enters the poison list, or overflows it (R172). -/
def State.psnList (s : State) (eid : Nat) : State :=
  match s.psnEnter eid with
  | some s => s
  | none => (s.raise F.SST_STATUS_PSN_OVF).error 24 4 (s.img.domainOf eid) eid .none

/-- The poison list holds an EID. -/
def State.psnHas (s : State) (eid : Nat) : Bool :=
  (List.range 64).any (fun k => s.bit F.SST_PSN_VALID k && decide (s.fld F.SST_PSN_EID k = eid))

/-- The poison list follows an entry that has been written whole: a POISONED one is listed, any other frees its slot
(R172). -/
def State.psnSync (s : State) (eid : Nat) (e : Entry) : State :=
  if e.st = .poisoned then (if s.psnHas eid then s else s.psnList eid) else s.psnFree eid

/-- A depot response with an unknown tag, of the wrong kind, or missing after WARM (R45, R364). -/
def State.depProto (s : State) (tag : Nat) : State := (s.raise F.SST_STATUS_DEP_PROTO).error 5 4 none tag .none

end Sys2Proof.Machine
end

