-- ==== Sys2Proof/Machine/Rank.lean ====
section
/-! DEFINITION. Ranking and routing: the target of an offer, offers and the waiting set, heads of targets, the leaf's
key and the choice of hand-over, and the fault queue (R200 to R219). -/

namespace Sys2Proof.Machine

/-! ### Routing -/

/-- The targets that a domain may use, in ascending index (R214): enabled, with a ring, and open to the domain. A
target's EN resets to 0, so only listed registers count. -/
def State.eligible (s : State) (d : Nat) (g : GroupEnt) : List Nat :=
  (s.regIdxs .RTE_TGT_CFG).filter (fun t =>
    decide (g.tgtBase ≤ t) && decide (t < g.tgtBase + g.tgtCount) && s.bit F.RTE_TGT_CFG_EN t
      && decide (s.fld F.DLV_RING_CFG_ORDER t ≠ 0)
      && (s.bit F.RTE_TGT_CFG_ANY t || s.fld F.RTE_TGT_CFG_OWNER t == d))

/-- The hash of R214. -/
def routeHash (eid : Nat) : Nat := (eid * 0x9E3779B1) % 2 ^ 32 / 2 ^ 16

/-- Effective priority of an entry (R201). -/
def State.effPrio (s : State) (e : Entry) : Nat :=
  match s.routeGroup e with
  | some g => min e.prio.toNat g.prioM1
  | none => e.prio.toNat

/-- The first failing target check of a named target (R216): codes 5, 6 and 7. -/
def State.tgtCheck (s : State) (d t : Nat) : Option Nat :=
  if !s.bit F.RTE_TGT_CFG_EN t then some 5
  else if !s.bit F.RTE_TGT_CFG_ANY t ∧ s.fld F.RTE_TGT_CFG_OWNER t ≠ d then some 6
  else if s.fld F.DLV_RING_CFG_ORDER t = 0 then some 7
  else none

/-- Codes 3 and 4 of R216: the group's HOME is another member, not present, or present and not joined. They are found
at the member where the event enters (R219). -/
def State.homeFault (s : State) (home : Nat) : Option Nat :=
  if s.homeHere home then none
  else if !s.img.presentAt home then some 3
  else if !s.img.fabric then none
  else if !s.joinedAt (s.eventPos home) then some 4
  else none

/-- The target of an offer of domain `d` at this home (R214 to R216). `pos` gives the epoch and the position r of
SPREAD in a CARAVAN domain; without it the group's rotor chooses. -/
def State.routeOf (s : State) (d eid : Nat) (e : Entry) (pos : Option (Nat × Nat)) : Route :=
  if e.rkind then
    match s.routeGroup e with
    | none => .fault 2
    | some g =>
      let el := s.eligible d g
      match s.homeFault g.home with
      | some c => .fault c
      | none =>
      if el.isEmpty then .fault 2
      else
        let i := match s.fld F.RTE_GRP_CFG_AFFINITY g.group, pos with
          | 0, _ => 0
          | 2, some (ep, r) => (ep + r) % el.length
          | 2, none => s.fld F.RTE_SPREAD_ROT_ROT g.group % el.length
          | _, _ => routeHash eid % el.length
        .tgt (el.getD i 0)
  else
    match s.img.groupOf e.route.toNat with
    | none => .fault 1
    | some g =>
      match (s.homeFault g.home).orElse (fun _ => s.tgtCheck d e.route.toNat) with
      | some c => .fault c
      | none => .tgt e.route.toNat

/-- The rotor of the entry's group advances when SPREAD chose by it (R214): at every routing, also of an offer that then
finds no room and is routed again at its admission (DESIGN CHOICE). -/
def State.spinRotor (s : State) (e : Entry) (pos : Option (Nat × Nat)) (r : Route) : State :=
  match s.routeGroup e, r, pos with
  | some g, .tgt _, none =>
    if e.rkind ∧ s.fld F.RTE_GRP_CFG_AFFINITY g.group = 2 then
      s.setFld F.RTE_SPREAD_ROT_ROT g.group (s.fld F.RTE_SPREAD_ROT_ROT g.group + 1)
    else s
  | _, _, _ => s

/-! ### Occupancy -/

/-- Rank-store places a domain holds (RNK_DOM_OCC). -/
def State.occ (s : State) (d : Nat) : Nat := (s.rnk.offers.filter (·.dom = d)).length

/-- The domain's share is used up (R307). -/
def State.admitClosed (s : State) (d : Nat) : Bool :=
  let r := s.fld F.VFM_SHARE_RANK d
  r ≠ 0 && decide (r * 256 ≤ s.occ d)

/-- The rank store has no free place (R202). -/
def State.storeFull (s : State) : Bool := decide (1048576 ≤ s.rnk.offers.length)

/-- Insert a number in an ascending list without repeats. -/
def insertAsc (x : Nat) : List Nat → List Nat
  | [] => [x]
  | y :: r => if x < y then x :: y :: r else if x = y then y :: r else y :: insertAsc x r

/-- The EID enters the waiting set (R202). -/
def State.enterWaiting (s : State) (eid : Nat) : State :=
  { s with rnk := { s.rnk with waiting := insertAsc eid s.rnk.waiting } }.raise F.RNK_STATUS_WAITING

/-- An offer takes a place of the rank store, through one of the slots of the cycle (R203). -/
def State.placeOffer (s : State) (slot eid d t p : Nat) (ro : Option Nat) (ready : Bool) : State :=
  { s with rnk := { s.rnk with
      offers := s.rnk.offers ++ [Offer.mk eid d t p ro ready s.tim.now slot s.rnk.no], no := s.rnk.no + 1,
      waiting := s.rnk.waiting.filter (· ≠ eid) } }

/-! ### Faults -/

/-- A fault is recorded and counted (R216, R218, R305, R379); a CARAVAN offer faulted with code 4 counts as lost
caravan records (R217). -/
def State.faultLog (s : State) (eid d code : Nat) : State :=
  let s := s.logFirst F.RTE_FAULT_LOG_VALID F.RTE_FAULT_LOG_CNT 0
    [(F.RTE_FAULT_LOG_REASON, code), (F.RTE_FAULT_LOG_DOMAIN, d), (F.RTE_FAULT_EID_EID, eid)]
  let s := (s.countD d 16).vfStatus d 4
  if code = 4 ∧ s.caravan d then s.breachAll 5 else s

/-- The fault queue has room (R217). -/
def State.faultRoom (s : State) : Bool := decide (s.rnk.faultQ.length < 1024)

/-- An offer enters the fault queue. -/
def State.faultPut (s : State) (x : FaultItem) : State :=
  { s with rnk := { s.rnk with faultQ := s.rnk.faultQ ++ [x], waiting := s.rnk.waiting.filter (· ≠ x.eid) } }

/-! ### Offers -/

/-- The EID already holds a place, a head, a fault-queue place or a refused release. -/
def State.offered (s : State) (eid : Nat) : Bool :=
  s.rnk.offers.any (fun o => o.eid == eid) || s.rnk.held.any (fun o => o.eid == eid) || s.rnk.heads.any (fun h => h.eid == eid && h.kind == .live)

    || s.rnk.faultQ.any (fun x => x.eid == eid && x.rpl.isNone) || s.rnk.heldFaults.any (fun x => x.eid == eid)

/-- The last closed epoch of a running domain; 0 before any epoch has closed, where the spec gives none (DESIGN CHOICE). -/
def State.lastEpoch (s : State) (d : Nat) : Nat := (((SMap.find s.cvn.runs d).map (·.oldest)).getD 0) - 1

/-- The route of an offer outside a release: in a CARAVAN domain E is the last closed epoch and r is 0 (R215). -/
def State.offerPos (s : State) (d : Nat) : Option (Nat × Nat) := if s.caravan d then some (s.lastEpoch d, 0) else none

/-- An offer without room: an immediate one enters the waiting set; a CARAVAN one keeps its release order and its place
in the target's stream, and waits for a place of the rank store (R202; DESIGN CHOICE for one outside a release). -/
def State.noRoom (s : State) (slot eid d t p : Nat) : Option Nat → State
  | none => s.enterWaiting eid
  | some ro => { s with rnk := { s.rnk with held := s.rnk.held ++ [Offer.mk eid d t p (some ro) true s.tim.now slot s.rnk.no] } }

/-- Place an offer routed to a target, or let it wait for room (R202). `ro` is a stream entry's release order. -/
def State.offerTo (s : State) (slot eid d t p : Nat) (ro : Option Nat) : State :=
  if s.storeFull then (s.raise F.RNK_STATUS_NODES_FULL).noRoom slot eid d t p ro
  else if s.admitClosed d then s.noRoom slot eid d t p ro
  else s.placeOffer slot eid d t p ro true

/-- Offer a PENDING entry to ranking (R200): nothing when it is masked, parked, already offered or its domain is
disabled. A CARAVAN entry offered outside a release joins the tail of its stream (R206); `keep` is the release order
and the p of one that is routed again (R201, R209). A STANDBY offers nothing (R295). -/
def State.offer (s : State) (slot eid : Nat) (keep : Option (Nat × Nat) := none) : State :=
  match s.img.domainOf eid with
  | none => s
  | some d =>
    let e := s.entryNow eid
    if e.st ≠ .pending ∨ e.mask ∨ e.park ∨ s.offered eid ∨ !s.domEn d ∨ s.standby then s
    else
      let pos := s.offerPos d
      let r := s.routeOf d eid e pos
      let s := s.spinRotor e pos r
      let ro := if s.caravan d then some ((keep.map (·.1)).getD s.cvn.ro) else none
      let p := if s.caravan d then (keep.map (·.2)).getD (s.effPrio e) else s.effPrio e
      let s := if s.caravan d ∧ keep = none then { s with cvn := { s.cvn with ro := s.cvn.ro + 1 } } else s
      match r with
      | .fault c =>
        if s.faultRoom then (s.faultLog eid d c).faultPut ⟨eid, d, c, ro, none⟩
        else (s.raise F.RNK_STATUS_FAULTQ_FULL).enterWaiting eid
      | .tgt t => s.offerTo slot eid d t p ro

/-! ### Slots (R203) -/

/-- A slot of this cycle is free: a lane has one, the shared sources two. -/
def State.slotFree (s : State) (k : Nat) : Bool :=
  decide ((s.rnk.used.filter (fun w => w.slot == k)).length < (if k = 6 then 2 else 1))

/-- Insert an offer behind those of its slot and source that wait already. -/
def insertWait (w : OfferWait) : List OfferWait → List OfferWait
  | [] => [w]
  | x :: r => if w.slot < x.slot ∨ (w.slot = x.slot ∧ w.kind < x.kind) then w :: x :: r else x :: insertWait w r

/-- An offer waits for a slot of the next cycle; an EID waits once. -/
def State.queueOffer (s : State) (w : OfferWait) : State :=
  if s.rnk.queue.any (fun x => x.eid == w.eid) then s
  else { s with rnk := { s.rnk with queue := insertWait w s.rnk.queue } }

/-- An offer uses a slot of this cycle. -/
def State.useSlot (s : State) (w : OfferWait) : State :=
  { s with rnk := { s.rnk with used := s.rnk.used ++ [w] } }.offer w.slot w.eid w.keep

/-- The place that an offer took in this cycle, while it still holds it. -/
def State.placedNow (s : State) (w : OfferWait) : Option Offer :=
  s.rnk.offers.find? (fun o => o.eid == w.eid && o.slot == w.slot && o.at_ == s.tim.now)

/-- The offer that gives its shared slot of this cycle up to one of an earlier kind: of the last kind, the last placed. -/
def State.outranked (s : State) (kind : Nat) : Option (OfferWait × Offer) :=
  (s.rnk.used.foldl (fun (b : Option OfferWait) (w : OfferWait) =>
    if w.slot = 6 ∧ kind < w.kind ∧ (s.placedNow w).isSome ∧ b.all (fun x => decide (x.kind ≤ w.kind)) then some w else b) none).bind
      (fun (w : OfferWait) => (s.placedNow w).map (fun o => (w, o)))

/-- An offer goes back to the front of its source's queue; a stream entry keeps its release order and its p. -/
def State.unplace (s : State) (w : OfferWait) (o : Offer) : State :=
  let back := { w with keep := o.ro.map (fun ro => (ro, o.p)) }
  { s with rnk := { s.rnk with
      offers := s.rnk.offers.erase o, used := s.rnk.used.erase w,
      queue := s.rnk.queue.filter (fun x => x.slot < 6 || x.kind < w.kind) ++ back ::
        s.rnk.queue.filter (fun x => !(x.slot < 6 || x.kind < w.kind)) } }

/-- An offer of a source: in this cycle when its slot is free and nothing of its source waits for it, else in a later one.
The shared slots of a cycle serve completions first, then the ring, then changes, whatever came first in the cycle: an
offer of a later kind gives its slot up (R203). The entry as it stands then decides. -/
def State.offerFrom (s : State) (slot kind eid : Nat) : State :=
  let w : OfferWait := ⟨slot, kind, eid, none⟩
  if s.rnk.queue.any (fun x => x.slot == slot && decide (x.kind ≤ kind)) then s.queueOffer w
  else if s.slotFree slot then s.useSlot w
  else
    match (if slot = 6 then s.outranked kind else none) with
    | some (x, o) => (s.unplace x o).useSlot w
    | none => s.queueOffer w

/-- A new cycle: its slots serve what waits, the shared ones completions first, then the ring, then changes (R203). -/
def State.serveOffers (s : State) : State :=
  s.rnk.queue.foldl (fun (s : State) w =>
    if s.slotFree w.slot then
      { s with rnk := { s.rnk with queue := s.rnk.queue.erase w } }.useSlot w
    else s) { s with rnk := { s.rnk with used := [] } }

/-- CARAVAN stream entries that wait for a place take it as room frees, in order. -/
def State.placeHeld (s : State) : State :=
  s.rnk.held.foldl (fun (s : State) o =>
    if s.storeFull || s.admitClosed o.dom then s
    else { s with rnk := { s.rnk with held := s.rnk.held.erase o } }.placeOffer o.slot o.eid o.dom o.tgt o.p o.ro o.ready) s

/-- Offer every PENDING entry of a domain that holds no place, in ascending EID (R308, R408). -/
def State.offerDomain (s : State) (d : Nat) : State :=
  (s.domEids d).foldl (fun s eid => if s.rnk.waiting.contains eid then s else s.offerFrom 6 3 eid) s

/-! ### The head of a target and its leaf -/

/-- The first entry of the stream of domain `d` at target `t`, by release order (R204). -/
def State.streamHead (s : State) (t d : Nat) : Option Offer :=
  ((s.rnk.offers ++ s.rnk.held).filter (fun o => o.tgt == t && o.dom == d && o.ro.isSome)).foldl
    (fun b o => match b with
      | none => some o
      | some x => if o.ro.getD 0 < x.ro.getD 0 then some o else some x) none

/-- The offer is a candidate for its target's head: an immediate offer, or the ready first entry of its stream; none
of a frozen domain (R204, R205, R316). -/
def State.candidate (s : State) (o : Offer) : Bool :=
  !s.bit F.VFM_DOM_CTRL_FREEZE o.dom
    && (match o.ro with
      | none => true
      | some _ => o.ready && s.streamHead o.tgt o.dom == some o)

/-- Placed earlier: by the cycle, then by the slot, then by number (R204). -/
def Offer.earlier (a b : Offer) : Bool :=
  decide (a.at_ < b.at_) || (a.at_ == b.at_ && (decide (a.slot < b.slot) || (a.slot == b.slot && decide (a.no < b.no))))

/-- Lower p first, then the earlier placed (R204). -/
def Offer.before (a b : Offer) : Bool := decide (a.p < b.p) || (a.p == b.p && a.earlier b)

/-- The head of target `t` (R204). -/
def State.headOf (s : State) (t : Nat) : Option Offer :=
  (s.rnk.offers.filter (fun o => o.tgt == t && s.candidate o)).foldl
    (fun b o => match b with
      | none => some o
      | some x => if o.before x then some o else some x) none

/-- ACTIVE deliveries of a target: one leaves in the DONE cycle of its completion, and fault deliveries never join
(R207). -/
def State.activeAt (s : State) (t : Nat) : List ActiveRec :=
  (s.dlv.active ++ s.dlv.closing).filter (fun a => a.tgt == t && !a.fault)

/-- The running priority (R207). -/
def State.runp (s : State) (t : Nat) : Nat := ((s.activeAt t).map (·.p)).foldl min 256

/-- A target has a head in flight (R209): a redelivery does not use the flight slot (R252). -/
def State.inflight (s : State) (t : Nat) : Bool := s.rnk.heads.any (fun h => h.tgt == t && !h.kind.isRedeliv)

/-- The key with which the leaf of `t` competes, or none (R208). -/
def State.compete (s : State) (t : Nat) : Option Nat :=
  match s.headOf t with
  | none => none
  | some h =>
    let lim := max (s.fld F.RTE_TGT_CFG_OUT_MAX t) 1
    let act := (s.activeAt t).length
    if !s.bit F.RTE_TGT_CFG_EN t ∨ s.bit F.RTE_TGT_RT_MASK t ∨ s.inflight t then none
    else if s.fld F.RTE_TGT_RT_RTHRESH t < h.p then none
    else if act < lim then some h.p
    else if h.ro.isNone ∧ h.p < s.runp t ∧ act < lim + s.fld F.RTE_TGT_CFG_PRE_MAX t then some h.p
    else none

/-- Distance from `a` going up and wrapping at `m`, at least 1: what comes next after `a` has the least. -/
def after (m a x : Nat) : Nat := (x + 2 * m - a - 1) % m

/-- The competing leaves: target, key and group. -/
def State.leaves (s : State) (taken : List Nat) : List (Nat × Nat × Nat) :=
  ((s.rnk.offers.map (·.tgt)).dedup.filter (fun t => !(taken.contains t))).filterMap (fun t =>
    match s.compete t, s.groupNo t with
    | some k, some g => some (t, k, g)
    | _, _ => none)

/-- The better of two leaves: the lower key, then the group next after the last served, then the target next after
that group's last (R212). Before the first hand-over after COLD both stand at their top, so that the first round begins
at group 0 and at each group's lowest target: the spec gives no value (DESIGN CHOICE). -/
def State.leafBefore (s : State) (a b : Nat × Nat × Nat) : Bool :=
  let ga := after 1024 s.rnk.lastGroup a.2.2
  let gb := after 1024 s.rnk.lastGroup b.2.2
  let ta := after 65536 (SMap.get 65535 s.rnk.last a.2.2) a.1
  let tb := after 65536 (SMap.get 65535 s.rnk.last b.2.2) b.1
  decide (a.2.1 < b.2.1) || (a.2.1 == b.2.1 && (decide (ga < gb) || (ga == gb && decide (ta < tb))))

/-- One choice of hand-over (R212). -/
def State.choose (s : State) (taken : List Nat) : Option (Nat × Nat × Nat) :=
  (s.leaves taken).foldl (fun b l => match b with
    | none => some l
    | some x => if s.leafBefore l x then some l else some x) none

/-- Choose the target of one hand-over and note it as served. -/
def State.chooseTake (s : State) (taken : List Nat) : Option (Nat × State) :=
  (s.choose taken).map (fun l =>
    (l.1, { s with rnk := { s.rnk with lastGroup := l.2.2, last := SMap.insert s.rnk.last l.2.2 l.1 } }))

/-- The head of a target leaves the rank store and is in flight (R209, R212). -/
def State.launch (s : State) (t : Nat) : Option (Head × State) :=
  (s.headOf t).map (fun o =>
    let start := SMap.get s.tim.ft s.tel.starts o.eid
    (Head.mk o.eid o.dom t o.p o.ro .live (.rte 0) false false start 0 s.tim.ft,
     { s with rnk := { s.rnk with offers := s.rnk.offers.filter (· ≠ o) } }.onSample o.eid
        (fun m => { m with hand := some s.tim.ft, tgt := t, prio := o.p })))

/-! ### The waiting scanner (R202) -/

/-- The offer of a waiting EID would find a place: not one that fails at routing while the fault queue is full
(R217). -/
def State.scanGoes (s : State) (d eid : Nat) : Bool :=
  match s.routeOf d eid (s.entryNow eid) (s.offerPos d) with
  | .fault _ => s.faultRoom
  | .tgt _ => true

/-- A waiting EID of domain `d` that has room, in ascending order from the one after the EID admitted last; before the
first admission after COLD the scanner begins at domain 0 and at the lowest EID, where the spec gives no value (DESIGN
CHOICE). An EID
whose offer would meet a full fault queue goes on waiting (R217). -/
def State.scanEid (s : State) (d : Nat) : Option Nat :=
  if s.storeFull || s.admitClosed d then none
  else
    let last := SMap.get 16777215 s.rnk.lastEid d
    let l := s.rnk.waiting.filter (fun e => s.img.inDomain d e && s.scanGoes d e)
    (l.foldl (fun (b : Option Nat) e => match b with
      | none => some e
      | some x => if after 16777216 last e < after 16777216 last x then some e else b) none)

/-- The domain served next: the first after the one served last that has a place for one. -/
def State.scanDom (s : State) : Option Nat :=
  let l := (s.rnk.waiting.filterMap s.img.domainOf).dedup.filter (fun d => (s.scanEid d).isSome)
  l.foldl (fun (b : Option Nat) d => match b with
    | none => some d
    | some x => if after 4096 s.rnk.lastDom d < after 4096 s.rnk.lastDom x then some d else b) none

/-- Admit one EID of a domain as a new offer. -/
def State.scanAdmit (s : State) (d eid : Nat) : State :=
  let s := { s with rnk := { s.rnk with waiting := s.rnk.waiting.filter (· ≠ eid), lastDom := d,
                                        lastEid := SMap.insert s.rnk.lastEid d eid } }.useSlot ⟨6, 4, eid, none⟩
  if s.rnk.waiting.contains eid then s else s.countD d 28

/-- The scanner has a shared slot: one is free and no other source waits for it (R203). -/
def State.scanSlot (s : State) : Bool := s.slotFree 6 && !s.rnk.queue.any (fun x => x.slot == 6)

/-- The EID that the scanner admits next: of domain `d` while it has one, else of the domain served next. -/
def State.scanNext (s : State) (d : Option Nat) : Option (Nat × Nat) :=
  if !s.scanSlot then none
  else
    match d.bind (fun d => (s.scanEid d).map (fun e => (d, e))) with
    | some x => some x
    | none => s.scanDom.bind (fun d => (s.scanEid d).map (fun e => (d, e)))

/-- What the SECDED check of the waiting-set word of the EID to be admitted does (R408): the word is discarded, and the
domain's PENDING entries without a place are offered again. -/
def State.waitEcc (s : State) (d eid : Nat) (ecc : Ecc) : Bool × State :=
  let i := (Config.recordIndex 3 s.dep.n).toNat
  match ecc with
  | .cor .waitingWord => (true, s.error 9 6 none i .none)
  | .unc .waitingWord =>
    let s := { s with rnk := { s.rnk with waiting := s.rnk.waiting.filter (fun e => e / 64 ≠ eid / 64) } }
    (false, (s.error 8 6 (some d) i .dom).offerDomain d)
  | .uncDomain .waitingWord => (false, s.error 26 6 none i .all)
  | _ => (true, s)

/-- WAITING_ADMISSION: at most two EIDs, of the domain served next and, where it has no second, of the one after, in the
shared slots that the other sources leave. -/
def State.waitingAdmission (s : State) (ecc : Ecc) : State :=
  if s.standby || s.halted then s
  else
    match s.scanNext none with
    | none => s
    | some (d, e) =>
      let (ok, s) := s.waitEcc d e ecc
      if !ok then s
      else
      match (s.scanAdmit d e).scanNext (some d) with
      | none => s.scanAdmit d e
      | some (d2, e2) => (s.scanAdmit d e).scanAdmit d2 e2

end Sys2Proof.Machine
end

