-- ==== Sys2Proof/Machine/Store.lean ====
section
/-! DEFINITION. The Event State Store: the transitions of one entry, poison and ECC of entries, the cache, its victim
buffer and misses, and the software commands on ranges of entries (R155 to R175). -/

namespace Sys2Proof.Machine

/-! ### Transitions of one entry -/

/-- An entry after an event of immediate ordering (R158); `m` is its MARK. COUNT saturates at 65,535. POISONED entries
and EN 0 are decided before. -/
def Entry.event (e : Entry) (k : EvKind) (m : Bool) : Entry :=
  let lvl := match k with | .raise => e.lvl | .lvlAssert => true | .lvlDeassert => false
  let up := if e.count = 0xFFFF#16 then e.count else e.count + 1
  match k, e.st with
  | .lvlDeassert, _ => { e with lvl := lvl }
  | _, .idle => { e with st := .pending, count := 0, orig := false, mark := m, lvl := lvl }
  | _, .pending => { e with count := up, mark := e.mark || m, lvl := lvl }
  | _, .active => { e with rerase := true, count := up, mark := e.mark || m, lvl := lvl }
  | _, .poisoned => e

/-- An entry after ISSUE, from PENDING (R158). -/
def Entry.issued (e : Entry) : Entry :=
  { e with st := .active, count := 0, orig := false, mark := false, seq := e.seq + 1 }

/-- An entry resolved in its DONE cycle (R159). -/
def Entry.complete (e : Entry) (caravan replaying : Bool) : Entry :=
  let r :=
    if !e.en then { e with st := .idle, rerase := false }
    else if e.rerase then { e with st := .pending, rerase := false, orig := if caravan then e.orig else true }
    else if e.typ && e.lvl && !caravan then { e with st := .pending, orig := true }
    else { e with st := .idle }
  if r.st = .pending ∧ replaying then { r with park := true } else r

/-- LVL after a release: the group's last level kind, when it holds one (R163). -/
def Entry.relLvl (e : Entry) (lvl : Option Bool) : Entry := { e with lvl := lvl.getD e.lvl }

/-- COUNT of a release of `k` events. -/
def relCount (k : Nat) : BitVec 16 := BitVec.ofNat 16 (min (k - 1) 65535)

/-- An entry after a release of `k` ≥ 1 events that R163 does not refuse; from IDLE or ACTIVE with RERAISE 0. -/
def Entry.release (e : Entry) (k : Nat) (lvl : Option Bool) (park : Bool) : Entry :=
  match e.st with
  | .idle => { e.relLvl lvl with st := .pending, count := relCount k, orig := false, park := e.park || park }
  | .active => { e.relLvl lvl with rerase := true, count := relCount k, orig := false }
  | _ => e

/-- The release table refuses the group: PENDING, or ACTIVE with RERAISE 1 (R163). -/
def Entry.refuses (e : Entry) : Bool := e.st == .pending || (e.st == .active && e.rerase)

/-- Clearing EN (R161). -/
def Entry.clearEn (e : Entry) : Entry :=
  match e.st with
  | .pending => { e with en := false, st := .idle, count := 0, orig := false, mark := false, park := false }
  | .active => { e with en := false, rerase := false }
  | _ => { e with en := false }

/-- The clear-state operation: every hw field, EN and MASK to their initial values (R165). -/
def Entry.cleared (e : Entry) : Entry :=
  { Entry.init with typ := e.typ, prio := e.prio, rkind := e.rkind, route := e.route }

/-! ### Entries in the cache -/

/-- An entry is homed at the pair. -/
def State.pairEntry (s : State) (e : Entry) : Bool := (s.entryHome e).any s.pairHomed

/-- A target's group is homed at the pair. -/
def State.pairTarget (s : State) (t : Nat) : Bool := (s.img.groupOf t).any (fun g => s.pairHomed g.home)

/-- An input of the miss queue that the records of the ring or the sequencer brought. -/
def MissInput.copied : MissInput → Bool
  | .event e _ => e.ring
  | .release _ => true
  | _ => false

/-- The sample's event is in the group. -/
def Sample.inGroup (m : Sample) (g : Group) : Bool :=
  m.flags.getLsbD 0 && m.eid == g.eid && m.dom == g.dom && m.epoch == g.epoch && m.state.isSome && m.issue.isNone

/-- The tracked samples of a group that is not delivered are dropped. -/
def State.dropGroup (s : State) (g : Group) : State := s.onSamples (fun m => m.inGroup g) (Sample.drop s.tim.ft)

/-- An active record of the pair: of a target homed there, or a fault delivery of an entry homed there. -/
def State.pairActive (s : State) (a : ActiveRec) : Bool :=
  if a.fault then s.pairEntry (s.entryNow a.eid) else s.pairTarget a.tgt

/-- What the hold store, the sequencer's outlets and the miss queue hold for the pair goes (R299). -/
def State.discardPairHeld (s : State) : State :=
  let pair (eid : Nat) : Bool := s.pairEntry (s.entryNow eid)
  let gone := s.cvn.groups ++ s.cvn.closed.flatMap (·.groups) ++ s.cvn.refused.map (·.g)
  let s := (gone.filter (fun g => pair g.eid)).foldl (fun (s : State) g => s.dropGroup g) s
  { s with
    cvn := { s.cvn with
      groups := s.cvn.groups.filter (fun g => !pair g.eid),
      closed := s.cvn.closed.map (fun (c : Closed) => { c with groups := c.groups.filter (fun g => !pair g.eid) }),
      refused := s.cvn.refused.filter (fun x => !pair x.g.eid) },
    sst := { s.sst with
      missq := s.sst.missq.map (fun (m : Miss) => { m with inputs := m.inputs.filter (fun i => !i.copied) }),
      stalled := s.sst.stalled.filter (fun x => !x.1.ring) } }

/-- The unit's state of the pair goes, but for its roles and its own intake: entries return to their initial values,
hold store, active records and ring pointers are empty; the copy that follows brings every value (R299, R300). -/
def State.discardPair (s : State) : State :=
  let s := s.discardPairHeld
  let pair (r : Rec) : Bool := s.pairEntry (s.entryNow (recFld r 0 24))
  let s := { s with dlv := { s.dlv with
    active := s.dlv.active.filter (fun a => !s.pairActive a), closing := s.dlv.closing.filter (fun a => !s.pairActive a),
    lost := s.dlv.lost.filter (fun r => !pair r), lostRetry := s.dlv.lostRetry.filter (fun r => !pair r) } }
  let s := (s.setFld F.DLV_FAULT_PTR_PI 0 0).setFld F.DLV_FAULT_CI_CI 0 0
  let s := s.listedEids.foldl (fun s eid =>
    if s.pairEntry (s.entryNow eid) then (s.setEntryNow eid Entry.init).psnFree eid else s) s
  ((s.regIdxs .DLV_RING_PTR ++ s.regIdxs .DLV_RING_CI).filter s.pairTarget).foldl (fun (s : State) t =>
    (s.setFld F.DLV_RING_PTR_PI t 0).setFld F.DLV_RING_CI_CI t 0) s

/-- Every epoch that is decided may be released: the partner is in RESYNC, or gone (R301). -/
def State.releaseAll (s : State) : State :=
  { s with cvn := { s.cvn with closed := s.cvn.closed.map (fun (c : Closed) => { c with agreed := true }) } }

/-- Resynchronisation starts: the primary sends every word, the standby takes them (R300). -/
def State.resync (s : State) : State :=
  let s := s.setFld F.TDM_STATUS_STATE 0 3
  if s.standby then { s with tdm := { s.tdm with bulk := some 0, bulkBuf := [] } }.discardPair
  else { s with tdm := { s.tdm with bulkOut := some (0, 0) } }.releaseAll

/-- Write an entry of a cached line, and mirror it. -/
def State.putEntry (s : State) (eid : Nat) (e : Entry) : State := (s.setCached eid e).mirrorEntry eid e

/-- An input that R160 records: ILLEGAL is set and the log filled. -/
def State.illegal (s : State) (cause eid : Nat) : State :=
  (s.raise F.SST_STATUS_ILLEGAL).logOne F.SST_ILL_LOG_VALID 0
    [(F.SST_ILL_LOG_CAUSE, cause), (F.SST_ILL_LOG_EID, eid)]

/-- The sample that tracks the event is dropped (R391). -/
def State.dropEvent (s : State) (ev : Ev) : State := s.onSamples (fun m => ev.smp == some m.id) (Sample.drop s.tim.ft)

/-- The tracked samples of an EID whose delivery is withdrawn are dropped (R391). -/
def State.dropEid (s : State) (eid : Nat) : State :=
  s.onSamples (fun m => m.eid == eid && m.issue.isNone) (Sample.drop s.tim.ft)

/-- An EID leaves the sequencer. -/
def State.withdrawCvn (s : State) (eid : Nat) : State :=
  { s with cvn := { s.cvn with
      groups := s.cvn.groups.filter (·.eid ≠ eid), refused := s.cvn.refused.filter (·.g.eid ≠ eid)
      closed := s.cvn.closed.map (fun c => { c with groups := c.groups.filter (·.eid ≠ eid) }) } }

/-- An entry becomes POISONED (R172): it leaves the sequencer and ranking, enters the poison list and breaks
condition 5. Its other fields are not known. One that is POISONED already stays as it is. -/
def State.poisonEntry (s : State) (eid : Nat) : State :=
  if (s.entryNow eid).st = .poisoned then s else
  let x := Entry.ofBits (Config.poisonedEntry s.sst.psn)
  let s := { s with sst := { s.sst with psn := s.sst.psn + 1 } }
  let s := s.setCached eid { x with st := .poisoned }
  let s := s.mirrorEntry eid { x with st := .poisoned }
  let s := ((s.withdraw eid).withdrawCvn eid).dropEid eid
  let d := s.img.domainOf eid
  let s := s.psnList eid
  match d with
  | some d => s.breach d 5
  | none => s

/-! ### Lines -/

/-- Lines that stand in the set line `n` maps to, with `n` itself if it is cached. -/
def State.setOf (s : State) (n : Nat) : List (Nat × Line) :=
  let p := s.linePart n
  let m := max (s.partSets p) 1
  s.sst.cache.filter (fun x => x.1 % m == n % m && s.linePart x.1 == p)

/-- A line is held in the cache for a head that waits to issue (R428). -/
def State.lineHeld (s : State) (n : Nat) : Bool := s.rnk.heads.any (fun h => h.lineHeld && lineOf h.eid == n)

/-- The least recently used of some lines. -/
def lruOf (l : List (Nat × Line)) : Option (Nat × Line) :=
  l.foldl (fun b x => match b with
    | none => some x
    | some y => if x.2.stamp < y.2.stamp then some x else some y) none

/-- The line that gives way: least recently used clean, then least recently used dirty (R166). -/
def State.evictee (s : State) (n : Nat) : Option (Nat × Line) :=
  let free := (s.setOf n).filter (fun x => !s.lineHeld x.1)
  match lruOf (free.filter (fun x => !x.2.dirty)) with
  | some x => some x
  | none => lruOf free

/-- Put a line into the cache; none when a dirty victim finds the 32-line victim buffer full (R166, R169). -/
def State.install (s : State) (n : Nat) (es : List Entry) (dirty : Bool) : Option State :=
  let put := fun (s : State) =>
    { s with sst := { s.sst with
        cache := SMap.insert s.sst.cache n ⟨es, dirty, s.sst.clock⟩, clock := s.sst.clock + 1 } }
  if (s.setOf n).length < 16 then some (put s)
  else
    match s.evictee n with
    | none => none
    | some (v, l) =>
      let s' := { s with sst := { s.sst with cache := SMap.erase s.sst.cache v } }
      if !l.dirty then some (put s')
      else if 32 ≤ s.sst.victims.length then none
      else some (put { s' with sst := { s'.sst with victims := s'.sst.victims ++ [⟨v, l.entries, none, s.flushAwaits v⟩] } })

/-- Bring a line into use: it must be cached, or come back from the victim buffer without a depot read (R167). A copy whose
write has not been issued leaves the buffer and stays dirty, unless a flush waits for that write; it counts as one more
dirty line (R347). -/
def State.access (s : State) (n : Nat) : Bool × State :=
  match SMap.find s.sst.cache n with
  | some l =>
    (true, { s with sst := { s.sst with
      cache := SMap.insert s.sst.cache n { l with stamp := s.sst.clock }, clock := s.sst.clock + 1 } })
  | none =>
    match s.victim n with
    | none => (false, s)
    | some es =>
      let waits : Victim → Bool := fun v => v.line == n && v.tag.isNone && !v.flush
      let waiting := s.sst.victims.any waits
      let kept := s.sst.victims.filter (fun v => !waits v)
      let back : State := { s with sst := { s.sst with victims := kept } }
      match (if waiting then back.capDirty else back).install n es waiting with
      | some s' => (true, s')
      | none => (false, s)

/-! ### Misses (R167) -/

/-- Inputs that wait in the miss queue, map reads included. -/
def State.mqUsed (s : State) : Nat := (s.sst.missq.map (·.inputs.length)).sum + s.intk.maps.length

/-- A miss on the line is outstanding. -/
def State.missOn (s : State) (n : Nat) : Bool := s.sst.missq.any (·.line == n)

/-- The miss queue can take one more input for line `n`. -/
def State.mqRoom (s : State) (n : Nat) : Bool :=
  decide (s.mqUsed < 1024) && (s.missOn n || decide (s.sst.missq.length < 256))

/-- A cached line can take an input, which may make it dirty (R347). -/
def State.lineReady (s : State) (n : Nat) : Bool := (SMap.find s.sst.cache n).isSome && !s.dirtyWaits n

/-- Use a line for an input at stage 4. An input for a line with a miss outstanding joins that miss, and so does one that
may not make its line dirty (R167, R347). -/
def State.useLine (s : State) (n : Nat) : Bool × State :=
  if s.missOn n then (false, s)
  else
    let (hit, s) := s.access n
    (hit && s.lineReady n, s)

/-- Issue the depot read of a miss that has none: the backing must be initialised, a tag free, the line not in the cache,
and no write of it outstanding or waiting, which the victim buffer serves (R45, R157, R167). -/
def State.askFill (s : State) (n : Nat) : State :=
  if s.bit F.SST_STATUS_INIT_DONE ∧ (s.victim n).isNone ∧ (SMap.find s.sst.cache n).isNone ∧ s.sst.missq.any (fun m => m.line == n && m.tag.isNone && m.got.isNone) then
    match s.depRead (.fill n) (s.backLine n) with
    | none => s
    | some (t, s) =>
      { s with sst := { s.sst with
          missq := s.sst.missq.map (fun (m : Miss) => if m.line = n then { m with tag := some t, t0 := s.tim.ft } else m) } }.countG
        0x16
  else s

/-- Issue the reads of every miss that has none, oldest first. -/
def State.askFills (s : State) : State := (s.sst.missq.map (·.line)).foldl (fun s n => s.askFill n) s

/-- Inputs wait for a line. -/
def State.joinAll (s : State) (n : Nat) (l : List MissInput) : State :=
  let s :=
    if s.missOn n then
      { s with sst := { s.sst with
          missq := s.sst.missq.map (fun (m : Miss) => if m.line = n then { m with inputs := m.inputs ++ l } else m) } }
    else { s with sst := { s.sst with missq := s.sst.missq ++ [Miss.mk n none l s.tim.ft none] } }
  let s := if 1024 ≤ s.mqUsed ∨ 256 ≤ s.sst.missq.length then s.raise F.SST_STATUS_MQ_FULL else s
  s.askFill n

/-- An input waits for a line. -/
def State.join (s : State) (n : Nat) (i : MissInput) : State := s.joinAll n [i]

/-- What the SECDED check of an entry read does (R171). False: the line was clean, is invalidated, and the input waits
as a miss. -/
def State.entryEcc (s : State) (eid : Nat) (ecc : Ecc) : Bool × State :=
  let d := s.img.domainOf eid
  let unc : Bool × State :=
    let s := { s with tdm := { s.tdm with damaged := true } }
    let s := (s.raise F.SST_STATUS_ECC_UNC).countG 0x19
    match SMap.find s.sst.cache (lineOf eid) with
    | some l =>
      if l.dirty then (true, (s.error 7 4 d eid .dom).poisonEntry eid)
      else (false, { s with sst := { s.sst with cache := SMap.erase s.sst.cache (lineOf eid) } }.error 7 4 d eid .none)
    | none => (true, s)
  match ecc with
  | .cor (.stateEntry _) => (true, ((s.raise F.SST_STATUS_ECC_COR).countG 0x18).error 6 4 d eid .none)
  | .unc (.stateEntry _) => unc
  | .uncDomain (.stateEntry _) => unc
  | _ => (true, s)

/-! ### Software commands on entries (R161, R165) -/

/-- The entry SST_CFGDATA of a domain and the initial values make (R165). -/
def State.cfgEntry (s : State) (d : Nat) (e : Entry) : Entry :=
  { e with typ := s.bit F.SST_CFGDATA_TYPE d, prio := BitVec.ofNat 8 (s.fld F.SST_CFGDATA_PRIO d),
           rkind := s.bit F.SST_CFGDATA_RKIND d, route := BitVec.ofNat 16 (s.fld F.SST_CFGDATA_ROUTE d) }

/-- Withdraw an EID from ranking and note its dropped samples. -/
def State.retract (s : State) (eid : Nat) : State := (s.withdraw eid).dropEid eid

/-- An EID's place, in the fault queue too, is taken away and it is offered again in the next cycle (R206): not when its
head is in flight. -/
def State.reoffer (s : State) (eid : Nat) : State :=
  if s.rnk.heads.any (fun h => h.eid == eid && h.kind == .live) then s
  else
    { s with rnk := { s.rnk with
        offers := s.rnk.offers.filter (·.eid ≠ eid), held := s.rnk.held.filter (·.eid ≠ eid),
        faultQ := s.rnk.faultQ.filter (fun x => x.eid ≠ eid ∨ x.rpl.isSome),
        heldFaults := s.rnk.heldFaults.filter (·.eid ≠ eid),
        waiting := s.rnk.waiting.filter (· ≠ eid) } }.queueOffer ⟨6, 3, eid, none⟩

/-- One runtime operation (R161, R165) on the entry of a cached line. -/
def State.rtEntry (s : State) (d op eid : Nat) : State :=
  let e := s.entryNow eid
  if op = 1 then
    (s.setReg .SST_ENTRY0 d (e.toBits.setWidth 32)).setReg .SST_ENTRY1 d ((e.toBits >>> 32).setWidth 32)
  else if e.st = .poisoned then s
  else if op = 2 then s.putEntry eid { e with en := true }
  else if op = 3 then (s.putEntry eid e.clearEn).retract eid
  else if op = 4 then (s.putEntry eid { e with mask := true }).withdraw eid
  else if e.mask then (s.putEntry eid { e with mask := false }).offerFrom 6 3 eid
  else s

/-- One configuration operation (R165, R172) on the entry of a cached line; each entry it rewrites is a change of covered
configuration (R123, R126). -/
def State.cfgEntryOp (s : State) (d op eid : Nat) : State :=
  let e := s.entryNow eid
  if op = 1 then
    let s := (s.cfgChanged (some d)).putEntry eid (s.cfgEntry d e)
    if e.st = .pending then s.reoffer eid else s
  else if op = 2 then (((s.putEntry eid e.cleared).retract eid).withdrawCvn eid).psnFree eid
  else (((s.cfgChanged (some d)).putEntry eid (s.cfgEntry d Entry.init)).retract eid).psnFree eid

/-- One entry of a range command. A POISONED entry that a runtime command meets is skipped. -/
def State.cmdEntry (s : State) (c : RangeCmd) : State :=
  if c.cfg then s.cfgEntryOp c.d c.op c.eid else s.rtEntry c.d c.op c.eid

/-- A range command skips the entry it has reached. -/
def State.cmdSkips (s : State) (c : RangeCmd) : Bool :=
  !c.cfg && decide (c.op ≠ 1) && (s.entryNow c.eid).st == .poisoned

/-- The end of a range command: BUSY falls and ERR is reported. -/
def State.cmdDone (s : State) (c : RangeCmd) : State :=
  if c.cfg then (s.lower F.SST_CFGCMD_BUSY c.d).setFld F.SST_CFGCMD_ERR c.d 0
  else (s.lower F.SST_RTCMD_BUSY c.d).setFld F.SST_RTCMD_ERR c.d (if c.skipped then 3 else 0)

/-- Run a range command until it ends or misses. A command that misses waits as an input of its line, or for room. -/
def State.runCmd : Nat → State → RangeCmd → State
  | 0, s, c => { s with sst := { s.sst with cmds := s.sst.cmds ++ [c] } }
  | n + 1, s, c =>
    if c.left = 0 then s.cmdDone c
    else if !s.walkPassed c.d c.eid then { s with sst := { s.sst with cmds := s.sst.cmds ++ [c] } }
    else
      let (hit, s) := s.useLine (lineOf c.eid)
      if hit then
        let c' := { c with eid := c.eid + 1, left := c.left - 1, skipped := c.skipped || s.cmdSkips c }
        State.runCmd n (s.cmdEntry c) c'
      else
        let s := { s with sst := { s.sst with cmds := s.sst.cmds ++ [c] } }
        if s.mqRoom (lineOf c.eid) then s.join (lineOf c.eid) (.cmd c.cfg c.d) else s.raise F.SST_STATUS_MQ_FULL

/-- What the read of a command's first entry finds, when its line is cached (R171). -/
def State.cmdEcc (s : State) (eid : Nat) (ecc : Ecc) : State :=
  if (SMap.find s.sst.cache (lineOf eid)).isSome then (s.entryEcc eid ecc).2 else s

/-- Take up the command of a domain that a miss, or a wait, had stopped. -/
def State.resumeCmd (s : State) (cfg : Bool) (d : Nat) : State :=
  match s.sst.cmds.find? (fun c => c.cfg == cfg && c.d == d && !c.wait) with
  | none => s
  | some c => State.runCmd (c.left + 1) { s with sst := { s.sst with cmds := s.sst.cmds.filter (· ≠ c) } } c

/-- The commands that wait for neither an epoch close nor a line of the miss queue go on (R165). -/
def State.retryCmds (s : State) : State :=
  (s.sst.cmds.filter (fun c => !c.wait && !s.sst.missq.any (fun m => m.inputs.contains (.cmd c.cfg c.d)))).foldl
    (fun (s : State) c => s.resumeCmd c.cfg c.d) s

/-- Domains whose EN and MASK changes of an epoch close have not all taken effect: their releases wait (R163). -/
def State.closingDoms (s : State) : List Nat := (s.sst.cmds.filter (fun c => !c.cfg && c.op ≠ 1 && !c.wait && s.caravan c.d)).map (·.d)

/-- The commands of a domain that wait for an epoch close take effect (R163). `epoch` is the one that closes; CVN_RTAPPLY
records it (R199). None: the domain is disabled, and they take effect at once (R111). -/
def State.applyWaiting (s : State) (d : Nat) (epoch : Option Nat) : State :=
  let l := s.sst.cmds.filter (fun c => c.d = d ∧ c.wait)
  l.foldl (fun s c =>
    let s := { s with sst := { s.sst with cmds := s.sst.cmds.filter (· ≠ c) } }
    let s := match epoch with
      | none => s
      | some e => s.logFirst F.CVN_RTAPPLY_VALID F.CVN_RTAPPLY_CNT d [(F.CVN_RTAPPLY_EPOCH, e % 2 ^ 24)]
    State.runCmd (c.left + 1) s { c with wait := false }) s

/-- The range of a command lies in its domain. -/
def State.rangeOk (s : State) (d eid n : Nat) : Bool :=
  s.img.inDomain d eid && s.img.inDomain d (eid + n)

/-- Start SST_RTCMD of a domain (R165, R429): codes 1 and 2 refuse it. EN and MASK changes of a sequenced, enabled
domain wait for an epoch close (R163). -/
def State.startRt (s : State) (d : Nat) (ecc : Ecc) : State :=
  if s.bit F.SST_RTCMD_BUSY d then s
  else
    let op := s.fld F.SST_RTCMD_OP d
    let eid := s.fld F.SST_RTCMD_EID d
    let n := if op = 1 then 0 else s.fld F.SST_RTCNT_CNT d
    if !s.rangeOk d eid n then s.setFld F.SST_RTCMD_ERR d 1
    else if op = 0 ∨ 5 < op then s.setFld F.SST_RTCMD_ERR d 2
    else
      let s := (s.raise F.SST_RTCMD_BUSY d).setFld F.SST_RTCMD_ERR d 0
      let c : RangeCmd := ⟨false, d, op, eid, n + 1, op ≠ 1 && s.sequenced d && s.domEn d, false⟩
      if c.wait then { s with sst := { s.sst with cmds := s.sst.cmds ++ [c] } } else State.runCmd (n + 2) (s.cmdEcc eid ecc) c

/-- Start SST_CFGCMD of a domain (R165, R429): codes 1, 2 and 4 refuse it. An accepted change of TYPE, PRIO, RKIND or
ROUTE is one of region d + 1 (R206). -/
def State.startCfg (s : State) (d : Nat) (ecc : Ecc) : State :=
  if s.bit F.SST_CFGCMD_BUSY d then s
  else
    let op := s.fld F.SST_CFGCMD_OP d
    let eid := s.fld F.SST_CFGCMD_EID d
    let n := s.fld F.SST_CFGCNT_CNT d
    if !s.rangeOk d eid n then s.setFld F.SST_CFGCMD_ERR d 1
    else if op = 0 ∨ 3 < op then s.setFld F.SST_CFGCMD_ERR d 2
    else if op = 2 ∧ s.domEn d then s.setFld F.SST_CFGCMD_ERR d 4
    else
      let s := (s.raise F.SST_CFGCMD_BUSY d).setFld F.SST_CFGCMD_ERR d 0
      let s := if op = 2 then s else s.cfgChanged (some d)
      State.runCmd (n + 2) (s.cmdEcc eid ecc) ⟨true, d, op, eid, n + 1, false, false⟩

end Sys2Proof.Machine
end

