-- ==== Sys2Proof/Machine/Caravan.lean ====
section
/-! DEFINITION. The Caravan Sequencer: the hold store, waymarks at intake and at the sequencer, hold clocks, the closing
of epochs, stragglers and silences, runs (R176 to R199). -/

namespace Sys2Proof.Machine

/-! ### Members -/

/-- A member source that has sent nothing. -/
def CvnSrc.zero : CvnSrc := ⟨0, 0, false, 0, false, 0, 0⟩

/-- What the block keeps for an ordinal. -/
def State.cvnSrc (s : State) (o : Nat) : CvnSrc := SMap.get CvnSrc.zero s.cvn.srcs o

/-- Replace what the block keeps for an ordinal. -/
def State.setSrc (s : State) (o : Nat) (x : CvnSrc) : State :=
  { s with cvn := { s.cvn with srcs := SMap.set CvnSrc.zero s.cvn.srcs o x } }

/-- A run of the domain is in progress (R197). -/
def State.running (s : State) (d : Nat) : Bool := s.bit F.CVN_VERDICT_RUN d && s.domEn d

/-- What the sequencer keeps for a domain. -/
def State.run (s : State) (d : Nat) : Run :=
  (SMap.find s.cvn.runs d).getD ⟨0, 0, none, [], false, []⟩

/-- Replace it. -/
def State.setRun (s : State) (d : Nat) (r : Run) : State :=
  { s with cvn := { s.cvn with runs := SMap.insert s.cvn.runs d r } }

/-- The source has closed epoch `e`: by waymark, by QUIET, or as a declared straggler (R184). -/
def State.closedBy (s : State) (o e : Nat) : Bool := decide (e < (s.cvnSrc o).cls) || (s.cvnSrc o).cquiet

/-- Members of a domain's group that have not closed its oldest open epoch. -/
def State.missing (s : State) (d : Nat) : List Nat :=
  (s.img.members d).filter (fun o => !s.closedBy o (s.run d).oldest)

/-! ### Times (R185, R187) -/

/-- EPOCH_LEN of a domain, ns. -/
def State.epochLen (s : State) (d : Nat) : Nat := (s.fld F.CVN_EPOCH_CFG_LEN d + 1) * 256

/-- QLIVE, ns: live at the coordinator, from the BEACON elsewhere, 0 in a standalone block (R187, R292). -/
def State.qlive (s : State) : Nat :=
  if !s.img.fabric then 0
  else if s.coordinator then min 65535 (max s.tel.qCur s.tel.qPrev)
  else s.fld F.CVN_CAL_QLIVE

/-- The straggler timeout TS, ns. -/
def State.stragTs (s : State) (d : Nat) : Nat :=
  s.fld F.CVN_CAL_RTT + s.qlive + s.fld F.CVN_HOLD_CFG_SLACK d * 16

/-- The hold ceiling HC, ns. -/
def State.holdCeil (s : State) (d : Nat) : Nat :=
  max (max (s.fld F.CVN_EPOCH_CFG_CEIL_MULT d) 1 * s.epochLen d) (s.stragTs d)

/-! ### The hold store (R182, R183) -/

/-- Domains of the records of the hold store. -/
def State.holdDoms (s : State) : List Nat :=
  s.cvn.groups.map (·.dom) ++ s.cvn.closed.flatMap (fun c => c.groups.map (·.dom)) ++ s.cvn.refused.map (·.g.dom)
    ++ s.missRels.map (·.g.dom)

/-- CVN_HOLD_USE.USED. -/
def State.holdUsed (s : State) : Nat := s.holdDoms.length

/-- A new group of domain `d` in epoch `e` can have a record (R183). -/
def State.holdRoom (s : State) (d e : Nat) : Bool :=
  let free := 262144 - s.holdUsed
  let lim := s.fld F.CVN_HOLD_CFG_HOLD_MAX d
  decide (0 < free) && (e = (s.run d).oldest || decide (4096 < free))
    && (lim = 0 || decide ((s.holdDoms.filter (· == d)).length < lim * 16))

/-- (ordinal, sequence) order. -/
def pairLt (a b c d : Nat) : Bool := decide (a < c) || (a == c && decide (b < d))

/-- A group after one more event at (o, q) (R182). -/
def Group.merge (g : Group) (o q : Nat) (k : EvKind) : Group :=
  let g := if pairLt o q g.fo g.fs then { g with fo := o, fs := q } else g
  let g := if k = .lvlDeassert then g else { g with k := g.k + 1 }
  if k ≠ .raise ∧ (g.lvl = none ∨ !pairLt o q g.lo g.ls) then
    { g with lvl := some (k == .lvlAssert), lo := o, ls := q }
  else g

/-- A mirror record applies unless a resynchronisation is still to bring its word (R300). -/
def State.wordHere (s : State) (n : Nat) : Bool := s.tdm.bulk.all (fun k => decide (n < k))

/-- The words of a resynchronisation beyond the state entries (DESIGN CHOICE: the manual gives only the 40-bit index):
four for the active record of an EID, one for the pointers of a target or, after them, of the fault ring, four for each
hold-store group. -/
def bulkActive : Nat := 2 ^ 25
def bulkPtr : Nat := 2 ^ 27
def bulkGroup : Nat := 2 ^ 28

/-- Put an event into its group of epoch `e`, sequence `q`. False: it needs a record and cannot have one. A standby whose
hold store is still to come in a resynchronisation drops its copy: the bulk copy will carry its effect (R300). -/
def State.holdEvent (s : State) (ev : Ev) (e q : Nat) : Bool × State :=
  let same := fun (g : Group) => g.dom == ev.dom && g.epoch == e && g.eid == ev.eid
  if s.standby && !s.wordHere bulkGroup then (true, s)
  else if s.cvn.groups.any same then
    (true, { s with cvn := { s.cvn with
      groups := s.cvn.groups.map (fun g => if same g then g.merge ev.ord q ev.kind else g) } })
  else if s.holdRoom ev.dom e then
    let g : Group := ⟨ev.dom, e, ev.eid, s.effPrio (s.entryNow ev.eid), ev.ord, q, 0, none, 0, 0, ev.t0, s.tim.ft⟩
    (true, { s with cvn := { s.cvn with groups := s.cvn.groups ++ [g.merge ev.ord q ev.kind] } })
  else (false, s.raise F.CVN_STATUS_HOLD_FULL ev.dom)

/-- An event of a QUIET member: the sequencer of its intake member discards it (R176). -/
def State.quietEvt (s : State) (ev : Ev) : Bool :=
  !ev.ring && ev.pos.isNone && s.running ev.dom && (s.img.members ev.dom).contains ev.ord

/-- The epoch that the event joins (R176, R181). -/
def State.epochOfEv (s : State) (ev : Ev) : Nat :=
  max ((ev.pos.map (·.epoch)).getD 0) (s.run ev.dom).oldest

/-- An event that passed stage 4 of a sequenced domain enters its epoch (R176, R181, R189). False as above. -/
def State.cvnPlace (s : State) (ev : Ev) : Bool × State :=
  let d := ev.dom
  if !s.running d then (true, s.dropEvent ev)
  else if s.quietEvt ev then (true, ((s.raise F.CVN_STATUS_QUIET_EVT d).breach d 1).dropEvent ev)
  else
    let r := s.run d
    match ev.pos with
    | none =>
      let q := SMap.get 0 r.nonmem ev.ord
      let (ok, s) := s.holdEvent ev r.oldest q
      if ok then
        (true, ((s.setRun d { r with nonmem := SMap.set 0 r.nonmem ev.ord (q + 1) }).raise F.CVN_STATUS_NONMEMBER d).breach
          d 1)
      else (false, s)
    | some p =>
      let late := decide (p.epoch < r.oldest)
      let (ok, s) := s.holdEvent ev (max p.epoch r.oldest) p.seq
      if ok ∧ late then (true, (s.raise F.CVN_STATUS_LATE d).breach d 1) else (ok, s)

/-! ### Closing (R184, R190, R194, R301) -/

/-- Canonical order (R35, R190). -/
def Group.canonLe (a b : Group) : Bool :=
  decide (a.p < b.p) || (a.p == b.p && !pairLt b.fo b.fs a.fo a.fs)

/-- The digest of an epoch's groups in canonical order; 0 when it is empty (R301). -/
def groupsDigest (gs : List Group) : Word :=
  if gs.isEmpty then 0
  else crc32c (gs.flatMap (fun g =>
    leBytes 3 g.eid ++ leBytes 1 g.p ++ leBytes 2 (min g.k 65535)
      ++ leBytes 1 (match g.lvl with | none => 0 | some true => 1 | some false => 2) ++ leBytes 1 0))

/-- The groups of the domain route to the pair: CLOSE and DIGEST are exchanged. -/
def State.closePartner (s : State) : Bool := s.paired

/-- Digests of both units that have met are compared; a difference makes the pair resynchronise (R301). -/
def State.digestsMeet (s : State) : State :=
  s.tdm.digests.foldl (fun s g =>
    match s.tdm.peerDigests.find? (fun h => h.1 == g.1 && h.2.1 == g.2.1) with
    | none => s
    | some h =>
      let s := { s with tdm := { s.tdm with
        digests := s.tdm.digests.filter (· ≠ g), peerDigests := s.tdm.peerDigests.filter (· ≠ h) } }
      if g.2.2 = h.2.2 then s
      else
        let s := (s.raise F.TDM_STATUS_DIGEST_DIFF).bump F.TDM_DIVERGE_CNT
        let s := s.error 23 14 (some g.1) (g.2.1 % 2 ^ 32) .dom
        s.resync) s

/-- CLOSE and DIGEST go to the partner. -/
def State.sendClose (s : State) (d e : Nat) (gs : List Group) : State :=
  if !s.closePartner then s
  else
    let s := s.originate .east (chRec chClose (s.partnerPos.getD 0) (d * 2 ^ 108 + e % 2 ^ 32 * 2 ^ 76))
    let c := groupsDigest gs
    let s := s.toPartner 8 (d * 2 ^ 104 + e % 2 ^ 32 * 2 ^ 72 + c.toNat * 2 ^ 40)
    { s with tdm := { s.tdm with digests := s.tdm.digests ++ [(d, e, c)] } }.digestsMeet

/-- The hold clock of the oldest epoch starts at once when a member's waymark already covers it; a group of zero
sources waits for EPOCH_LEN (R185). An accepted MARK or QUIET covers the epochs up to the one it names, and a RESUME
covers none: the spec does not say (DESIGN CHOICE). -/
def State.clockFor (s : State) (d e : Nat) : Option Nat :=
  if (s.img.members d).any (fun o => decide (e < (s.cvnSrc o).cov)) then some 0 else none

/-- A closed epoch goes behind those that closed before it, and those of lower domains that closed in the same cycle
(R190). -/
def enqueueClosed : List Closed → Closed → List Closed
  | [], c => [c]
  | x :: r, c => if x.since = c.since ∧ c.dom < x.dom then c :: x :: r else x :: enqueueClosed r c

/-- Close the oldest open epoch of a domain. -/
def State.closeEpoch (s : State) (d : Nat) : State :=
  let r := s.run d
  let e := r.oldest
  let gs := (s.cvn.groups.filter (fun g => g.dom == d && g.epoch == e)).mergeSort Group.canonLe
  let s := s.probe 6 (s.ns - r.since / 45) (some d)
  let s := s.setRun d { r with oldest := e + 1, since := s.tim.ft, clock := s.clockFor d (e + 1), strag := [],
                               overdue := false }
  let agreed := !s.closePartner || s.fld F.TDM_STATUS_STATE = 3 || s.cvn.peer.contains (d, e)
  let s := { s with cvn := { s.cvn with
    groups := s.cvn.groups.filter (fun g => !(g.dom == d && g.epoch == e)),
    closed := enqueueClosed s.cvn.closed (Closed.mk d e gs [] agreed s.tim.now), peer := s.cvn.peer.filter (· ≠ (d, e)) } }
  let s := (s.applyBnd .CVN_EPOCH_CFG d).applyBnd .CVN_HOLD_CFG d
  let s := s.applyWaiting d (some e)
  s.sendClose d e gs

/-- The oldest open epoch can close (R184); a halted block closes none (R410). -/
def State.canClose (s : State) (d : Nat) : Bool :=
  s.running d && s.sequenced d && !s.halted && (s.run d).clock.isSome && (s.missing d).isEmpty

/-- Close epochs while the oldest one can close. -/
def State.tryClose : Nat → State → Nat → State
  | 0, s, _ => s
  | n + 1, s, d => if s.canClose d then State.tryClose n (s.closeEpoch d) d else s

/-- Close every epoch that can close (R184). A hold clock starts by itself only for an epoch that a waymark covers
(R185), so no epoch past the covered ones and the oldest can close here. -/
def State.closeAll (s : State) (d : Nat) : State :=
  State.tryClose ((s.img.members d).foldl (fun n o => max n (s.cvnSrc o).cov) 0 - (s.run d).oldest + 1) s d

/-! ### Waymarks -/

/-- The full epoch of a 30-bit EPOCH beside `opn` (R178). -/
def fullEpoch (opn ep : Nat) : Int :=
  let lo : Int := (opn : Int) - 2 ^ 29
  lo + ((ep : Int) - lo) % 2 ^ 30

/-- The full epoch of a 32-bit EPOCH of a record, within 2^31 of the oldest open epoch (R195). -/
def fullEpoch32 (oldest ep : Nat) : Nat :=
  let lo : Int := (oldest : Int) - 2 ^ 31
  (lo + ((ep : Int) - lo) % 2 ^ 32).toNat

/-- Some event of an ordinal that took its number below `n` has not reached the sequencer (R181). -/
def State.onPath (s : State) (o n : Nat) : Bool :=
  let before := fun (p : Option EvPos) => p.any (fun p => decide (p.no < n))
  s.intk.maps.any (fun m => m.ord == o && before m.pos) || s.intk.named.any (fun m => m.ord == o && before m.pos)
    || s.sst.stalled.any (fun x => x.1.ord == o && before x.1.pos)
    || s.sst.missq.any (fun m => m.inputs.any (fun i => match i with
      | .event e _ => e.ord == o && before e.pos
      | _ => false))

/-- The WAYMARK record of a waymark (R195). -/
def wmRec (pos : Nat) (w : WmWait) : Rec :=
  chRec chWaymark pos (w.dom * 2 ^ 108 + w.ord * 2 ^ 92 + w.wkind * 2 ^ 90 + w.epoch % 2 ^ 32 * 2 ^ 58)

/-- What a waymark makes of its source where it applies (R178, R184). A member that is not its intake member follows
open(s), seq(s) and QUIET from the records. -/
def CvnSrc.take (x : CvnSrc) (w : WmWait) : CvnSrc :=
  let x := if w.wkind = 2 then { x with cquiet := false, cls := w.epoch }
    else { x with cls := max x.cls (w.epoch + 1), cov := max x.cov (w.epoch + 1), cquiet := x.cquiet || w.wkind == 1 }
  if w.own then x
  else if w.wkind = 2 then { x with opn := w.epoch, seq := 0, quiet := false }
  else { x with opn := max x.opn (w.epoch + 1), seq := 0, quiet := x.quiet || w.wkind == 1 }

/-- A waymark applies at the sequencer (R178, R184, R185, R189); its intake member sends it on (R193). A MARK that
covers only closed epochs changes nothing; a QUIET that names one still makes its source QUIET, which counts as having
closed every epoch (R178; DEDUCED). -/
def State.wmApply (s : State) (w : WmWait) : State :=
  let s := if w.own ∧ s.img.fabric then s.originate .east (wmRec s.img.ring.position w) else s
  if !s.running w.dom then s
  else
    let r := s.run w.dom
    let x := s.cvnSrc w.ord
    if w.wkind = 0 ∧ w.epoch < r.oldest then s.raise F.CVN_STATUS_WM_STALE w.dom
    else
      let s := s.setSrc w.ord (x.take w)
      let s := if w.wkind ≠ 2 ∧ r.oldest ≤ w.epoch ∧ r.clock = none then s.setRun w.dom { r with clock := some 0 } else s
      s.closeAll w.dom

/-- Apply every waiting waymark that no earlier event of its source holds back, in order. -/
def State.wmPump : Nat → State → State
  | 0, s => s
  | n + 1, s =>
    match s.cvn.wms.find? (fun w => !s.onPath w.ord w.no) with
    | none => s
    | some w =>
      State.wmPump n ({ s with cvn := { s.cvn with wms := s.cvn.wms.erase w } }.wmApply w)

/-- The waymarks that wait are applied where nothing precedes them any more. -/
def State.wmAll (s : State) : State := State.wmPump (s.cvn.wms.length + 1) s

/-- A waymark is accepted at its intake member, in lane order: kind `wk` and epoch `e` (R178, R179). -/
def State.wmAccept (s : State) (d o wk e : Nat) (chk : Bool) (count : Nat) : State :=
  let x := s.cvnSrc o
  let s := if wk ≠ 2 ∧ chk ∧ count ≠ x.seq % 65536 then (s.raise F.CVN_STATUS_COUNT_MISMATCH d).breach d 1 else s
  let x' := if wk = 2 then { x with opn := e, seq := 0, quiet := false }
    else { x with opn := e + 1, seq := 0, quiet := wk == 1 }
  let s := s.setSrc o x'
  { s with cvn := { s.cvn with wms := s.cvn.wms ++ [WmWait.mk o d wk e true x.sent] } }.wmAll

/-- A waymark of a member of the running group of domain `d` (R177, R178): the first row that applies decides. -/
def State.waymark (s : State) (d o woff data : Nat) : State :=
  let wk := data / 2 ^ 30 % 4
  let x := s.cvnSrc o
  let e := fullEpoch x.opn (data % 2 ^ 30)
  let oldest := (s.run d).oldest
  let bad := s.raise F.CVN_STATUS_WM_BAD d
  let stale := s.raise F.CVN_STATUS_WM_STALE d
  if wk = 3 then bad
  else if (wk = 2) ≠ x.quiet then stale
  else if wk = 2 then
    if e < (oldest : Int) then stale
    else if (oldest : Int) + 4095 < e then bad
    else s.wmAccept d o wk e.toNat false 0
  else if e < (x.opn : Int) then stale
  else if (x.opn : Int) + 4095 < e then bad
  else s.wmAccept d o wk e.toNat (woff / 2 ^ 16 % 2 = 1) (woff % 2 ^ 16)

/-- The epoch and sequence of an event whose ordinal the Source Table has just named, in lane order (R181): none for a
source that is no member of a running group, and for a QUIET member. -/
def State.epochOf (s : State) (o : Nat) : Option EvPos × State :=
  match s.img.caravanOf o with
  | none => (none, s)
  | some d =>
    let x := s.cvnSrc o
    if !s.running d || !s.sequenced d || x.quiet then (none, s)
    else (some ⟨x.opn, x.seq, x.sent⟩, s.setSrc o { x with seq := x.seq + 1, sent := x.sent + 1 })

/-! ### Hold clocks, stragglers, silences -/

/-- EPOCH_LEN after an epoch became the oldest: its hold clock starts (R185). Every member acts on it, so that a home that
is not the coordinator closes an epoch of a group of zero sources too; the clock itself runs at the coordinator alone
(R194; DESIGN CHOICE). -/
def State.holdStart (s : State) (d : Nat) : State :=
  let r := s.run d
  if s.running d ∧ s.sequenced d ∧ r.clock = none ∧ r.since + s.epochLen d * 45 ≤ s.tim.ft then
    (s.setRun d { r with clock := some 0 }).closeAll d
  else s

/-- The hold clock has reached a time in ns with a member missing. -/
def State.clockAt (s : State) (d t : Nat) : Bool :=
  s.running d && s.sequenced d && (s.run d).clock.any (fun c => decide (t * 45 ≤ c)) && !(s.missing d).isEmpty

/-- The hold clock reaches TS (R188). -/
def State.overdue (s : State) (d : Nat) : State :=
  if s.coordinator ∧ s.clockAt d (s.stragTs d) ∧ !(s.run d).overdue then
    ((s.setRun d { s.run d with overdue := true }).raise F.CVN_STATUS_OVERDUE d).countD d 23
  else s

/-- A straggler or silence declaration is logged and counted. -/
def State.logStrag (s : State) (d o cause : Nat) : State :=
  (s.logFirst F.CVN_STRAG_LOG_VALID F.CVN_STRAG_LOG_CNT d
    [(F.CVN_STRAG_LOG_CAUSE, cause), (F.CVN_STRAG_LOG_ORDINAL, o)]).countD d 24

/-- The SILENT record of a declaration (R195). -/
def State.sendSilent (s : State) (d o e cause : Nat) : State :=
  if s.img.fabric then
    s.originate .east (chRec chSilent s.img.ring.position
      (d * 2 ^ 108 + o * 2 ^ 92 + e % 2 ^ 32 * 2 ^ 60 + cause * 2 ^ 59))
  else s

/-- A source is a straggler for epoch `e` (R188). -/
def State.stragglerSrc (s : State) (o e : Nat) : State :=
  let x := s.cvnSrc o
  s.setSrc o { x with cls := max x.cls (e + 1), opn := max x.opn (e + 1) }

/-- The hold clock reaches HC with members missing: the coordinator declares them (R188). -/
def State.straggler (s : State) (d : Nat) : State :=
  if s.coordinator ∧ s.clockAt d (s.holdCeil d) then
    let e := (s.run d).oldest
    let s := (s.missing d).foldl (fun s o =>
      ((s.stragglerSrc o e).logStrag d o 0).sendSilent d o e 0) s
    let s := (s.breach d 2).breach d 3
    (s.raise F.CVN_STATUS_STRAGGLER d).closeAll d
  else s

/-- Manager SILENCE of a member (R180). -/
def State.silence (s : State) (d o : Nat) : State :=
  let first (x : CvnSrc) (w : WmWait) : CvnSrc := if w.own then x else { x with opn := w.epoch, seq := 0 }
  let mine := s.cvn.wms.filter (fun w => w.ord == o && w.wkind == 2)
  let s := s.setSrc o (mine.foldl first (s.cvnSrc o))
  let s := { s with cvn := { s.cvn with wms := s.cvn.wms.filter (fun w => !mine.contains w) } }
  let x := s.cvnSrc o
  let e := x.opn
  let s := if x.quiet then s else s.setSrc o { x with quiet := true, seq := 0, cquiet := true }
  ((((s.breach d 2).logStrag d o 1).sendSilent d o e 1)).closeAll d

/-- CVN_SRC_CMD (R180, R429). -/
def State.startSilence (s : State) : State :=
  let o := s.fld F.CVN_SRC_CMD_ORDINAL
  let d := s.img.caravanOf o
  if !(d.any s.running) then s.setFld F.CVN_SRC_CMD_ERR 0 1
  else if s.fld F.CVN_SRC_CMD_OP ≠ 1 then s.setFld F.CVN_SRC_CMD_ERR 0 2
  else if !s.coordinator then s.setFld F.CVN_SRC_CMD_ERR 0 3
  else (s.silence (d.getD 0) o).setFld F.CVN_SRC_CMD_ERR 0 0

/-! ### Runs (R197, R400) -/

/-- Held groups of unclosed epochs are discarded and counted, and their tracked samples dropped (R391). -/
def State.discardHeld (s : State) (d : Nat) : State :=
  let l := s.cvn.groups.filter (·.dom = d)
  let s := l.foldl (fun (s : State) g => s.dropGroup g) (if l.isEmpty then s else s.countD d 25 l.length)
  { s with cvn := { s.cvn with groups := s.cvn.groups.filter (·.dom ≠ d), wms := s.cvn.wms.filter (·.dom ≠ d) } }

/-- A run ends: at a disable, an FLR or DOMAIN reset, or the start of a replay. Without a run there is no epoch close,
and values buffered for it take effect (R111). -/
def State.runEnd (s : State) (d : Nat) : State :=
  if s.bit F.CVN_VERDICT_RUN d then
    let s := s.discardHeld d
    let s := { s with cvn := { s.cvn with peer := s.cvn.peer.filter (fun p => p.1 ≠ d) } }
    let s := s.setRun d { s.run d with clock := none }
    let s := (s.applyBnd .CVN_EPOCH_CFG d).applyBnd .CVN_HOLD_CFG d
    (s.lower F.CVN_VERDICT_RUN d).raise F.CVN_VERDICT_ENDED d
  else s

/-- The captured values of a run. -/
def State.captureRun (s : State) (d : Nat) : State :=
  let s := s.setFld F.CVN_RUN_IMG_CRC d (s.reg .IMG_LOADED_CRC).toNat
  let s := s.setFld F.CVN_RUN_CFG_CRC d (s.reg .CFG_CRC_REF).toNat
  let s := s.setFld F.CVN_RUN_ROLE_REF_VALID d (s.fld F.CFG_STATUS_REF_VALID)
  s.setFld F.CVN_RUN_ROLE_ROLE d (s.fld F.TDM_ROLE_CUR)

/-- A new run begins: epochs from 0, members active, SEQ to 0 by a walk, every condition kept but those broken from
the start. -/
def State.runNew (s : State) (d : Nat) : State :=
  let s := s.setRun d ⟨0, s.tim.ft, none, [], false, []⟩
  let s := (s.img.members d).foldl (fun s o => s.setSrc o CvnSrc.zero) s
  let s := s.walkEntries d (fun e => { e with seq := 0 })
  let s := s.beginWalk d { Walk.none with seq := true }
  let s := s.setReg .CVN_VERDICT d 0
  let s := (s.raise F.CVN_VERDICT_RUN d).setFld F.CVN_VERDICT_KEPT d 0x3F
  let s := (s.setReg .CVN_BREAK_EPOCH d 0).captureRun d
  let s := if (s.img.members d).isEmpty then s.breach d 2 else s
  if s.bit F.CFG_STATUS_REF_VALID then s else s.breach d 6

/-- The run held in the domain continues. -/
def State.runGoOn (s : State) (d : Nat) : State :=
  let s := (s.raise F.CVN_VERDICT_RUN d).setRun d { s.run d with since := s.tim.ft }
  if s.reg .IMG_LOADED_CRC = s.reg .CVN_RUN_IMG d then s else s.breach d 6

/-- An enable of a domain with CVN_MODE 1 that does not replay. -/
def State.runStart (s : State) (d : Nat) : State :=
  if s.bit F.CVN_MODE_CONTINUE d ∧ !s.bit F.CVN_VERDICT_ENDED d ∧ (SMap.find s.cvn.runs d).isSome then s.runGoOn d
  else s.runNew d

end Sys2Proof.Machine
end

