-- ==== Sys2Proof/Machine/Apply.lean ====
section
/-! DEFINITION. Inputs at stage 4: events, releases and completions on their entries, the inputs of a line that fills,
write-backs, the flush and the scrubber (R158 to R173, R190 to R192, R390). -/

namespace Sys2Proof.Machine

/-! ### The sampler's view (R390, R391) -/

/-- An event that reaches stage 4 is a candidate for the sampler (R390). -/
def State.sampleCand (s : State) (ev : Ev) : Ev × State :=
  if !s.bit F.TEL_SMP_CFG_EN || s.bit F.TEL_CTRL_FREEZE
      || !(s.bit F.TEL_SMP_CFG_ANY || s.fld F.TEL_SMP_CFG_DOMAIN == ev.dom) then (ev, s)
  else
    let n := s.tel.cand + 1
    if n < s.fld F.TEL_SMP_CFG_PERIOD + 1 then (ev, { s with tel := { s.tel with cand := n } })
    else
      let s := { s with tel := { s.tel with cand := 0 } }
      if 64 ≤ s.tel.samples.length then (ev, s.bump F.TEL_SMP_STAT_MISSED)
      else
        let fl : BitVec 8 := BitVec.ofNat 8 (bitNat (s.sequenced ev.dom) + 4 * bitNat ev.ring)
        let m : Sample :=
          { id := s.tel.smpId, eid := ev.eid, dom := ev.dom, ord := ev.ord, tgt := 0, lane := ev.lane % 4, prio := 0, flags := fl,
            no := s.tel.smpNo, t0 := ev.t0, state := none, rel := none, hand := none, shaped := none, gated := none,
            issue := none, ack := none, fin := none, tag := none, endTime := none,
            epoch := if s.sequenced ev.dom then s.epochOfEv ev else 0 }
        ({ ev with smp := some s.tel.smpId },
         { s with tel := { s.tel with samples := s.tel.samples ++ [m], smpNo := (s.tel.smpNo + 1) % 2 ^ 32,
                                      smpId := s.tel.smpId + 1 } })

/-- The tracked sample of an event that reaches its entry or its group: its time, its epoch and its priority, and
whether it coalesced. -/
def State.sampleState (s : State) (ev : Ev) (epoch : Nat) (coal : Bool) : State :=
  let p := s.effPrio (s.entryNow ev.eid)
  s.onSamples (fun m => ev.smp == some m.id) (fun m =>
    { m with state := some s.tim.ft, epoch := epoch, prio := p, flags := if coal then m.flags ||| 8#8 else m.flags })

/-- A tracked event that met a state-cache miss. -/
def State.sampleMiss (s : State) (ev : Ev) : State :=
  s.onSamples (fun m => ev.smp == some m.id) (fun m => { m with flags := m.flags ||| 2#8 })

/-! ### Events (R158 to R163) -/

/-- An event applies to the entry of a cached line under immediate ordering (R158, R162, R280). -/
def State.recordEvent (s : State) (ev : Ev) : State :=
  let x := s.entryNow ev.eid
  let y := x.event ev.kind ev.mark
  let y := if s.replaying ev.dom ∧ y.st = .pending then { y with park := true } else y
  let s := s.putEntry ev.eid y
  let s := if y.park then s.bump F.RPL_PARKED_PARKED ev.dom else s
  let s := if y.count ≠ x.count then s.countD ev.dom 3 else s
  let s := s.sampleState ev 0 (x.st ≠ .idle)
  if x.st = .idle ∧ y.st = .pending then
    (s.noteStart ev.eid s.tim.ft).offerFrom (if ev.ring then 6 else ev.lane) (if ev.ring then 2 else 0) ev.eid
  else if y.park ∧ !x.park then s.withdraw ev.eid
  else s

/-- An event meets the entry of its home at stage 4: EN 0, mismatched kinds, then the sequencer or the table of R158
(R160, R161, R163). -/
def State.applyHere (s : State) (ev : Ev) : State :=
  let x := s.entryNow ev.eid
  if !x.en then (s.countD ev.dom 15).dropEvent ev
  else
    let s := if x.typ = (ev.kind == .raise) then s.illegal 2 ev.eid else s
    let ev' := { ev with kind := if x.typ then ev.kind else .raise }
    if !x.typ ∧ ev.kind = .lvlDeassert then s.dropEvent ev
    else if s.sequenced ev.dom then
      let e := s.epochOfEv ev
      let coal := s.cvn.groups.any (fun g => g.dom == ev.dom && g.epoch == e && g.eid == ev.eid)
      let (ok, s) := s.cvnPlace ev'
      if ok then s.sampleState ev e coal
      else { s with sst := { s.sst with stalled := s.sst.stalled ++ [(ev, true)] } }
    else s.recordEvent ev'

/-- Where an event of this member's intake goes once its own entry has named the group (R193, R219, R284, R295): a
position to send it to, and whether it is also applied here. One whose home is absent or not joined stays here, where
its offer faults (R216, R219). -/
def State.eventGoes (s : State) (ev : Ev) : Option Nat × Bool :=
  if ev.ring || !s.img.fabric || s.quietEvt ev then (none, true)
  else
    match s.entryHome (s.entryNow ev.eid) with
    | none => (none, true)
    | some h =>
      if !s.homeHere h then (if (s.homeFault h).isSome then (none, true) else (some (s.eventPos h), false))
      else if s.pairHomed h && s.paired then
        if s.sequenced ev.dom then (s.partnerPos, true) else if s.standby then (s.partnerPos, false) else (none, true)
      else (none, true)

/-- The EVENT record of an event (R195, R219). -/
def eventRec (pos : Nat) (ev : Ev) : Rec :=
  let q := ev.pos.getD ⟨0, 0, 0⟩
  let k := match ev.kind with | .raise => 0 | .lvlAssert => 1 | .lvlDeassert => 2
  chRec chEvent pos (ev.dom * 2 ^ 108 + ev.eid * 2 ^ 84 + ev.ord * 2 ^ 68 + q.seq % 2 ^ 32 * 2 ^ 36 + q.epoch % 2 ^ 32 * 2 ^ 4
    + k * 4 + bitNat ev.pos.isNone * 2)

/-- Send an event east. A member that is not on the ring cannot: the record counts as one for an unjoined destination
(R284). -/
def State.sendEvent (s : State) (pos : Nat) (ev : Ev) : State :=
  if s.onRing && s.joinedAt pos then s.originate .east (eventRec pos ev)
  else
    let s := s.countG 0x20
    if s.sequenced ev.dom then s.caravanLost else s

/-- An event meets the entry of a cached line at stage 4: POISONED, then it is applied here, sent to its home, or both
(R160, R193, R219); with a full origin queue it holds its lane (R285). -/
def State.applyEvent (s : State) (ev : Ev) : State :=
  if (s.entryNow ev.eid).st = .poisoned then (s.illegal 4 ev.eid).dropEvent ev
  else
    match s.eventGoes ev with
    | (none, _) => s.applyHere ev
    | (some p, here) =>
      if s.onRing && !s.origRoom .east then { s with sst := { s.sst with stalled := s.sst.stalled ++ [(ev, false)] } }
      else
        let s := s.sendEvent p ev
        if here then s.applyHere ev else s

/-- An event whose record has gone meets its own entry. -/
def State.applySent (s : State) (ev : Ev) : State :=
  if (s.entryNow ev.eid).st = .poisoned then (s.illegal 4 ev.eid).dropEvent ev else s.applyHere ev

/-- An event waits for its line, or holds its lane for room in the miss queue (R133, R167). -/
def State.missEvent (s : State) (ev : Ev) (sent : Bool) : State :=
  let n := lineOf ev.eid
  if s.mqRoom n then (s.sampleMiss ev).join n (.event ev sent)
  else
    let s := s.raise F.SST_STATUS_MQ_FULL
    { s with sst := { s.sst with stalled := s.sst.stalled ++ [(ev, sent)] } }

/-- An event reads its entry: on a hit it applies, with what the SECDED check finds; else it misses. -/
def State.tryEvent (s : State) (ev : Ev) (sent : Bool) (ecc : Ecc) : State :=
  let (hit, s) := s.useLine (lineOf ev.eid)
  if !hit then s.missEvent ev sent
  else
    let (go, s) := s.entryEcc ev.eid ecc
    if !go then s.missEvent ev sent else if sent then s.applySent ev else s.applyEvent ev

/-- An event arrives at stage 4. The sampler does not follow an event that this member only sends on (R390). -/
def State.stageEvent (s : State) (ev : Ev) (ecc : Ecc) : State :=
  if (s.eventGoes ev).2 then (s.sampleCand ev).2.tryEvent (s.sampleCand ev).1 false ecc else s.tryEvent ev false ecc

/-- The order of the lanes among the inputs of one cycle (R20); events of the ring come behind them. -/
def Ev.turn (ev : Ev) : Nat := if ev.ring then 4 else ev.lane

/-- Events that hold their lanes try again, in the order of the lanes (R20). -/
def State.retryStalled (s : State) : State :=
  let l := s.sst.stalled.mergeSort (fun a b => decide (a.1.turn ≤ b.1.turn))
  (l.foldl (fun (s : State) x => s.tryEvent x.1 x.2 .none) { s with sst := { s.sst with stalled := [] } }).wmAll

/-- An event of the lane holds it (R133). -/
def State.laneHeld (s : State) (lane : Nat) : Bool := s.sst.stalled.any (fun x => x.1.lane == lane)

/-! ### Completions (R159, R160) -/

/-- Faults that waited for their entry to become PENDING enter the fault queue while it has room (R217). -/
def State.pumpHeldFaults (s : State) : State :=
  (s.rnk.heldFaults.filter (fun x => (s.entryNow x.eid).st = .pending)).foldl (fun (s : State) x =>
    if s.faultRoom then
      { s with rnk := { s.rnk with faultQ := s.rnk.faultQ ++ [x], heldFaults := s.rnk.heldFaults.erase x } }
    else s.raise F.RNK_STATUS_FAULTQ_FULL) s

/-- The entry that a completion made PENDING goes back to ranking: its stream place becomes ready, its held fault
enters the fault queue in the next cycle, or it is offered anew (R200, R205, R217). -/
def State.afterDone (s : State) (eid : Nat) : State :=
  let s := { s with rnk := { s.rnk with
      offers := s.rnk.offers.map (fun (o : Offer) => if o.eid = eid then { o with ready := true } else o) } }
  s.offerFrom 6 1 eid

/-- A stray completion (R160). -/
def State.stray (s : State) (eid : Nat) : State :=
  let s := s.illegal 1 eid
  match s.img.domainOf eid with
  | some d => s.countD d 20
  | none => s

/-- COMPLETE at the entry of a cached line. `seq`, when the doorbell carries one, must be the entry's. -/
def State.completeEntry (s : State) (eid : Nat) (seq : Option Nat) : State :=
  let s := { s with dlv := { s.dlv with closing := s.dlv.closing.filter (·.eid ≠ eid) } }
  let e := s.entryNow eid
  if e.st = .poisoned then s.illegal 4 eid
  else if e.st ≠ .active ∨ seq.any (fun q => q ≠ e.seq.toNat) then s.stray eid
  else
    match s.img.domainOf eid with
    | none => s
    | some d =>
      let y := e.complete (s.sequenced d) (s.replaying d)
      let s := (s.putEntry eid y).countD d 2
      let s := s.onSamples (fun m => m.eid == eid && m.issue.isSome) (fun m =>
        { m with fin := some s.tim.ft, endTime := some s.tim.ft })
      if y.st = .pending then (if s.caravan d then s else s.noteStart eid s.tim.ft).afterDone eid else s

/-- A completion waits for its line, or in the Completion Tracker for room in the miss queue (R167). -/
def State.completeWait (s : State) (eid : Nat) (seq : Option Nat) : State :=
  if s.mqRoom (lineOf eid) then s.join (lineOf eid) (.complete eid seq)
  else { s.raise F.SST_STATUS_MQ_FULL with sst := { (s.raise F.SST_STATUS_MQ_FULL).sst with comps := s.sst.comps ++ [(eid, seq)] } }

/-- COMPLETE reaches the state stage: it applies on a hit, or waits. -/
def State.completeAt (s : State) (eid : Nat) (seq : Option Nat) (ecc : Ecc) : State :=
  let (hit, s) := s.useLine (lineOf eid)
  if !hit then s.completeWait eid seq
  else
    let (go, s) := s.entryEcc eid ecc
    if go then s.completeEntry eid seq else s.completeWait eid seq

/-- Completions that wait in the tracker try again, in order. -/
def State.retryComps (s : State) : State :=
  let l := s.sst.comps
  l.foldl (fun (s : State) x => s.completeAt x.1 x.2 .none) { s with sst := { s.sst with comps := [] } }

/-! ### Releases (R163, R190 to R192, R202, R217) -/

/-- Insert a release in release order. -/
def insertRel (r : Release) : List Release → List Release
  | [] => [r]
  | x :: l => if r.ro < x.ro then r :: x :: l else x :: insertRel r l

/-- A release waits in its target's stream, in release order, and is offered again (R192). -/
def State.holdBack (s : State) (r : Release) : State := { s with cvn := { s.cvn with refused := insertRel r s.cvn.refused } }

/-- A release is refused (R163, R202, R217): CVN_WAIT counts the cycle, once for its domain (R379). -/
def State.refuse (s : State) (r : Release) : State :=
  let s := if s.cvn.waits.contains r.g.dom then s
    else { s.countD r.g.dom 22 with cvn := { s.cvn with waits := s.cvn.waits ++ [r.g.dom] } }
  s.holdBack r

/-- An earlier release of the domain for the same target still waits (R192). -/
def State.relBlocked (s : State) (r : Release) : Bool :=
  (s.cvn.refused ++ s.missRels).any (fun x => x.g.dom == r.g.dom && x.route == r.route && decide (x.ro < r.ro))

/-- The tracked samples of a release. -/
def State.sampleRel (s : State) (g : Group) : State :=
  s.onSamples (fun m => m.inGroup g) (fun m => { m with rel := some s.tim.ft })

/-- The tracked samples of a release that meets a miss. -/
def State.sampleRelMiss (s : State) (g : Group) : State :=
  s.onSamples (fun m => m.inGroup g) (fun m => { m with flags := m.flags ||| 2#8 })

/-- The entry takes the group (R163); a CARAVAN release is not mirrored (R296). -/
def State.relWrite (s : State) (g : Group) : State :=
  let e := s.entryNow g.eid
  let s := s.setCached g.eid (e.release g.k g.lvl (s.replaying g.dom))
  let s := if 1 < g.k then s.countD g.dom 3 (g.k - 1) else s
  let s := s.noteStart g.eid g.t0
  { s with tel := { s.tel with holds := SMap.insert s.tel.holds g.eid ((s.tim.ft - g.arr) - s.period) } }.sampleRel g

/-- A release meets the entry of a cached line. False: it is refused, and the entry is unchanged. -/
def State.relEnter (s : State) (r : Release) : Bool × State :=
  let g := r.g
  let e := s.entryNow g.eid
  if e.st = .poisoned then (true, (s.illegal 4 g.eid).dropGroup g)
  else if !e.en then (true, (if g.k = 0 then s else s.countD g.dom 15 g.k).dropGroup g)
  else if g.k = 0 then (true, s.setCached g.eid { e with lvl := false })
  else if e.refuses then (false, s)
  else if e.mask ∨ e.park ∨ !s.domEn g.dom ∨ s.standby ∨ s.replaying g.dom then (true, s.relWrite g)
  else
    match r.route with
    | .tgt t =>
      if s.storeFull then (false, s.raise F.RNK_STATUS_NODES_FULL)
      else if s.admitClosed g.dom then (false, s)
      else (true, (s.relWrite g).placeOffer 4 g.eid g.dom t g.p (some r.ro) (e.st = .idle))
    | .fault c =>
      let x : FaultItem := ⟨g.eid, g.dom, c, some r.ro, none⟩
      if e.st = .idle then
        if s.faultRoom then (true, ((s.relWrite g).faultLog g.eid g.dom c).faultPut x)
        else (false, s.raise F.RNK_STATUS_FAULTQ_FULL)
      else
        let s := (s.relWrite g).faultLog g.eid g.dom c
        (true, { s with rnk := { s.rnk with heldFaults := s.rnk.heldFaults ++ [x] } })

/-- Hand a release to its entry: blocked behind an earlier one, behind a SEQ walk, missing its line, or met. -/
def State.relTry (s : State) (r : Release) (ecc : Ecc) : State :=
  if s.relBlocked r || !s.walkPassed r.g.dom r.g.eid then s.holdBack r
  else
    let n := lineOf r.g.eid
    let (hit, s) := s.useLine n
    if !hit then (if s.mqRoom n then (s.sampleRelMiss r.g).join n (.release r) else (s.raise F.SST_STATUS_MQ_FULL).holdBack r)
    else
      let (go, s) := s.entryEcc r.g.eid ecc
      if !go then (if s.mqRoom n then s.join n (.release r) else (s.raise F.SST_STATUS_MQ_FULL).holdBack r)
      else
        let (ok, s) := s.relEnter r
        if ok then s else s.refuse r

/-- The closed epoch that the release slots serve: the first that may release, behind none of its own domain. -/
def releasing : List Nat → List Closed → Option Closed
  | _, [] => none
  | held, c :: r =>
    if held.contains c.dom then releasing held r
    else if c.agreed then some c
    else releasing (c.dom :: held) r

/-- What the SECDED check of a hold-store record does (R408). False: the group is lost. -/
def State.holdEcc (s : State) (g : Group) (ecc : Ecc) : Bool × State :=
  match ecc with
  | .cor .holdGroup => (true, s.error 9 5 none (Config.recordIndex 2 s.dep.n).toNat .none)
  | .unc .holdGroup =>
    (false, ({ s with tdm := { s.tdm with damaged := true } }.dropGroup g).error 8 5 (some g.dom)
      (Config.recordIndex 2 s.dep.n).toNat .dom)
  | .uncDomain .holdGroup => (false, s.error 26 5 none (Config.recordIndex 2 s.dep.n).toNat .all)
  | _ => (true, s)

/-- The group that the next release slot takes (R190). -/
def State.nextGroup (s : State) : Option Group := (releasing s.closingDoms s.cvn.closed).bind (·.groups.head?)

/-- One release slot: the next group in canonical order takes its route and goes to its entry (R190, R191, R214). -/
def State.releaseOne (s : State) (ecc : Ecc) : State :=
  match releasing s.closingDoms s.cvn.closed with
  | none => s
  | some c =>
    match c.groups with
    | [] => { s with cvn := { s.cvn with closed := s.cvn.closed.erase c } }
    | g :: rest =>
      let e := s.entryNow g.eid
      let grp := (s.routeGroup e).map (·.group)
      let pos := if e.rkind then (grp.elim 0 (fun k => SMap.get 0 c.pos k)) else 0
      let route := s.routeOf g.dom g.eid e (some (c.epoch, pos))
      let pos' := match e.rkind, grp with
        | true, some k => SMap.set 0 c.pos k (pos + 1)
        | _, _ => c.pos
      let c' := { c with groups := rest, pos := pos' }
      let r : Release := ⟨g, route, s.cvn.ro⟩
      let s := { s with cvn := { s.cvn with
        ro := s.cvn.ro + 1
        closed := if rest.isEmpty then s.cvn.closed.erase c else s.cvn.closed.map (fun x => if x = c then c' else x) } }
      let (ok, s) := s.holdEcc g ecc
      if ok then s.relTry r ecc else s

/-- The two release slots of one FCLK, which serve different EIDs (R190). A halted block releases nothing. -/
def State.releaseTwo (s : State) (ecc : Ecc) : State :=
  if s.halted then s
  else
    let s := { s with cvn := { s.cvn with closed := s.cvn.closed.filter (fun c => !c.groups.isEmpty || !c.agreed) } }
    let eid (s : State) : Option Nat := s.nextGroup.map (·.eid)
    let s' := s.releaseOne ecc
    if eid s' = eid s then s' else s'.releaseOne .none

/-- Every refused release is offered again, in release order (R192); `ecc` is what the read of the first one's entry
finds. -/
def State.releaseRetry (s : State) (ecc : Ecc) : State :=
  if s.halted then s
  else
    match s.cvn.refused with
    | [] => s
    | r :: l => l.foldl (fun (s : State) x => s.relTry x .none) ({ s with cvn := { s.cvn with refused := [] } }.relTry r ecc)

/-! ### Fills (R167, R172) -/

/-- One input of a line that has arrived. -/
def State.applyInput (s : State) (i : MissInput) : State :=
  match i with
  | .event ev sent => if sent then s.applySent ev else s.applyEvent ev
  | .complete eid seq => s.completeEntry eid seq
  | .release r =>
    let (ok, s) := s.relEnter r
    if ok then s else s.refuse r
  | .issue h =>
    { s with rnk := { s.rnk with
        heads := s.rnk.heads.map (fun x => if x.eid = h.eid ∧ x.kind = h.kind then { x with lineHeld := true } else x) } }
  | .cmd cfg d => s.resumeCmd cfg d
  | .fault _ => s

/-- A poisoned fill: every entry of the line is POISONED, and the error recorded (R172, R406). -/
def State.poisonLine (s : State) (n : Nat) : State :=
  let d := ((List.range 8).filterMap (fun k => s.img.domainOf (8 * n + k))).head?
  (List.range 8).foldl (fun s k => s.poisonEntry (8 * n + k)) (s.error 4 4 d ((s.img.depot.stateBase + 64 * n) / 512) .dom)

/-- The inputs of a line that has come into the cache apply in their order, behind what its check finds: a line that is
erased for its error, or may not become dirty, lets them wait again (R167, R171, R347). -/
def State.applyInputs (s : State) (n : Nat) (l : List MissInput) (ecc : Ecc) : State :=
  let k : Nat := match ecc with
    | .cor (.stateEntry k) | .unc (.stateEntry k) | .uncDomain (.stateEntry k) => k.val
    | _ => 0
  let (go, s) := s.entryEcc (8 * n + k) ecc
  if go then (l.foldl (fun (s : State) i => if s.lineReady n && !s.missOn n then s.applyInput i else s.join n i) s).wmAll
  else s.joinAll n l

/-- A line that has returned is installed and its inputs apply; while the victim buffer is full it waits (R169, R347). -/
def State.landMiss (s : State) (n : Nat) (ecc : Ecc) : State :=
  match s.sst.missq.find? (fun m => m.line == n && m.got.isSome) with
  | none => s
  | some m =>
    match (s.install n (s.backingLine n) false).filter (fun s => s.lineReady n) with
    | none => s
    | some s =>
      let s := { s with sst := { s.sst with missq := s.sst.missq.filter (fun x => x.line ≠ n) } }
      let s := if m.got = some true then s.poisonLine n else s
      s.applyInputs n m.inputs ecc

/-- A miss whose line the cache or the victim buffer holds is served from there once the cache can take it and the line may
become dirty (R167, R347). -/
def State.serveMiss (s : State) (n : Nat) : State :=
  match s.sst.missq.find? (fun m => m.line == n && m.tag.isNone && m.got.isNone) with
  | none => s
  | some m =>
    if (s.victim n).isNone && (SMap.find s.sst.cache n).isNone then s
    else
      let (hit, s) := s.access n
      if hit && s.lineReady n then { s with sst := { s.sst with missq := s.sst.missq.filter (fun x => x.line ≠ n) } }.applyInputs n m.inputs .none
      else s

/-- Misses that wait for the victim buffer or for a tag go on, oldest first. -/
def State.pumpMisses (s : State) : State :=
  ((s.sst.missq.map (·.line)).foldl (fun (s : State) n => (s.landMiss n .none).serveMiss n) s).askFills

/-- A line returns from the depot: its tag is free, and it is installed as soon as it has room (R167, R169). -/
def State.fill (s : State) (n : Nat) (poison : Bool) (ecc : Ecc) : State :=
  match s.sst.missq.find? (fun m => m.line == n && m.tag.isSome) with
  | none => s
  | some m =>
    let s := s.freeDepTag (m.tag.getD 0)
    let s := { s with sst := { s.sst with missq := s.sst.missq.map (fun (x : Miss) =>
      if x.line = n then { x with tag := none, got := some poison } else x) } }
    ((s.probe 4 ((s.tim.ft - m.t0) / 45)).landMiss n ecc).askFills

/-! ### Write-backs, the flush, the scrubber (R169, R170, R173) -/

/-- The after-save marker: the first state write-back after a COMMAND or PERIODIC save writes line 1 of its slot
(R355). None without a free tag. -/
def State.markSave (s : State) : Option State :=
  match s.sav.mark with
  | none => some s
  | some (slot, q) =>
    let b := leBytes 8 q ++ List.replicate 52 0
    (s.depWrite .other (slot / 64 + 1) (b ++ leBytes 4 (crc32c b).toNat)).map (fun r =>
      { r.2 with sav := { r.2.sav with mark := none } })

/-- Write a line to the backing; none without a free tag. -/
def State.writeBack (s : State) (n : Nat) (es : List Entry) : Option (Nat × State) :=
  s.markSave.bind (fun s => (s.depReq (.stateWb n) true (s.backLine n) (lineData (entryBytes es))).map (fun r =>
    (r.1, (r.2.setBackingLine n es).countG 0x17)))

/-- The oldest victim line that has not been written goes to the depot, behind the journal (R169). -/
def State.writeVictim (s : State) : State :=
  match s.sst.victims.find? (fun v => v.tag.isNone) with
  | none => s
  | some v =>
    if s.jLineDue then s
    else
      match s.writeBack v.line v.entries with
      | none => s
      | some (t, s) =>
        { s with sst := { s.sst with victims := s.sst.victims.map (fun x => if x = v then { v with tag := some t } else x) } }

/-- The next dirty line of a flush that has reached set `k`: its set, its number and itself. -/
def State.flushNext (s : State) (k : Nat) : Option (Nat × Nat × Line) :=
  ((s.sst.cache.filter (fun x => x.2.dirty)).map (fun x => (s.setIndex x.1, x.1, x.2))).foldl
    (fun b x => if x.1 < k then b else match b with
      | none => some x
      | some y => if x.1 < y.1 then some x else some y) none

/-- A running flush visits the sets in ascending order, writing what is dirty while tags and the victim buffer have room
and no journal line waits; FLUSHED when the last write is acknowledged (R169, R170). -/
def State.pumpFlush : Nat → State → State
  | 0, s => s
  | n + 1, s =>
    match s.sst.flush with
    | none => s
    | some k =>
      match s.flushNext k with
      | some (j, l, x) =>
        let wait : State := { s with sst := { s.sst with flush := some j } }
        if s.jLineDue || decide (32 ≤ s.sst.victims.length) then wait
        else
          match s.writeBack l x.entries with
          | none => wait
          | some (t, s) =>
            State.pumpFlush n { s with sst := { s.sst with
              flush := some j, cache := SMap.insert s.sst.cache l { x with dirty := false },
              victims := s.sst.victims ++ [⟨l, x.entries, some t, true⟩] } }
      | none =>
        if s.sst.victims.any (·.flush) then { s with sst := { s.sst with flush := some 4096 } }
        else { s with sst := { s.sst with flush := none } }.raise F.SST_STATUS_FLUSHED

/-- The flush goes on. -/
def State.runFlush (s : State) : State := State.pumpFlush (s.sst.cache.length + 2) s

/-- Start a flush of the state cache (R170); it waits for the dirty lines of the victim buffer too. -/
def State.flushCache (s : State) : State :=
  { s with sst := { s.sst with
      flush := some 0, victims := s.sst.victims.map (fun (v : Victim) => { v with flush := true }) } }.runFlush

/-- A state write-back is acknowledged: its victim leaves the buffer, and the flush goes on. -/
def State.wbAck (s : State) (t : Nat) : State :=
  let s := { s with sst := { s.sst with victims := s.sst.victims.filter (fun v => v.tag ≠ some t) } }
  (s.freeDepTag t).runFlush.pumpMisses

/-- The scrubber reads one cache line and corrects it; a clean line that it must give up is read again from the depot
(R171, R173). -/
def State.scrubLine (s : State) (ecc : Ecc) : State :=
  if s.fld F.SST_CTRL_SCRUB_INT = 0 then s
  else
    match (s.sst.cache.find? (fun x => decide (s.sst.scrub ≤ x.1))).orElse (fun _ => s.sst.cache.head?) with
    | none => s
    | some (n, _) =>
      let s := { s with sst := { s.sst with scrub := n + 1 } }
      match ecc with
      | .cor (.stateEntry k) | .unc (.stateEntry k) | .uncDomain (.stateEntry k) =>
        let (go, s) := s.entryEcc (8 * n + k.val) ecc
        if go then s else if s.mqRoom n then s.joinAll n [] else s.raise F.SST_STATUS_MQ_FULL
      | _ => s

/-- The COLD initialisation of the backing ends (R157). -/
def State.initDone (s : State) : State :=
  if s.bit F.SST_STATUS_INIT_DONE then s
  else ({ s with dep := { s.dep with backing := [] } }.raise F.SST_STATUS_INIT_DONE).askFills

end Sys2Proof.Machine
end

