-- ==== Sys2Proof/Machine/Deliver.lean ====
section
/-! DEFINITION. Heads in flight, delivery rings, the ring entry, issue, parking, the fault ring, acknowledgements and
host ports (R209, R216, R217, R235 to R247, R254, R276, R428). -/

namespace Sys2Proof.Machine

/-! ### Heads in flight -/

/-- Two values stand for the same head. -/
def Head.same (a b : Head) : Bool := a.eid == b.eid && a.tgt == b.tgt && a.kind == b.kind

/-- Take a head out of flight. -/
def State.dropHead (s : State) (h : Head) : State :=
  { s with rnk := { s.rnk with heads := s.rnk.heads.filter (fun x => !x.same h) } }

/-- Replace a head where it stands, or add it. -/
def State.putHead (s : State) (h : Head) : State :=
  if s.rnk.heads.any (·.same h) then
    { s with rnk := { s.rnk with heads := s.rnk.heads.map (fun x => if x.same h then h else x) } }
  else { s with rnk := { s.rnk with heads := s.rnk.heads ++ [h] } }

/-- A head enters a stage behind those that stand there. -/
def State.tailHead (s : State) (h : Head) : State :=
  { s with rnk := { s.rnk with heads := s.rnk.heads.filter (fun x => !x.same h) ++ [h] } }

/-- The places whose time counts as hold time (R387): the calendar, a zero list, the gate while it waits for a window, a park. -/
def Stage.holdPlace : Stage → Nat
  | .wheel _ => 1
  | .due => 1
  | .zero _ _ => 2
  | .gate _ => 3
  | .parked _ => 4
  | _ => 0

/-- The hold time of a head's stay where it is: every cycle beyond one. -/
def Head.stay (h : Head) (now cycle : Nat) : Nat := if h.stage.holdPlace = 0 then 0 else (now - h.since) - cycle

/-- A head moves to another stage at time `now`; the stay that ends is added up. -/
def Head.move (h : Head) (st : Stage) (now cycle : Nat) : Head :=
  if h.stage.holdPlace = st.holdPlace ∧ st.holdPlace ≠ 0 then { h with stage := st }
  else { h with stage := st, held := h.held + h.stay now cycle, since := now }

/-- Move a head to a stage it enters now. -/
def State.enterStage (s : State) (h : Head) (st : Stage) : State := s.tailHead (h.move st s.tim.ft s.period)

/-- The head of an offer that is routed again in the next cycle, as a new offer; a CARAVAN one keeps its release order and
its p (R201, R209, R216). -/
def State.rerouteHead (s : State) (h : Head) : State :=
  (s.dropHead h).queueOffer ⟨6, 3, h.eid, h.ro.map (fun ro => (ro, h.p))⟩

/-- A head at the Route Resolver fails with a code: it enters the fault queue, or waits there (R216, R217). -/
def State.faultHead (s : State) (h : Head) (code : Nat) : State :=
  let rpl := match h.kind with | .replay r => some r | _ => none
  if s.faultRoom then
    let s := (s.dropHead h).faultLog h.eid h.dom code
    { s with rnk := { s.rnk with faultQ := s.rnk.faultQ ++ [FaultItem.mk h.eid h.dom code h.ro rpl] } }
  else (s.raise F.RNK_STATUS_FAULTQ_FULL).enterStage h (.rte code)

/-- Heads that wait for the fault queue enter it while it has room. -/
def State.pumpRte (s : State) : State :=
  s.rnk.heads.foldl (fun s h => match h.stage with
    | .rte c => if s.faultRoom then s.faultHead h c else s
    | _ => s) s

/-- The target check of an offer's head at hand-over, or when its target is disabled in flight (R209, R216). True: it
goes on. -/
def State.routeHead (s : State) (h : Head) : Bool × State :=
  let e := s.entryNow h.eid
  if e.rkind then
    let ok := match s.img.groupOf h.tgt with
      | some g => (s.eligible h.dom g).contains h.tgt
      | none => false
    if ok then (true, s) else (false, s.rerouteHead h)
  else
    match s.tgtCheck h.dom h.tgt with
    | none => (true, s)
    | some c => (false, s.faultHead h c)

/-- Every head of an offer for a target that has been disabled is dropped from flight and handled as at hand-over
(R209). -/
def State.dropTarget (s : State) (t : Nat) : State :=
  (s.rnk.heads.filter (fun h => h.tgt == t && h.kind == .live)).foldl (fun s h =>
    match h.stage with
    | .rte _ => s
    | _ => (s.routeHead h).2) s

/-! ### Rings: `none` is the fault ring -/

/-- Ring size as an order (R235); 0 for a fault ring whose EN is 0 as well. -/
def State.ringOrder (s : State) : Option Nat → Nat
  | some t => s.fld F.DLV_RING_CFG_ORDER t
  | none => if s.bit F.DLV_FAULT_CFG_EN then s.fld F.DLV_FAULT_CFG_ORDER else 0

/-- Host port of a ring. -/
def State.ringPort (s : State) : Option Nat → Nat
  | some t => s.fld F.DLV_RING_CFG_HPORT t
  | none => s.fld F.DLV_FAULT_CFG_HPORT

/-- PI, CI and ARM of a ring (R236). -/
def State.ringPi (s : State) : Option Nat → Nat
  | some t => s.fld F.DLV_RING_PTR_PI t
  | none => s.fld F.DLV_FAULT_PTR_PI

def State.ringCi (s : State) : Option Nat → Nat
  | some t => s.fld F.DLV_RING_CI_CI t
  | none => s.fld F.DLV_FAULT_CI_CI

def State.ringArm (s : State) : Option Nat → Bool
  | some t => s.bit F.DLV_RING_PTR_ARM t
  | none => s.bit F.DLV_FAULT_PTR_ARM

def State.setPi (s : State) (v : Nat) : Option Nat → State
  | some t => s.setFld F.DLV_RING_PTR_PI t v
  | none => s.setFld F.DLV_FAULT_PTR_PI 0 v

def State.setCi (s : State) (v : Nat) : Option Nat → State
  | some t => s.setFld F.DLV_RING_CI_CI t v
  | none => s.setFld F.DLV_FAULT_CI_CI 0 v

def State.setArm (s : State) (v : Bool) : Option Nat → State
  | some t => s.setFld F.DLV_RING_PTR_ARM t (bitNat v)
  | none => s.setFld F.DLV_FAULT_PTR_ARM 0 (bitNat v)

/-- RSTPTR and the resets of R255: PI, CI and ARM to 0. -/
def State.clearPtrs (s : State) (r : Option Nat) : State := ((s.setPi 0 r).setCi 0 r).setArm false r

/-- Occupancy (R236). -/
def State.ringUsed (s : State) (r : Option Nat) : Nat := (s.ringPi r + 2 ^ 21 - s.ringCi r) % 2 ^ 21

/-- The ring is full. -/
def State.ringFull (s : State) (r : Option Nat) : Bool := decide (s.ringUsed r = 2 ^ s.ringOrder r)

/-- A host port is down (R247). -/
def State.portDown (s : State) (p : Nat) : Bool := (s.reg .DLV_HPORT_DOWN (p / 32)).getLsbD (p % 32)

/-- NMODE of a ring. -/
def State.ringNmode (s : State) : Option Nat → Nat
  | some t => s.fld F.DLV_RING_CFG_NMODE t
  | none => s.fld F.DLV_FAULT_CFG_NMODE

/-- An entry written now brings a notification (R244). -/
def State.notifies (s : State) (r : Option Nat) : Bool :=
  s.ringNmode r = 1 || (s.ringNmode r = 2 && s.ringArm r)

/-- Writes that one entry needs: two with a notification (R240 condition 4). -/
def State.writesOf (s : State) (r : Option Nat) : Nat := if s.notifies r then 2 else 1

/-- The host address of the entry at PI (R236). -/
def State.ringAddr (s : State) (r : Option Nat) : Nat :=
  let base := match r with
    | some t => s.reg64 .DLV_RING_BASE_LO .DLV_RING_BASE_HI t
    | none => s.reg64 .DLV_FAULT_BASE_LO .DLV_FAULT_BASE_HI
  (base + 16 * (s.ringPi r % 2 ^ s.ringOrder r)) % 2 ^ 64

/-- The notification write of a ring (R243, R244). -/
def State.notifyWrite (s : State) (r : Option Nat) (dom : Nat) : EgrWrite :=
  let z : EgrWrite := ⟨0, 0, 0, s.ringPort r, 1, false, 2, 0, dom, none, false, 0, 0, false, 0⟩
  match r with
  | some t => { z with
      data := BitVec.setWidth 128 (s.reg .DLV_NOTIFY_DATA t), addr := s.reg64 .DLV_NOTIFY_ADDR_LO .DLV_NOTIFY_ADDR_HI t,
      wkind := 1, func := s.fld F.DLV_RING_CFG_FUNC t }
  | none => { z with
      data := BitVec.setWidth 128 (s.reg .DLV_FAULT_NOTIFY_DATA 0),
      addr := s.reg64 .DLV_FAULT_NOTIFY_ADDR_LO .DLV_FAULT_NOTIFY_ADDR_HI 0 }

/-- The ring-entry write (R243). -/
def State.entryWrite (s : State) (r : Option Nat) (dom : Nat) (data : Rec) : EgrWrite :=
  let z : EgrWrite := ⟨0, data, s.ringAddr r, s.ringPort r, 4, false, 2, 0, dom, none, false, 0, 0, true, 0⟩
  match r with
  | some t => { z with ns := s.bit F.DLV_RING_CFG_NS t, wkind := 0, func := s.fld F.DLV_RING_CFG_FUNC t }
  | none => z

/-- Write an entry at PI, advance PI, and send the notification behind it (R236, R242 to R245). The group whose guard
band measures the delivery stands on its last write (R233). -/
def State.writeEntry (s : State) (r : Option Nat) (dom : Nat) (data : Rec) : State :=
  let grp := r.bind s.groupNo
  let n := s.notifies r
  let s := (s.issueWrite { s.entryWrite r dom data with grp := grp, last := !n }).countG 0x1A
  let s := s.setPi ((s.ringPi r + 1) % 2 ^ 21) r
  if n then
    let s := (s.issueWrite { s.notifyWrite r dom with grp := grp, last := true }).countG 0x1B
    if s.ringNmode r = 2 then s.setArm false r else s
  else s

/-! ### The ring entry (R238) -/

/-- Kinds of ring entries. -/
def reEvent : Nat := 0
def reFault : Nat := 1
def reLost : Nat := 2

/-- Compose a ring entry. -/
def ringEntry (kind ns dom reason : Nat) (redeliv lvl mark orig : Bool) (prio count seq eid : Nat) : Rec :=
  BitVec.ofNat 128 (2 ^ 127 + kind * 2 ^ 124 + ns % 2 ^ 44 * 2 ^ 80 + dom * 2 ^ 64 + reason * 2 ^ 60
    + bitNat redeliv * 2 ^ 59 + bitNat lvl * 2 ^ 58 + bitNat mark * 2 ^ 57 + bitNat orig * 2 ^ 56
    + prio % 256 * 2 ^ 48 + count * 2 ^ 32 + seq * 2 ^ 24 + eid)

/-- The entry an EVENT or FAULT delivery of a state entry makes; `e` is the entry before its issue (R158). -/
def State.entryFor (s : State) (kind reason d eid prio : Nat) (e : Entry) : Rec :=
  ringEntry kind s.ns d reason false (e.lvl && !s.caravan d) e.mark e.orig prio e.count.toNat (e.seq + 1).toNat eid

/-- A written entry again, with REDELIV, a new kind, REASON and TS (R252, R253). -/
def State.entryAgain (s : State) (r : Rec) (kind reason : Nat) (redeliv : Bool) : Rec :=
  ringEntry kind s.ns (recFld r 64 12) reason redeliv (recFld r 58 1 = 1) (recFld r 57 1 = 1) (recFld r 56 1 = 1)
    (recFld r 48 8) (recFld r 32 16) (recFld r 24 8) (recFld r 0 24)

/-- The entry of a replay delivery, from its journal record (R261, R277). -/
def State.entryReplay (s : State) (r : Rec) (kind reason d : Nat) : Rec :=
  ringEntry kind s.ns d reason false (recFld r 38 1 = 1) (recFld r 37 1 = 1) (recFld r 36 1 = 1) (recFld r 39 8)
    (recFld r 47 16) (recFld r 63 8) (recFld r 71 24)

/-! ### Active records (R242, R252) -/

/-- The active record of a new delivery, its timer started. -/
def State.newActive (s : State) (h : Head) (data : Rec) (replay : Bool) : ActiveRec :=
  { eid := h.eid, seq := recFld data 24 8, tgt := h.tgt, hport := s.ringPort (some h.tgt), dom := h.dom, p := h.p,
    fault := false, replay := replay, redelivs := 0, timer := some 0,
    rdMax := s.fld F.CMP_TGT_CFG_RD_MAX h.tgt, entry := data, issued := s.tim.ft }

/-- The probes of an issue: LAT and HOLD (R387). -/
def State.issueProbes (s : State) (h : Head) : State :=
  let grp := s.groupNo h.tgt
  let hp := some (s.ringPort (some h.tgt))
  let all := (s.tim.ft - h.start) / 45
  let held := (h.held + h.stay s.tim.ft s.period) / 45
  (s.probe 0 (all - held) (some h.dom) grp hp).probe 1 held (some h.dom) grp hp

/-- A ring entry written for a target counts at its group (R379). -/
def State.countEntry (s : State) (t : Nat) : State :=
  match s.groupNo t with
  | some g => s.countGrp g 2
  | none => s

/-- What every issued EVENT entry counts (R378, R379). -/
def State.countIssue (s : State) (h : Head) : State := (s.countD h.dom 1).countEntry h.tgt

/-- The tracked sample of an EID issues under the tag of its entry write; `dest` is its target and p, unless the fault ring
takes it (R392). -/
def State.sampleIssue (s : State) (eid tag : Nat) (dest : Option (Nat × Nat)) : State :=
  s.onSample eid (fun m =>
    { m with issue := some s.tim.ft, tag := some tag, tgt := (dest.map (·.1)).getD m.tgt, prio := (dest.map (·.2)).getD m.prio })

/-- Outside CARAVAN the journal record of a WAYBILL domain is offered at issue, and lost when it is refused (R265,
R267). -/
def State.journalAfter (s : State) (h : Head) (data : Rec) : State :=
  if s.waybill h.dom && !s.caravan h.dom then
    let r := s.jOffer h.dom (jDelivery h.dom h.tgt data s.ns)
    if r.1 then r.2 else r.2.jLose h.dom
  else s

/-- Issue the head of an offer (R242): the entry goes ACTIVE, the ring entry is queued, PI advances, an active record
and its timer start, and outside CARAVAN the journal record is offered. -/
def State.issueLive (s : State) (h : Head) : State :=
  let e := s.entryNow h.eid
  let data := s.entryFor reEvent 0 h.dom h.eid h.p e
  let s := (s.dropHead h).putEntry h.eid e.issued
  let s := (s.sampleIssue h.eid s.pickTag (some (h.tgt, h.p))).writeEntry (some h.tgt) h.dom data
  let a := s.newActive h data false
  let s := { s with dlv := { s.dlv with active := s.dlv.active ++ [a] } }
  let s := s.mirrorDeliv h.eid h.tgt a.hport true (s.ringPi (some h.tgt)) false
  ((s.countIssue h).issueProbes h).journalAfter h data

/-- Issue a replay head (R277): the state entry is untouched. -/
def State.issueReplay (s : State) (h : Head) (r : Rec) : State :=
  let data := s.entryReplay r reEvent 0 h.dom
  let s := (s.dropHead h).writeEntry (some h.tgt) h.dom data
  let a := s.newActive h data true
  let s := { s with dlv := { s.dlv with active := s.dlv.active ++ [a] } }
  let s := s.mirrorDeliv h.eid h.tgt a.hport true (s.ringPi (some h.tgt)) false
  (s.countIssue h).issueProbes h

/-- Write a redelivery (R252): the timer starts again. -/
def State.issueRedeliv (s : State) (h : Head) (r : Rec) : State :=
  let data := s.entryAgain r reEvent 0 true
  let s := (s.dropHead h).writeEntry (some h.tgt) h.dom data
  let rd := s.fld F.CMP_TGT_CFG_RD_MAX h.tgt
  let s := { s with dlv := { s.dlv with active := s.dlv.active.map (fun (a : ActiveRec) =>
      if a.eid = h.eid ∧ a.tgt = h.tgt ∧ !a.replay ∧ !a.fault then
        { a with redelivs := a.redelivs + 1, timer := some 0, rdMax := rd }
      else a) } }
  ((s.raise F.CMP_STATUS_REDELIV).countD h.dom 18).countEntry h.tgt

/-! ### The Delivery Engine (R240, R428) -/

/-- A head parks (R240, R241). -/
def State.park (s : State) (h : Head) (c : ParkCause) : State :=
  let s := match c with
    | .full => (s.raise F.DLV_STATUS_RING_FULL).countD h.dom 17
    | .journal => s.raise F.DLV_STATUS_JRNL_PARK
    | _ => s
  s.enterStage h (.parked c)

/-- Another head stalls both engines. -/
def State.engineBusy (s : State) (h : Head) : Bool := s.rnk.heads.any (fun x => x.stage == .place && !x.same h)

/-- The DELIVERY record of a head before its issue (R261, R265). -/
def State.headRecord (s : State) (h : Head) : Rec :=
  let data := match h.kind with
    | .replay r => s.entryReplay r reEvent 0 h.dom
    | _ => s.entryFor reEvent 0 h.dom h.eid h.p (s.entryNow h.eid)
  jDelivery h.dom h.tgt data s.ns

/-- Condition 3: the journal accepts the record of a head of a CARAVAN and WAYBILL domain, once. -/
def State.journalFirst (s : State) (h : Head) : Bool × Head × State :=
  if h.jrnl || h.kind.isRedeliv || !(s.caravan h.dom && s.waybill h.dom) then (true, h, s)
  else
    let (ok, s) := s.jOffer h.dom (s.headRecord h)
    (ok, { h with jrnl := ok }, s)

/-- No active record is free: the 262,144 are in use (condition 4, R258). -/
def State.activeFull (s : State) : Bool := decide (262144 ≤ s.dlv.active.length)

/-- Conditions 4 and 5, the lag of a Tandem pair, and the halt: what stalls the engines. None: nothing does. -/
def State.stallCause (s : State) (h : Head) : Option (Option Field) :=
  let n := s.writesOf (some h.tgt)
  if s.halted || s.saving || s.tdm.switching then some none
  else if s.activeFull then some (some F.DLV_STATUS_ACT_FULL)
  else if !s.tagsFree n then some (some F.DLV_STATUS_TAG_STALL)
  else if s.lagFull then some (some F.TDM_STATUS_LAG)
  else if !s.egrRoom n then some none
  else none

/-- A head whose entry must be in the cache: that of an offer. -/
def Head.needsLine (h : Head) : Bool := h.kind == .live

/-- The entry of an offer's head is not PENDING (R160 cause 3): the delivery is suppressed. -/
def State.issueIllegal (s : State) (h : Head) : State :=
  ((s.dropHead h).illegal 3 h.eid).error 13 4 (some h.dom) h.eid .dom

/-- A head parks for its line and asks for it, or waits for room in the miss queue (R167, R428). -/
def State.missHead (s : State) (h : Head) : State :=
  let s := s.park { h with lineHeld := false } .miss
  if s.mqRoom (lineOf h.eid) then s.join (lineOf h.eid) (.issue h) else s.raise F.SST_STATUS_MQ_FULL

/-- Parked heads whose line nothing has asked for yet. -/
def State.askHeads (s : State) : State :=
  (s.rnk.heads.filter (fun h => h.stage == .parked .miss && !h.lineHeld
      && !s.sst.missq.any (fun m => m.line == lineOf h.eid && m.inputs.any (fun i => match i with | .issue x => x.same h | _ => false)))).foldl
    (fun (s : State) h =>
      let (hit, s) := s.useLine (lineOf h.eid)
      if hit then s.putHead { h with lineHeld := true }
      else if s.mqRoom (lineOf h.eid) then s.join (lineOf h.eid) (.issue h) else s) s

/-- Issue by kind; `ecc` is what the read of the state entry finds. -/
def State.issueHead (s : State) (h : Head) (ecc : Ecc) : State :=
  match h.kind with
  | .replay r => s.issueReplay h r
  | .redeliv r => s.issueRedeliv h r
  | .live =>
    let (go, s) := s.entryEcc h.eid ecc
    if !go then
      s.missHead h
    else if !(s.rnk.heads.any (·.same h)) then s
    else if (s.entryNow h.eid).st ≠ .pending then s.issueIllegal h
    else s.issueLive h

/-- A head stalls the engines: one that comes to them goes behind those that stall there, one that was `first` among
them keeps its place. -/
def State.stallHead (s : State) (h : Head) (first : Bool) : State :=
  if first then s.putHead { h with stage := .place } else s.enterStage h .place

/-- A head at a Delivery Engine: the conditions in order, then the cache line, then the shared resources. `first`: it is
the first of the heads that stalled there. -/
def State.engineAt (s : State) (h : Head) (ecc : Ecc) (first : Bool) : State :=
  let s := s.putHead h
  if s.portDown (s.ringPort (some h.tgt)) then s.park h .hport
  else if s.ringFull (some h.tgt) then s.park h .full
  else
    let (ok, h, s) := s.journalFirst h
    let s := s.putHead h
    if !ok then s.park h .journal
    else
      let (hit, s) := if h.needsLine then s.useLine (lineOf h.eid) else (true, s)
      if !hit then s.missHead h
      else if !first && s.engineBusy h then s.stallHead h false
      else
        match s.stallCause h with
        | some f =>
          let s := match f with | some f => s.raise f | none => s
          s.stallHead h first
        | none => s.issueHead h ecc

/-- A head reaches a Delivery Engine. -/
def State.engine (s : State) (h : Head) (ecc : Ecc) : State := s.engineAt h ecc false

/-- Heads that the engines had stalled are tried again, in order, until one stalls. -/
def State.pumpPlace : Nat → State → State
  | 0, s => s
  | n + 1, s =>
    match s.rnk.heads.find? (fun h => h.stage == .place) with
    | none => s
    | some h =>
      let s := s.engineAt { h with stage := .rte 0 } .none true
      if s.rnk.heads.any (fun x => x.same h && x.stage == .place) then s else State.pumpPlace n s

/-- Retry the stalled heads. -/
def State.pumpHeads (s : State) : State := State.pumpPlace (s.rnk.heads.length + 1) s

/-! ### The fault ring (R217, R254) -/

/-- The fault ring can take a write: enabled, of nonzero size, with room, its port up. -/
def State.faultRingReady (s : State) : Bool :=
  decide (s.ringOrder none ≠ 0) && !s.ringFull none && !s.portDown (s.ringPort none)

/-- The engines can take a fault-ring entry: no halt, and no head that stalls them (R240). -/
def State.faultTurn (s : State) : Bool := !s.halted && !s.rnk.heads.any (fun h => h.stage == .place)

/-- The active record of a FAULT delivery: the fault ring's port, no timer, no target's set (R207, R253, R254). -/
def State.faultActive (s : State) (x : FaultItem) (data : Rec) : ActiveRec :=
  { eid := x.eid, seq := recFld data 24 8, tgt := 0, hport := s.ringPort none, dom := x.dom, p := recFld data 48 8,
    fault := true, replay := x.rpl.isSome, redelivs := 0, timer := none, rdMax := 0, entry := data,
    issued := s.tim.ft }

/-- The tracked sample went to the fault ring. -/
def State.sampleFault (s : State) (eid : Nat) : State :=
  let p := (s.entryNow eid).prio.toNat
  s.onSample eid (fun m => { m with flags := m.flags ||| 0x10#8, prio := p })

/-- Issue the first offer of the fault queue. -/
def State.issueFault (s : State) (x : FaultItem) (ecc : Ecc) : State :=
  let pop := fun (s : State) => { s with rnk := { s.rnk with faultQ := s.rnk.faultQ.drop 1 } }
  let add := fun (s : State) (data : Rec) =>
    let a := s.faultActive x data
    let s := { s with dlv := { s.dlv with active := s.dlv.active ++ [a] } }
    (s.mirrorDeliv x.eid 0 a.hport true (s.ringPi none) true).pumpRte
  match x.rpl with
  | some r =>
    let data := s.entryReplay r reFault x.code x.dom
    add ((pop s).writeEntry none x.dom data) data
  | none =>
    let (hit, s) := s.useLine (lineOf x.eid)
    if !hit then (if s.missOn (lineOf x.eid) || !s.mqRoom (lineOf x.eid) then s else s.join (lineOf x.eid) (.fault x.eid))
    else
      let (go, s) := s.entryEcc x.eid ecc
      if !go ∨ !(s.rnk.faultQ.head? == some x) then s
      else
        let e := s.entryNow x.eid
        if e.st ≠ .pending then ((pop s).illegal 3 x.eid).error 13 4 (some x.dom) x.eid .dom
        else
          let data := s.entryFor reFault x.code x.dom x.eid e.prio.toNat e
          let s := ((pop s).sampleFault x.eid).putEntry x.eid e.issued
          add ((s.sampleIssue x.eid s.pickTag none).writeEntry none x.dom data) data

/-- FAULT_DELIVERY: a LOST entry first, else the fault queue (R254). -/
def State.faultDelivery (s : State) (ecc : Ecc) : State :=
  if s.standby ∨ s.saving ∨ s.tdm.switching ∨ !s.faultRingReady ∨ !s.faultTurn ∨ (s.dlv.lost = [] ∧ s.rnk.faultQ = []) then s
  else if s.dlv.lost = [] ∧ s.activeFull then s.raise F.DLV_STATUS_ACT_FULL
  else if !s.tagsFree (s.writesOf none) then s.raise F.DLV_STATUS_TAG_STALL
  else if s.lagFull then s.raise F.TDM_STATUS_LAG
  else if !s.egrRoom (s.writesOf none) then s
  else
    match s.dlv.lost with
    | r :: rest =>
      let s := { s with dlv := { s.dlv with lost := rest } }
      let d := recFld r 64 12
      ((((s.writeEntry none d (s.entryAgain r reLost (recFld r 60 4) false)).countD d 19).raise F.CMP_STATUS_LOST).vfStatus d 3)
    | [] =>
      match s.rnk.faultQ with
      | [] => s
      | x :: _ => s.issueFault x ecc

/-! ### Acknowledgements and host ports (R43, R247) -/

/-- The write of a tag that the switch has taken and not acknowledged. -/
def State.takenWrite (s : State) (tag : Nat) : Option EgrWrite :=
  (s.dlv.tags.find? (fun w => w.tag == tag)).filter (fun w =>
    !(s.dlv.egr.any (·.tag == w.tag)) && !(s.dlv.reissue.any (·.tag == w.tag)) && !(s.dlv.unsent.any (·.tag == w.tag)))

/-- Insert a write in issue order. -/
def insertWrite (w : EgrWrite) : List EgrWrite → List EgrWrite
  | [] => [w]
  | x :: r => if w.no < x.no then w :: x :: r else x :: insertWrite w r

/-- A write that was in the egress queue at a dirty FLR has completed: the walk that still runs counts it, or
VFM_FLR_EGR_CNT (R314). -/
def State.flrAck (s : State) (w : EgrWrite) : State :=
  let l := (SMap.find s.vfm.egr w.dom).getD []
  if !l.contains w.tag then s
  else
    let s := { s with vfm := { s.vfm with egr := SMap.insert s.vfm.egr w.dom (l.erase w.tag) } }
    match SMap.find s.vfm.walks w.dom with
    | some x => if x.reset then { s with vfm := { s.vfm with walks := SMap.insert s.vfm.walks w.dom { x with egr := x.egr + 1 } } }
      else s.bump F.VFM_FLR_EGR_CNT w.dom
    | none => s.bump F.VFM_FLR_EGR_CNT w.dom

/-- An acknowledgement with status 0b00 frees the tag and takes its measurements (R233, R386, R387, R391). -/
def State.ackGood (s : State) (w : EgrWrite) : State :=
  let t := s.tim.ft - w.issued
  let s := { s with dlv := { s.dlv with tags := s.dlv.tags.filter (·.tag ≠ w.tag) } }.flrAck w
  let s := match w.grp, w.last with
    | some g, true => { s with oas := { s.oas with cur := SMap.set 0 s.oas.cur g (max (SMap.get 0 s.oas.cur g) ((t + 44) / 45)) } }
    | _, _ => s
  let s := if w.entry then s.probe 2 (t / 45) (some w.dom) w.grp (some w.hport) else s
  let s := s.onSamples (fun m => m.tag == some w.tag && m.ack.isNone) (fun m => { m with ack := some s.tim.ft })
  (s.pumpWrites 128).pumpHeads

/-- Any other status: the port goes down and the write joins its unsent list (R247, R406). -/
def State.ackBad (s : State) (w : EgrWrite) : State :=
  let s := s.setReg .DLV_HPORT_DOWN (w.hport / 32)
    (s.reg .DLV_HPORT_DOWN (w.hport / 32) ||| BitVec.ofNat 32 (2 ^ (w.hport % 32)))
  let s := (s.raise F.DLV_STATUS_HPORT_DOWN).error 21 9 none w.hport .none
  { s with dlv := { s.dlv with unsent := insertWrite w s.dlv.unsent } }

/-- EGRESS_ACK: a tag not outstanding sets ACK_STRAY (R43). -/
def State.egressAck (s : State) (tag st : Nat) : State :=
  match s.takenWrite tag with
  | none => s.raise F.DLV_STATUS_ACK_STRAY
  | some w => if st = 0 then s.ackGood w else s.ackBad w

/-- RESUME of a host port: its unsent writes are issued again in list order, ahead of new ones (R247). -/
def State.resumePort (s : State) (p : Nat) : State :=
  let s := s.setReg .DLV_HPORT_DOWN (p / 32)
    (s.reg .DLV_HPORT_DOWN (p / 32) &&& ~~~(BitVec.ofNat 32 (2 ^ (p % 32))))
  let mine := s.dlv.unsent.filter (·.hport = p)
  let s := { s with dlv := { s.dlv with
    unsent := s.dlv.unsent.filter (·.hport ≠ p), reissue := s.dlv.reissue ++ mine } }
  s.pumpWrites 128

/-- The switch takes a beat: two writes leave the egress queue (R42, R44, R394). A halted block offers none (R410). -/
def State.beatTaken (s : State) : State :=
  if s.halted then s
  else
  let out := s.dlv.egr.take 2
  let s := { s with dlv := { s.dlv with egr := s.dlv.egr.drop 2 } }
  let s := out.foldl (fun s w => s.traffic w.hport true (4 * w.len)) s
  (s.pumpWrites 128).pumpHeads

end Sys2Proof.Machine
end

