-- ==== Sys2Proof/Machine/Gate.lean ====
section
/-! DEFINITION. Oasis gates: lists, the gate state, the guard band, the gate test, commits and openings (R229 to R234,
R403, R404). Times of the lists are ns; times of heads are in 1/45 ns. -/

namespace Sys2Proof.Machine

/-! ### Lists -/

/-- Entries `n` of a list held in an array of 32 words for group `g`. -/
def State.gateEnts (s : State) (op iv : Field) (g n : Nat) : List (Bool × Nat) :=
  (List.range n).map (fun k => (s.bit op (32 * g + k), s.fld iv (32 * g + k)))

/-- The entries that a list of its length uses. -/
def GateList.act (l : GateList) : List (Bool × Nat) := l.ents.take l.len

/-- The oper list of a group (R231); a damaged one has one entry, always closed (R232). -/
def State.operList (s : State) (g : Nat) : GateList :=
  if s.oas.damaged.contains g then ⟨0, 1, 1, [(false, 1)]⟩
  else
    ⟨s.reg64 .OAS_OPER_START_LO .OAS_OPER_START_HI g, (s.reg .OAS_OPER_CYCLE g).toNat, s.fld F.OAS_OPER_LEN_LEN g,
     s.gateEnts F.OAS_OPER_ENT_OPEN F.OAS_OPER_ENT_INTERVAL g 32⟩

/-- Gating of the group is in force (R232). -/
def State.gated (s : State) (g : Nat) : Bool := s.bit F.OAS_MODE_MODE g && decide ((s.operList g).len ≠ 0)

/-- The list that governs a group at time `t`: the pending list from its start on (R229). -/
def State.listAt (s : State) (g t : Nat) : GateList :=
  match SMap.find s.oas.pend g with
  | some l => if 45 * l.start ≤ t then l else s.operList g
  | none => s.operList g

/-- Gating is in force under the list that governs at `t`. -/
def State.gatedAt (s : State) (g t : Nat) : Bool := s.bit F.OAS_MODE_MODE g && decide ((s.listAt g t).len ≠ 0)

/-- One stretch of a gate: from, to, open. -/
structure Stretch where
  from_ : Nat
  upto : Nat
  open_ : Bool
  deriving DecidableEq, Repr

/-- The stretches of one cycle from offset `off`, in ns: intervals past the cycle are cut, the last entry's state holds
to its end (R231). -/
def stretches (c : Nat) : List (Bool × Nat) → Nat → List Stretch
  | [], _ => []
  | (o, n) :: r, off =>
    let e := if r.isEmpty then c else min c (off + n)
    if off < e then ⟨off, e, o⟩ :: stretches c r e else stretches c r (max off e)

/-- The stretches of cycle `k` of a list, in 1/45 ns of fabric time. -/
def GateList.cycleAt (l : GateList) (k : Nat) : List Stretch :=
  let c := max l.cycle 1
  (stretches c l.act 0).map (fun x => ⟨45 * (l.start + k * c + x.from_), 45 * (l.start + k * c + x.upto), x.open_⟩)

/-- The stretches around time `t`: the cycle before, its own, and the two after. -/
def GateList.near (l : GateList) (t : Nat) : List Stretch :=
  let c := 45 * max l.cycle 1
  let k := (t - 45 * l.start) / c
  (if k = 0 then [] else l.cycleAt (k - 1)) ++ l.cycleAt k ++ l.cycleAt (k + 1) ++ l.cycleAt (k + 2)

/-- The gate is open at `t`. -/
def GateList.openAt (l : GateList) (t : Nat) : Bool := (l.near t).any (fun x => x.open_ && x.from_ ≤ t && t < x.upto)

/-- The least of some times. -/
def leastOf (l : List Nat) : Option Nat :=
  l.foldl (fun b x => match b with
    | none => some x
    | some y => some (min x y)) none

/-- The first opening at or after `t` (R234). -/
def GateList.openFrom (l : GateList) (t : Nat) : Option Nat :=
  leastOf ((l.near t).filterMap (fun x => if x.open_ ∧ t < x.upto then some (max t x.from_) else none))

/-- The first time after `t` at which the gate is closed. -/
def GateList.closeFrom (l : GateList) (t : Nat) : Option Nat :=
  leastOf ((l.near t).filterMap (fun x => if !x.open_ ∧ t < x.upto then some (max t x.from_) else none))

/-- Start of the open interval that holds `t`. -/
def GateList.openedAt (l : GateList) (t : Nat) : Nat :=
  ((l.near t).filter (fun x => !x.open_ && decide (x.upto ≤ t))).foldl (fun m x => max m x.upto) (45 * l.start)

/-- LIVE of a group, ns (R233). -/
def State.gateLive (s : State) (g : Nat) : Nat := max (SMap.get 0 s.oas.cur g) (SMap.get 0 s.oas.prev g)

/-- The guard band of a group, ns; OAS_LIVE saturates at 65,535. -/
def State.guard (s : State) (g : Nat) : Nat := max (s.fld F.OAS_GUARD_GUARD g) (min 65535 (s.gateLive g))

/-- The first opening of a group's gate at or after `t`: by the list that governs, and from the start of a pending list by
that one, which a length of 0 leaves open (R229, R234). -/
def State.nextOpen (s : State) (g t : Nat) : Option Nat :=
  let o := (s.listAt g t).openFrom t
  match (SMap.find s.oas.pend g).filter (fun l => decide (t < 45 * l.start)) with
  | none => o
  | some l =>
    let p := if l.len = 0 then some (45 * l.start) else l.openFrom (45 * l.start)
    match o with
    | some x => if x < 45 * l.start then some x else p
    | none => p

/-- The first close after `ti`: a pending list's start counts as one. -/
def State.gateClose (s : State) (g ti : Nat) : Option Nat :=
  let pend := ((SMap.find s.oas.pend g).map (fun l => 45 * l.start)).filter (fun t => decide (ti < t))
  leastOf ((((s.listAt g ti).closeFrom ti).toList) ++ pend.toList)

/-- Put a head at the gate: one that stands there keeps its place in the order in which heads began to wait. -/
def State.atGate (s : State) (h : Head) (st : Stage) : State :=
  match h.stage with
  | .gate _ | .line _ => s.putHead (h.move st s.tim.ft s.period)
  | _ => s.enterStage h st

/-- A head waits at the gate for a time. -/
def State.waitGate (s : State) (h : Head) (t : Option Nat) : State := s.atGate h (.gate t)

/-- The gate test of a head that would issue at `ti` (R234). True: it passes. -/
def State.gateTest (s : State) (h : Head) (ti : Nat) : Bool × State :=
  match s.groupNo h.tgt with
  | none => (true, s)
  | some g =>
    if !s.gatedAt g ti then (true, s)
    else
      let l := s.listAt g ti
      if !l.openAt ti then (false, s.waitGate h (s.nextOpen g ti))
      else
        match s.gateClose g ti with
        | none => (true, s)
        | some c =>
          if ti + 45 * s.guard g ≤ c then (true, s)
          else
            let s := (s.countGrp g 0).raise F.OAS_STATUS_DEFER g
            let s := if c - l.openedAt ti ≤ 45 * s.guard g then
                (s.countGrp g 1).raise F.OAS_STATUS_NO_ROOM g
              else s
            (false, s.waitGate h (s.nextOpen g c))

/-- What the SECDED check of a gate-list word does (R408). -/
def State.gateEcc (s : State) (h : Head) (ecc : Ecc) : State :=
  match s.groupNo h.tgt, ecc with
  | _, .cor .gateWord => s.error 9 8 none (Config.recordIndex 6 s.dep.n).toNat .none
  | some g, .unc .gateWord =>
    { s with oas := { s.oas with damaged := insertAsc g s.oas.damaged } }.error 14 8 none g .none
  | some g, .uncDomain .gateWord =>
    { s with oas := { s.oas with damaged := insertAsc g s.oas.damaged } }.error 14 8 none g .none
  | _, _ => s

/-- What the SECDED check of a head in the calendar, on a zero list or parked does (R408): the head is dropped, and its EID
competes again; a CARAVAN one keeps its place in its stream. False: it is dropped. -/
def State.headEcc (s : State) (h : Head) (ecc : Ecc) : Bool × State :=
  let i := (Config.recordIndex 4 s.dep.n).toNat
  match ecc with
  | .cor .head => (true, s.error 9 7 none i .none)
  | .unc .head => (false, (s.error 8 7 (some h.dom) i .dom).rerouteHead h)
  | .uncDomain .head => (false, s.error 26 7 none i .all)
  | _ => (true, s)

/-- A head that waits, read with `ecc`, and what its test then does. -/
def State.readHead (s : State) (h : Head) (ecc : Ecc) (test : State → State) : State :=
  if (s.headEcc h ecc).1 then test (s.headEcc h ecc).2 else (s.headEcc h ecc).2

/-- The tracked sample of a head passes the gate. -/
def State.sampleGate (s : State) (h : Head) : State :=
  if h.kind = .live then s.onSample h.eid (fun m => { m with gated := some s.tim.ft }) else s

/-- A head at the gate, tested at its own issue time: two go onward in one FCLK, and one that finds no place is tested
again in the next (R234). `cls` is its class in the order of places. -/
def State.gateHead (s : State) (h : Head) (cls : Nat) (ecc : Ecc) : State :=
  let s := s.gateEcc h ecc
  let (ok, s) := s.gateTest h (s.tim.ft + s.period)
  if !ok then s
  else if 2 ≤ s.oas.placed then s.atGate h (.line cls)
  else ({ s with oas := { s.oas with placed := s.oas.placed + 1 } }.sampleGate h).engine h ecc

/-- Test some heads in order. -/
def State.gateHeads (s : State) (l : List Head) (cls : Nat) (ecc : Ecc) : State :=
  match l with
  | [] => s
  | h :: r => r.foldl (fun (s : State) x => if s.rnk.heads.any (·.same x) then s.gateHead x cls .none else s)
      (s.readHead h ecc (fun s => s.gateHead h cls ecc))

/-- Heads of a class that found no place in the cycle before (R234). -/
def State.gateLine (s : State) (c : Nat) : State := s.gateHeads (s.rnk.heads.filter (fun h => h.stage == .line c)) c .none

/-- Heads whose opening has come, or that found no place since: groups ascending, and within a group in the order in which they
began to wait (R234). -/
def State.openings (s : State) : List Head :=
  let l := s.rnk.heads.filter (fun h => match h.stage with
    | .gate (some t) => decide (t ≤ s.tim.ft)
    | .line 1 => true
    | _ => false)
  let grp := fun (h : Head) => (s.groupNo h.tgt).getD 1024
  (l.foldl (fun (b : List Nat) h => insertAsc (grp h) b) []).flatMap (fun g => l.filter (fun h => grp h == g))

/-- The heads that wait at a group's gate, in the order in which they began to wait. -/
def State.gateWaiters (s : State) (g : Nat) : List Head :=
  s.rnk.heads.filter (fun h => (match h.stage with | .gate _ => true | _ => false) && s.groupNo h.tgt == some g)

/-- A window of the group opens: heads whose time has come are tested again (R234); `ecc` is what the first one finds. -/
def State.gateOpening (s : State) (g : Nat) (ecc : Ecc) : State :=
  s.gateHeads ((s.gateWaiters g).filter (fun h => match h.stage with
    | .gate (some t) => decide (t ≤ s.tim.ft)
    | _ => false)) 1 ecc

/-- After a change of the list or of the mode a waiting head of the group is tested where the gate now stands open, and
waits for the opening of the new list where it does not (R231, R234). -/
def State.gateRecheck (s : State) (g : Nat) : State :=
  (s.gateWaiters g).foldl (fun (s : State) h =>
    let ti := s.tim.ft + s.period
    if !s.rnk.heads.any (·.same h) then s
    else if !s.gatedAt g ti || (s.listAt g ti).openAt ti then s.gateHead h 1 .none
    else s.waitGate h (s.nextOpen g ti)) s

/-! ### COMMIT and the switch of lists (R229, R230, R404) -/

/-- The late-start rule (R230): the k and the start, from `now` in ns. -/
def lateStart (base cycle now : Nat) : Nat × Nat :=
  if now + 2000 ≤ base then (0, base)
  else
    let k := (now + 2000 - base + cycle - 1) / max cycle 1
    (k, base + k * cycle)

/-- The admin list of a group with its start: cycle, length and all 32 entries (R229). -/
def State.admList (s : State) (g start : Nat) : GateList :=
  ⟨start, (s.reg .OAS_ADM_CYCLE g).toNat, s.fld F.OAS_ADM_LEN_LEN g,
   s.gateEnts F.OAS_ADM_ENT_OPEN F.OAS_ADM_ENT_INTERVAL g 32⟩

/-- Take the admin list as the pending list with a start. -/
def State.setPending (s : State) (g start : Nat) : State :=
  let s := { s with oas := { s.oas with pend := SMap.insert s.oas.pend g (s.admList g start) } }
  (s.raise F.OAS_GCMD_PENDING g).setReg64 .OAS_PEND_START_LO .OAS_PEND_START_HI g start

/-- The admin list may be committed. -/
def State.admOk (s : State) (g : Nat) : Bool :=
  decide (1000 ≤ (s.reg .OAS_ADM_CYCLE g).toNat) && decide (s.fld F.OAS_ADM_LEN_LEN g ≤ 32)

/-- The COMMIT of an admissible list; the k that a mirror record carries comes first (R229, R230, R404). -/
def State.commitList (s : State) (g : Nat) : Nat × State :=
  let base := s.reg64 .OAS_ADM_BASE_LO .OAS_ADM_BASE_HI g
  let late := lateStart base (s.reg .OAS_ADM_CYCLE g).toNat s.ns
  let t := (s.setPending g late.2).setFld F.OAS_GCMD_ERR g 0
  if t.ns + 2000 ≤ base then (0, t)
  else (late.1, ((t.raise F.OAS_STATUS_LATE g).setFld F.OAS_LATE_K_K g (min late.1 (2 ^ 32 - 1))).countGrp g 3)

/-- Write the oper registers of a group. -/
def State.setOper (s : State) (g : Nat) (l : GateList) : State :=
  let s := s.setReg64 .OAS_OPER_START_LO .OAS_OPER_START_HI g l.start
  let s := s.setReg .OAS_OPER_CYCLE g (BitVec.ofNat 32 l.cycle)
  let s := s.setFld F.OAS_OPER_LEN_LEN g l.len
  (List.range 32).foldl (fun s k =>
    let e := l.ents.getD k (false, 0)
    (s.setFld F.OAS_OPER_ENT_OPEN (32 * g + k) (bitNat e.1)).setFld F.OAS_OPER_ENT_INTERVAL (32 * g + k) e.2) s

/-- A gate-cycle start of the group: buffered OAS_ values take effect (R11, R232). -/
def State.gateBoundary (s : State) (g : Nat) : State := (s.applyBnd .OAS_MODE g).applyBnd .OAS_GUARD g

/-- Cycles of the oper list that have begun; 0 without a list or before its start. -/
def State.cycleNow (s : State) (g : Nat) : Nat :=
  let start := s.reg64 .OAS_OPER_START_LO .OAS_OPER_START_HI g
  if s.fld F.OAS_OPER_LEN_LEN g = 0 ∨ s.ns < start then 0
  else (s.ns - start) / max (s.reg .OAS_OPER_CYCLE g).toNat 1 + 1

/-- The present cycle's start is behind: the next one is what a value buffered now waits for (R232). -/
def State.noteCycle (s : State) (g : Nat) : State :=
  { s with oas := { s.oas with cyc := SMap.set 0 s.oas.cyc g (s.cycleNow g) } }

/-- At its start time the pending list becomes the oper list (R229). -/
def State.switchList (s : State) (g : Nat) : State :=
  match SMap.find s.oas.pend g with
  | none => s
  | some l =>
    if s.ns < l.start then s
    else
      let s := s.setOper g l
      let s := { s with oas := { s.oas with
        pend := SMap.erase s.oas.pend g, damaged := s.oas.damaged.filter (· ≠ g) } }
      let s := (s.lower F.OAS_GCMD_PENDING g).setReg64 .OAS_PEND_START_LO .OAS_PEND_START_HI g 0
      ((s.noteCycle g).gateBoundary g).gateRecheck g

/-- The oper list has begun a cycle since the last one taken: buffered values take effect (R232). Heads go on waiting for
their openings, unless gating has ended. -/
def State.gateCycle (s : State) (g : Nat) : State :=
  if s.cycleNow g ≤ SMap.get 0 s.oas.cyc g then s
  else
    let was := s.gated g
    let s := (s.noteCycle g).gateBoundary g
    if was && !s.gated g then s.gateRecheck g else s

end Sys2Proof.Machine
end

