-- ==== Sys2Proof/Machine/Shape.lean ====
section
/-! DEFINITION. The Wagon Wheel Shaper: buckets, refill ticks, the test of a head, the calendar, the zero lists and the
fall-back, and the hand-over of heads to it (R209, R212, R220 to R228, R276). -/

namespace Sys2Proof.Machine

/-! ### Buckets: kind 0 target, 1 domain, 2 group (R225) -/

/-- RATE registers by kind. -/
def rateReg (k : Nat) : Reg := if k = 0 then .WWL_TGT_RATE else if k = 1 then .WWL_DOM_RATE else .WWL_GRP_RATE

/-- BURST registers by kind. -/
def burstReg (k : Nat) : Reg := if k = 0 then .WWL_TGT_BURST else if k = 1 then .WWL_DOM_BURST else .WWL_GRP_BURST

def enField (k : Nat) : Field :=
  if k = 0 then F.WWL_TGT_RATE_EN else if k = 1 then F.WWL_DOM_RATE_EN else F.WWL_GRP_RATE_EN

def rateField (k : Nat) : Field :=
  if k = 0 then F.WWL_TGT_RATE_RATE else if k = 1 then F.WWL_DOM_RATE_RATE else F.WWL_GRP_RATE_RATE

def burstField (k : Nat) : Field :=
  if k = 0 then F.WWL_TGT_BURST_BURST else if k = 1 then F.WWL_DOM_BURST_BURST else F.WWL_GRP_BURST_BURST

def fbField (k : Nat) : Field :=
  if k = 0 then F.WWL_CTRL_FB_FULL_TGT else if k = 1 then F.WWL_CTRL_FB_FULL_DOM else F.WWL_CTRL_FB_FULL_GRP

/-- A bucket that has never been enabled. -/
def Bucket.zero : Bucket := ⟨0, false⟩

/-- The buckets of a kind. -/
def Wwl.kind (w : Wwl) (k : Nat) : SMap Bucket := if k = 0 then w.tgt else if k = 1 then w.dom else w.grp

/-- The bucket `i` of kind `k`. -/
def State.bucket (s : State) (k i : Nat) : Bucket := SMap.get Bucket.zero (s.wwl.kind k) i

/-- Replace a bucket. -/
def State.setBucket (s : State) (k i : Nat) (b : Bucket) : State :=
  let m := SMap.set Bucket.zero (s.wwl.kind k) i b
  { s with wwl := if k = 0 then { s.wwl with tgt := m } else if k = 1 then { s.wwl with dom := m } else { s.wwl with grp := m } }

/-- The cap (R221, R224). -/
def State.cap (s : State) (k i : Nat) : Int := (max (s.fld (burstField k) i) 1 : Nat) * 1000000

/-- The bucket applies: EN in force, and no parameter error since its parameters were written (R220, R225). -/
def State.applies (s : State) (k i : Nat) : Bool := s.bit (enField k) i && !(s.bucket k i).bad

/-- Replicas of a kind whose EN is in force. -/
def State.enabledBuckets (s : State) (k : Nat) : List Nat := (s.regIdxs (rateReg k)).filter (fun i => s.bit (enField k) i)

/-- T in ns (R221). -/
def State.tickLen (s : State) : Nat := (s.fld F.WWL_CTRL_TICK + 1) * 128

/-- A bucket falls back (R225). Causes 1 and 2 raise the error of R406. -/
def State.fallBack (s : State) (k i cause : Nat) : State :=
  let full := s.bit (fbField k)
  let b : Bucket := ⟨if full then s.cap k i else 0, (s.bucket k i).bad || cause == 1⟩
  let s := (s.setBucket k i b).raise F.WWL_STATUS_FALLBACK
  let s := s.logFirst F.WWL_RESET_FALLBACK_VALID F.WWL_RESET_FALLBACK_CNT 0
    [(F.WWL_RESET_FALLBACK_VALUE, bitNat full), (F.WWL_RESET_FALLBACK_KIND, k), (F.WWL_RESET_FALLBACK_CAUSE, cause),
     (F.WWL_RESET_FALLBACK_INDEX, i)]
  if cause = 3 then s else s.error 12 7 (if k = 1 then some i else none) i .none

/-- Replicas of a kind (R220). -/
def bucketCount (k : Nat) : Nat := if k = 0 then 65536 else if k = 1 then 4096 else 1024

/-- Every bucket of a kind falls back at once; parameters that are bad stay so. -/
def State.fallKind (s : State) (k : Nat) : State :=
  let full := s.bit (fbField k)
  let m : SMap Bucket := ((List.range (bucketCount k)).map (fun i =>
    (i, Bucket.mk (if full then s.cap k i else 0) (s.bucket k i).bad))).filter (fun x => x.2 ≠ Bucket.zero)
  { s with wwl := if k = 0 then { s.wwl with tgt := m } else if k = 1 then { s.wwl with dom := m } else { s.wwl with grp := m } }

/-- After a forward step of more than 1 ms every bucket falls back (R225 cause 3). All do so at the first update after
the step, target bucket 0 first in the record; the spec gives each its own next update (DESIGN CHOICE). -/
def State.settleBuckets (s : State) : State :=
  if s.wwl.jumped then
    let s := ({ s with wwl := { s.wwl with jumped := false } }).raise F.WWL_STATUS_FALLBACK
    let s := s.logFirst F.WWL_RESET_FALLBACK_VALID F.WWL_RESET_FALLBACK_CNT 0
      [(F.WWL_RESET_FALLBACK_VALUE, bitNat (s.bit (fbField 0))), (F.WWL_RESET_FALLBACK_KIND, 0),
       (F.WWL_RESET_FALLBACK_CAUSE, 3), (F.WWL_RESET_FALLBACK_INDEX, 0)]
    [0, 1, 2].foldl State.fallKind (s.setFld F.WWL_RESET_FALLBACK_CNT 0 1023)
  else s

/-- `m` refills of an enabled bucket at the parameters in force (R221). -/
def State.refill (s : State) (m k i : Nat) : State :=
  let b := s.bucket k i
  let r := s.fld (rateField k) i
  if b.bad ∨ r = 0 then s
  else s.setBucket k i { b with tok := min (b.tok + (m * r * s.tickLen : Nat)) (s.cap k i) }

/-- `m` refills of every enabled bucket. -/
def State.refillAll (s : State) (m : Nat) : State :=
  if m = 0 then s
  else [0, 1, 2].foldl (fun s k => (s.enabledBuckets k).foldl (fun s i => s.refill m k i) s) s

/-- New parameters of a bucket are in force (R223): a new EN fills it, a smaller cap clips it; `was` is the EN before. -/
def State.bucketSet (s : State) (k i : Nat) (was : Bool) : State :=
  let b := s.bucket k i
  if !was ∧ s.bit (enField k) i then s.setBucket k i { b with tok := s.cap k i }
  else s.setBucket k i { b with tok := min b.tok (s.cap k i) }

/-- Buffered values of a bucket take effect (R223). -/
def State.applyBucket (s : State) (k i : Nat) : State :=
  ((s.applyBnd (rateReg k) i).applyBnd (burstReg k) i).bucketSet k i (s.bit (enField k) i)

/-! ### The test of a head (R222, R224, R227) -/

/-- The buckets of a head. -/
def State.headBuckets (s : State) (h : Head) : List (Nat × Nat) :=
  ([(0, h.tgt)] ++ (match s.groupNo h.tgt with | some g => [(2, g)] | none => []) ++ [(1, h.dom)]).filter
    (fun b => s.applies b.1 b.2)

/-- What the shaper decides. -/
inductive ShapeRes where
  | pass
  | zero (k i : Nat)
  | wheel (n : Nat) (far : Bool)
  deriving DecidableEq, Repr

/-- The count of a bucket as this FCLK cycle began: debits of the cycle are not seen in it (R222). -/
def State.tokSeen (s : State) (k i : Nat) : Int :=
  (s.bucket k i).tok + ((s.wwl.debits.filter (· == (k, i))).length * 1000000 : Nat)

/-- Ticks until a bucket at or below 0 holds a positive count. -/
def State.ticksFor (s : State) (k i : Nat) : Nat :=
  let t := s.tokSeen k i
  if 0 < t then 0 else ((-t) / (s.fld (rateField k) i * s.tickLen : Nat)).toNat + 1

/-- The test itself, on the values with which the cycle began (R222, R224, R227). -/
def State.shapeRes (s : State) (h : Head) : ShapeRes :=
  let bs := s.headBuckets h
  match bs.find? (fun b => decide (s.fld (rateField b.1) b.2 = 0)) with
  | some b => .zero b.1 b.2
  | none =>
    let n := (bs.map (fun b => s.ticksFor b.1 b.2)).foldl max 0
    if n = 0 then .pass else if 4095 < n then .wheel 4095 true else .wheel n false

/-- Debit every applicable bucket of a head (R222). -/
def State.debit (s : State) (h : Head) : State :=
  (s.headBuckets h).foldl (fun s b =>
    let x := s.bucket b.1 b.2
    let s := s.setBucket b.1 b.2 { x with tok := x.tok - 1000000 }
    { s with wwl := { s.wwl with debits := s.wwl.debits ++ [b] } }) s

/-- What the SECDED check of a bucket word does (R225, R408). -/
def State.bucketEcc (s : State) (h : Head) (ecc : Ecc) : State :=
  let idx := fun (k : Nat) => if k = 0 then some h.tgt else if k = 1 then s.groupNo h.tgt else some h.dom
  let kind := fun (k : Nat) => if k = 0 then 0 else if k = 1 then 2 else 1
  let go := fun (k cause : Nat) => match idx k with
    | some i => s.fallBack (kind k) i cause
    | none => s
  match ecc with
  | .cor (.bucketState _) => s.error 9 7 none (Config.recordIndex 5 s.dep.n).toNat .none
  | .cor (.bucketParam _) => s.error 9 7 none (Config.recordIndex 5 s.dep.n).toNat .none
  | .unc (.bucketState k) => go k.val 2
  | .uncDomain (.bucketState k) => go k.val 2
  | .unc (.bucketParam k) => go k.val 1
  | .uncDomain (.bucketParam k) => go k.val 1
  | _ => s

/-- The tracked sample of a head passes the shaper. -/
def State.sampleShape (s : State) (h : Head) : State :=
  if h.kind = .live then s.onSample h.eid (fun m => { m with shaped := some s.tim.ft }) else s

/-- A head that passed: its buckets are debited and it goes to the gate, behind those that stand there already (R234). -/
def State.shapePass (s : State) (h : Head) (ecc : Ecc) : State :=
  ((s.debit h).sampleShape h).gateHead h 3 ecc

/-- A head that must wait. -/
def State.shapeWait (s : State) (h : Head) (r : ShapeRes) : State :=
  match r with
  | .pass => s
  | .zero k i => (s.raise F.WWL_STATUS_ZERO_BLOCK).enterStage h (.zero k i)
  | .wheel n far =>
    let s := if far then s.raise F.WWL_STATUS_FAR else s
    s.enterStage h (.wheel ((s.wwl.tick + n) % 4096))

/-- One test of a head. -/
def State.shapeHead (s : State) (h : Head) (ecc : Ecc) : State :=
  match s.shapeRes h with
  | .pass => s.shapePass h ecc
  | w => s.shapeWait h w

/-- The test of a head whose slot has come due; `ecc` is what its word holds. -/
def State.testDue (s : State) (h : Head) (ecc : Ecc) : State :=
  let p := if s.shapeRes h = .pass then 1 else 0
  { s with wwl := { s.wwl with tests := s.wwl.tests + 1, passes := s.wwl.passes + p } }.readHead h ecc (fun s => s.shapeHead h .none)

/-- The test of a head of the input queue. -/
def State.testInput (s : State) (h : Head) (ecc : Ecc) : State :=
  { s with wwl := { s.wwl with inputs := s.wwl.inputs + 1 } }.shapeHead h ecc

/-- Re-tests of this cycle, in slot order: four, of which two may pass (R228); `ecc` is what the first one finds. -/
def State.runDue (ecc : Ecc) : Nat → State → State
  | 0, s => s
  | n + 1, s =>
    if 4 ≤ s.wwl.tests ∨ 2 ≤ s.wwl.passes + s.wwl.inputs then s
    else
      match s.rnk.heads.find? (fun h => h.stage == .due) with
      | none => s
      | some h => State.runDue .none n (s.testDue h ecc)

/-- Tests from the input queue, oldest first: two in a cycle, less one for each re-test that passed (R228). `seen` is the
target of the head whose words were found with `ecc`. -/
def State.runInput (seen : Option Nat) (ecc : Ecc) : Nat → State → State
  | 0, s => s
  | n + 1, s =>
    if 2 ≤ s.wwl.passes + s.wwl.inputs then s
    else
      match s.rnk.heads.find? (fun h => h.stage == .input) with
      | none => s
      | some h => State.runInput seen ecc n (s.testInput h (if seen = some h.tgt then ecc else .none))

/-! ### Refill ticks (R221, R223, R228, R307) -/

/-- Insert a head behind those whose slot comes due no later. -/
def insertDue (x : Nat × Head) : List (Nat × Head) → List (Nat × Head)
  | [] => [x]
  | y :: r => if x.1 < y.1 then x :: y :: r else y :: insertDue x r

/-- Heads of the slots that come due with the next `n` ticks, in slot order and, within a slot, in the order in which
they entered it (R228). -/
def State.dueHeads (s : State) (n : Nat) : List Head :=
  ((s.rnk.heads.filterMap (fun h => match h.stage with
    | .wheel k => if (k + 4096 - (s.wwl.tick + 1) % 4096) % 4096 < n then some ((k + 4096 - (s.wwl.tick + 1) % 4096) % 4096, h) else none
    | _ => none)).foldl (fun l x => insertDue x l) []).map (·.2)

/-- Heads on zero lists whose bucket no longer blocks them. -/
def State.freedZero (s : State) : List Head :=
  s.rnk.heads.filter (fun h => match h.stage with
    | .zero k i => !s.applies k i || decide (s.fld (rateField k) i ≠ 0)
    | _ => false)

/-- The buckets of one kind whose EN is in force. -/
def State.inForce (s : State) : List (Nat × Nat) := [0, 1, 2].flatMap (fun k => (s.enabledBuckets k).map (fun i => (k, i)))

/-- Heads in the calendar that waited only on buckets whose EN has just gone (R223): they belong to one of `gone`, and
no other bucket holds them. -/
def State.freedWheel (s : State) (gone : List (Nat × Nat)) : List Head :=
  s.rnk.heads.filter (fun h => (match h.stage with | .wheel _ => true | _ => false)
    && (gone.contains (0, h.tgt) || gone.contains (1, h.dom)
      || (match s.groupNo h.tgt with | some g => gone.contains (2, g) | none => false))
    && decide (s.shapeRes h = .pass))

/-- Heads in the calendar, on zero lists, or waiting for their re-test (WWL_WHEEL.WAITING). -/
def State.shapedHeads (s : State) : List Head :=
  s.rnk.heads.filter (fun h => match h.stage with | .wheel _ => true | .zero _ _ => true | .due => true | _ => false)

/-- What the SECDED check of a bucket word does at a refill: which bucket of the kind it is, no command says (R225,
R408). -/
def State.refillEcc (s : State) (ecc : Ecc) : State :=
  let kind := fun (k : Fin 3) => if k.val = 0 then 0 else if k.val = 1 then 2 else 1
  let go := fun (k : Fin 3) (cause : Nat) =>
    s.fallBack (kind k) ((Config.recordIndex 5 s.dep.n).toNat % bucketCount (kind k)) cause
  match ecc with
  | .cor (.bucketState _) | .cor (.bucketParam _) => s.error 9 7 none (Config.recordIndex 5 s.dep.n).toNat .none
  | .unc (.bucketState k) | .uncDomain (.bucketState k) => go k 2
  | .unc (.bucketParam k) | .uncDomain (.bucketParam k) => go k 1
  | _ => s

/-- The block brings its buckets up to date to the last tick at or before the present fabric time (R221, R227): the
refill of the first tick due at the parameters in force, the buffered values, then the refills of the other ticks due.
After a jump the ticks are not credited (R225). The heads whose slots came due, whose bucket no longer blocks them, and
those that waited only on a bucket whose EN has gone, in this order, wait for their re-test (R223, R224, R228; DESIGN
CHOICE of the order). -/
def State.catchUp (s : State) (ecc : Ecc) : State :=
  if s.ns < s.wwl.tickAt ∨ s.saving then s
  else
    let s := s.refillEcc ecc
    let fell := s.wwl.jumped
    let s := s.settleBuckets
    let s := if fell then s else s.refillAll 1
    let was := s.inForce
    let s := [0, 1, 2].foldl (fun s k =>
      ((s.bndIdxs (rateReg k)) ++ (s.bndIdxs (burstReg k))).dedup.foldl (fun s i => s.applyBucket k i) s) s
    let s := s.applyBndAll .VFM_SHARE
    let s := s.applyBnd .WWL_CTRL 0
    let gone := was.filter (fun b => !s.bit (enField b.1) b.2)
    let next := (s.wwl.tickAt / s.tickLen + 1) * s.tickLen
    let m := if s.ns < next then 0 else (s.ns - next) / s.tickLen + 1
    let s := if fell then s else s.refillAll m
    let slots := s.dueHeads (m + 1)
    let s := { s with wwl := { s.wwl with tick := s.wwl.tick + 1 + m, tickAt := next + m * s.tickLen } }
    let l := slots ++ s.freedZero ++ (s.freedWheel gone).filter (fun h => !slots.contains h)
    l.foldl (fun (s : State) h => s.enterStage h .due) s

/-- The shaper's tests in what is left of this cycle (R228). -/
def State.shapeRun (s : State) (seen : Option Nat) (ecc : Ecc) (due : Ecc := .none) : State :=
  if s.standby ∨ s.halted then s
  else if s.rnk.heads.any (fun h => h.stage == .due || h.stage == .input) then
    State.runInput seen ecc 2 (State.runDue due 4 (s.catchUp .none))
  else s

/-- REFILL_TICK: fabric time has reached the next multiple of T. -/
def State.refillTick (s : State) (ecc : Ecc) : State :=
  if s.ns < s.wwl.tickAt then s else (s.catchUp ecc).shapeRun none .none ecc

/-- A new FCLK cycle: its tests and its places are all free. -/
def State.newCycle (s : State) : State :=
  { s with wwl := { s.wwl with tests := 0, passes := 0, inputs := 0, debits := [] }, oas := { s.oas with placed := 0 }, cvn := { s.cvn with waits := [] } }

/-! ### Hand-over (R212) -/

/-- What the SECDED check of a rank-store place does (R408). False: the place is discarded, and the domain's PENDING
entries are offered again. -/
def State.rankEcc (s : State) (o : Offer) (ecc : Ecc) : Bool × State :=
  match ecc with
  | .cor .rankPlace => (true, s.error 9 6 none (Config.recordIndex 3 s.dep.n).toNat .none)
  | .unc .rankPlace =>
    let s := { s with rnk := { s.rnk with offers := s.rnk.offers.filter (· ≠ o) } }
    (false, (s.error 8 6 (some o.dom) (Config.recordIndex 3 s.dep.n).toNat .dom).offerDomain o.dom)
  | .uncDomain .rankPlace => (false, s.error 26 6 none (Config.recordIndex 3 s.dep.n).toNat .all)
  | _ => (true, s)

/-- Other words a hand-over may find damaged (R408). -/
def State.handEcc (s : State) (ecc : Ecc) : State :=
  match ecc with
  | .cor .egressWrite => s.error 9 9 none (Config.recordIndex 10 s.dep.n).toNat .none
  | .unc .egressWrite => s.error 26 9 none (Config.recordIndex 10 s.dep.n).toNat .all
  | .uncDomain .egressWrite => s.error 26 9 none (Config.recordIndex 10 s.dep.n).toNat .all
  | .cor .imageTables => s.error 9 15 none (Config.recordIndex 11 s.dep.n).toNat .none
  | .unc .imageTables => s.error 26 15 none (Config.recordIndex 11 s.dep.n).toNat .all
  | .uncDomain .imageTables => s.error 26 15 none (Config.recordIndex 11 s.dep.n).toNat .all
  | _ => s

/-- The head of a target that hand-over has chosen goes to the Route Resolver and into the shaper's input queue; `ecc` is
what the reads on its way find. -/
def State.handOne (s : State) (t : Nat) (ecc : Ecc) : State :=
  match s.headOf t with
  | none => s
  | some o =>
    let (ok, s) := s.rankEcc o ecc
    if !ok then s
    else
      match s.launch t with
      | none => s
      | some (h, s) =>
        let h := { h with held := SMap.get 0 s.tel.holds h.eid }
        let (go, s) := (s.putHead h).routeHead h
        if !go then s
        else
          ((s.handEcc ecc).readHead h ecc (fun s => (s.bucketEcc h ecc).enterStage h .input))

/-- The shaper's input queue takes two more heads (R228). -/
def State.inputRoom (s : State) : Bool := decide ((s.rnk.heads.filter (fun h => h.stage == .input)).length < 15)

/-- HAND_OVER: at most two heads, of two different targets, both chosen before either goes on (R212). A STANDBY or a
halted block hands over nothing. -/
def State.handOver (s : State) (ecc : Ecc) : State :=
  if s.standby ∨ s.halted ∨ !s.inputRoom then s
  else
    match s.chooseTake [] with
    | none => s
    | some (t, s) =>
      match s.chooseTake [t] with
      | none => (s.handOne t ecc).shapeRun (some t) ecc
      | some (u, s) => ((s.handOne t ecc).handOne u .none).shapeRun (some t) ecc

/-! ### Parked heads (R241) -/

/-- The cause that parked a head has cleared. -/
def State.parkCleared (s : State) (h : Head) : Bool :=
  match h.stage with
  | .parked .hport => !s.portDown (s.ringPort (some h.tgt))
  | .parked .full => !s.ringFull (some h.tgt)
  | .parked .journal => (s.jOffer h.dom (s.headRecord h)).1
  | .parked .miss => h.lineHeld
  | _ => false

/-- The first parked head, in parking order, whose cause has cleared returns to the gate; `ecc` is what its words hold. -/
def State.parkedReturn (s : State) (ecc : Ecc) : State :=
  match s.rnk.heads.find? (fun h => s.parkCleared h) with
  | none => s
  | some h => s.readHead h ecc (fun s => s.gateHead h 2 ecc)

/-- Parked heads whose cause has cleared return to the gate while the cycle has a place for them, in parking order (R234, R241). -/
def State.parkedAll (s : State) : State :=
  s.rnk.heads.foldl (fun (s : State) h =>
    if decide (s.oas.placed < 2) && s.rnk.heads.contains h && s.parkCleared h then s.gateHead h 2 .none else s) s

/-- The places of a new cycle, in their order: openings, parked heads, the shaper (R234). -/
def State.placeHeads (s : State) : State :=
  ((((s.gateHeads s.openings 1 .none).gateLine 2).parkedAll).gateLine 3).shapeRun none .none

end Sys2Proof.Machine
end

