-- ==== Sys2Proof/Machine/Complete.lean ====
section
/-! DEFINITION. Completion: doorbells, the consumer index, register doorbells, CMP_FORCE, redelivery and LOST entries
(R236, R244, R248 to R254). -/

namespace Sys2Proof.Machine

/-! ### Active records -/

/-- The active record a doorbell for an EID is held to: the first that it matches, the live one before replay records,
else the first (R277). -/
def State.activeOf (s : State) (eid : Nat) (hport : Option Nat) (seq : Option Nat) : Option ActiveRec :=
  let l := s.dlv.active.filter (fun a => a.eid == eid && !a.replay) ++ s.dlv.active.filter (fun a => a.eid == eid && a.replay)
  (l.find? (fun a => hport.all (· == a.hport) && seq.all (· == a.seq))).orElse (fun _ => l.head?)

/-- Free an active record: its timer stops, and its redelivery or its expiry that waits for room is withdrawn (R249, R252,
R254). -/
def State.freeRec (s : State) (a : ActiveRec) : State :=
  let s := { s with dlv := { s.dlv with
    active := s.dlv.active.erase a
    lostRetry := s.dlv.lostRetry.filter (fun r => recFld r 0 24 ≠ a.eid ∨ recFld r 24 8 ≠ a.seq) } }
  let s := if a.replay ∨ a.fault then s
    else { s with rnk := { s.rnk with
      heads := s.rnk.heads.filter (fun h => !(h.eid == a.eid && h.tgt == a.tgt && h.kind.isRedeliv)) } }
  s.mirrorDeliv a.eid a.tgt a.hport false 0 a.fault

/-- What the SECDED check of an active record does (R408). False: the record is freed and its entry stays ACTIVE. -/
def State.activeEcc (s : State) (a : ActiveRec) (ecc : Ecc) : Bool × State :=
  match ecc with
  | .cor .activeRecord => (true, s.error 9 9 none (Config.recordIndex 8 s.dep.n).toNat .none)
  | .unc .activeRecord => (false, (s.freeRec a).error 8 9 (some a.dom) (Config.recordIndex 8 s.dep.n).toNat .dom)
  | .uncDomain .activeRecord => (false, s.error 26 9 none (Config.recordIndex 8 s.dep.n).toNat .all)
  | _ => (true, s)

/-- The CPL probe of a completion (R387): EVENT entries only. -/
def State.cplProbe (s : State) (a : ActiveRec) : State :=
  if a.fault then s
  else s.probe 3 ((s.tim.ft - a.issued) / 45) (some a.dom) (s.groupNo a.tgt) (some a.hport)

/-- A completion of the entry waits for its line. -/
def State.completing (s : State) (eid : Nat) : Bool :=
  s.sst.comps.any (fun x => x.1 == eid)
    || s.sst.missq.any (fun m => m.inputs.any (fun i => match i with | .complete e _ => e == eid | _ => false))

/-- A completion that matched its record: the record is freed, and unless it is a replay record DONE follows at the
entry (R249, R277), at once or when its line has come; until then the delivery counts at its target (R207). -/
def State.finish (s : State) (a : ActiveRec) (ecc : Ecc) : State :=
  let s := (s.cplProbe a).freeRec a
  if a.replay then s.pumpHeads
  else
    let s := s.completeAt a.eid none ecc
    (if s.completing a.eid then { s with dlv := { s.dlv with closing := s.dlv.closing ++ [a] } } else s).pumpHeads

/-! ### Doorbells (R248, R249) -/

/-- A logged doorbell (R249): `hport` is 0 for a register doorbell. The owner of a named ring counts it (R379). -/
def State.logDoorbell (s : State) (cause hport woff data : Nat) : State :=
  let s := s.logFirst F.CMP_DB_LOG_VALID F.CMP_DB_LOG_CNT 0
    [(F.CMP_DB_LOG_CAUSE, cause), (F.CMP_DB_LOG_HPORT, hport), (F.CMP_DB_LOG_TARGET, woff % 2 ^ 16),
     (F.CMP_DB_DATA_DATA, data)]
  if woff / 2 ^ 20 % 4 = 2 ∧ woff / 2 ^ 16 % 2 = 0 then s.countD (s.fld F.RTE_TGT_CFG_OWNER (woff % 2 ^ 16)) 21 else s

/-- The arm of R244: the standalone notification when entries remain, else ARM. Only NMODE ARMED arms a notification;
under NONE nothing is written, and under EVERY only after an entry. -/
def State.armRing (s : State) (r : Option Nat) : State :=
  if 0 < s.ringUsed r ∧ s.ringNmode r = 2 then
    let dom := match r with | some t => s.fld F.RTE_TGT_CFG_OWNER t | none => 0
    (s.sendWrite (s.notifyWrite r dom)).setArm false r
  else s.setArm true r

/-- How far a ring index lies past CI, in entries modulo 2^21. -/
def State.pastCi (s : State) (r : Option Nat) (i : Nat) : Nat := (i + 2 ^ 21 - s.ringCi r) % 2 ^ 21

/-- A consumer index (R236). False: it is refused. -/
def State.consume (s : State) (r : Option Nat) (ci : Nat) (arm : Bool) : Bool × State :=
  if s.pastCi r ci ≤ s.pastCi r (s.ringPi r) then
    let s := s.setCi ci r
    let s := s.mirrorCfg (match r with | some t => 0x60002c + 64 * t | none => 0x1701c) (BitVec.ofNat 32 ci)
    (true, if arm then s.armRing r else s)
  else (false, s.raise F.DLV_STATUS_CI_BAD)

/-- The ring a CONSUME names (R248). -/
def doorRing (woff : Nat) : Option Nat := if woff / 2 ^ 16 % 2 = 1 then none else some (woff % 2 ^ 16)

/-- CONSUME through a window (`some` host port) or a register (R249, R250). False: it was logged. -/
def State.doConsume (s : State) (hport : Option Nat) (woff data : Nat) : Bool × State :=
  let r := doorRing woff
  let log := fun c => (false, s.logDoorbell c (hport.getD 0) woff data)
  if s.ringOrder r = 0 then log 4
  else if hport.any (fun h => h ≠ s.ringPort r) then log 2
  else
    let (ok, s') := s.consume r (data % 2 ^ 21) (data / 2 ^ 31 = 1)
    if ok then (true, s') else (false, s'.logDoorbell 3 (hport.getD 0) woff data)

/-- A COMPLETE of an EID without an active record is stray; a COMPLETE_ANY completes an ACTIVE entry (R249, R251). -/
def State.completeBare (s : State) (any : Bool) (eid : Nat) (ecc : Ecc) : Bool × State :=
  if any ∧ (s.entryNow eid).st = .active then (true, (s.completeAt eid none ecc).pumpHeads) else (false, s.stray eid)

/-- COMPLETE or COMPLETE_ANY (R249). A record found damaged is freed, and the doorbell finds none (R408). An entry restored as ACTIVE has no record: COMPLETE_ANY completes it (R251).
A saved domain's doorbells are stray (R318). False: logged or stray. -/
def State.doComplete (s : State) (hport : Option Nat) (any : Bool) (woff data : Nat) (ecc : Ecc) : Bool × State :=
  let eid := data % 2 ^ 24
  if (s.img.domainOf eid).any (fun d => s.bit F.VFM_DOM_STAT_SAVED d || (SMap.find s.vfm.saves d).isSome) then
    (false, (s.stray eid).bump F.VFM_SAVE_LOST_CNT ((s.img.domainOf eid).getD 0))
  else
  match s.activeOf eid hport (if any then none else some (data / 2 ^ 24)) with
  | none => s.completeBare any eid ecc
  | some a =>
    let (ok, s) := s.activeEcc a ecc
    if !ok then s.completeBare any eid .none
    else if hport.any (fun h => h ≠ a.hport) then (false, s.logDoorbell 2 (hport.getD 0) woff data)
    else if !any ∧ data / 2 ^ 24 ≠ a.seq then (false, s.stray eid)
    else (true, s.finish a ecc)

/-- A doorbell by OP (R248, R249). -/
def State.doorbell (s : State) (hport : Option Nat) (woff data : Nat) (ecc : Ecc) : Bool × State :=
  match woff / 2 ^ 20 % 4 with
  | 0 => s.doComplete hport false woff data ecc
  | 1 => s.doComplete hport true woff data ecc
  | 2 => s.doConsume hport woff data
  | _ => (false, s.logDoorbell 1 (hport.getD 0) woff data)

/-! ### Register doorbells (R250) -/

/-- Refusals of CMP_DBCMD: the EID or the ring lies outside the domain. -/
def State.dbOutside (s : State) (d : Nat) : Bool :=
  let data := (s.reg .CMP_DBDATA d).toNat
  match s.fld F.CMP_DBCMD_OP d with
  | 2 => if s.bit F.CMP_DBCMD_FRING d then d ≠ 0
         else s.fld F.RTE_TGT_CFG_OWNER (s.fld F.CMP_DBCMD_TARGET d) ≠ d
  | _ => !s.img.inDomain d (data % 2 ^ 24)

/-- The doorbell window offset that an OP, FRING and TARGET stand for (R159). -/
def dbOffset (op fring tgt : Nat) : Nat := op * 2 ^ 20 + fring * 2 ^ 16 + tgt

/-- The report of a doorbell given by CMP_DBCMD (R250). -/
def State.dbEnd (d : Nat) (r : Bool × State) : State := r.2.setFld F.CMP_DBCMD_ERR d (if r.1 then 0 else 3)

/-- CMP_DBCMD of a domain (R250, R429). -/
def State.startDb (s : State) (d : Nat) (ecc : Ecc) : State :=
  let op := s.fld F.CMP_DBCMD_OP d
  if s.dbOutside d then s.setFld F.CMP_DBCMD_ERR d 1
  else if op = 3 then s.setFld F.CMP_DBCMD_ERR d 2
  else
    State.dbEnd d (s.doorbell none (dbOffset op (s.fld F.CMP_DBCMD_FRING d) (s.fld F.CMP_DBCMD_TARGET d))
      (s.reg .CMP_DBDATA d).toNat ecc)

/-- CMP_FORCE: completes an ACTIVE EID without the HPORT and SEQ checks (R250, R251). -/
def State.startForce (s : State) (ecc : Ecc) : State :=
  let eid := s.fld F.CMP_FORCE_EID
  if (s.entryNow eid).st ≠ .active then s.setFld F.CMP_FORCE_ERR 0 1
  else
    let s := s.setFld F.CMP_FORCE_ERR 0 0
    match s.dlv.active.find? (fun a => a.eid == eid && !a.replay) with
    | some a =>
      let (ok, s) := s.activeEcc a ecc
      if ok then s.finish a ecc else (s.completeAt eid none .none).pumpHeads
    | none => (s.completeAt eid none ecc).pumpHeads

/-! ### Redelivery (R252 to R254) -/

/-- A LOST entry waits for the fault ring, or for room in its list (R254). -/
def State.pushLost (s : State) (r : Rec) : State :=
  if s.dlv.lost.length < 1024 then { s with dlv := { s.dlv with lost := s.dlv.lost ++ [r] } }
  else { s with dlv := { s.dlv with lostRetry := s.dlv.lostRetry ++ [r] } }

/-- The LOST entry of a delivery: REASON counts the redeliveries made (R238). -/
def State.lostEntry (s : State) (a : ActiveRec) (reason : Nat) : Rec := s.entryAgain a.entry reLost reason false

/-- The timer of a record has expired, at the RD_TIMEOUT in force now; 0 is off (R252). A STANDBY delivers
nothing (R295). -/
def State.expired (s : State) (a : ActiveRec) : Bool :=
  !s.standby && !a.fault && decide (s.fld F.CMP_TGT_CFG_RD_TIMEOUT a.tgt ≠ 0)
    && a.timer.any (fun t => decide (s.fld F.CMP_TGT_CFG_RD_TIMEOUT a.tgt * 45000 ≤ t))

/-- Stop the timer of a record. -/
def State.stopTimer (s : State) (a : ActiveRec) : State :=
  { s with dlv := { s.dlv with active := s.dlv.active.map (fun x => if x = a then { a with timer := none } else x) } }

/-- An expiry: a redelivery goes to the gate, or a LOST entry to the fault ring (R252, R253). -/
def State.expire (s : State) (a : ActiveRec) : State :=
  let s := s.stopTimer a
  if s.caravan a.dom ∨ a.rdMax ≤ a.redelivs then
    let reason := if s.caravan a.dom then 0 else a.rdMax
    s.pushLost (s.lostEntry a reason)
  else
    let h : Head := ⟨a.eid, a.dom, a.tgt, a.p, none, .redeliv a.entry, .rte 0, false, false, s.tim.ft, 0, s.tim.ft⟩
    s.gateHead h 3 .none

/-- REDELIVERY_TIMEOUT of an EID: the live record before a replay record. -/
def State.redeliveryTimeout (s : State) (eid : Nat) : State :=
  match s.dlv.active.find? (fun a => a.eid == eid && s.expired a) with
  | none => s
  | some a => s.expire a

/-- Expiries that found the list full are tried again (R254). -/
def State.lostAgain (s : State) : State :=
  let l := s.dlv.lostRetry
  l.foldl (fun (s : State) r => s.pushLost r) { s with dlv := { s.dlv with lostRetry := [] } }

end Sys2Proof.Machine
end

