-- ==== Sys2Proof/Machine/Police.lean ====
section
/-! DEFINITION. Meters and policing (R146 to R151). -/

namespace Sys2Proof.Machine

/-- A colour. -/
inductive Colour where
  | green
  | yellow
  | red
  deriving DecidableEq, Repr

/-- The worse of two colours. -/
def Colour.worse (a b : Colour) : Colour :=
  match a, b with
  | .red, _ => .red
  | _, .red => .red
  | .yellow, _ => .yellow
  | _, .yellow => .yellow
  | _, _ => .green

/-- PRECOLOUR of a translation entry: the reserved code counts as red (R148). -/
def Colour.ofPre (n : Nat) : Colour := if n = 0 then .green else if n = 1 then .yellow else .red

/-- A meter never used: empty buckets, last updated at fabric time 0. -/
def Meter.zero : Meter := ⟨0, 0, 0, false⟩

/-- The meter arrays: `true` for POL_DOM_MTR, indexed by domain; `false` for POL_SRC_MTR, indexed by ordinal (R147). -/
def State.meter (s : State) (dom : Bool) (i : Nat) : Meter :=
  SMap.get Meter.zero (if dom then s.src.domMtr else s.src.srcMtr) i

def State.setMeter (s : State) (dom : Bool) (i : Nat) (m : Meter) : State :=
  if dom then { s with src := { s.src with domMtr := SMap.set Meter.zero s.src.domMtr i m } }
  else { s with src := { s.src with srcMtr := SMap.set Meter.zero s.src.srcMtr i m } }

/-- The parameters of a meter. -/
structure MeterPar where
  en : Bool
  alg : Bool
  aware : Bool
  yel : Nat
  red : Nat
  force : Bool
  cir : Nat
  pir : Nat
  cbs : Nat
  pbs : Nat
  deriving DecidableEq, Repr

/-- The registers of a meter. -/
def State.meterPar (s : State) (dom : Bool) (i : Nat) : MeterPar :=
  if dom then
    ⟨s.bit F.POL_DOM_MTR_CFG_EN i, s.bit F.POL_DOM_MTR_CFG_ALG i, s.bit F.POL_DOM_MTR_CFG_AWARE i,
     s.fld F.POL_DOM_MTR_CFG_YEL_ACT i, s.fld F.POL_DOM_MTR_CFG_RED_ACT i, s.bit F.POL_DOM_MTR_CFG_FORCE i,
     s.fld F.POL_DOM_MTR_CIR_CIR i, s.fld F.POL_DOM_MTR_PIR_PIR i, s.fld F.POL_DOM_MTR_CBS_CBS i,
     s.fld F.POL_DOM_MTR_PBS_PBS i⟩
  else
    ⟨s.bit F.POL_SRC_MTR_CFG_EN i, s.bit F.POL_SRC_MTR_CFG_ALG i, s.bit F.POL_SRC_MTR_CFG_AWARE i,
     s.fld F.POL_SRC_MTR_CFG_YEL_ACT i, s.fld F.POL_SRC_MTR_CFG_RED_ACT i, s.bit F.POL_SRC_MTR_CFG_FORCE i,
     s.fld F.POL_SRC_MTR_CIR_CIR i, s.fld F.POL_SRC_MTR_PIR_PIR i, s.fld F.POL_SRC_MTR_CBS_CBS i,
     s.fld F.POL_SRC_MTR_PBS_PBS i⟩

/-- One event, in micro-events. -/
def oneEvent : Nat := 1000000

/-- Capacity of a bucket: a burst of 0 is treated as 1 (R148). -/
def burstCap (b : Nat) : Nat := max b 1 * oneEvent

/-- The second bucket's rate: under ALG 0 a PIR below CIR is used as if it equalled CIR. -/
def MeterPar.pirUsed (q : MeterPar) : Nat := if q.alg then q.pir else max q.pir q.cir

/-- Bring both buckets up to date at time `t` (R148). -/
def Meter.update (m : Meter) (q : MeterPar) (t : Nat) : Meter :=
  { m with tc := min (m.tc + q.cir * (t - m.last)) (burstCap q.cbs),
           tp := min (m.tp + q.pirUsed * (t - m.last)) (burstCap q.pbs), last := t }

/-- Both buckets full at time `t` (R149, R151). -/
def Meter.fill (m : Meter) (q : MeterPar) (t : Nat) : Meter :=
  { m with tc := burstCap q.cbs, tp := burstCap q.pbs, last := t }

/-- The two markers on updated buckets (R148). -/
def Meter.mark (m : Meter) (q : MeterPar) (pre : Colour) : Colour × Meter :=
  let pre := if q.aware then pre else .green
  if !q.alg then
    if pre = .red ∨ m.tp < oneEvent then (.red, m)
    else if pre = .yellow ∨ m.tc < oneEvent then (.yellow, { m with tp := m.tp - oneEvent })
    else (.green, { m with tp := m.tp - oneEvent, tc := m.tc - oneEvent })
  else
    if pre = .green ∧ oneEvent ≤ m.tc then (.green, { m with tc := m.tc - oneEvent })
    else if pre ≠ .red ∧ oneEvent ≤ m.tp then (.yellow, { m with tp := m.tp - oneEvent })
    else (.red, m)

/-- A refilled meter after the green event it is debited for (R151). -/
def Meter.greenDebit (m : Meter) (q : MeterPar) : Meter :=
  if q.alg then { m with tc := m.tc - oneEvent } else { m with tc := m.tc - oneEvent, tp := m.tp - oneEvent }

/-- What the SECDED checks of a meter find: parameters that are lost disable the meter until its next write; bucket
state that is lost refills it (R151). True: the event is green here. -/
def State.meterEcc (s : State) (dom : Bool) (i : Nat) (ecc : Ecc) : Bool × State :=
  let named := if dom then some i else none
  match ecc with
  | .unc (.meterParam x) | .uncDomain (.meterParam x) =>
    if x = dom then (false, (s.setMeter dom i { s.meter dom i with paramBad := true }).error 11 3 named i .none)
    else (false, s)
  | .unc (.meterState x) | .uncDomain (.meterState x) =>
    let q := s.meterPar dom i
    if x = dom ∧ q.en then
      (true, ((s.setMeter dom i (((s.meter dom i).fill q s.ns).greenDebit q)).countG 0x24).error 10 3 none i .none)
    else (false, s)
  | .cor (.meterParam x) | .cor (.meterState x) => if x = dom then (false, s.error 9 3 none i .none) else (false, s)
  | _ => (false, s)

/-- An event reaches one meter with colour `pre`; `first` says that it is the first meter applied. A disabled meter
passes its input through, or green when it is the first (R146). -/
def State.meterOne (s : State) (dom : Bool) (i : Nat) (pre : Colour) (first : Bool) (ecc : Ecc) : Colour × State :=
  let (green, s) := s.meterEcc dom i ecc
  let q := s.meterPar dom i
  let m := s.meter dom i
  if !q.en ∨ m.paramBad then (if first then .green else pre, s)
  else if green then (.green, s)
  else
    let r := (m.update q s.ns).mark q pre
    (r.1, s.setMeter dom i r.2)

/-- The final colour of an event and the meter whose actions apply (R146); none with MSEL 0b00. -/
def State.meters (s : State) (msel pre ord d : Nat) (ecc : Ecc) : Colour × Option (Bool × Nat) × State :=
  let p := Colour.ofPre pre
  match msel with
  | 0 => (.green, none, s)
  | 1 => let (c, s) := s.meterOne false ord p true ecc; (c, some (false, ord), s)
  | 2 => let (c, s) := s.meterOne true d p true ecc; (c, some (true, d), s)
  | _ =>
    let (c1, s) := s.meterOne false ord p true ecc
    let (c2, s) := s.meterOne true d c1 false ecc
    (if (s.meterPar true d).aware then c2 else c1.worse c2, some (true, d), s)

/-- What policing decides. -/
inductive Verdict where
  | pass (mark : Bool)
  | drop
  deriving DecidableEq, Repr

/-- Policing of an event of domain `d` (R150). In a CARAVAN domain a mark is not set and a drop lets the event pass, unless FORCE
carries it out, which breaks condition 4. -/
def State.police (s : State) (msel pre ord d : Nat) (ecc : Ecc) : Verdict × State :=
  let (c, who, s) := s.meters msel pre ord d ecc
  let s := s.countD d (match c with | .green => 4 | .yellow => 5 | .red => 6)
  let act := match who with
    | none => 0
    | some (b, i) =>
      let q := s.meterPar b i
      match c with
      | .green => 0
      | .yellow => q.yel
      | .red => q.red
  let force := who.any (fun x => (s.meterPar x.1 x.2).force)
  if act = 2 then
    if !s.caravan d then (.drop, s.countD d 7)
    else if force then (.drop, (s.countD d 7).breach d 4)
    else (.pass false, s.countD d 0)
  else (.pass (act == 1 && !s.caravan d), s.countD d 0)

/-- An FLR or DOMAIN reset refills the domain's meter and the source meters whose translation entry names it; an entry
with VALID 0 names no domain (DEDUCED) (R151). -/
def State.refillMeters (s : State) (d : Nat) : State :=
  let full := fun (s : State) (dom : Bool) (i : Nat) =>
    s.setMeter dom i ((s.meter dom i).fill (s.meterPar dom i) s.ns)
  let s := full s true d
  (s.src.xlate.filter (fun x => x.2.getLsbD 127 && (x.2.extractLsb' 96 12).toNat == d && !s.src.xlateBad.contains x.1)).foldl (fun s x => full s false x.1) s

/-- A write to a rate or burst of a meter, before it takes effect (R149): the buckets of an enabled meter come up to date
at the old values. -/
def State.meterBefore (s : State) (dom : Bool) (i : Nat) : State :=
  let q := s.meterPar dom i
  let m := s.meter dom i
  if q.en ∧ !m.paramBad then s.setMeter dom i (m.update q s.ns) else s

/-- After it has taken effect: an enable, and the first write after lost parameters, fill the buckets (R149, R151). -/
def State.meterAfter (s : State) (dom : Bool) (i : Nat) (wasEn : Bool) : State :=
  let q := s.meterPar dom i
  let m := s.meter dom i
  let s := s.setMeter dom i { m with paramBad := false }
  if q.en ∧ (!wasEn ∨ m.paramBad) then s.setMeter dom i ({ m with paramBad := false }.fill q s.ns) else s

end Sys2Proof.Machine
end

