-- ==== Sys2Proof/Machine/Intake.lean ====
section
/-! DEFINITION. Carriage ingress, the lanes, the Source Table, translation, the checks of intake, INTx, line inputs and
doorbell windows (R38 to R40, R47, R128 to R145, R152 to R154). -/

namespace Sys2Proof.Machine

/-! ### Descriptors (R38) -/

def dKind (r : Rec) : Nat := recFld r 124 4
def dSeg (r : Rec) : Nat := recFld r 120 4
def dRid (r : Rec) : Nat := recFld r 104 16
def dHport (r : Rec) : Nat := recFld r 97 7
def dPoison (r : Rec) : Bool := r.getLsbD 96
def dBe (r : Rec) : Nat := recFld r 92 4
def dWin (r : Rec) : Nat := recFld r 88 4
def dWoff (r : Rec) : Nat := recFld r 66 22
def dPin (r : Rec) : Nat := recFld r 64 2
def dLen (r : Rec) : Nat := recFld r 32 10

/-- Write data: with BE 0b0011 the upper half is taken as 0 (R134). -/
def dData (r : Rec) : Nat := if dBe r = 3 then recFld r 0 16 else recFld r 0 32

/-- The lane of a descriptor (R131). -/
def dLane (r : Rec) : Nat :=
  if dKind r = 1 then dRid r % 4 ^^^ dRid r / 256 % 4 ^^^ dSeg r % 4 else 0

/-- The descriptors of a beat that are not empty, in slot order (R38, R39). -/
def beatDescs (b : BitVec 512) : List Rec :=
  ((List.range 4).map (fun k => b.extractLsb' (128 * k) 128)).filter (fun d => dKind d ≠ 0)

/-! ### Lanes (R131 to R133) -/

/-- A lane FIFO. -/
def State.laneQ (s : State) (k : Nat) : List LaneItem :=
  match k with
  | 0 => s.intk.lane0
  | 1 => s.intk.lane1
  | 2 => s.intk.lane2
  | _ => s.intk.lane3

def State.setLane (s : State) (k : Nat) (q : List LaneItem) : State :=
  match k with
  | 0 => { s with intk := { s.intk with lane0 := q } }
  | 1 => { s with intk := { s.intk with lane1 := q } }
  | 2 => { s with intk := { s.intk with lane2 := q } }
  | _ => { s with intk := { s.intk with lane3 := q } }

/-- The descriptor at a lane's head leaves it. -/
def State.laneDrop (s : State) (k : Nat) : State :=
  { s with intk := { s.intk with named := s.intk.named.filter (fun n => n.lane ≠ k) } }.setLane k ((s.laneQ k).drop 1)

/-- A lane FIFO of 16 entries has room. -/
def State.laneRoom (s : State) (k : Nat) : Bool := decide ((s.laneQ k).length < 16)

/-- Intake of a domain is stopped for journal back-pressure (R24, R133). -/
def State.jStopped (s : State) (d : Nat) : Bool := s.way.stop && s.waybill d && s.caravan d

/-- The miss queue is full, by either limit: every lane stalls (R133, R167). -/
def State.mqFull (s : State) : Bool := decide (1024 ≤ s.mqUsed) || decide (256 ≤ s.sst.missq.length)

/-! ### Discards (R152, R153) -/

/-- Where an arrival came from. -/
structure Origin where
  lane : Nat
  line : Option Nat
  seg : Nat
  rid : Nat
  deriving DecidableEq, Repr

/-- Discard an arrival: it is counted and the first since the last read is recorded. -/
def State.discard (s : State) (reason : Nat) (o : Origin) (ord dom : Option Nat) : State :=
  let s := s.countG reason
  let s := match dom with
    | some d => if 11 ≤ reason ∧ reason ≤ 17 then s.countD d (reason - 3) else s
    | none => s
  s.logFirst F.INT_DISC_LOG_VALID F.INT_DISC_LOG_CNT 0
    [(F.INT_DISC_LOG_REASON, reason), (F.INT_DISC_LOG_LANE, o.lane), (F.INT_DISC_SRC_LINE, bitNat o.line.isSome),
     (F.INT_DISC_SRC_SEG, o.seg), (F.INT_DISC_SRC_RID, o.line.getD o.rid),
     (F.INT_DISC_ORD_ORD_VALID, bitNat ord.isSome), (F.INT_DISC_ORD_DOM_VALID, bitNat dom.isSome),
     (F.INT_DISC_ORD_DOMAIN, dom.getD 0), (F.INT_DISC_ORD_ORDINAL, ord.getD 0)]

/-- The checks of R134 on a descriptor of KIND 1, in the order of R152: the first reason that applies. -/
def State.descReason (s : State) (r : Rec) : Option Nat :=
  if s.fld F.INT_WIN_CFG_KIND (dWin r) = 0 then some 2
  else if dLen r ≠ 1 then some 3
  else if dBe r ≠ 15 ∧ dBe r ≠ 3 then some 4
  else if dPoison r then some 5
  else none

/-- A discard for POISON also records INGR_POISON (R134, R406). -/
def State.discardDesc (s : State) (reason lane : Nat) (r : Rec) (ord : Option Nat) : State :=
  let s := s.discard reason ⟨lane, none, dSeg r, dRid r⟩ ord none
  if reason = 5 then s.error 2 1 none (dSeg r * 65536 + dRid r) .all else s

/-! ### The Source Table (R135) -/

/-- Fields of a source entry (R136). -/
def srcValid (e : BitVec 64) : Bool := e.getLsbD 63
def srcSeg (e : BitVec 64) : Nat := (e.extractLsb' 48 4).toNat
def srcRid (e : BitVec 64) : Nat := (e.extractLsb' 32 16).toNat
def srcOrd (e : BitVec 64) : Nat := (e.extractLsb' 0 16).toNat

/-- The set of a key. -/
def srcSet (seg rid : Nat) : Nat := rid % 2 ^ 14 ^^^ seg * 2 ^ 10 ^^^ rid / 2 ^ 14 * 2 ^ 8

/-- A source entry by index, as stored. -/
def State.srcEntry (s : State) (i : Nat) : BitVec 64 := SMap.get 0 s.src.source i

/-- A way of the set that hits: it is valid, not damaged, and holds the key. -/
def State.srcHit (s : State) (seg rid i : Nat) : Bool :=
  let e := s.srcEntry i
  srcValid e && !s.src.srcBad.contains i && srcSeg e == seg && srcRid e == rid

/-- The index of the entry that holds a key. -/
def State.srcFind (s : State) (seg rid : Nat) : Option Nat :=
  ((List.range 4).map (fun w => 4 * srcSet seg rid + w)).find? (s.srcHit seg rid)

/-- Look a key up; `ecc` is what the read of the entry finds (R408). -/
def State.srcLookup (s : State) (seg rid : Nat) (ecc : Ecc) : Option Nat × State :=
  match s.srcFind seg rid with
  | none => (none, s)
  | some i =>
    let o := srcOrd (s.srcEntry i)
    match ecc with
    | .unc .sourceEntry | .uncDomain .sourceEntry =>
      (none, { s with src := { s.src with srcBad := i :: s.src.srcBad } }.error 8 2 none i .all)
    | .cor .sourceEntry => (some o, s.error 9 2 none i .none)
    | _ => (some o, s)

/-! ### Translation (R138, R139) -/

/-- Fields of a translation entry. -/
structure Xlate where
  valid : Bool
  indirect : Bool
  pre : Nat
  msel : Nat
  dom : Nat
  base : Nat
  mask : Nat
  limit : Nat
  deriving DecidableEq, Repr

def Xlate.ofBits (w : BitVec 128) : Xlate :=
  { valid := w.getLsbD 127, indirect := w.getLsbD 126, pre := recFld w 124 2, msel := recFld w 122 2,
    dom := recFld w 96 12, base := recFld w 64 (if w.getLsbD 126 then 27 else 24), mask := recFld w 32 32,
    limit := recFld w 0 32 }

/-- The translation entry of an ordinal: a damaged one counts as VALID 0. -/
def State.xlateOf (s : State) (ord : Nat) : Xlate :=
  let e := Xlate.ofBits (SMap.get 0 s.src.xlate ord)
  if s.src.xlateBad.contains ord then { e with valid := false } else e

/-- What the read of a translation entry finds (R408). -/
def State.xlateEcc (s : State) (ord : Nat) (ecc : Ecc) : State :=
  match ecc with
  | .unc .translation | .uncDomain .translation =>
    { s with src := { s.src with xlateBad := ord :: s.src.xlateBad } }.error 8 2 none ord .all
  | .cor .translation => s.error 9 2 none ord .none
  | _ => s

/-- The domain checks, in order (R140). -/
def State.domReason (s : State) (d eid : Nat) : Option Nat :=
  if (s.img.domainEnt d).eidCount = 0 then some 12
  else if !s.img.inDomain d eid then some 13
  else if !s.domEn d then some 14
  else if s.bit F.VFM_DOM_STAT_FENCED d then some 15
  else if s.held d then some 16
  else if s.bit F.VFM_DOM_STAT_SAVED d || (SMap.find s.vfm.saves d).isSome then some 17
  else none

/-- An arrival that translation has begun on. -/
structure Arrival where
  o : Origin
  ord : Nat
  kind : EvKind
  pos : Option EvPos
  t0 : Nat
  deriving DecidableEq, Repr

/-- An event with its EID: the domain checks, policing, and stage 4 (R140, R150, R128). VFM_FLR_DROP counts what a
fenced domain discards, whether or not it is also off: DEDUCED (R314 and its example). -/
def State.policed (s : State) (a : Arrival) (d eid msel pre : Nat) (ecc : Ecc) : State :=
  match s.domReason d eid with
  | some r =>
    let s := s.discard r a.o (some a.ord) (some d)
    if (r = 14 ∨ r = 15) ∧ s.bit F.VFM_DOM_STAT_FENCED d then s.bump F.VFM_FLR_DROP_CNT d else if r = 17 then s.bump F.VFM_SAVE_LOST_CNT d else s
  | none =>
    match s.police msel pre a.ord d ecc with
    | (.drop, s) => s.discard 18 a.o (some a.ord) (some d)
    | (.pass m, s) =>
      s.stageEvent
        { dom := d, eid := eid, ord := a.ord, lane := a.o.lane, kind := a.kind, mark := m,
          pos := if s.img.caravanOf a.ord = some d then a.pos else none, ring := false, t0 := a.t0, smp := none } ecc

/-- Translate an arrival under key `key` (R139). An INDIRECT entry needs a depot read. -/
def State.translate (s : State) (a : Arrival) (key : Nat) (ecc : Ecc) : State :=
  let s := s.xlateEcc a.ord ecc
  let e := s.xlateOf a.ord
  if !e.valid then s.discard 8 a.o (some a.ord) none
  else
    let k := key &&& e.mask
    if e.limit ≤ k then s.discard 9 a.o (some a.ord) (some e.dom)
    else if !e.indirect then s.policed a e.dom (e.base + k) e.msel e.pre ecc
    else
      match s.depRead .map ((s.img.depot.tableBase + 4 * (e.base + k)) / 64) with
      | none => s
      | some (t, s) =>
        let m : MapWait := ⟨t, a.ord, e.dom, e.base + k, a.o.lane, a.kind, a.pos, e.msel, e.pre, a.o.seg,
          a.o.line.getD a.o.rid, a.o.line.isSome, a.t0⟩
        { s with intk := { s.intk with maps := s.intk.maps ++ [m] } }

/-- Translation places the event in a domain whose intake is stopped (R133). -/
def State.xlateJStopped (s : State) (ord key : Nat) : Bool :=
  let e := s.xlateOf ord
  e.valid && decide (key &&& e.mask < e.limit) && s.jStopped e.dom

/-- The lane of an event stalls before translation: its domain's intake is stopped, or it needs a map read that the
depot requester cannot make now (R133, R45, R342). -/
def State.xlateStalls (s : State) (ord key : Nat) : Bool :=
  let e := s.xlateOf ord
  s.xlateJStopped ord key || (e.valid && e.indirect && decide (key &&& e.mask < e.limit)
    && (!s.depReady || s.depClash false ((s.img.depot.tableBase + 4 * (e.base + (key &&& e.mask))) / 64)))

/-- MAP_READ_RETURN: the map word of an INDIRECT translation (R139). -/
def State.mapReturn (s : State) (tag : Nat) (poison : Bool) (ecc : Ecc) : State :=
  match s.intk.maps.find? (fun m => m.tag == tag) with
  | none => s
  | some m =>
    let s := { s with intk := { s.intk with maps := s.intk.maps.filter (fun x => x.tag ≠ tag) } }.freeDepTag tag
    let addr := s.img.depot.tableBase + 4 * m.index
    let a : Arrival := ⟨⟨m.lane, if m.line then some m.rid else none, m.seg, m.rid⟩, m.ord, m.kind, m.pos, m.t0⟩
    let w := s.depNat addr 4
    let s :=
      if poison then (s.discard 11 a.o (some m.ord) (some m.dom)).error 4 2 (some m.dom) (addr / 512) .dom
      else if w < 2 ^ 31 then s.discard 10 a.o (some m.ord) (some m.dom)
      else s.policed a m.dom (w % 2 ^ 24) m.msel m.pre ecc
    s.wmAll.askFills

/-! ### Heads of lanes -/

/-- The stalls of R133 that hold any head. -/
def State.laneStalls (s : State) (lane : Nat) : Bool := s.laneHeld lane || s.mqFull

/-- A lane that the full miss queue holds says so (R167). -/
def State.noteFull (s : State) : State := if s.mqFull then s.raise F.SST_STATUS_MQ_FULL else s

/-- The event of a line (R144): ordinal LINE_BASE + n, key 0. -/
def State.lineEvent (s : State) (n : Nat) (k : EvKind) (ecc : Ecc) : State :=
  let ord := s.img.ords.lineBase + n
  if s.xlateStalls ord 0 then s
  else ((s.laneDrop 0).translate ⟨⟨0, some n, 0, n⟩, ord, k, none, s.tim.ft⟩ 0 ecc).wmAll

/-- A descriptor found with an uncorrectable error is discarded (R408). -/
def State.descLost (s : State) (lane : Nat) (ecc : Ecc) : Option State :=
  match ecc with
  | .unc .descriptor | .uncDomain .descriptor => some ((s.laneDrop lane).error 3 1 none lane .all)
  | _ => none

/-- A corrected descriptor is recorded. -/
def State.descCor (s : State) (lane : Nat) (ecc : Ecc) : State :=
  match ecc with
  | .cor .descriptor => s.error 9 1 none lane .none
  | _ => s

/-- The name of a lane's head, found at its first attempt: its ordinal, and the epoch and sequence that it takes then (R181). None:
the Source Table names none. -/
def State.nameHead (s : State) (lane : Nat) (r : Rec) (ecc : Ecc) : Option Named × State :=
  match s.intk.named.find? (fun n => n.lane == lane) with
  | some n => (some n, s)
  | none =>
    match s.srcLookup (dSeg r) (dRid r) ecc with
    | (none, s) => (none, s)
    | (some ord, s) =>
      let (pos, s) := s.epochOf ord
      let n : Named := ⟨lane, ord, pos, s.tim.ft⟩
      (some n, { s with intk := { s.intk with named := s.intk.named ++ [n] } })

/-- A write into an EVENT window: Source Table, epoch, translation (R129, R135, R181). -/
def State.windowEvent (s : State) (lane : Nat) (r : Rec) (ecc : Ecc) : State :=
  let o : Origin := ⟨lane, none, dSeg r, dRid r⟩
  let key := if s.bit F.INT_WIN_CFG_KEYSEL (dWin r) then dWoff r else dData r
  match s.nameHead lane r ecc with
  | (none, s) => (s.laneDrop lane).discard 7 o none none
  | (some n, s) =>
    if s.xlateStalls n.ord key then s
    else ((s.laneDrop lane).translate ⟨o, n.ord, .raise, n.pos, n.t0⟩ key ecc).wmAll

/-- EVENT_WINDOW_WRITE: the head of a lane that is a line event, a write into an EVENT window, or a descriptor that
the first five checks discard. Heads of other windows and INTx messages wait for their own commands. -/
def State.laneHead (s : State) (lane : Nat) (ecc : Ecc) : State :=
  let s := s.noteFull
  if s.laneStalls lane then s
  else
    match s.laneQ lane with
    | [] => s
    | .line n k :: _ => s.lineEvent n k ecc
    | .desc r :: _ =>
      match s.descLost lane ecc with
      | some s => s
      | none =>
        let s := s.descCor lane ecc
        if dKind r = 1 then
          match s.descReason r with
          | some c => (s.laneDrop lane).discardDesc c lane r none
          | none => if s.fld F.INT_WIN_CFG_KIND (dWin r) = 1 then s.windowEvent lane r ecc else s
        else if dKind r = 2 ∨ dKind r = 3 then s
        else (s.laneDrop lane).discardDesc 1 lane r none

/-! ### INTx (R142) -/

/-- An INTx Assert (`true`) or Deassert at the head of lane 0. -/
def State.intx (s : State) (assert : Bool) (ecc : Ecc) : State :=
  let s := s.noteFull
  if s.laneStalls 0 then s
  else
    match s.laneQ 0 with
    | .desc r :: _ =>
      if dKind r ≠ (if assert then 2 else 3) then s
      else if (s.descLost 0 ecc).isSome then (s.descLost 0 ecc).getD s
      else
        let s := s.descCor 0 ecc
        let w := 4 * dHport r + dPin r
        let ord := s.img.ords.intxBase + w
        if dPoison r then (s.laneDrop 0).discardDesc 5 0 r none
        else if s.intk.wires.getLsbD w = assert then (s.laneDrop 0).discardDesc 6 0 r (some ord)
        else if s.xlateStalls ord 0 then s
        else
          let bit : BitVec 512 := BitVec.ofNat 512 (2 ^ w)
          let s := { s with intk := { s.intk with wires := if assert then s.intk.wires ||| bit else s.intk.wires &&& ~~~bit } }
          let s := (s.laneDrop 0).countG 0x14
          (s.translate ⟨⟨0, none, dSeg r, dRid r⟩, ord, if assert then .lvlAssert else .lvlDeassert, none, s.tim.ft⟩ 0
            ecc).wmAll
    | _ => s

/-! ### Waymark and doorbell windows (R129, R177 to R179, R248) -/

/-- The head of a lane when it is a write that passed the checks of R134 into a window of kind `k`. -/
def State.windowHead (s : State) (lane k : Nat) : Option Rec :=
  match s.laneQ lane with
  | .desc r :: _ =>
    if dKind r = 1 ∧ s.descReason r = none ∧ s.fld F.INT_WIN_CFG_KIND (dWin r) = k then some r else none
  | _ => none

/-- A waymark whose source has been named: the checks of R179, then R178. -/
def State.waymarkOf (s : State) (ord : Nat) (r : Rec) : State :=
  match s.img.caravanOf ord with
  | none => s.countG 0x1E
  | some d =>
    if !s.sequenced d then s.countG 0x1E
    else if !s.domEn d ∨ s.bit F.VFM_DOM_STAT_FENCED d ∨ s.held d then s.countD d 26
    else if !s.running d then s.countG 0x1E
    else s.waymark d ord (dWoff r) (dData r)

/-- A waymark at a lane's head whose WKIND the command names (R177): it keeps its place among its source's events. -/
def State.waymarkHead (s : State) (lane : Nat) (kinds : List Nat) (ecc : Ecc) : State :=
  let s := s.noteFull
  if s.laneStalls lane then s
  else
    match s.windowHead lane 2 with
    | none => s
    | some r =>
      if !kinds.contains (dData r / 2 ^ 30 % 4) then s
      else if (s.descLost lane ecc).isSome then (s.descLost lane ecc).getD s
      else
        match (s.descCor lane ecc).srcLookup (dSeg r) (dRid r) ecc with
        | (none, s) => (s.laneDrop lane).discard 7 ⟨lane, none, dSeg r, dRid r⟩ none none
        | (some ord, s) =>
          if (s.img.caravanOf ord).any s.jStopped then s else (s.laneDrop lane).waymarkOf ord r

/-- A doorbell at a lane's head with the OP the command names (R248): a STANDBY forwards it to the primary (R295). -/
def State.doorbellHead (s : State) (lane op : Nat) (ecc : Ecc) : State :=
  let s := s.noteFull
  if s.laneStalls lane then s
  else
    match s.windowHead lane 3 with
    | none => s
    | some r =>
      if dWoff r / 2 ^ 20 ≠ op then s
      else if (s.descLost lane ecc).isSome then (s.descLost lane ecc).getD s
      else
        let s := (s.descCor lane ecc).laneDrop lane
        if s.standby then s.toPartner 4 (dHport r * 2 ^ 109 + dWoff r * 2 ^ 87 + dData r * 2 ^ 55)
        else (s.doorbell (some (dHport r)) (dWoff r) (dData r) ecc).2.askFills

/-- The head of a lane is held for journal back-pressure: an event that translation would place in a stopped domain, or
a waymark of its caravan group (R133, R154). -/
def State.headJStopped (s : State) (lane : Nat) : Bool :=
  match s.laneQ lane with
  | [] => false
  | .line n _ :: _ => s.xlateJStopped (s.img.ords.lineBase + n) 0
  | .desc r :: _ =>
    let ord := (s.srcFind (dSeg r) (dRid r)).map (fun i => srcOrd (s.srcEntry i))
    if dKind r = 1 then
      if s.descReason r ≠ none then false
      else match s.fld F.INT_WIN_CFG_KIND (dWin r) with
        | 1 => ord.any (fun o => s.xlateJStopped o (if s.bit F.INT_WIN_CFG_KEYSEL (dWin r) then dWoff r else dData r))
        | 2 => ord.any (fun o => (s.img.caravanOf o).any s.jStopped)
        | _ => false
    else if dKind r = 2 ∨ dKind r = 3 then
      let w := 4 * dHport r + dPin r
      !dPoison r && s.intk.wires.getLsbD w != (dKind r == 2) && s.xlateJStopped (s.img.ords.intxBase + w) 0
    else false

/-- A lane is stalled for journal back-pressure. -/
def State.laneJStopped (s : State) : Bool := [0, 1, 2, 3].any s.headJStopped

/-! ### Lines (R47, R143, R144) -/

/-- The synchronised level of a line after polarity. -/
def State.lineLevel (s : State) (n : Nat) : Bool := s.intk.sync.getLsbD n ^^ s.bit F.LIN_CFG_POL n

/-- The line is of level type. -/
def State.lineIsLevel (s : State) (n : Nat) : Bool := s.bit F.LIN_CFG_MODE n

/-- Set or clear one bit of a line word. -/
def putLine (w : BitVec 1024) (n : Nat) (v : Bool) : BitVec 1024 :=
  if v then w ||| BitVec.ofNat 1024 (2 ^ n) else w &&& ~~~(BitVec.ofNat 1024 (2 ^ n))

def State.setLatch (s : State) (n : Nat) (v : Bool) : State :=
  { s with intk := { s.intk with latch := putLine s.intk.latch n v } }

/-- The domain of a line's translation has its intake stopped: the Line Collector holds the line (R24). -/
def State.lineHeldBack (s : State) (n : Nat) : Bool :=
  let e := s.xlateOf (s.img.ords.lineBase + n)
  e.valid && s.jStopped e.dom

/-- The next line event to pass on: a level change first, else the next latched edge-type line in round-robin order. -/
def State.lineNext (s : State) : Option (Nat × EvKind × Bool) :=
  match s.intk.linePend.find? (fun p => !s.lineHeldBack p.1) with
  | some p => some (p.1, p.2, true)
  | none =>
    (((List.range 1024).map (fun i => (s.intk.lastLine + 1 + i) % 1024)).find? (fun n =>
      s.intk.latch.getLsbD n && s.bit F.LIN_CFG_EN n && !s.lineIsLevel n && !s.lineHeldBack n)).map (fun n => (n, .raise, false))

/-- The next carriage descriptor in arrival order: the head of the wake FIFO unless beats of the buffer came before it
(R145). -/
def State.carriageNext (s : State) : Option Rec :=
  match s.intk.wake with
  | (0, d) :: _ => some d
  | _ => (s.intk.buf.head?).bind (·.head?)

/-- The lanes take descriptors: not in a drain, not with FCLK stopped, not halted (R329, R410). -/
def State.lanesOpen (s : State) : Bool := !s.capturing && !s.halted && !s.saving

/-- Lane 0 takes events of the Line Collector; a save stops them (R354). -/
def State.linesOpen (s : State) : Bool := s.lanesOpen && s.sav.run.isNone

/-- LINE_SCAN: the next line event enters lane 0 and its latch clears; a carriage descriptor that waits for the lane
goes first when a line went last (R132, R144). -/
def State.lineScan (s : State) : State :=
  if !s.linesOpen ∨ !s.laneRoom 0 then s
  else if s.intk.lineLast ∧ (s.carriageNext).any (fun d => dLane d = 0) then s
  else
    match s.lineNext with
    | none => s
    | some (n, k, lvl) =>
      let s := s.setLane 0 (s.laneQ 0 ++ [.line n k])
      let s := if lvl then { s with intk := { s.intk with linePend := s.intk.linePend.erase (n, k) } }
               else { s.setLatch n false with intk := { (s.setLatch n false).intk with lastLine := n } }
      { s with intk := { s.intk with lineLast := true } }.countG 0x13

/-- A level event of a line waits for lane 0. -/
def State.linePush (s : State) (n : Nat) (k : EvKind) : State :=
  { s with intk := { s.intk with linePend := s.intk.linePend ++ [(n, k)] } }

/-- LINE_CAPTURE: an asserting edge sets the AO latch and asks for a wake; whether a pulse of less than 2 ns is
captured is open (R47). A level-type line latches only while FCLK is stopped (R144). -/
def State.lineCapture (s : State) (n : Nat) (narrow : Bool) : State :=
  let k := s.intk.narrow
  let s := if narrow then { s with intk := { s.intk with narrow := k + 1 } } else s
  if narrow && !Config.narrowPulseCaptured k then s
  else if s.lineIsLevel n && s.coreOn then s
  else
    let s := if s.coreOn || s.intk.latch.getLsbD n then s
      else { s with intk := { s.intk with fresh := putLine s.intk.fresh n true } }
    let s := s.setLatch n true
    if s.bit F.LIN_CFG_EN n then s.wakeReq 2 n else s

/-- LINE_LEVEL_CHANGE: the raw level of a line changes; while FCLK runs an enabled level-type line issues an event. -/
def State.lineChange (s : State) (n : Nat) (v : Bool) : State :=
  let s := { s with intk := { s.intk with level := putLine s.intk.level n v } }
  if !s.coreOn ∨ s.intk.sync.getLsbD n = v then s
  else
    let s := { s with intk := { s.intk with sync := putLine s.intk.sync n v } }
    if s.bit F.LIN_CFG_EN n && s.lineIsLevel n then
      (s.linePush n (if s.lineLevel n then .lvlAssert else .lvlDeassert)).lineScan
    else s

/-- At a wake the synchronisers follow their inputs: latched level-type lines produce LEVEL_ASSERT, and LEVEL_DEASSERT
after it when they have deasserted; other changes produce their event (R144). -/
def State.lineWake (s : State) : State :=
  let old := s.intk.sync
  let s := { s with intk := { s.intk with sync := s.intk.level, fresh := 0 } }
  ((List.range 1024).filter (fun n => s.bit F.LIN_CFG_EN n && s.lineIsLevel n)).foldl (fun s n =>
    if s.intk.latch.getLsbD n then
      let s := (s.setLatch n false).linePush n .lvlAssert
      if s.lineLevel n then s else s.linePush n .lvlDeassert
    else if old.getLsbD n ≠ s.intk.level.getLsbD n then
      s.linePush n (if s.lineLevel n then .lvlAssert else .lvlDeassert)
    else s) s

/-- What a written LIN_CFG.EN does (R144): a line that is disabled issues nothing further, and an edge that came while it
was disabled is not delivered. -/
def State.lineEnable (s : State) (n : Nat) (was : Bool) : State :=
  let now := s.bit F.LIN_CFG_EN n
  if was = now then s
  else if now then
    let s := s.setLatch n false
    if s.lineIsLevel n && s.lineLevel n then s.linePush n .lvlAssert else s
  else { s.setLatch n false with intk := { (s.setLatch n false).intk with linePend := s.intk.linePend.filter (·.1 ≠ n) } }

/-! ### Carriage ingress (R38 to R41, R131, R132, R145) -/

/-- A beat whose last descriptor has left: its credit is due. -/
def State.credDue (s : State) : State := { s with intk := { s.intk with due := s.intk.due + 1 } }

/-- Descriptors of an accepted beat enter the wake FIFO (R145). -/
def State.wakeCapture (s : State) (ds : List Rec) : State :=
  let s := { s with intk := { s.intk with wake := s.intk.wake ++ ds.map (fun d => (s.intk.buf.length, d)) } }
  (s.wakeReq 1 ((ds.head?).elim 0 dHport)).credDue

/-- INGRESS_BEAT: a beat without a credit, of which there is none before INGR_READY rises, is discarded and reported. -/
def State.ingressBeat (s : State) (b : BitVec 512) : State :=
  if !s.intk.ready ∨ s.intk.credits = 0 then
    (s.raise F.INT_STATUS_CREDIT_OVR).error 1 1 none (dHport (b.extractLsb' 0 128)) .all
  else
    let ds := beatDescs b
    let s := ds.foldl (fun s d => s.traffic (dHport d) false 16) s
    if ds.isEmpty then s
    else
      let s := { s with intk := { s.intk with credits := s.intk.credits - 1 } }
      if s.capturing && !s.halted then s.wakeCapture ds else { s with intk := { s.intk with buf := s.intk.buf ++ [ds] } }

/-- INGR_CRED_RET: a due credit returns while the wake FIFO keeps room for every credit the switch would hold (R145);
none returns while the block is halted or retunes (R410, R342). -/
def State.credReturn (s : State) : State :=
  if s.intk.due = 0 ∨ s.halted ∨ s.sav.run.isSome ∨ s.fld F.PWR_STATUS_STATE = 5 then s
  else if 1024 < s.intk.wake.length + 4 * (s.intk.credits + 1) then s.raise F.INT_STATUS_WFIFO_FULL
  else { s with intk := { s.intk with due := s.intk.due - 1, credits := s.intk.credits + 1 } }

/-- The next carriage descriptor leaves the wake FIFO or the ingress buffer. -/
def State.carriageTake (s : State) : State :=
  match s.intk.wake, s.intk.buf with
  | (0, _) :: w, _ => { s with intk := { s.intk with wake := w } }.countG 0x15
  | _, [] => s
  | _, (_ :: d :: r) :: rest => { s with intk := { s.intk with buf := (d :: r) :: rest } }
  | w, _ :: rest => { s with intk := { s.intk with buf := rest, wake := w.map (fun (x : Nat × Rec) => (x.1 - 1, x.2)) } }.credDue

/-- What the SECDED check of the wake FIFO entry that is about to leave does (R408): one that cannot be read is discarded.
False: it is gone. -/
def State.wakeEcc (s : State) (ecc : Ecc) : Bool × State :=
  match s.intk.wake, ecc with
  | (0, _) :: _, .cor .descriptor => (true, s.error 9 1 none 4 .none)
  | (0, _) :: _, .unc .descriptor | (0, _) :: _, .uncDomain .descriptor => (false, s.carriageTake.error 3 1 none 4 .all)
  | _, _ => (true, s)

/-- LANE_ENTRY: the next descriptor in arrival order enters its lane when that has room; on lane 0 a line event that
waits goes first when a descriptor went last (R132). -/
def State.laneEntry (s : State) (ecc : Ecc) : State :=
  if !s.lanesOpen then s
  else
    match s.carriageNext with
    | none => s
    | some d =>
      let k := dLane d
      if !s.laneRoom k then s
      else if k = 0 ∧ !s.intk.lineLast ∧ s.linesOpen ∧ s.lineNext.isSome then s
      else
        let (ok, s) := s.wakeEcc ecc
        if !ok then s
        else
        let s := (s.carriageTake).setLane k (s.laneQ k ++ [.desc d])
        let s := if k = 0 then { s with intk := { s.intk with lineLast := false } } else s
        s.countG 0

/-- The wake FIFO drains into the lanes, four entries in a cycle (R145). -/
def State.wakeDrain (s : State) : Nat → State
  | 0 => s
  | n + 1 => if s.intk.wake.isEmpty then s else (s.laneEntry .none).wakeDrain n

end Sys2Proof.Machine
end

