-- ==== Sys2Proof/Machine/Replay.lean ====
section
/-! DEFINITION. Replay of a journal, parked events and the end of replay (R162, R273 to R280, R400, R401). -/

namespace Sys2Proof.Machine

/-- A domain without a replay. -/
def Replay.idle : Replay := { slot := 0, lap := false, taken := 0, window := [], allTaken := false, discarded := 0, takenAt := 0, ask := none, line := none }

/-- The replay of a domain. -/
def State.replay (s : State) (d : Nat) : Replay := SMap.get Replay.idle s.rpl d

def State.setReplay (s : State) (d : Nat) (r : Replay) : State := { s with rpl := SMap.set Replay.idle s.rpl d r }

/-- RPL_STATUS.STATE is RUNNING. -/
def State.rplRunning (s : State) (d : Nat) : Bool := decide (s.fld F.RPL_STATUS_STATE d = 1)

/-- Slots of the replay area, and the length in records (R273). -/
def State.rplSlots (s : State) (d : Nat) : Nat := s.fld F.RPL_AREA_SIZE_SIZE d * 65536

def State.rplLen (s : State) (d : Nat) : Nat := s.reg64 .RPL_LEN_LO .RPL_LEN_HI d

/-- The window offset of a slot. -/
def State.rplAddr (s : State) (d slot : Nat) : Nat := s.fld F.RPL_AREA_BASE_BASE d * 2 ^ 20 + 16 * slot

/-- The replay ends with a code: STATE becomes ENDED and status bit REPLAY is set (R275, R305). -/
def State.rplEnd (s : State) (d code : Nat) : State :=
  ((s.setFld F.RPL_STATUS_STATE d 2).setFld F.RPL_STATUS_END d code).vfStatus d 1

/-- Heads of the domain's replay in flight. -/
def State.rplHeads (s : State) (d : Nat) : List Head :=
  s.rnk.heads.filter (fun h => h.dom == d && match h.kind with | .replay _ => true | _ => false)

/-- The replay ends with code 1 once the last counted record has been taken and no head is left. -/
def State.rplDone (s : State) (d : Nat) : State :=
  let r := s.replay d
  if s.rplRunning d ∧ r.allTaken ∧ r.window = [] ∧ s.rplHeads d = [] then s.rplEnd d 1 else s

/-! ### Replay heads (R276) -/

/-- Fields of a DELIVERY record (R261). -/
def jrTarget (r : Rec) : Nat := recFld r 95 16
def jrEid (r : Rec) : Nat := recFld r 71 24
def jrPrio (r : Rec) : Nat := recFld r 39 8

/-- The head a record becomes. -/
def State.rplHead (s : State) (d : Nat) (r : Rec) : Head :=
  { eid := jrEid r, dom := d, tgt := jrTarget r, p := jrPrio r, ro := none, kind := .replay r, stage := .rte 0,
    lineHeld := false, jrnl := false, start := s.tim.ft, held := 0, since := s.tim.ft }

/-- The target is busy: its flight slot is taken, or its ACTIVE count has reached max(OUT_MAX, 1). -/
def State.rplBusy (s : State) (t : Nat) : Bool :=
  s.inflight t || decide (max (s.fld F.RTE_TGT_CFG_OUT_MAX t) 1 ≤ (s.activeAt t).length)

/-- The target's group is homed at this member, or at either unit of a Tandem pair (R276, R401). -/
def State.rplHome (s : State) (t : Nat) : Bool := (s.img.groupOf t).any (fun g => s.homeHere g.home)

/-- A record whose target is free: it is skipped, it goes to the fault queue, or it goes to the shaper. -/
def State.rplLaunch (s : State) (d : Nat) (r : Rec) : State :=
  let t := jrTarget r
  if !s.rplHome t then (s.raise F.RPL_STATUS_SKIP d).countD d 27
  else
    let h := s.rplHead d r
    match s.tgtCheck d t with
    | some c => ((s.raise F.RPL_STATUS_FAULT d).countD d 27).faultHead h c
    | none => (s.enterStage h .input).shapeRun none .none

/-- The records of the window in order: the first record of each target goes when its target is free; `held` are the
targets whose records wait, `kept` the records that stay. -/
def State.rplPass (s : State) (d : Nat) (held : List Nat) (kept : List Rec) : List Rec → List Rec × State
  | [] => (kept, s)
  | r :: rest =>
    let t := jrTarget r
    if held.contains t || s.rplBusy t || !s.inputRoom then s.rplPass d (t :: held) (kept ++ [r]) rest
    else (s.rplLaunch d r).rplPass d held kept rest

/-- Records of the window go onward, those of an ended replay with them; only a unit that is not STANDBY runs the engine
(R401), none of a halted block (R410), and none of a fenced domain does (R313). -/
def State.rplPump (s : State) (d : Nat) : State :=
  if s.standby ∨ s.halted ∨ s.bit F.VFM_DOM_STAT_FENCED d then s
  else
    let w := (s.replay d).window
    let (kept, s) := s.rplPass d [] [] w
    (s.setReplay d { s.replay d with window := kept }).rplDone d

/-! ### Taking records (R275) -/

/-- The engine stands before the next slot, or passes over `n` more slots: the expected LAP flips at each wrap. -/
def State.rplStep (s : State) (d n : Nat) : State :=
  let r := s.replay d
  let m := max (s.rplSlots d) 1
  let next := r.slot + n
  s.setReplay d { r with slot := next % m, lap := r.lap ^^ decide (next / m % 2 = 1) }

/-- A record is taken: RPL_DONE counts it, and the last counted one is noted. -/
def State.rplTake (s : State) (d : Nat) : State :=
  let s := s.rplStep d 1
  let r := s.replay d
  let n := r.taken + 1
  let s := s.setReg64 .RPL_DONE_LO .RPL_DONE_HI d n
  let last := decide (s.rplLen d ≤ n)
  s.setReplay d { r with taken := n, allTaken := last, takenAt := s.tim.now }

/-- One record by its KIND. -/
def State.rplRecord (s : State) (d : Nat) (r : Rec) : State :=
  let kind := recFld r 125 3
  if kind = 0 ∨ decide (recFld r 124 1 = 1) ≠ (s.replay d).lap then s.rplEnd d 4
  else
    let s := s.rplTake d
    if kind = jrDelivery then
      let x := s.replay d
      s.setReplay d { x with window := x.window ++ [r] }
    else if kind = jrFence then s.rplEnd d 3
    else if kind = 7 then s.rplEnd d 5
    else if kind = jrGap then s.raise F.RPL_STATUS_GAP d
    else if kind = jrEnd then s.rplStep d (recFld r 79 32)
    else s

/-- The depot line of the next slot. -/
def State.rplLine (s : State) (d : Nat) : Nat := s.rplAddr d (s.replay d).slot / 64

/-- The engine reads on: the replay runs at a unit that is not STANDBY, of a block not halted, of a domain not fenced, and
the window has room (R275, R313, R401, R410). -/
def State.rplReads (s : State) (d : Nat) : Bool :=
  s.rplRunning d && !s.standby && !s.halted && !s.bit F.VFM_DOM_STAT_FENCED d && !(s.replay d).allTaken
    && decide ((s.replay d).window.length < 1024)

/-- The line of the next slot is asked for, one at a time, unless it is there (R275). -/
def State.rplAsk (s : State) (d : Nat) : State :=
  let r := s.replay d
  if !s.rplReads d || r.ask.isSome || r.line.any (fun l => l.1 == s.rplLine d) then s
  else match s.depRead (.replay d) (s.rplLine d) with
    | none => s
    | some (_, s) => s.setReplay d { s.replay d with ask := some (s.rplLine d) }

/-- A line of the replay area has come: that of a replay that has begun anew meanwhile, or ended, is dropped. -/
def State.rplTook (s : State) (d line : Nat) (poison : Bool) : State :=
  let r := s.replay d
  if r.ask ≠ some line then s
  else s.setReplay d { r with ask := none, line := some (line, lineData (s.depBytes (64 * line) 64), poison) }

/-- REPLAY_RECORD: the next record is taken from its line while the window has room. -/
def State.replayRecord (s : State) (d : Nat) : State :=
  let r := s.replay d
  match r.line with
  | none => s.rplAsk d
  | some (n, data, poison) =>
    if !s.rplReads d then s
    else if n ≠ s.rplLine d then s.rplAsk d
    else if poison then (s.error 4 10 (some d) (64 * n / 512) .none).rplEnd d 6
    else ((s.rplRecord d (data.extractLsb' (128 * (r.slot % 4)) 128)).rplPump d).rplAsk d

/-! ### Start and end (R274, R279, R400) -/

/-- A run that is held when a replay starts ends (R400). -/
def State.rplEndsRun (s : State) (d : Nat) : State :=
  if (SMap.find s.cvn.runs d).isSome ∧ !s.bit F.CVN_VERDICT_ENDED d then
    ((s.discardHeld d).lower F.CVN_VERDICT_RUN d).raise F.CVN_VERDICT_ENDED d
  else s

/-- An enable with RPL_MODE.MODE 1 starts a replay. -/
def State.rplStart (s : State) (d : Nat) : State :=
  let s := s.rplEndsRun d
  let s := s.setReplay d { Replay.idle with discarded := (s.replay d).discarded, slot := s.reg64 .RPL_START_LO .RPL_START_HI d, lap := s.bit F.RPL_MODE_LAP0 d }
  let s := (s.setReg64 .RPL_DONE_LO .RPL_DONE_HI d 0).setFld F.RPL_STATUS_STATE d 1
  if s.rplLen d = 0 then s.rplEnd d 1 else s

/-- RPL_CMD.STOP: code 2, or 1 when the last counted record is taken in this cycle. -/
def State.rplStop (s : State) (d : Nat) : State :=
  let r := s.replay d
  if !s.rplRunning d then s
  else if r.allTaken ∧ r.takenAt = s.tim.now then s.rplEnd d 1
  else s.rplEnd d 2

/-- A disable, FLR or DOMAIN reset: the replay ends with code 7, its heads are dropped, its active records freed. -/
def State.rplCut (s : State) (d : Nat) : State :=
  let run := s.rplRunning d
  let s := s.setReplay d { s.replay d with window := [], ask := none, line := none }
  let s := { s with rnk := { s.rnk with heads := s.rnk.heads.filter (fun h => !(s.rplHeads d).contains h) } }
  if run then
    let mine := s.dlv.active.filter (fun a => a.dom == d && a.replay)
    (mine.foldl (fun s a => s.freeRec a) s).rplEnd d 7
  else s

/-- The domains whose replay runs. -/
def State.rplDoms (s : State) : List Nat := (s.regIdxs .RPL_STATUS).filter s.rplRunning

/-- At a takeover the new primary ends every replay it holds with code 2 (R401). -/
def State.rplTakeover (s : State) : State := s.rplDoms.foldl (fun s d => s.rplEnd d 2) s

/-! ### Parked entries (R280) -/

/-- DISCARD: a PENDING entry that is parked loses its parked events, an ACTIVE one PARK and RERAISE; an event parked
after an ACTIVE entry leaves only RERAISE behind (R162). -/
def Entry.unparkDiscard (e : Entry) : Entry :=
  match e.st with
  | .pending => { e with st := .idle, count := 0, orig := false, mark := false, park := false }
  | .active => { e with park := false, rerase := false }
  | _ => { e with park := false }

/-- The events that DISCARD takes from an entry: those of a PENDING entry, or those that COUNT holds for a re-raise (R158). -/
def Entry.parkedEvents (e : Entry) : Nat :=
  match e.st with
  | .pending => e.count.toNat + (if e.orig then 0 else 1)
  | .active => if e.rerase then max 1 e.count.toNat else 0
  | _ => 0

/-- DELIVER into the next run: a PENDING entry becomes IDLE, its events forming a release group. -/
def Entry.unparkGroup (e : Entry) : Entry :=
  match e.st with
  | .pending => { e with st := .idle, count := 0, orig := false, mark := false, park := false }
  | _ => { e with park := false }

/-- The group of epoch 0 that a parked entry forms. -/
def State.parkGroup (s : State) (d eid : Nat) (e : Entry) : Group :=
  let f := (Config.parkedFirst eid).toNat
  { dom := d, epoch := 0, eid := eid, p := s.effPrio e, fo := f / 65536, fs := f % 65536,
    k := e.count.toNat + (if e.orig then 0 else 1), lvl := some e.lvl, lo := f / 65536, ls := f % 65536, t0 := s.tim.ft, arr := s.tim.ft }

/-- The events of a parked entry are discarded and counted. -/
def State.unparkLose (s : State) (d eid : Nat) (e : Entry) : State :=
  let s := (s.setEntryNow eid e.unparkDiscard).mirrorEntry eid e.unparkDiscard
  s.setReplay d { s.replay d with discarded := (s.replay d).discarded + e.parkedEvents }

/-- Resolve one parked entry; DISCARD resolves an ACTIVE entry that is to be raised again too. -/
def State.unpark (s : State) (d : Nat) (discard : Bool) (eid : Nat) : State :=
  let e := s.entryNow eid
  if !e.park && !(discard && e.st == .active && e.rerase) then s
  else if discard then s.unparkLose d eid e
  else if s.bit F.CVN_MODE_MODE d ∧ e.st = .pending then
    let s := { s with vfm := { s.vfm with parkGroups := s.vfm.parkGroups ++ [s.parkGroup d eid e] } }
    (s.setEntryNow eid e.unparkGroup).mirrorEntry eid e.unparkGroup
  else (s.setEntryNow eid { e with park := false }).mirrorEntry eid { e with park := false }

/-- Resolve every parked entry of a domain, in ascending EID, as PARK_ACT directs. -/
def State.unparkAll (s : State) (d : Nat) : State :=
  (s.domEids d).foldl (fun s eid => s.unpark d (s.bit F.RPL_MODE_PARK_ACT d) eid) s

/-- At the next enable of a CARAVAN domain its parked groups enter epoch 0 as non-member groups, and condition 1 is
broken from the start. -/
def State.parkEnter (s : State) (d : Nat) : State :=
  let mine := s.vfm.parkGroups.filter (·.dom = d)
  if mine.isEmpty then s
  else
    let s := { s with vfm := { s.vfm with parkGroups := s.vfm.parkGroups.filter (·.dom ≠ d) },
                      cvn := { s.cvn with groups := s.cvn.groups ++ mine } }
    (s.raise F.CVN_STATUS_NONMEMBER d).breach d 1

end Sys2Proof.Machine
end

