-- ==== Sys2Proof/Machine/Vfm.lean ====
section
/-! DEFINITION. Domains: drain and freeze, enable and disable, FLR and DOMAIN reset, walks, domain commands and depot
lines (R303 to R321, R366). -/

namespace Sys2Proof.Machine

/-! ### Drain and freeze (R309, R310, R316) -/

/-- The domain of the event a descriptor would make. -/
def State.descDom (s : State) (r : Rec) : Option Nat :=
  let ord :=
    if dKind r = 1 then
      if s.fld F.INT_WIN_CFG_KIND (dWin r) = 1 then (s.srcFind (dSeg r) (dRid r)).map (fun i => srcOrd (s.srcEntry i))
      else none
    else if dKind r = 2 ∨ dKind r = 3 then some (s.img.ords.intxBase + 4 * dHport r + dPin r)
    else none
  (ord.map s.xlateOf).bind (fun e => if e.valid then some e.dom else none)

/-- The domain of what waits in a lane. -/
def State.itemDom (s : State) (i : LaneItem) : Option Nat :=
  match i with
  | .desc r => s.descDom r
  | .line n _ => let e := s.xlateOf (s.img.ords.lineBase + n); if e.valid then some e.dom else none

/-- An event of the domain is in a lane FIFO, the miss queue or the wake FIFO. -/
def State.eventIn (s : State) (d : Nat) : Bool :=
  ((List.range 4).flatMap s.laneQ).any (fun i => s.itemDom i == some d)
    || s.intk.wake.any (fun r => s.descDom r.2 == some d) || s.intk.maps.any (fun m => m.dom == d)
    || s.sst.stalled.any (fun x => x.1.dom == d)
    || s.sst.missq.any (fun m => m.inputs.any (fun i => match i with | .event e _ => e.dom == d | _ => false))

/-- Writes of the domain that have not been acknowledged with status 0b00. -/
def State.domWrites (s : State) (d : Nat) : Bool :=
  s.dlv.tags.any (fun w => w.dom == d) || s.dlv.writes.any (fun w => w.dom == d)

/-- A head of the domain is in flight, or a replay record waits for its target. -/
def State.domHeads (s : State) (d : Nat) : Bool :=
  s.rnk.heads.any (fun h => h.dom == d) || !(s.replay d).window.isEmpty

/-- A group of a closed epoch of the domain is not released. -/
def State.domGroups (s : State) (d : Nat) : Bool :=
  s.cvn.closed.any (fun c => c.dom == d && !c.groups.isEmpty) || s.cvn.refused.any (fun r => r.g.dom == d)
    || s.missRels.any (fun r => r.g.dom == d)

/-- Ranking holds something of the domain. -/
def State.domRanked (s : State) (d : Nat) : Bool :=
  s.rnk.offers.any (fun o => o.dom == d) || s.rnk.held.any (fun o => o.dom == d)
    || s.rnk.queue.any (fun w => s.img.inDomain d w.eid) || s.rnk.waiting.any (fun e => s.img.inDomain d e)
    || s.rnk.faultQ.any (fun x => x.dom == d) || s.rnk.heldFaults.any (fun x => x.dom == d)

/-- The journal holds records of the domain that are not written. -/
def State.domRecords (s : State) (d : Nat) : Bool :=
  s.way.q.any (fun r => r.d == d) || decide ((s.jrnl d).done < (s.jrnl d).part.length)

/-- VFM_DOM_STAT.DRAINED (R310). -/
def State.drained (s : State) (d : Nat) : Bool :=
  (s.held d || !s.domEn d) && !s.eventIn d && !s.domGroups d && !s.domRanked d && !s.domHeads d && !s.domRecords d
    && !s.domWrites d

/-- VFM_DOM_STAT.FROZEN (R316). -/
def State.frozen (s : State) (d : Nat) : Bool :=
  s.bit F.VFM_DOM_CTRL_FREEZE d && !s.rnk.heads.any (fun h => h.dom == d) && !s.domWrites d

/-- What a read of VFM_DOM_STAT finds. -/
def State.domStat (s : State) (d : Nat) : Word :=
  let put := fun (w : Word) (x : Field × Bool) => x.1.put w (bitNat x.2)
  [(F.VFM_DOM_STAT_ADMIT_CLOSED, s.admitClosed d), (F.VFM_DOM_STAT_RESETTING, s.resetting d),
   (F.VFM_DOM_STAT_FROZEN, s.frozen d), (F.VFM_DOM_STAT_DRAINED, s.drained d),
   (F.VFM_DOM_STAT_HELD, s.held d)].foldl put (s.reg .VFM_DOM_STAT d)

/-- DRAINED that has become 1 since it was last looked at sets its status bit (R305). -/
def State.noteDrained (s : State) (d : Nat) : State :=
  let now := s.drained d
  let was := !s.vfm.undrained.contains d
  if now = was then s
  else
    let s := { s with vfm := { s.vfm with undrained := if now then s.vfm.undrained.filter (· ≠ d) else d :: s.vfm.undrained } }
    if now then s.vfStatus d 7 else s

/-! ### Enable and disable (R308) -/

/-- A write of EN = 1 is rejected (R308). -/
def State.enableBad (s : State) (d : Nat) : Bool :=
  s.bit F.VFM_DOM_STAT_FENCED d || s.bit F.VFM_DOM_STAT_SAVED d || s.resetting d
    || (s.vfm.restored.contains d && s.bit F.CVN_MODE_CONTINUE d)

/-- EN from 0 to 1: a replay, or a CARAVAN run, starts or continues; PENDING entries are offered in ascending EID. -/
def State.domEnable (s : State) (d : Nat) : State :=
  let s := s.raise F.VFM_DOM_CTRL_EN d
  let s := { s with vfm := { s.vfm with restored := s.vfm.restored.filter (· ≠ d) } }
  let s :=
    if s.replaying d then s.rplStart d
    else if s.bit F.CVN_MODE_MODE d then (s.runStart d).parkEnter d
    else s
  (s.offerDomain d).rplPump d

/-- The domain's work leaves ranking: offers, waiting bits, fault-queue offers and heads that are not redeliveries
(R202, R206, R209, R241). -/
def State.dropRanked (s : State) (d : Nat) : State :=
  let gone := fun (h : Head) => h.dom == d && !h.kind.isRedeliv
  let keep : MissInput → Bool := fun i => match i with
    | .issue h => h.dom != d
    | .fault eid => !s.img.inDomain d eid
    | _ => true
  let s := { s with rnk := { s.rnk with
    offers := s.rnk.offers.filter (·.dom ≠ d), held := s.rnk.held.filter (·.dom ≠ d),
    queue := s.rnk.queue.filter (fun w => !s.img.inDomain d w.eid),
    waiting := s.rnk.waiting.filter (fun e => !s.img.inDomain d e),
    heads := s.rnk.heads.filter (fun h => !gone h), faultQ := s.rnk.faultQ.filter (·.dom ≠ d),
    heldFaults := s.rnk.heldFaults.filter (·.dom ≠ d) } }
  let s := { s with sst := { s.sst with
    missq := s.sst.missq.map (fun (m : Miss) => { m with inputs := m.inputs.filter keep }) } }
  s.dropSample d

/-- EN from 1 to 0: offers and heads are removed, run and replay end, the journal is flushed; runtime commands that
waited for an epoch take effect (R111). -/
def State.domDisable (s : State) (d : Nat) : State :=
  let s := s.lower F.VFM_DOM_CTRL_EN d
  let s := ((s.dropRanked d).rplCut d).runEnd d
  let s := s.applyWaiting d none
  let s := ((s.applyBnd .WAY_SEG d).applyBnd .VFM_SHARE d).applyBucket 1 d
  let s := if s.waybill d then s.jFlush d else s
  s.noteDrained d

/-! ### FLR and DOMAIN reset (R312 to R315, R366) -/

/-- Registers of the per-domain array. -/
def domRegs : List Reg := domPlacements.map (·.reg)

/-- The fields of the domain's own replica that do not survive return to their Reset values, but for the WAY_ fields,
which follow the flush (R14, R272). -/
def State.resetDomRegs (s : State) (d letter : Nat) : State :=
  (domRegs.filter (fun r => !wayRegs.contains r)).foldl (fun s r => s.resetReg r d letter) s

/-- The registers of a VF's page follow its function's FLR and DOMAIN reset (R14, R106, R109): those of its own page
replica. -/
def State.resetPage (s : State) (d letter : Nat) : State :=
  if d = 0 then s
  else
    let s := [Reg.WIN_ADDR, .WIN_STATUS, .REG_WIDE_SEL, .REG_WIDE_STAT].foldl (fun (s : State) r => s.resetReg r d letter) s
    (List.range 4).foldl (fun (s : State) k => s.resetReg .REG_WIDE_DATA (4 * d + k) letter) s

/-- A word of the SR-IOV capability that FABRIC keeps: the control word, NumVFs and the VF BARs (R365), by the standard's
layout (PRESUMED). -/
def sriovKept (word : Nat) : Bool := word == 2 || word == 4 || (9 ≤ word && word ≤ 14)

/-- A function's configuration header returns to its reset values (R361), that of function 0 except what FABRIC keeps
(R365). -/
def State.resetHeader (s : State) (fn : Nat) : State :=
  { s with vfm := { s.vfm with hdr := s.vfm.hdr.filter (fun x =>
      x.1 / 1024 != fn && !(fn == 0 && x.1 / 1024 == 4096 && !sriovKept (x.1 % 1024))) } }

/-- Targets a domain owns: OWNER is the domain and ANY is 0 (R14, R255). -/
def State.ownTargets (s : State) (d : Nat) : List Nat :=
  (s.regIdxs .RTE_TGT_CFG).filter (fun t => s.fld F.RTE_TGT_CFG_OWNER t = d ∧ !s.bit F.RTE_TGT_CFG_ANY t)

/-- The fields the domain owns outside its replica: ring pointers and runtime controls of its targets. Targets whose
configuration word was never written belong to domain 0. -/
def State.resetOwned (s : State) (d letter : Nat) : State :=
  let ts := if d = 0 then
      s.ownTargets 0 ++ ((s.regIdxs .DLV_RING_PTR ++ s.regIdxs .DLV_RING_CI ++ s.regIdxs .RTE_TGT_RT).filter (fun t =>
        s.reg .RTE_TGT_CFG t = Reg.resetWord .RTE_TGT_CFG t))
    else s.ownTargets d
  ts.foldl (fun s t => (s.clearPtrs (some t)).resetReg .RTE_TGT_RT t letter) s

/-- A SAVE or RESTORE of the domain runs. -/
def State.moving (s : State) (d : Nat) : Bool := (SMap.find s.vfm.saves d).isSome || (SMap.find s.vfm.restores d).isSome

/-- A job belongs to a SAVE or RESTORE of the domain. -/
def JobKind.moves (d : Nat) (k : JobKind) : Bool := k == .save d || k == .restore d

/-- A SAVE or RESTORE of the domain is aborted (R315). -/
def State.abortMove (s : State) (d : Nat) : State :=
  { s with vfm := { s.vfm with saves := SMap.erase s.vfm.saves d, restores := SMap.erase s.vfm.restores d } }.dropJobs (JobKind.moves d)

/-- The run, the sources and the parked groups of the domain are gone, its EN and MASK commands dropped (R27). -/
def State.resetCvn (s : State) (d : Nat) : State :=
  let srcs := (s.img.members d).foldl (fun m o => SMap.erase m o) s.cvn.srcs
  { s with
    cvn := { s.cvn with srcs := srcs, runs := SMap.erase s.cvn.runs d, wms := s.cvn.wms.filter (·.dom ≠ d),
                        peer := s.cvn.peer.filter (·.1 ≠ d) },
    vfm := { s.vfm with restored := s.vfm.restored.filter (· ≠ d), parkGroups := s.vfm.parkGroups.filter (·.dom ≠ d) },
    sst := { s.sst with cmds := s.sst.cmds.filter (fun c => c.d ≠ d) }, rpl := SMap.erase s.rpl d }

/-- The counts of R314 for what is present now; the number removed from ranking and the hold store is `n`. -/
def State.flrWalk (s : State) (d : Nat) (dirty : Bool) (n : Nat) : Walk :=
  let z := { Walk.none with reset := true, dirty := dirty }
  if dirty then
    { z with pend := s.countSt d .pending, act := s.countSt d .active, uniss := n }
  else z

/-- The writes in the egress queue at a dirty FLR, which it counts as they complete; a second FLR during the walk counts
those of the first too (R314, R315). -/
def State.flrEgr (s : State) (d : Nat) (dirty : Bool) : State :=
  let old := if s.resetting d then (SMap.find s.vfm.egr d).getD [] else []
  let tags := old ++ (if dirty then (s.dlv.egr.filter (·.dom = d)).map (·.tag) else [])
  { s with vfm := { s.vfm with egr := if tags.isEmpty then SMap.erase s.vfm.egr d else SMap.insert s.vfm.egr d tags.dedup } }

/-- An FLR (`letter` 4) or DOMAIN reset (8) of a domain: R27 and the resets of the owning chapters; a dirty one fences
the domain with cause 1, which is also the cause where an error has fenced it in this cycle (R409); a command that it aborts
ends with ERR 6, and the status bit of the fence stands. The vote that it sets to 1 wakes the block when it counts (R326, R335): a VF's does not, its EN
being 0 now. -/
def State.flrAs (s : State) (d letter : Nat) (dirty : Bool) : State :=
  let s0 := s
  let s := (s.abortMove d).flrEgr d dirty
  let w := s.flrWalk d dirty (s.purge d).1
  let s := (s.rplCut d).runEnd d
  let s := (((s.purge d).2.freeActive d).freeUnsent d).resetCvn d
  let s := if dirty then s.fence d 1 else s
  let s := if dirty && s0.errs.fences.contains d then s.setFld F.VFM_DOM_STAT_FENCE_CAUSE d 1 else s
  let s := (s.walkEntries d Entry.flr).beginWalk d w
  let s := s.setJrnl d { s.jrnl d with resetAfter := letter }
  let s := s.jFlush d
  let s := (s.refillMeters d).setBucket 1 d { s.bucket 1 d with tok := s.cap 1 d }
  let s := ((s.resetOwned d letter).resetDomRegs d letter).resetPage d letter
  let s := if s0.moving d then s.setFld F.VFM_DOM_CMD_ERR d 6 else s
  let s := if dirty then s.setReg .VFM_VF_STATUS d (s.reg .VFM_VF_STATUS d ||| 0x40#32) else s
  let s := if s.domEn d then s else (s.applyBnd .VFM_SHARE d).applyBucket 1 d
  let s := if letter = 4 then s.resetHeader d else s
  let s := if covDiffer s0 s (domRegs.map (fun r => (r, d))) then s.cfgStale else s
  let s : State := if d = 0 && s.img.power.voters.getLsbD 0 && !s0.bit F.PWR_VOTE_AWAKE 0 then s.wakeReq 7 0 else s
  s.noteDrained d

/-- It is clean when the domain is drained, and was so at the start of the cycle (R312, R315). -/
def State.flr (s : State) (d letter : Nat) : State := s.flrAs d letter (!s.drained d || s.errs.undrained.contains d)

/-- FLR of a function: only of a VF that SR-IOV has enabled; before READY it is held (R361, R362). -/
def State.flrFn (s : State) (fn : Nat) : State :=
  if fn = 0 ∨ s.vfm.vfs < fn then s
  else if s.fld F.REG_RST_STAT_STAGE ≠ 3 then
    { s with vfm := { s.vfm with heldFlr := if s.vfm.heldFlr.contains fn then s.vfm.heldFlr else s.vfm.heldFlr ++ [fn] } }
  else s.flr fn 4

/-- The FLRs that start-up held are carried out, clean ones (R362). -/
def State.heldFlrs (s : State) : State :=
  let l := s.vfm.heldFlr
  l.foldl (fun s d => s.flrAs d 4 false) { s with vfm := { s.vfm with heldFlr := [] } }

/-- SR-IOV enables `n` VFs: every VF that is removed acts as on an FLR (R303). -/
def State.setVfs (s : State) (n : Nat) : State :=
  let gone := (List.range s.vfm.vfs).filter (fun i => n ≤ i)
  let s := gone.foldl (fun s i => s.flrFn (i + 1)) s
  { s with vfm := { s.vfm with vfs := n } }

/-- VF Enable and NumVFs of the SR-IOV capability as they now stand (R303). -/
def State.setSriov (s : State) (en : Bool) (n : Nat) : State :=
  let s := s.setVfs (if en then min n 4095 else 0)
  { s with vfm := { s.vfm with vfEn := en, numVfs := n } }

/-- VFM_DOM_RST.GO (R362, R366). A GO while another domain's walk runs is ignored. -/
def State.domReset (s : State) : State :=
  let d := s.fld F.VFM_DOM_RST_DOMAIN
  if s.bit F.VFM_DOM_RST_BUSY ∧ s.vfm.rst ≠ some d then s
  else
    let aborted := s.moving d
    let s := s.flr d 8
    let s := (s.raise F.VFM_DOM_RST_BUSY).setFld F.VFM_DOM_RST_ERR 0 (bitNat aborted)
    { s with vfm := { s.vfm with rst := some d } }

/-- A saturating 32-bit count. -/
def sat32 (n : Nat) : Nat := min n (2 ^ 32 - 1)

/-- VFM_FLR_DIRTY and its counts at the end of an FLR's walk (R312, R314). -/
def State.flrReport (s : State) (d : Nat) (w : Walk) : State :=
  let s := s.setFld F.VFM_FLR_DIRTY_DIRTY d (bitNat w.dirty)
  let s := if w.dirty then s else s.setFld F.VFM_FLR_DROP_CNT d 0
  let s := (s.setFld F.VFM_FLR_PEND_CNT d (sat32 w.pend)).setFld F.VFM_FLR_ACT_CNT d (sat32 w.act)
  (s.setFld F.VFM_FLR_UNISS_CNT d (sat32 w.uniss)).setFld F.VFM_FLR_EGR_CNT d (sat32 w.egr)

/-- The walk of a domain ends. -/
def State.walkDone (s : State) (d : Nat) : State :=
  match SMap.find s.vfm.walks d with
  | none => s
  | some w =>
    let s := { s with vfm := { s.vfm with walks := SMap.erase s.vfm.walks d } }
    let s := if w.reset then
        let mine := (List.range 64).filter (fun k =>
          s.bit F.SST_PSN_VALID k && s.img.inDomain d (s.fld F.SST_PSN_EID k)
            && (s.entryNow (s.fld F.SST_PSN_EID k)).st != .poisoned)
        (mine.foldl (fun s k => s.setReg .SST_PSN k 0) s).flrReport d w
      else s
    let s : State := if w.reset || w.fence then s.raise F.VFM_FLR_DIRTY_VALID d else s
    let s : State := if s.vfm.rst = some d then
        { s with vfm := { s.vfm with rst := none } }.lower F.VFM_DOM_RST_BUSY else s
    s.releaseRetry .none

/-- RESET_WALK_END: the walk of a domain has passed its last line. -/
def State.walkEnd (s : State) (d : Nat) : State :=
  let e := s.img.domainEnt d
  if s.walkPassed d (e.eidBase + e.eidCount - 1) then s.walkDone d else s

/-! ### Domain commands (R317 to R320) -/

/-- Two byte ranges overlap. -/
def rangesMeet (a n b m : Nat) : Bool := decide (a < b + m) && decide (b < a + n)

/-- The journal and replay areas that are enabled: base and size in bytes. -/
def State.modeAreas (s : State) : List (Nat × Nat) :=
  ((s.regIdxs .WAY_MODE).filter s.waybill).map (fun d => (s.jBase d, s.fld F.WAY_AREA_SIZE_SIZE d * 2 ^ 20))
    ++ ((s.regIdxs .RPL_MODE).filter s.replaying).map (fun d =>
      (s.fld F.RPL_AREA_BASE_BASE d * 2 ^ 20, s.fld F.RPL_AREA_SIZE_SIZE d * 2 ^ 20))

/-- The record of a domain: where VFM_XFER puts it and its length (R317, R318). -/
def State.xferLen (s : State) (d : Nat) : Nat := 4096 + 8 * (s.img.domainEnt d).eidCount

def State.xferOff (s : State) (d : Nat) : Nat :=
  let x := s.reg64 .VFM_XFER_LO .VFM_XFER_HI d
  if x = 0 then s.img.depot.vfsaveBase + 65536 * d else x

/-- VFM_XFER is refused (R320 ERR 2). -/
def State.xferBad (s : State) (d : Nat) : Bool :=
  let x := s.reg64 .VFM_XFER_LO .VFM_XFER_HI d
  let off := s.xferOff d
  let len := s.xferLen d
  (x = 0 && decide (7680 < (s.img.domainEnt d).eidCount)) || decide (s.img.depot.winSize < off + len)
    || rangesMeet off len s.img.depot.stateBase backingBytes || rangesMeet off len s.img.depot.keepBase s.img.depot.keepSize
    || s.modeAreas.any (fun a => rangesMeet off len a.1 a.2)

/-- The register words of a save record: registers of the replica with a field that P marks, in ascending view offset
(R317). -/
def saveRegs : List (Reg × Nat) :=
  (domPlacements.filter (fun p => p.reg.fields.any (fun f => f.surv / 16 % 2 = 1))).map (fun p => (p.reg, p.base % 65536))

/-- The words part. -/
def State.saveWords (s : State) (d : Nat) : List Byte :=
  saveRegs.flatMap (fun x => leBytes 4 x.2 ++ leBytes 4 (s.regRead x.1 d).toNat)

/-- Zero bytes. -/
def zeroBytes (n : Nat) : List Byte := List.replicate n 0

/-- The register part of the record, from offset 0x40 to the entries. -/
def State.saveHead (s : State) (d : Nat) : List Byte :=
  let w := s.saveWords d
  w ++ zeroBytes (4096 - 64 - w.length)

/-- The header but for its CRCs (R317). -/
def State.saveHeader (s : State) (d lost : Nat) : List Byte :=
  let e := s.img.domainEnt d
  leBytes 4 0x56534D42 ++ leBytes 1 1 ++ leBytes 1 0
    ++ leBytes 2 (bitNat (s.bit F.CVN_MODE_MODE d) + 2 * bitNat (s.waybill d)) ++ leBytes 4 (Reg.resetWord .REG_VERSION 0).toNat
    ++ leBytes 2 d ++ leBytes 2 saveRegs.length ++ leBytes 4 e.eidBase ++ leBytes 4 e.eidCount
    ++ leBytes 4 (s.reg .IMG_LOADED_CRC).toNat ++ leBytes 4 (sat32 lost) ++ leBytes 8 s.ns ++ leBytes 8 (s.xferLen d)
    ++ leBytes 8 0

/-- The header with the CRC of the body and its own (R317). -/
def sealHeader (h body : List Byte) : List Byte :=
  let h := h ++ leBytes 4 (crc32c body).toNat
  h ++ leBytes 4 (crc32c h).toNat

/-- Hold-store groups of the domain that are not released. -/
def State.heldGroups (s : State) (d : Nat) : Nat :=
  (s.holdDoms.filter (· == d)).length

/-- The lines of a record of `n` bytes; the last is filled up with zeros. -/
def linesOf (n : Nat) : Nat := (n + 63) / 64

/-- A SAVE begins: the run ends, held and refused groups are discarded and counted, their samples dropped (R391), and the
record's register part is taken (R318). -/
def State.saveStart (s : State) (d : Nat) : State :=
  let lost := s.heldGroups d
  let s := s.runEnd d
  let keep : MissInput → Bool := fun i => match i with | .release r => r.g.dom != d | _ => true
  let gone := (s.cvn.groups ++ s.cvn.closed.flatMap (·.groups) ++ (s.cvn.refused ++ s.missRels).map (·.g)).filter (·.dom = d)
  let s := gone.foldl (fun (s : State) g => s.dropGroup g) s
  let s := { s with
    cvn := { s.cvn with groups := s.cvn.groups.filter (·.dom ≠ d), closed := s.cvn.closed.filter (·.dom ≠ d),
                        refused := s.cvn.refused.filter (·.g.dom ≠ d) },
    sst := { s.sst with missq := s.sst.missq.map (fun (m : Miss) => { m with inputs := m.inputs.filter keep }) } }
  let x : VfMove := ⟨s.xferLen d, s.saveHeader d lost, s.saveHead d⟩
  let s := { s with vfm := { s.vfm with saves := SMap.insert s.vfm.saves d x } }.startJob (.save d) true (s.xferOff d) (linesOf (s.xferLen d))
  (s.raise F.VFM_DOM_CMD_BUSY d).setFld F.VFM_DOM_CMD_ERR d 0

/-- An event of the domain that was admitted before its SAVE has not met its entry. -/
def State.saveBlocked (s : State) (d n : Nat) : Bool :=
  s.missOn n || s.intk.maps.any (·.dom == d) || s.sst.stalled.any (fun x => x.1.dom == d) || s.sst.comps.any (fun x => lineOf x.1 == n)

/-- A SAVE reads the next line of its entries through the cache, behind the inputs that wait for it (R166, R318). -/
def State.saveRead (s : State) (d : Nat) : State :=
  match SMap.find s.vfm.saves d with
  | none => s
  | some x =>
    let e := s.img.domainEnt d
    let k := (x.body.length - 4032) / 8
    let eid := e.eidBase + k
    if e.eidCount ≤ k || s.saveBlocked d (lineOf eid) then s
    else
      let (hit, s) := s.access (lineOf eid)
      if !hit then (if s.mqRoom (lineOf eid) then s.joinAll (lineOf eid) [] else s)
      else
        let new := (List.range (min (8 - eid % 8) (e.eidCount - k))).flatMap (fun i => leBytes 8 (s.entryNow (eid + i)).toBits.toNat)
        { s with vfm := { s.vfm with saves := SMap.insert s.vfm.saves d { x with body := x.body ++ new } } }

/-- The bytes of request `n` of a SAVE, once they are composed: the body's lines, and the header last. -/
def State.saveLine (s : State) (d n : Nat) : Option (List Byte) :=
  match SMap.find s.vfm.saves d with
  | none => none
  | some x =>
    if x.body.length < x.len - 64 && decide (x.body.length < 64 * (n + 1)) then none
    else if n + 1 = linesOf x.len then some (sealHeader x.hdr x.body)
    else
      let b := (x.body.drop (64 * n)).take 64
      some (b ++ zeroBytes (64 - b.length))

/-- VFM_DOM_CMD.GO with OP SAVE, UNFENCE, UNSAVE or a reserved OP (R318, R320, R429); RESTORE is elsewhere. -/
def State.domCmd (s : State) (d : Nat) : State :=
  let busyWith := s.domEn d || s.resetting d
  match s.fld F.VFM_DOM_CMD_OP d with
  | 1 =>
    if !s.frozen d ∨ s.replaying d ∨ s.bit F.VFM_DOM_STAT_SAVED d then s.setFld F.VFM_DOM_CMD_ERR d 1
    else if s.xferBad d then s.setFld F.VFM_DOM_CMD_ERR d 2
    else s.saveStart d
  | 3 => if busyWith then s.setFld F.VFM_DOM_CMD_ERR d 1 else (s.lower F.VFM_DOM_STAT_FENCED d).setFld F.VFM_DOM_CMD_ERR d 0
  | 4 => if busyWith then s.setFld F.VFM_DOM_CMD_ERR d 1 else (s.lower F.VFM_DOM_STAT_SAVED d).setFld F.VFM_DOM_CMD_ERR d 0
  | _ => s.setFld F.VFM_DOM_CMD_ERR d 7

/-- SAVE_DONE: the header is written and acknowledged (R318, R305); past the snapshot point of a persistent save the
command stands still (R351). -/
def State.saveDone (s : State) (d : Nat) : State :=
  match (if s.saving || !s.jobDone (.save d) then none else SMap.find s.vfm.saves d) with
  | none => s
  | some x =>
    let s := { s with vfm := { s.vfm with saves := SMap.erase s.vfm.saves d } }.dropJobs (· == JobKind.save d)
    let s := (s.raise F.VFM_DOM_STAT_SAVED d).setFld F.VFM_XFER_LEN_LEN d (x.len / 8)
    ((s.lower F.VFM_DOM_CMD_BUSY d).setFld F.VFM_DOM_CMD_ERR d 0).vfStatus d 0

/-! ### Depot lines (R321) -/

/-- A line write is refused: it lies in the state backing, the keep region, or an enabled domain's journal area. -/
def State.lineProtected (s : State) (a : Nat) : Bool :=
  rangesMeet a 64 s.img.depot.stateBase backingBytes || rangesMeet a 64 s.img.depot.keepBase s.img.depot.keepSize
    || (s.regIdxs .VFM_DOM_CTRL).any (fun d =>
      s.domEn d && rangesMeet a 64 (s.jBase d) (s.fld F.WAY_AREA_SIZE_SIZE d * 2 ^ 20))

/-- VFM_DEP_CMD.GO: the line is asked for, or its write requested (R321). A GO is ignored while BUSY. -/
def State.depLine (s : State) : State :=
  let a := s.reg64 .VFM_DEP_ADDR_LO .VFM_DEP_ADDR_HI
  let op := s.fld F.VFM_DEP_CMD_OP
  if s.bit F.VFM_DEP_CMD_BUSY then s
  else if op ≠ 1 ∧ op ≠ 2 then s.setFld F.VFM_DEP_CMD_ERR 0 1
  else if op = 2 ∧ s.lineProtected a then s.setFld F.VFM_DEP_CMD_ERR 0 2
  else
    let data := lineData ((List.range 16).flatMap (fun k => leBytes 4 (s.reg .VFM_DEP_DATA k).toNat))
    s.raise F.VFM_DEP_CMD_BUSY |>.startJob (.line data) (op = 2) a 1

/-- The answer to the line's request: BUSY falls, and a read fills VFM_DEP_DATA. -/
def State.depLineDone (s : State) (write poison : Bool) (line : Nat) : State :=
  let s := (s.dropJobs (fun k => match k with | .line _ => true | _ => false)).lower F.VFM_DEP_CMD_BUSY
  if write then s.setFld F.VFM_DEP_CMD_ERR 0 0
  else
    let s := (List.range 16).foldl (fun (s : State) k =>
      s.setReg .VFM_DEP_DATA k (if poison then 0 else BitVec.ofNat 32 (s.depNat (64 * line + 4 * k) 4))) s
    s.setFld F.VFM_DEP_CMD_ERR 0 (if poison then 3 else 0)

end Sys2Proof.Machine
end

