-- ==== Sys2Proof/Machine/Loader.lean ====
section
/-! DEFINITION. The Image Loader: chunk requests, the answers to them, judging a slot, choosing one, the second read, and
bringing an image or the no-image state into force (R88 to R99). -/

namespace Sys2Proof.Machine

/-- A chunk is requested. -/
def State.imgReq (s : State) : Bool := s.bit F.IMG_FETCH_REQ

/-- SB_ALERT_N is asserted (R89): a request on the sideband path. -/
def State.mailboxPath (s : State) : Bool := s.fld F.REG_STRAPS_IMG_PATH = 1

/-- SB_ALERT_N. -/
def State.sbAlert (s : State) : Bool := s.imgReq && !s.mailboxPath

/-- Request `n` bytes of a slot from offset `o` (R89, R99). -/
def State.imgAsk (s : State) (slot : Bool) (o n : Nat) : State :=
  let s := (s.setFld F.IMG_FETCH_SLOT 0 (bitNat slot)).setFld F.IMG_FETCH_OFFSET 0 o
  let s := (s.setFld F.IMG_FETCH_COUNT 0 n).raise F.IMG_FETCH_REQ
  { s with imgl := { s.imgl with since := s.tim.now } }

/-- Start reading a slot at its header. -/
def State.imgRead (s : State) (ph : LoadPhase) (slot : Bool) : State :=
  { s with imgl := { s.imgl with phase := ph, slot := slot, buf := [] } }.imgAsk slot 0 64

/-- Arbitration begins (R91): at start-up in automatic selection (R94), or for a reload with SLOT_SEL (R95). `code` keeps IMG_STATUS.STATE for a reload that changes
nothing. -/
def State.arbStart (s : State) (reload : Bool) : State :=
  let forced := s.fld F.IMG_CTRL_SLOT_SEL
  let sel := if reload ∧ forced ≠ 3 then forced else 0
  let old := s.fld F.IMG_STATUS_STATE
  let s := s.setFld F.IMG_STATUS_STATE 0 1
  { s with imgl := { Loader.idle with reload := reload, sel := sel, code := old } }.imgRead
    .reading (sel == 2)

/-- The code of a slot's last check is recorded (R88, R98, R99). -/
def State.imgErr (s : State) (slot : Bool) (code off : Nat) : State :=
  let s := if slot then s.setFld F.IMG_STATUS_B_ERR 0 code else s.setFld F.IMG_STATUS_A_ERR 0 code
  if code = 0 then s
  else (s.setFld F.IMG_ERR_OFF_SLOT 0 (bitNat slot)).setFld F.IMG_ERR_OFF_OFFSET 0 off

/-- A slot is judged: the next candidate is read, or arbitration or the second read has ended. -/
def State.imgJudge (s : State) (code off : Nat) : State :=
  let l := s.imgl
  let s := (s.imgErr l.slot code off).lower F.IMG_FETCH_REQ
  if l.phase = .loading then { s with imgl := { l with phase := .loaded, code := code } }
  else
    let c := if code = 0 then some (Cand.mk (l.buf.take 64)) else none
    let l := if l.slot then { l with b := c } else { l with a := c }
    let s := { s with imgl := { l with phase := .judged } }
    if l.sel = 0 ∧ !l.slot then s.imgRead .reading true else s

/-- The first 64 bytes of the slot found intact at arbitration. -/
def Loader.cand (l : Loader) (slot : Bool) : List Byte := ((if slot then l.b else l.a).map (·.hdr)).getD []

/-- A request has been answered: the header checks run, or the next bytes are requested, or the slot is judged
(R88, R89). In the second read, content that differs from the first ends with code 0x13 (R92). -/
def State.imgStep (s : State) : State :=
  let s := s.lower F.IMG_FETCH_REQ
  let l := s.imgl
  let n := l.buf.length
  let loading := l.phase == .loading
  if n = 64 ∧ loading ∧ l.buf ≠ l.cand l.slot then s.imgJudge 0x13 0
  else
    match (if n = 64 ∧ !loading then firstFail (headerChecks l.buf) else none) with
    | some (c, o) => s.imgJudge c o
    | none =>
      let len := imgNat l.buf 0x0C 4
      if n < len then s.imgAsk l.slot n (min 64 (len - n))
      else if loading then
        if imgNat l.buf 0x38 4 = (crc32c (l.buf.drop 0x40)).toNat then s.imgJudge 0 0 else s.imgJudge 0x13 0x38
      else
        match readImage l.buf (s.bit F.REG_STRAPS_RING_PRESENT) with
        | .error (c, o) => s.imgJudge c o
        | .ok _ => s.imgJudge 0 0

/-- Image data arrives (R89, R90): data that answers no pending request sets STRAY. -/
def State.imgData (s : State) (mailbox slot : Bool) (off : Nat) (bytes : List Byte) : Bool × State :=
  let want := s.fld F.IMG_FETCH_OFFSET + s.fld F.IMG_FETCH_COUNT
  let n := s.imgl.buf.length
  if !s.imgReq || mailbox != s.mailboxPath || slot != s.imgl.slot || off != n then (false, s.raise F.IMG_STATUS_STRAY)
  else
    let s := { s with imgl := { s.imgl with buf := s.imgl.buf ++ bytes.take (want - n) } }
    (true, if want ≤ n + bytes.length then s.imgStep else s)

/-- The 64 bytes of the PF mailbox (R89). -/
def State.mboxBytes (s : State) : List Byte :=
  (List.range 16).flatMap (fun k => leBytes 4 (s.reg .IMG_MBOX_DATA k).toNat)

/-- A write of IMG_MBOX_DATA15 delivers the chunk at the next expected offset. -/
def State.imgMailbox (s : State) : State := (s.imgData true s.imgl.slot s.imgl.buf.length s.mboxBytes).2

/-- No chunk arrived within 100 ms (code 0x02). -/
def State.imgTimeout (s : State) : State :=
  if s.imgReq ∧ s.passed s.imgl.since 100000000 then s.imgJudge 0x02 (s.fld F.IMG_FETCH_OFFSET) else s

/-- The agent declares the requested slot empty (code 0x01). With no request pending the write sets STRAY as data would
(DESIGN CHOICE: R90 speaks of data only). -/
def State.imgAbsent (s : State) : State :=
  if s.imgReq then s.imgJudge 0x01 (s.fld F.IMG_FETCH_OFFSET) else s.raise F.IMG_STATUS_STRAY

/-- The choice of R91: the slot, and whether both slots carry one GEN with different content. -/
def Loader.choose (l : Loader) : Option Bool × Bool :=
  match l.a, l.b with
  | some a, some b =>
    let ga := imgNat a.hdr 8 4
    let gb := imgNat b.hdr 8 4
    if ga ≠ gb then (some (decide (ga < gb)), false)
    else (some false, imgNat a.hdr 0x0C 4 != imgNat b.hdr 0x0C 4 || imgNat a.hdr 0x38 8 != imgNat b.hdr 0x38 8)
  | some _, none => (some false, false)
  | none, some _ => (some true, false)
  | none, none => (none, false)

/-- Fields with Reset "img". -/
def imgFields : List (Field × List Nat) :=
  [(F.MGT_AUTH_CLASS_MASK, [0]), (F.MGT_MGR_PORTS_PORTS, [0, 1, 2, 3]), (F.PWR_PERF_CEIL, [0]), (F.PWR_PERF_REQ, [0]),
   (F.SAV_POLICY_SHORT, [0]), (F.SAV_POLICY_PART_PRIO, [0]), (F.RTE_GRP_STAT_DEPTH, List.range 1024)]

/-- Every field with Reset "img" takes its value from the image in force; AUTH_LOCK and KEEP_LOCK set their locks
(R10, R95). -/
def State.imgValues (s : State) : State :=
  let s := imgFields.foldl (fun s x => x.2.foldl (fun s i => s.setFld x.1 i (x.1.imgValue s.img i)) s) s
  let s := if s.img.authLock then s.raise F.REG_LOCK_AUTH else s
  if s.img.keepLock then s.raise F.REG_LOCK_KEEP else s

/-- An image comes into force (R92, R95, R96). SKIPPED is set for the image that comes into force, not for a section
skipped in an arbitration read (DESIGN CHOICE: R98 does not say which). -/
def State.imgApply (s : State) (im : Image) (skipped : Bool) : State :=
  let slot := s.imgl.slot
  let s := { s with img := im, imgl := Loader.idle }.imgValues
  let s := (s.setFld F.IMG_STATUS_STATE 0 3).setFld F.IMG_STATUS_LOADED_SLOT 0 (bitNat slot)
  let s := (s.setReg .IMG_LOADED_GEN 0 im.gen).setReg .IMG_LOADED_CRC 0 im.bodyCrc
  let s := if skipped then s.raise F.IMG_STATUS_SKIPPED else s
  let s := s.setFld F.SAV_STATUS_NO_HOME 0 (bitNat (decide (im.depot.tableSize < 2 ^ 24)))
  s.cfgChanged none

/-- The no-image state (R93): error 16 names both slots' codes. -/
def State.imgNone (s : State) : State :=
  let s := { s with img := Image.noImage, imgl := Loader.idle }.imgValues
  let s := ((s.setFld F.IMG_STATUS_STATE 0 0).setReg .IMG_LOADED_GEN 0 0).setReg .IMG_LOADED_CRC 0 0
  (s.error 16 15 none (s.fld F.IMG_STATUS_A_ERR * 32 + s.fld F.IMG_STATUS_B_ERR) .none).cfgChanged none

/-- The second read of a slot starts; before a reload applies it every domain is reset as by DOMAIN (R95). -/
def State.imgLoad (s : State) (slot : Bool) : State :=
  let s := s.setFld F.IMG_STATUS_STATE 0 2
  s.imgRead .loading slot

/-- Every domain (R95). -/
def allDoms : List Nat := List.range 4096

/-- ARBITRATION_DONE. -/
def State.arbDone (s : State) : State :=
  if s.imgl.phase ≠ .judged then s
  else
    let (c, twin) := s.imgl.choose
    let s := if twin then s.raise F.IMG_STATUS_TWIN_CONFLICT else s
    match c with
    | some slot =>
      let s := if s.imgl.reload then allDoms.foldl (fun (s : State) d => s.flr d 8) s else s
      s.imgLoad slot
    | none =>
      if s.imgl.reload then
        let s := (s.raise F.IMG_STATUS_KEPT).setFld F.IMG_STATUS_STATE 0 s.imgl.code
        { s with imgl := Loader.idle }
      else { s with imgl := { s.imgl with phase := .loaded, code := 0x13, a := none, b := none } }

/-- IMAGE_APPLY_DONE: the image read comes into force, the other slot is read instead, or the no-image state is
entered. The answer says whether a decision stands. -/
def State.imgDone (s : State) : Bool × State :=
  let l := s.imgl
  if l.phase ≠ .loaded then (false, s)
  else
    let other := if l.slot then l.a else l.b
    match (if l.code = 0 then readImage l.buf (s.bit F.REG_STRAPS_RING_PRESENT) else .error (0x13, 0)) with
    | .ok (im, sk) => (true, s.imgApply im sk)
    | .error _ =>
      if l.sel = 0 ∧ other.isSome then
        let l := if l.slot then { l with b := none } else { l with a := none }
        (false, { s with imgl := l }.imgLoad (!l.slot))
      else (true, s.imgNone)

/-- RELOAD is allowed (R95): every domain disabled, TDM_MODE 0, no fetch in progress. -/
def State.reloadOk (s : State) : Bool := s.allDisabled && !s.bit F.TDM_MODE_MODE && s.imgl.phase == .idle

end Sys2Proof.Machine
end

