-- ==== Sys2Proof/Machine/Chetal.lean ====
section
/-! DEFINITION. The Chetal Ring Port: what a member does with a received record, forwarding, CHECK and hop loss, joining,
windows, leaving, founding, BEACON and PROBE, and the pattern of a wake (R282 to R293). -/

namespace Sys2Proof.Machine

/-! ### Fields of a record (R282, R287) -/

/-- TYPE. -/
def rTy (r : Rec) : Nat := recFld r 125 3
/-- POS. -/
def rPos (r : Rec) : Nat := recFld r 120 5
/-- SUB of a CTRL record. -/
def rSub (r : Rec) : Nat := recFld r 112 8
/-- SUB of a TANDEM record (R296). -/
def rTsub (r : Rec) : Nat := recFld r 116 4
/-- OP of a PEER record (R302). -/
def rOp (r : Rec) : Nat := recFld r 118 2

/-- The record is of a CTRL subtype. -/
def isCtrl (r : Rec) (sub : Nat) : Bool := rTy r == chCtrl && rSub r == sub

/-- The unit's own position. -/
def State.pos (s : State) : Nat := s.img.ring.position

/-- All four lanes of a port are up. -/
def State.portUp (s : State) (p : ChlPort) : Bool := (s.side p).lanes = 15

/-- The bandwidth index of a port (R394). -/
def bwPort : ChlPort → Nat
  | .east => 129
  | .west => 130

/-- The member is on the ring or founds it: its transmitters are in use (R288). -/
def State.txOn (s : State) : Bool := s.chl.st = .joined || s.chl.st = .found

/-- CHL_BYPASS_N is deasserted (high): the member is on the ring with both ports trained, or founds it (R56, R288). A
joiner deasserts it at OPEN, before its ports lock (R290). A halted block asserts it (R410). -/
def State.bypassN (s : State) : Bool :=
  !s.halted && s.fld F.PWR_STATUS_STATE != 6 &&
    (s.chl.st = .found || (s.chl.st = .joined && (s.chl.joining || (s.portUp .east && s.portUp .west))))

/-- CHL_x_TXEN: the transmitters run, but for the first 1,000 ns of a wake pattern (R288, R293). -/
def State.txEn (s : State) (p : ChlPort) : Bool :=
  s.txOn && !((s.side p).pattern.any (fun t => decide (s.tim.now < t + 45000)))

/-! ### Receiving and forwarding (R283 to R286) -/

/-- Every record of a hop but a CHECK counts toward the next CHECK, with its CRC. -/
def State.rxCount (s : State) (p : ChlPort) (r : Rec) : State :=
  let x := s.side p
  let s := s.traffic (bwPort p) false 16
  if isCtrl r 1 then s
  else s.setSide p { x with rcvd := x.rcvd + 1, rcvdCrc := crcRun x.rcvdCrc (recBytes r) }

/-- A record goes on by the opposite port; behind a full transmit queue it is lost (R285). -/
def State.forward (s : State) (p : ChlPort) (r : Rec) : State :=
  let o := otherPort p
  if s.txRoom o then (s.setSide o { s.side o with tx := (s.side o).tx ++ [r] }).countG 0x1F else s

/-- A broadcast goes on, unless its sender sees it return. -/
def State.pass (s : State) (p : ChlPort) (r : Rec) : State := if rPos r = s.pos then s else s.forward p r

/-- TYPEs that carry caravan payload (R195, R284). -/
def carriesCaravan (ty : Nat) : Bool := ty = chEvent || ty = chWaymark || ty = chSilent || ty = chClose

/-- TYPEs that name a destination (R283). -/
def isUnicast (ty : Nat) : Bool := ty = chEvent || ty = chClose || ty = chTandem || ty = chPeer

/-- A record not meant for this member is forwarded, or removed and counted when its destination is unjoined (R284). -/
def State.passOn (s : State) (p : ChlPort) (r : Rec) : State :=
  if isUnicast (rTy r) then
    if s.joinedAt (rPos r) then s.forward p r
    else
      let s := s.countG 0x20
      if carriesCaravan (rTy r) then s.caravanLost else s
  else s.pass p r

/-- A hop loss detected (`i` 0 east, 1 west) or reported (2) means lost caravan records (R195, R406 code 19); in a
pair the standby also resynchronises (R286). -/
def State.ringLost (s : State) (i : Nat) : State :=
  let s := ((s.raise F.CHL_STATUS_LOSS).countG 0x21).error 19 11 none i .all
  if s.paired then s.resync else s

/-- A hop loss at this member (R286). -/
def State.hopLoss (s : State) (p : ChlPort) : State :=
  ((s.ringLost (match p with | .east => 0 | .west => 1)).sendCtrl .east 0x0A 0).sendCtrl .west 0x0A 0

/-- CHECK: the neighbour's count and CRC against this side's (R286). -/
def State.rxCheck (s : State) (p : ChlPort) (r : Rec) : State :=
  let x := s.side p
  let good := recFld r 80 32 = x.rcvd % 2 ^ 32 ∧ BitVec.ofNat 32 (recFld r 48 32) = x.rcvdCrc ^^^ 0xFFFFFFFF#32
  let s := s.setSide p { x with rcvd := 0, rcvdCrc := 0xFFFFFFFF#32 }
  if good then s else s.hopLoss p

/-- The CHECK record of a port: the count and CRC of this hop since the last one. -/
def State.checkRec (s : State) (p : ChlPort) : Rec :=
  let x := s.side p
  s.ctrlRec 1 (x.sent % 2 ^ 32 * 2 ^ 80 + (x.sentCrc ^^^ 0xFFFFFFFF#32).toNat * 2 ^ 48)

/-- CHECK_SEND: a CHECK goes next. A full queue has no room for it before the next that is due. -/
def State.checkSend (s : State) (p : ChlPort) : State :=
  if !s.onRing || !s.txRoom p then s
  else
    let x := s.side p
    s.setSide p { x with tx := s.checkRec p :: x.tx, sent := 0, sentCrc := 0xFFFFFFFF#32 }

/-- The WAKE record that fills the pattern (R287, R293). -/
def State.wakeRec (s : State) : Rec := s.ctrlRec 0x0B (s.img.ring.ringId.toNat * 2 ^ 80)

/-- A LOSS received: acted on, and passed on until its sender sees it. -/
def State.rxLoss (s : State) (p : ChlPort) (r : Rec) : State :=
  if rPos r = s.pos then s
  else (s.ringLost 2).forward p r

/-- The lanes of a port change (R286): a fall while joined is a hop loss. -/
def State.lanesTo (s : State) (p : ChlPort) (l : BitVec 4) : State :=
  let fell := ((s.side p).lanes &&& ~~~l) ≠ 0
  let s := s.setSide p { s.side p with lanes := l }
  if fell ∧ s.onRing then s.hopLoss p else s

/-! ### Pauses (R285) -/

/-- DIR of a port's transmit direction. -/
def dirOf : ChlPort → Bool
  | .east => false
  | .west => true

/-- PAUSE and RESUME of a sender for a direction. -/
def State.setPause (s : State) (who : Nat) (dir on : Bool) : State :=
  let l := s.chl.pauses.filter (· ≠ (who, dir))
  { s with chl := { s.chl with pauses := if on then l ++ [(who, dir)] else l } }

/-- A PAUSE for a direction is in force. -/
def State.paused (s : State) (dir : Bool) : Bool := s.chl.pauses.any (fun x => x.2 == dir)

/-- A transmit queue crosses its marks. -/
def State.txMark (s : State) (p : ChlPort) : State :=
  let x := s.side p
  let dir := dirOf p
  let body := if dir then 2 ^ 111 else 0
  if 4096 ≤ x.tx.length ∧ !x.pausing then
    ((s.setSide p { x with pausing := true }).setPause s.pos dir true).sendCtrl (otherPort p) 4 body
  else if x.tx.length < 2048 ∧ x.pausing then
    ((s.setSide p { x with pausing := false }).setPause s.pos dir false).sendCtrl (otherPort p) 5 body
  else s

/-- A PAUSE received. -/
def State.rxPause (s : State) (p : ChlPort) (r : Rec) : State :=
  if rPos r = s.pos then s else (s.setPause (rPos r) (r.getLsbD 111) true).forward p r

/-- The window ends at this member: origination resumes. -/
def State.windowOver (s : State) : State :=
  { s with chl := { s.chl with window := none, opened := false, winEnd := some s.ns, waking := false } }

/-- A RESUME received: it ends a pause, or with WEND the window. -/
def State.rxResume (s : State) (p : ChlPort) (r : Rec) : State :=
  if rPos r = s.pos then s
  else
    let s := if r.getLsbD 110 then s.windowOver else s.setPause (rPos r) (r.getLsbD 111) false
    s.forward p r

/-! ### Coordinator (R194, R292) -/

/-- The joined positions of the last BEACON. -/
def State.joinedList (s : State) : List Nat := (List.range 32).filter s.joinedAt

/-- Replace the mask of joined positions. -/
def State.setJoined (s : State) (l : List Nat) : State :=
  s.setFld F.CHL_JOINED_JOINED 0 ((List.range 32).foldl (fun n p => if l.contains p then n + 2 ^ p else n) 0)

/-- The coordinator's duties pass to this member: every hold clock starts afresh (R194). -/
def State.takeCoord (s : State) : State :=
  let runs := s.cvn.runs.map (fun (x : Nat × Run) => (x.1, { x.2 with clock := x.2.clock.map (fun _ => 0) }))
  { s.setFld F.CHL_STATUS_COORD 0 s.pos with
    cvn := { s.cvn with runs := runs }, chl := { s.chl with beaconSent := 0, probeSent := 0 } }

/-- A member is gone from the ring; when it was the coordinator the next lowest takes over. -/
def State.memberGone (s : State) (p : Nat) : State :=
  let l := s.joinedList.filter (· ≠ p)
  let was := s.fld F.CHL_STATUS_COORD
  let s := s.setJoined l
  if was = p then
    match l with
    | [] => s
    | c :: _ => if c = s.pos then s.takeCoord else s.setFld F.CHL_STATUS_COORD 0 c
  else s

/-- BEACON_MISS: three BEACONs in a row are missing (30.72 µs). -/
def State.beaconMiss (s : State) : State :=
  if s.onRing ∧ !s.coordinator ∧ s.passed s.chl.beacon 30720 then
    let now := s.tim.now
    let s := s.memberGone (s.fld F.CHL_STATUS_COORD)
    { s with chl := { s.chl with beacon := now } }
  else s

/-- What a BEACON says of the ring (R287): its identity, the members joined, the calibrated round trip and excess, the
number of members and the coordinator's position. -/
def State.beaconBody (s : State) : Nat :=
  s.img.ring.ringId.toNat * 2 ^ 80 + (s.reg .CHL_JOINED).toNat * 2 ^ 48 + s.fld F.CVN_CAL_RTT * 2 ^ 32
    + s.qlive * 2 ^ 16 + (s.img.ring.members - 1) * 2 ^ 10 + s.pos * 2 ^ 5

/-- BEACON_SEND. -/
def State.beaconSend (s : State) : State :=
  if s.onRing ∧ s.coordinator ∧ (s.chl.beaconSent = 0 ∨ s.passed s.chl.beaconSent 10240) then
    { s.sendCtrl .east 2 s.beaconBody with chl := { (s.sendCtrl .east 2 s.beaconBody).chl with beaconSent := max 1 s.tim.now } }
  else s

/-- The join check of R289: the code of the first failing item, 0 when it passes. -/
def State.joinCheck (s : State) (r : Rec) : Nat :=
  if recFld r 80 32 ≠ s.img.ring.ringId.toNat then 1
  else if recFld r 10 6 + 1 ≠ s.img.ring.members then 2
  else if (recFld r 48 32).testBit s.pos then 3
  else 0

/-- What every other member reads from a BEACON. -/
def State.beaconTake (s : State) (r : Rec) : State :=
  let s := ((s.setFld F.CHL_JOINED_JOINED 0 (recFld r 48 32)).setFld F.CHL_STATUS_COORD 0 (recFld r 5 5))
  let s := (s.setFld F.CVN_CAL_RTT 0 (recFld r 32 16)).setFld F.CVN_CAL_QLIVE 0 (recFld r 16 16)
  let gone := s.partnerPos.any (fun p => !(recFld r 48 32).testBit p)
  { s with chl := { s.chl with beacon := s.tim.now, absent := if gone then s.chl.absent + 1 else 0 } }

/-- A BEACON received (R288, R289, R291). -/
def State.rxBeacon (s : State) (p : ChlPort) (r : Rec) : State :=
  match s.chl.st with
  | .listen =>
    let s := { s with chl := { s.chl with beacon := s.tim.now } }
    if s.portUp .east && s.portUp .west then
      let s := s.beaconTake r
      match s.joinCheck r with
      | 0 => { s with chl := { s.chl with st := .ready } }
      | c => { s.setFld F.CHL_STATUS_JERR 0 c with chl := { s.chl with st := .refused } }
    else s
  | .ready => s.beaconTake r
  | .joined =>
    if rPos r = s.pos then s
    else if s.coordinator ∧ s.pos < rPos r then s.forward p r
    else (s.beaconTake r).forward p r
  | .found => if rPos r = s.pos then s else { s with chl := { s.chl with beacon := s.tim.now } }
  | _ => s

/-! ### PROBE and calibration (R290, R292) -/

/-- A PROBE of this coordinator. -/
def State.probeOut (s : State) : State := s.sendCtrl .east 3 (s.ns % 2 ^ 64 * 2 ^ 48)

/-- Calibration: 16 PROBEs. -/
def State.calibrate (s : State) : State :=
  (List.range 16).foldl (fun s _ => s.probeOut) { s with chl := { s.chl with calib := some (s.ns % 2 ^ 64, 16, 0) } }

/-- PROBE_SEND. -/
def State.probeSend (s : State) : State :=
  if s.onRing ∧ s.coordinator ∧ (s.chl.probeSent = 0 ∨ s.passed s.chl.probeSent 1024) then
    { s.probeOut with chl := { s.probeOut.chl with probeSent := max 1 s.tim.now } }
  else s

/-- A calibrated RTT takes effect. -/
def State.setRtt (s : State) (t : Nat) : State :=
  let s := s.setFld F.CVN_CAL_RTT 0 (min t 65535)
  if 2000 < t then s.raise F.CHL_STATUS_RTT_LONG else s

/-- A PROBE of the calibration comes back after `t` ns: the last one gives the new RTT. -/
def State.calibTake (s : State) (at_ n m t : Nat) : State :=
  let m := max m t
  if n ≤ 1 then
    let s := s.setRtt m
    { s with chl := { s.chl with calib := none } }
  else { s with chl := { s.chl with calib := some (at_, n - 1, m) } }

/-- The excess of a round trip outside windows (R292). -/
def State.ringExcess (s : State) (t : Nat) : State :=
  if s.chl.window.isSome then s
  else
    let x := t - s.fld F.CVN_CAL_RTT
    let s := { s with tel := { s.tel with qCur := max s.tel.qCur x } }
    s.probe 5 x

/-- A PROBE comes back to the coordinator, or passes another member. One of a calibration carries its time. -/
def State.rxProbe (s : State) (p : ChlPort) (r : Rec) : State :=
  if rPos r ≠ s.pos then s.forward p r
  else
    let t := s.ns - recFld r 48 64
    match s.chl.calib with
    | some (at_, n, m) => if recFld r 48 64 = at_ then s.calibTake at_ n m t else s.ringExcess t
    | none => s.ringExcess t

/-! ### Windows (R290) -/

/-- Members the image expects that have not joined. -/
def State.missingMembers (s : State) : Bool :=
  (List.range s.img.ring.members).any (fun p => s.img.presentAt p && !s.joinedAt p)

/-- A window is due: one is asked for, or members are missing and the interval has passed; 1 ms lies between two windows. -/
def State.windowDue (s : State) : Bool :=
  (s.chl.winWant || (s.missingMembers
    && decide (s.chl.winSent + max 1 (s.fld F.CHL_CTRL_WIN_INT) * 1000000 ≤ s.ns)))
    && s.chl.winEnd.all (fun e => decide (e + 1000000 ≤ s.ns))

/-- WINDOW_SEND. -/
def State.windowSend (s : State) : State :=
  if s.onRing ∧ s.coordinator ∧ s.chl.window.isNone ∧ s.windowDue then
    let opn := s.ns + 2 * s.fld F.CVN_CAL_RTT + 5000
    let len := max 1 (s.fld F.CHL_CTRL_WIN_LEN)
    let s := s.sendCtrl .east 6 (opn % 2 ^ 64 * 2 ^ 48 + len * 2 ^ 32)
    { s with chl := { s.chl with window := some (opn, len), opened := false, winWant := false, winSent := s.ns } }
  else s

/-- A WINDOW received: only CTRL is originated from now. -/
def State.rxWindow (s : State) (p : ChlPort) (r : Rec) : State :=
  if rPos r = s.pos then s
  else
    let s := if s.onRing ∨ s.chl.st = .ready then
        { s with chl := { s.chl with window := some (recFld r 48 64, max 1 (recFld r 32 16)), opened := false } } else s
    if s.onRing then s.forward p r else s

/-- The member is off the ring and listens; its mask, queues and pauses are void. -/
def State.toListen (s : State) : State :=
  { s with chl := { s.chl with st := if s.halted then .off else .listen, joining := false, pauses := [], window := none, opened := false,
                               beacon := s.tim.now, calib := none } }

/-- The wake pattern starts on a port (R293). -/
def State.wakePort (s : State) (p : ChlPort) : State := s.setSide p { s.side p with pattern := some s.tim.now }

/-- A leaver whose LEAVE has gone closes its bypass. -/
def State.leaveEnd (s : State) : State :=
  if s.chl.departing && s.chl.east.tx.isEmpty then
    let s := { s with chl := { s.chl with leaving := false, departing := false } }.toListen
    if s.pwr.decided.isSome then { s with pwr := { s.pwr with detached := true } } else s
  else s

/-- WINDOW_OPEN: a READY member joins, a leaver sends LEAVE, a member that asked for a wake starts the pattern. -/
def State.windowOpen (s : State) : State :=
  match s.chl.window with
  | none => s
  | some (opn, _) =>
    if s.chl.opened ∨ s.ns < opn then s
    else
      let s := { s with chl := { s.chl with opened := true } }
      if s.chl.st = .ready then
        { s with chl := { s.chl with st := .joined, joining := true, lockE := false, lockW := false,
                                     tried := s.tim.now } }
      else if s.onRing ∧ s.chl.leaving then
        let s := s.sendCtrl .east 9 0
        { s with chl := { s.chl with departing := true } }
      else if s.onRing ∧ s.chl.waking then (s.wakePort .east).wakePort .west
      else s

/-- The lowest joined member is the coordinator (R194). -/
def State.lowestTakes (s : State) : State := if s.joinedList.all (fun p => decide (s.pos ≤ p)) then s.takeCoord else s

/-- A port achieves lock and deskew: CHECK counts restart, and a joiner with both ports locked sends JOINED. It is the
coordinator when its position is the lowest (R194). -/
def State.laneLock (s : State) (p : ChlPort) : State :=
  let x := s.side p
  let s := s.setSide p { x with lanes := 15, sent := 0, sentCrc := 0xFFFFFFFF#32, rcvd := 0, rcvdCrc := 0xFFFFFFFF#32 }
  if !s.chl.joining then s
  else
    let s := match p with
      | .east => { s with chl := { s.chl with lockE := true } }
      | .west => { s with chl := { s.chl with lockW := true } }
    if s.chl.lockE && s.chl.lockW then
      let s := { s with chl := { s.chl with joining := false } }
      let s := s.setJoined (s.joinedList ++ [s.pos])
      (s.sendCtrl .east 7 (s.img.ring.ringId.toNat * 2 ^ 80)).lowestTakes
    else s

/-- JOIN_TIMEOUT: at OPEN + 10 µs a joiner whose ports have not both locked reasserts its bypass. -/
def State.joinTimeout (s : State) : State :=
  if s.chl.joining ∧ s.passed s.chl.tried 10000 then s.toListen else s

/-- The coordinator sends the RESUME that ends the window. -/
def State.windowClose (s : State) : State := (s.sendCtrl .east 5 (2 ^ 110)).windowOver

/-- WINDOW_END: the coordinator ends a window that is open, once no calibration runs. -/
def State.windowEnd (s : State) : State :=
  if s.onRing ∧ s.coordinator ∧ s.chl.window.isSome ∧ s.chl.opened ∧ s.chl.calib.isNone then s.windowClose else s

/-- The coordinator ends the window at OPEN + WIN_LEN at the latest. -/
def State.windowLimit (s : State) : State :=
  match s.chl.window with
  | none => s
  | some (opn, len) => if s.onRing ∧ s.coordinator ∧ opn + len * 1000 ≤ s.ns then s.windowClose else s

/-- A joiner's JOINED: the coordinator lists it and recalibrates; one with a lower position takes the coordinator's
duties, and calibrates when its own JOINED comes back (R194, R290). -/
def State.rxJoined (s : State) (p : ChlPort) (r : Rec) : State :=
  if rPos r = s.pos then (if s.coordinator then s.calibrate else s)
  else
    let s := if !s.coordinator then s
      else
        let s := s.setJoined (s.joinedList ++ [rPos r])
        if rPos r < s.pos then s.setFld F.CHL_STATUS_COORD 0 (rPos r) else s.calibrate
    s.forward p r

/-- LEAVE_REQ and WAKE_REQ: the coordinator owes a window. -/
def State.rxWant (s : State) (p : ChlPort) (r : Rec) : State :=
  if rPos r = s.pos then s
  else
    let s := if s.coordinator then { s with chl := { s.chl with winWant := true } } else s
    s.forward p r

/-- This member asks for a window. -/
def State.askWindow (s : State) (sub : Nat) : State :=
  let s := s.sendCtrl .east sub 0
  if s.onRing ∧ s.coordinator then { s with chl := { s.chl with winWant := true } } else s

/-- CHL_CTRL.LEAVE: the member leaves at the window. -/
def State.chlLeave (s : State) : State :=
  if s.onRing then { s with chl := { s.chl with leaving := true } }.askWindow 8 else s

/-- A port whose link is down sends the pattern at once (R293). -/
def State.wakeDown (s : State) (p : ChlPort) : State := if s.portUp p then s else s.wakePort p

/-- A member asks for a wake (R334); its pattern starts at OPEN. -/
def State.askWake (s : State) : State :=
  if s.onRing then (({ s with chl := { s.chl with waking := true } }.askWindow 0x0C).wakeDown .east).wakeDown .west else s

/-- A LEAVE received. -/
def State.rxLeave (s : State) (p : ChlPort) (r : Rec) : State :=
  if rPos r = s.pos then s
  else
    let s := s.memberGone (rPos r)
    let s := if s.partnerPos = some (rPos r) then { s with chl := { s.chl with absent := 2 } } else s
    s.forward p r

/-! ### Training and founding (R288, R291) -/

/-- The RING domain is on. -/
def State.ringOn (s : State) : Bool := (s.psw 4).en && !(s.psw 4).iso

/-- Ring operation starts: the block listens once RING is on. -/
def State.ringStart (s : State) : State :=
  if s.img.fabric ∧ s.bit F.CHL_CTRL_EN ∧ s.fld F.REG_RST_STAT_STAGE = 3 ∧ s.ringOn ∧ !s.halted then
    { s with chl := { s.chl with st := .listen, beacon := s.tim.now } }
  else s

/-- CHL_CTRL.EN has been written: 0 stops ring operation; 0 to 1 starts it, from REFUSED as well. -/
def State.chlEn (s : State) (was : Bool) : State :=
  let now := s.bit F.CHL_CTRL_EN
  if was && !now then s.ringStop else if !was && now then s.ringStart else s

/-- What an image that has come into force does to the ring of a block that runs (R57, R288): without a ring it stops,
another RING section starts it afresh, and it leaves REFUSED. -/
def State.ringImage (s : State) (old : Image) : State :=
  if !s.img.fabric then (if s.chl.st = .off then s else s.ringStop)
  else if s.chl.st = .off then s.ringStart
  else if s.chl.st = .refused ∨ s.img.ring ≠ old.ring then s.ringStop.ringStart
  else s

/-- FOUNDING. -/
def State.founding (s : State) : State :=
  if s.chl.st = .listen ∧ s.passed s.chl.beacon ((1 + s.pos) * 100000) then
    { s with chl := { s.chl with st := .found, tried := s.tim.now } }
  else s

/-- FOUNDING_TIMEOUT: 20 µs have gone by. -/
def State.foundingTimeout (s : State) : State :=
  if s.chl.st = .found ∧ s.passed s.chl.tried 20000 then (s.setFld F.CHL_STATUS_JERR 0 4).toListen else s

/-- FOUNDING_JOINED: both ports are up within 20 µs. -/
def State.foundingJoined (s : State) : State :=
  if s.chl.st = .found ∧ s.portUp .east ∧ s.portUp .west ∧ s.within s.chl.tried 20000 then
    let s := { s with chl := { s.chl with st := .joined } }
    (((s.setJoined [s.pos]).raise F.CHL_STATUS_FOUNDER).takeCoord).calibrate
  else s

/-! ### Sending (R284, R285, R290, R293) -/

/-- A port may originate a record: no PAUSE for its direction and no window. -/
def State.mayOriginate (s : State) (p : ChlPort) : Bool := !s.paused (dirOf p) && s.chl.window.isNone

/-- A record goes out on a port, in the next slot of its beat. -/
def State.putOut (s : State) (p : ChlPort) (r : Rec) (x : ChlSide) : State :=
  (s.traffic (bwPort p) true 16).setSide p { x with out := x.out ++ [r] }

/-- One record leaves a port's transmit queue: it counts toward the next CHECK, which goes after 4,095 of them at the
latest (R286). -/
def State.txOne (s : State) (p : ChlPort) : State :=
  let x := s.side p
  if 4095 ≤ x.sent then s.putOut p (s.checkRec p) { x with sent := 0, sentCrc := 0xFFFFFFFF#32 }
  else
    match x.tx with
    | [] => s
    | r :: rest =>
      if isCtrl r 1 && rPos r == s.pos then s.putOut p r { x with tx := rest }
      else s.putOut p r { x with tx := rest, sent := x.sent + 1, sentCrc := crcRun x.sentCrc (recBytes r) }

/-- One record of the origin queue enters the transmit queue: the oldest that nothing withholds. -/
def State.origOne (s : State) (p : ChlPort) : State :=
  let x := s.side p
  match (if s.mayOriginate p then x.orig.head? else x.orig.find? (fun r => rTy r == chCtrl)) with
  | none => s
  | some r => if s.txRoom p then s.setSide p { x with tx := x.tx ++ [r], orig := x.orig.erase r } else s

/-- A beat of four records leaves a port: forwarded records first, then originated ones. -/
def State.txBeat (s : State) (p : ChlPort) : State :=
  (List.range 4).foldl (fun (s : State) _ => (if (s.side p).tx.isEmpty then s.origOne p else s).txOne p)
    (s.setSide p { s.side p with out := [] })

/-- `n` beats of a port. A wake pattern holds TXEN low for 1,000 ns and then fills the beats of 4,000 ns with WAKE
records (R293). -/
def State.txPort (n : Nat) (s : State) (p : ChlPort) : State :=
  let x := s.side p
  match x.pattern with
  | some t =>
    if s.passed t 5000 then s.setSide p { x with pattern := none, out := [] }
    else if s.txEn p then (s.traffic (bwPort p) true (64 * n)).setSide p { x with out := List.replicate 4 s.wakeRec }
    else s.setSide p { x with out := [] }
  | none => if s.txOn then (List.range n).foldl (fun (s : State) _ => s.txBeat p) s else s

/-- CHL_x_TXD of a port: the records of its beat, slot 0 in bits 127:0, the slots beyond them EMPTY (R282). -/
def State.txData (s : State) (p : ChlPort) : BitVec 512 :=
  ((s.side p).out.getD 3 0#128 ++ (s.side p).out.getD 2 0#128) ++ ((s.side p).out.getD 1 0#128 ++ (s.side p).out.getD 0 0#128)

end Sys2Proof.Machine
end

