-- ==== Sys2Proof/Machine/Tandem.lean ====
section
/-! DEFINITION. What the caravan records of the ring do at their member, the Tandem pair (forming, mirroring, ACK,
arbitration, resynchronisation, takeover, handover) and peer register commands but for the access itself (R193 to R195,
R283, R284, R294 to R302). -/

namespace Sys2Proof.Machine

/-! ### Caravan records (R193 to R195) -/

/-- A record that the member takes waits in the receive path until CORE runs; in DOZE it is a CHETAL wake (R333). -/
def State.whenCore (s : State) (p : ChlPort) (r : Rec) (f : State → State) : State :=
  if s.coreOn then f s
  else { s with chl := { s.chl with rxw := s.chl.rxw ++ [(p, r)] } }.wakeReq 4 0

/-- The event of an EVENT record at the home. Its lane number is beyond the lanes: it holds none. -/
def State.recEvent (s : State) (r : Rec) : Ev :=
  let d := recFld r 108 12
  let k := recFld r 2 2
  { dom := d, eid := recFld r 84 24, ord := recFld r 68 16, lane := 4,
    kind := if k = 1 then .lvlAssert else if k = 2 then .lvlDeassert else .raise, mark := false,
    pos := if r.getLsbD 1 then none
      else some ⟨fullEpoch32 (s.run d).oldest (recFld r 4 32), recFld r 36 32, (s.cvnSrc (recFld r 68 16)).sent⟩,
    ring := true, t0 := s.tim.ft, smp := none }

/-- The event of an EVENT record is applied; a standby discards its copies for domains with immediate ordering
(R295). -/
def State.takeEvent (s : State) (r : Rec) : State :=
  let ev := s.recEvent r
  let s := if ev.pos.isSome then s.setSrc ev.ord { s.cvnSrc ev.ord with sent := (s.cvnSrc ev.ord).sent + 1 } else s
  if s.standby && !s.sequenced ev.dom then s else s.stageEvent ev .none

/-- EVENT_RECORD (R193, R284): taken at its home; at the unit that comes first of a pair, copied and forwarded. -/
def State.rxEvent (s : State) (p : ChlPort) (r : Rec) : State :=
  if rPos r = s.pos then s.whenCore p r (fun s => s.takeEvent r)
  else if s.tandem ∧ s.partnerPos = some (rPos r) then (s.whenCore p r (fun s => s.takeEvent r)).passOn p r
  else s.passOn p r

/-- The waymark of a WAYMARK record applies at the sequencer (R178, R193). -/
def State.takeWaymark (s : State) (r : Rec) : State :=
  let d := recFld r 108 12
  let o := recFld r 92 16
  let w := WmWait.mk o d (recFld r 90 2) (fullEpoch32 (s.run d).oldest (recFld r 58 32)) false (s.cvnSrc o).sent
  { s with cvn := { s.cvn with wms := s.cvn.wms ++ [w] } }.wmAll

/-- WAYMARK_RECORD: a broadcast, removed by its sender. -/
def State.rxWaymark (s : State) (p : ChlPort) (r : Rec) : State :=
  if rPos r = s.pos then s else (s.whenCore p r (fun s => s.takeWaymark r)).forward p r

/-- A SILENT record (R194, R195): a straggler for the named epoch, or a source that falls silent. -/
def State.takeSilent (s : State) (r : Rec) : State :=
  let d := recFld r 108 12
  let o := recFld r 92 16
  let e := fullEpoch32 (s.run d).oldest (recFld r 60 32)
  if !s.running d ∨ s.img.caravanOf o ≠ some d then s
  else if r.getLsbD 59 then
    let x := s.cvnSrc o
    let s := if x.quiet then s else s.setSrc o { x with quiet := true, seq := 0, cquiet := true }
    ((s.breach d 2).logStrag d o 1).closeAll d
  else
    let s := (s.stragglerSrc o e).logStrag d o 0
    ((((s.breach d 2).breach d 3).raise F.CVN_STATUS_STRAGGLER d)).closeAll d

/-- SILENT_RECORD. -/
def State.rxSilent (s : State) (p : ChlPort) (r : Rec) : State :=
  if rPos r = s.pos then s else (s.whenCore p r (fun s => s.takeSilent r)).forward p r

/-- The partner's CLOSE (R194, R301): the epoch may be released once this unit has decided it too. -/
def State.takeClose (s : State) (r : Rec) : State :=
  let d := recFld r 108 12
  let e := fullEpoch32 (s.run d).oldest (recFld r 76 32)
  if s.cvn.closed.any (fun c => c.dom == d && c.epoch == e) then
    { s with cvn := { s.cvn with closed := s.cvn.closed.map (fun (c : Closed) =>
      if c.dom = d ∧ c.epoch = e then { c with agreed := true } else c) } }
  else if e < (s.run d).oldest then s
  else { s with cvn := { s.cvn with peer := s.cvn.peer ++ [(d, e)] } }

/-- CLOSE_RECORD. -/
def State.rxClose (s : State) (p : ChlPort) (r : Rec) : State :=
  if rPos r = s.pos then s.whenCore p r (fun s => s.takeClose r) else s.passOn p r

/-! ### Mirror records at the standby (R296, R297) -/

/-- A TANDEM record for this unit: its partner is heard. -/
def State.heardPartner (s : State) : State := { s with tdm := { s.tdm with heard := some s.tim.now } }

/-- The standby has applied one mirror record: it holds the record's commit sequence. -/
def State.applied (s : State) (low : Nat) : State :=
  let q := s.tdm.seq
  { s with tdm := { s.tdm with seq := (q + (low + 2 ^ 28 - q % 2 ^ 28) % 2 ^ 28) % 2 ^ 64, sinceAck := s.tdm.sinceAck + 1 } }

/-- The partner's state of an entry comes; the poison list follows (R172). -/
def State.bringEntry (s : State) (eid : Nat) (e : Entry) : State := (s.setEntryNow eid e).psnSync eid e

/-- TANDEM_STATE. -/
def State.takeState (s : State) (r : Rec) : State :=
  if !s.standby then s
  else
    let eid := recFld r 92 24
    let s := s.applied (recFld r 0 28)
    if s.wordHere eid then s.bringEntry eid (Entry.ofBits (BitVec.ofNat 64 (recFld r 28 64))) else s

/-- The active record that a mirrored issue stands for; its redelivery timer starts only at a takeover (R298). -/
def State.mirrorActive (s : State) (eid tgt hport : Nat) (fault : Bool) : ActiveRec :=
  let d := (s.img.domainOf eid).getD 0
  let e := s.entryNow eid
  { eid := eid, seq := e.seq.toNat, tgt := tgt, hport := hport, dom := d, p := s.effPrio e, fault := fault,
    replay := false, redelivs := 0, timer := none, rdMax := s.fld F.CMP_TGT_CFG_RD_MAX tgt,
    entry := s.entryFor (if fault then reFault else reEvent) 0 d eid (s.effPrio e) e, issued := s.tim.ft }

/-- The ring whose pointers a word brings; the word after the targets' is the fault ring's. -/
def ringOfWord (w : Nat) : Option Nat := if w = bulkPtr + 65536 then none else some (w - bulkPtr)

/-- TANDEM_DELIV. -/
def State.takeDeliv (s : State) (r : Rec) : State :=
  if !s.standby then s
  else
    let eid := recFld r 92 24
    let tgt := recFld r 76 16
    let s := s.applied (recFld r 0 28)
    let rest := s.dlv.active.filter (fun a => a.eid ≠ eid)
    let fault := r.getLsbD 46
    let act := if r.getLsbD 68 then rest ++ [s.mirrorActive eid tgt (recFld r 69 7) fault] else rest
    let s := if s.wordHere (bulkActive + 4 * eid + 3) then { s with dlv := { s.dlv with active := act } } else s
    let w := bulkPtr + (if fault then 65536 else tgt)
    if r.getLsbD 68 && s.wordHere w then s.setPi (recFld r 47 21) (ringOfWord w) else s

/-- ACK_SEND (R297). -/
def State.ackNow (s : State) : State :=
  { s.toPartner 5 (s.tdm.seq % 2 ^ 64 * 2 ^ 52) with tdm := { s.tdm with sinceAck := 0, ackSent := s.tim.now } }

/-- ACK every 256 records or every 1,024 ns. -/
def State.ackSend (s : State) : State :=
  if s.standby ∧ s.paired ∧ (256 ≤ s.tdm.sinceAck ∨ s.passed s.tdm.ackSent 1024) then s.ackNow else s

/-! ### Roles (R294, R298, R299) -/

/-- A STANDBY ranks, shapes and delivers nothing: offers, heads and fault offers go; their PENDING entries are offered
again by the unit that delivers (R295, R298). -/
def State.standDown (s : State) : State :=
  { s with rnk := { s.rnk with offers := [], queue := [], held := [], waiting := [], heads := [], faultQ := [], heldFaults := [] } }

/-- A change of role clears condition 6 of every run (R198). -/
def State.setRole (s : State) (r : Nat) : State :=
  if s.fld F.TDM_ROLE_CUR = r then s
  else
    let s := (s.setFld F.TDM_ROLE_CUR 0 r).breachAll 6
    if r = 2 then s.standDown else s

/-- Every PENDING entry homed at the pair is offered (R298). -/
def State.offerPair (s : State) : State :=
  (s.listedEids.filter (fun eid => s.pairEntry (s.entryNow eid) && decide ((s.entryNow eid).st = .pending))).foldl
    (fun s eid => s.offerFrom 6 3 eid) s

/-- Redelivery timers restart and every bucket is full (R298). -/
def State.freshPrimary (s : State) : State :=
  let act := s.dlv.active.map (fun (a : ActiveRec) => { a with timer := if a.fault then none else some 0 })
  let s := { s with dlv := { s.dlv with active := act } }
  [0, 1, 2].foldl (fun (s : State) k =>
    (s.enabledBuckets k).foldl (fun (s : State) i => s.setBucket k i { s.bucket k i with tok := s.cap k i }) s) s

/-- The unit becomes the delivering one. -/
def State.becomePrimary (s : State) : State :=
  let s := (s.setRole 1).freshPrimary
  (s.offerPair).rplTakeover

/-- The partner has gone: a primary works as ALONE (R301, R334). -/
def State.alone (s : State) : State :=
  let s := s.setFld F.TDM_STATUS_STATE 0 4
  { s with tdm := { s.tdm with helloOk := false, bulk := none, bulkOut := none, acked := s.tdm.seq } }.releaseAll

/-- TDM_MODE.MODE has been written to 0: no pair is in force and the unit has no role (R294, R397). -/
def State.tdmOff (s : State) : State :=
  let s := (s.setFld F.TDM_STATUS_STATE 0 0).lower F.TDM_CMD_BUSY
  let s := { s with tdm := { s.tdm with helloOk := false, bulk := none, bulkOut := none, switching := false } }
  (s.setRole 0).releaseAll

/-- A unit in TANDEM without a pair takes its configured role; a PRIMARY whose partner is not joined works as ALONE, any
other awaits HELLO (R294). -/
def State.tdmSettle (s : State) : State :=
  if !s.tandem ∨ s.fld F.REG_RST_STAT_STAGE ≠ 3 ∨ 2 ≤ s.fld F.TDM_STATUS_STATE then s
  else
    let s := if s.fld F.TDM_ROLE_CUR = 0 then s.setRole (s.fld F.TDM_ROLE_CFG) else s
    if s.primary && !s.partnerPos.any s.joinedAt then s.alone
    else if s.fld F.TDM_STATUS_STATE = 1 then s else s.setFld F.TDM_STATUS_STATE 0 1

/-- HB_MISS intervals in 1/45 ns. -/
def State.hbLimit (s : State) : Nat := max 1 (s.fld F.TDM_CFG_HB_MISS) * 1024 * 45

/-- The partner has been heard within HB_MISS intervals. -/
def State.partnerUp (s : State) : Bool := s.tdm.heard.any (fun t => decide (s.tim.now < t + s.hbLimit))

/-- The conditions of R298: silence, LEAVE, or absence from two BEACONs. -/
def State.partnerLost (s : State) : Bool := s.paired && (!s.partnerUp || decide (2 ≤ s.chl.absent))

/-- PRIMARY_LOST: the standby takes over; one that has left the ring to sleep does not (R334). -/
def State.primaryLost (s : State) : State :=
  if !s.standby ∨ s.pwr.detached ∨ !s.partnerLost then s
  else
    let p := s.partnerPos.getD 0
    let s := { s with tdm := { s.tdm with seq := (s.tdm.seq + 2 ^ 32) % 2 ^ 64 } }
    let s := s.becomePrimary.alone
    let s := s.memberGone p
    (s.raise F.TDM_STATUS_TAKEOVER).error 22 14 none p .none

/-- The primary notices that its standby is gone. -/
def State.standbyLost (s : State) : State := if s.primary && s.partnerLost then s.alone else s

/-- The unit is intact: an image in force and no uncorrectable error since the last resynchronisation (R297). -/
def State.intact (s : State) : Bool := s.fld F.IMG_STATUS_STATE = 3 && !s.tdm.damaged

/-- This unit wins the arbitration (R299), and whether the sequences were equal. -/
def State.arbWins (s : State) (p : Partner) : Bool × Bool :=
  let cfg1 := decide (s.fld F.TDM_ROLE_CFG = 1)
  if s.intact && !p.intact then (true, false)
  else if !s.intact && p.intact then (false, false)
  else if !s.intact then (cfg1, false)
  else if s.tdm.seq ≠ p.seq then (decide (p.seq < s.tdm.seq), false)
  else if s.primary ∧ p.cur ≠ 1 then (true, true)
  else if !s.primary ∧ p.cur = 1 then (false, true)
  else (cfg1, true)

/-- Arbitration of units with differing states (R299). -/
def State.arbitrate (s : State) (p : Partner) : State :=
  let (win, eq) := s.arbWins p
  let s := if eq then s.bump F.TDM_DIVERGE_CNT else s
  if win then (if s.primary then s else s.becomePrimary).resync
  else
    let s := (s.setRole 2).raise F.TDM_STATUS_DEMOTED
    { s with tdm := { s.tdm with seq := p.seq } }.resync

/-- The pair is refused (R294): a unit configured PRIMARY works as ALONE, a STANDBY delivers nothing. -/
def State.refusePair (s : State) (herr : Nat) : State :=
  let s := (s.setFld F.TDM_STATUS_STATE 0 5).setFld F.TDM_STATUS_HERR 0 herr
  let s := { s with tdm := { s.tdm with helloOk := false } }
  s.setRole (s.fld F.TDM_ROLE_CFG)

/-- The states of both units are the same, and their present roles fit (R334). -/
def State.sameAs (s : State) (p : Partner) : Bool :=
  s.tdm.seq == p.seq && s.reg .CFG_CRC_REF == p.crc && s.intact && p.intact
    && ((s.primary && p.cur == 2) || (s.standby && p.cur == 1))

/-- The configured roles are one PRIMARY and one STANDBY (R294). -/
def State.rolesFit (s : State) (p : Partner) : Bool :=
  let c := s.fld F.TDM_ROLE_CFG
  (c == 1 && p.cfg == 2) || (c == 2 && p.cfg == 1)

/-- The pair forms on the partner's first HEARTBEAT after an agreeing HELLO: equal states are IN_STEP at once (R334),
others are arbitrated. -/
def State.formPair (s : State) (p : Partner) : State :=
  if s.rolesFit p then
    let s : State := if s.fld F.TDM_ROLE_CUR = 0 then s.setRole (s.fld F.TDM_ROLE_CFG) else s
    let s : State := { s with chl := { s.chl with absent := 0 } }
    if s.sameAs p then { s.setFld F.TDM_STATUS_STATE 0 2 with tdm := { s.tdm with acked := s.tdm.seq } }
    else s.arbitrate p
  else s.refusePair 2

/-- HELLO (R294). -/
def State.takeHello (s : State) (r : Rec) : State :=
  if !s.tandem ∨ s.paired then s
  else if !r.getLsbD 83 then s.refusePair 3
  else if BitVec.ofNat 32 (recFld r 84 32) ≠ s.reg .IMG_LOADED_CRC then s.refusePair 1
  else { s.setFld F.TDM_STATUS_STATE 0 1 with tdm := { s.tdm with helloOk := true } }

/-- HEARTBEAT (R296, R299). -/
def State.takeHeartbeat (s : State) (r : Rec) : State :=
  let p : Partner := ⟨recFld r 52 64, BitVec.ofNat 32 (recFld r 20 32), recFld r 18 2, recFld r 16 2, r.getLsbD 15, r.getLsbD 14⟩
  let s := { s with tdm := { s.tdm with partner := some p } }
  let s := s.setFld F.TDM_STATUS_CFG_DIFF 0 (bitNat (decide (p.crc ≠ s.reg .CFG_CRC_REF)))
  if !s.tandem then s
  else if s.paired then (if s.primary ∧ p.cur = 1 then s.arbitrate p else s)
  else if s.tdm.helloOk then s.formPair p else s

/-- HANDOVER goes out once the last mirror record is acknowledged: the roles are exchanged (R298). -/
def State.handOverRole (s : State) : State :=
  if s.tdm.switching ∧ s.tdm.acked = s.tdm.seq then
    let s := s.toPartner 0xB (s.tdm.seq % 2 ^ 64 * 2 ^ 52)
    let s := { s with tdm := { s.tdm with switching := false } }
    (s.setRole 2).lower F.TDM_CMD_BUSY
  else s

/-- TANDEM_ACK: the primary's unacknowledged records shrink; the ACK that follows BULK_END ends a
resynchronisation. -/
def State.takeAck (s : State) (r : Rec) : State :=
  if !s.primary then s
  else
    let s := { s with tdm := { s.tdm with acked := recFld r 52 64 } }
    let s := if s.fld F.TDM_STATUS_STATE = 3 ∧ s.tdm.bulkOut.isNone then s.setFld F.TDM_STATUS_STATE 0 2 else s
    s.handOverRole

/-- HANDOVER received: this unit becomes PRIMARY without a change of commit sequence. -/
def State.takeHandover (s : State) : State :=
  if s.standby then
    let s := s.becomePrimary
    { s with tdm := { s.tdm with acked := s.tdm.seq } }
  else s

/-- TDM_CMD.SWITCH (R298). -/
def State.switchRole (s : State) : State :=
  if s.bit F.TDM_CMD_BUSY then s
  else if !(s.primary && s.fld F.TDM_STATUS_STATE = 2) then s.setFld F.TDM_CMD_ERR 0 1
  else
    let s := (s.setFld F.TDM_CMD_ERR 0 0).raise F.TDM_CMD_BUSY
    { s with tdm := { s.tdm with switching := true } }.handOverRole

/-- DIGEST of the partner (R301). -/
def State.takeDigest (s : State) (r : Rec) : State :=
  let d := recFld r 104 12
  { s with tdm := { s.tdm with peerDigests := s.tdm.peerDigests ++ [(d, recFld r 72 32, BitVec.ofNat 32 (recFld r 40 32))] } }.digestsMeet

/-- The four words of an active record; its timer restarts only at a takeover (R298). -/
def ActiveRec.words (a : ActiveRec) : List Nat :=
  [a.eid * 2 ^ 40 + a.seq % 2 ^ 8 * 2 ^ 32 + a.tgt % 2 ^ 16 * 2 ^ 16 + a.hport % 2 ^ 7 * 2 ^ 8 + a.p % 2 ^ 8,
   a.dom % 2 ^ 12 * 2 ^ 20 + a.rdMax % 2 ^ 8 * 2 ^ 10 + a.redelivs % 2 ^ 8 * 2 ^ 2 + bitNat a.fault * 2 + bitNat a.replay,
   recFld a.entry 64 64, recFld a.entry 0 64]

/-- The active record that four words bring. -/
def activeOfWords (now w0 w1 w2 w3 : Nat) : ActiveRec :=
  { eid := w0 / 2 ^ 40, seq := w0 / 2 ^ 32 % 2 ^ 8, tgt := w0 / 2 ^ 16 % 2 ^ 16, hport := w0 / 2 ^ 8 % 2 ^ 7, p := w0 % 2 ^ 8,
    dom := w1 / 2 ^ 20, rdMax := w1 / 2 ^ 10 % 2 ^ 8, redelivs := w1 / 2 ^ 2 % 2 ^ 8, fault := w1.testBit 1, replay := w1.testBit 0,
    timer := none, entry := BitVec.ofNat 128 (w2 * 2 ^ 64 + w3), issued := now }

/-- The four words of a hold-store group; `closed` says that its epoch is decided. -/
def Group.words (g : Group) (closed : Bool) : List Nat :=
  let l := match g.lvl with | none => 0 | some true => 1 | some false => 2
  [g.dom % 2 ^ 12 * 2 ^ 52 + g.eid % 2 ^ 24 * 2 ^ 28 + g.p % 2 ^ 8 * 2 ^ 20 + l * 2 ^ 18 + bitNat closed * 2 ^ 17 + g.fo % 2 ^ 16,
   g.epoch % 2 ^ 32 * 2 ^ 32 + g.k % 2 ^ 32, g.fs % 2 ^ 32 * 2 ^ 32 + g.ls % 2 ^ 32, g.lo]

/-- The group that four words bring. -/
def State.groupOfWords (s : State) (w0 w1 w2 w3 : Nat) : Group :=
  let l := w0 / 2 ^ 18 % 4
  { dom := w0 / 2 ^ 52, eid := w0 / 2 ^ 28 % 2 ^ 24, p := w0 / 2 ^ 20 % 2 ^ 8, fo := w0 % 2 ^ 16,
    epoch := fullEpoch32 (s.run (w0 / 2 ^ 52)).oldest (w1 / 2 ^ 32), k := w1 % 2 ^ 32, fs := w2 / 2 ^ 32, ls := w2 % 2 ^ 32, lo := w3,
    lvl := if l = 1 then some true else if l = 2 then some false else none, t0 := s.tim.ft, arr := s.tim.ft }

/-- A group joins the hold store, or the epoch that is decided: it carries the effect of every event before it (R300). -/
def State.takeGroup (s : State) (g : Group) (closed : Bool) : State :=
  let same (h : Group) : Bool := h.dom == g.dom && h.epoch == g.epoch && h.eid == g.eid
  if !closed then
    { s with cvn := { s.cvn with groups := s.cvn.groups.filter (fun h => !same h) ++ [g] } }
  else if s.cvn.closed.any (fun (c : Closed) => c.dom == g.dom && c.epoch == g.epoch) then
    { s with cvn := { s.cvn with closed := s.cvn.closed.map (fun (c : Closed) =>
      if c.dom = g.dom ∧ c.epoch = g.epoch then { c with groups := c.groups ++ [g] } else c) } }
  else { s with cvn := { s.cvn with closed := enqueueClosed s.cvn.closed (Closed.mk g.dom g.epoch [g] [] true s.tim.now) } }

/-- A word of a structure of four words: the last one completes it. -/
def State.takePart (s : State) (w v : Nat) : State :=
  match s.tdm.bulkBuf, w % 4 with
  | [a, b, c], 3 =>
    let s := { s with tdm := { s.tdm with bulkBuf := [] } }
    if w < bulkGroup then
      { s with dlv := { s.dlv with active := s.dlv.active.filter (fun x => x.eid ≠ a / 2 ^ 40) ++ [activeOfWords s.tim.ft a b c v] } }
    else s.takeGroup (s.groupOfWords a b c v) (a.testBit 17)
  | _, 0 => { s with tdm := { s.tdm with bulkBuf := [v] } }
  | l, _ => { s with tdm := { s.tdm with bulkBuf := l ++ [v] } }

/-- A word of the bulk copy: below 2^24 the state entry of the EID that it numbers. -/
def State.takeWord (s : State) (w v : Nat) : State :=
  if w < 2 ^ 24 then s.bringEntry w (Entry.ofBits (BitVec.ofNat 64 v))
  else if bulkPtr ≤ w ∧ w < bulkGroup then (s.setPi (v % 2 ^ 21) (ringOfWord w)).setCi (v / 2 ^ 21 % 2 ^ 21) (ringOfWord w)
  else s.takePart w v

/-- BULK at the standby (R300). -/
def State.takeBulk (s : State) (r : Rec) : State :=
  match s.tdm.bulk with
  | none => s
  | some n =>
    let w := recFld r 76 40
    { s with tdm := { s.tdm with bulk := some (max n (w + 1)) } }.takeWord w (recFld r 12 64)

/-- BULK_END: ACK, and IN_STEP. -/
def State.takeBulkEnd (s : State) : State :=
  match s.tdm.bulk with
  | none => s
  | some _ =>
    let s := { s with tdm := { s.tdm with bulk := none, damaged := false } }.setFld F.TDM_STATUS_STATE 0 2
    s.ackNow

/-- The least number of a list from `c` on. -/
def leastFrom (c : Nat) : List Nat → Option Nat
  | [] => none
  | x :: r =>
    match leastFrom c r with
    | none => if c ≤ x then some x else none
    | some y => some (if c ≤ x ∧ x < y then x else y)

/-- Number the words of a structure from `n` on. -/
def numberWords (n : Nat) : List Nat → List (Nat × Nat)
  | [] => []
  | w :: r => (n, w) :: numberWords (n + 1) r

/-- The next state entry to send, from EID `c` on. -/
def State.bulkEntries (s : State) (c : Nat) : Option (List (Nat × Nat)) :=
  (leastFrom c (s.listedEids.filter (fun e => s.pairEntry (s.entryNow e) && (s.entryNow e != Entry.init)))).map
    (fun e => [(e, (s.entryNow e).toBits.toNat)])

/-- The next active record to send, from word `c` on. -/
def State.bulkActives (s : State) (c : Nat) : Option (List (Nat × Nat)) :=
  match leastFrom (c - bulkActive) ((s.dlv.active.filter s.pairActive).map (fun a => 4 * a.eid)) with
  | none => none
  | some k => (s.dlv.active.find? (fun a => 4 * a.eid == k)).map (fun a => numberWords (bulkActive + k) a.words)

/-- The next pointers to send, from word `c` on. -/
def State.bulkPtrs (s : State) (c : Nat) : Option (List (Nat × Nat)) :=
  (leastFrom (c - bulkPtr) ((s.regIdxs .DLV_RING_PTR ++ s.regIdxs .DLV_RING_CI).filter s.pairTarget ++ [65536])).map
    (fun t => [(bulkPtr + t, s.ringPi (ringOfWord (bulkPtr + t)) + s.ringCi (ringOfWord (bulkPtr + t)) * 2 ^ 21)])

/-- The hold store, sent at once from word `c` on. -/
def State.bulkGroups (s : State) (c : Nat) : Option (List (Nat × Nat)) :=
  let pair (g : Group) : Bool := s.pairEntry (s.entryNow g.eid)
  let l := (s.cvn.groups.filter pair).map (fun g => g.words false)
    ++ (s.cvn.closed.flatMap (fun (x : Closed) => x.groups.filter pair)).map (fun g => g.words true)
  if c = bulkGroup ∧ l ≠ [] then some (numberWords c l.flatten) else none

/-- The next words of a resynchronisation, from word `c` on. -/
def State.bulkNext (s : State) (c : Nat) : Option (List (Nat × Nat)) :=
  (((if c < 2 ^ 24 then s.bulkEntries c else none).orElse
    (fun _ => if c < bulkPtr then s.bulkActives (max c bulkActive) else none)).orElse
    (fun _ => if c < bulkGroup then s.bulkPtrs (max c bulkPtr) else none)).orElse
    (fun _ => s.bulkGroups (max c bulkGroup))

/-- The winner sends its next words, or BULK_END after the last. -/
def State.bulkOne (s : State) : State :=
  match s.tdm.bulkOut with
  | none => s
  | some (c, n) =>
    if !s.onRing ∨ !s.origRoom .west then s
    else
      match s.bulkNext c with
      | some l =>
        let s := l.foldl (fun (s : State) x => s.toPartner 9 (x.1 * 2 ^ 76 + x.2 % 2 ^ 64 * 2 ^ 12)) s
        { s with tdm := { s.tdm with bulkOut := some (l.foldl (fun m x => max m (x.1 + 1)) c, n + l.length) } }
      | none =>
        { s.toPartner 0xA (n * 2 ^ 76) with tdm := { s.tdm with bulkOut := none, damaged := false } }

/-- TANDEM_DOORBELL at the primary (R295). -/
def State.takeDoorbell (s : State) (r : Rec) : State :=
  if s.standby then s else (s.doorbell (some (recFld r 109 7)) (recFld r 87 22) (recFld r 55 32) .none).2

/-! ### Sending (R294, R296) -/

/-- The HEARTBEAT of this unit; DOZE is bit 14 (R327). -/
def State.heartbeatBody (s : State) : Nat :=
  let doze := s.fld F.PWR_STATUS_STATE = 2 || (s.fld F.PWR_STATUS_STATE = 1 && s.pwr.doze)
  s.tdm.seq % 2 ^ 64 * 2 ^ 52 + (s.reg .CFG_CRC_REF).toNat * 2 ^ 20 + s.fld F.TDM_ROLE_CUR * 2 ^ 18
    + s.fld F.TDM_ROLE_CFG * 2 ^ 16 + bitNat s.intact * 2 ^ 15 + bitNat doze * 2 ^ 14

/-- HEARTBEAT_SEND. -/
def State.heartbeatSend (s : State) : State :=
  if s.tandem ∧ s.onRing ∧ (s.tdm.hbSent = 0 ∨ s.passed s.tdm.hbSent 1024) then
    { s.toPartner 6 s.heartbeatBody with tdm := { s.tdm with hbSent := max 1 s.tim.now } }
  else s

/-- What a HELLO says: the CRC of the loaded image and the unit's TDM_MODE (R294, R296). -/
def State.helloBody (s : State) : Nat := (s.reg .IMG_LOADED_CRC).toNat * 2 ^ 84 + bitNat (s.bit F.TDM_MODE_MODE) * 2 ^ 83

/-- HELLO_SEND: at join and every 1 ms. -/
def State.helloSend (s : State) : State :=
  if s.partnerPos.isSome ∧ s.onRing ∧ (s.tdm.helloSent = 0 ∨ s.passed s.tdm.helloSent 1000000) then
    { s.toPartner 7 s.helloBody with tdm := { s.tdm with helloSent := max 1 s.tim.now } }
  else s

/-! ### Peer commands (R302) -/

/-- A PEER record to the partner. -/
def State.peerRec (s : State) (op tag off : Nat) (data : Word) : Rec :=
  chRec chPeer (s.partnerPos.getD 0)
    (op * 2 ^ 118 + tag % 256 * 2 ^ 110 + off / 4 % 2 ^ 28 * 2 ^ 82 + data.toNat * 2 ^ 50 + s.pos * 2 ^ 45)

/-- TDM_PEER_CMD.GO. -/
def State.peerStart (s : State) : State :=
  if s.bit F.TDM_PEER_CMD_BUSY then s
  else if !(s.onRing && s.partnerPos.any s.joinedAt) then s.setFld F.TDM_PEER_CMD_ERR 0 1
  else
    let t := (s.tdm.tag + 1) % 256
    let op := if s.bit F.TDM_PEER_CMD_WR then 2 else 1
    let s := s.originate .west (s.peerRec op t (4 * s.fld F.TDM_PEER_CMD_OFFSET) (s.reg .TDM_PEER_DATA))
    let s := { s with tdm := { s.tdm with tag := t, request := some (t, s.tim.now) } }
    (s.setFld F.TDM_PEER_CMD_ERR 0 0).raise F.TDM_PEER_CMD_BUSY

/-- PEER_RESPONSE: the read result fills TDM_PEER_DATA. -/
def State.takeResponse (s : State) (r : Rec) : State :=
  match s.tdm.request with
  | some (t, _) =>
    if recFld r 110 8 = t then
      let s := { s with tdm := { s.tdm with request := none } }
      let s := if s.bit F.TDM_PEER_CMD_WR then s else s.setReg .TDM_PEER_DATA 0 (BitVec.ofNat 32 (recFld r 50 32))
      (s.setFld F.TDM_PEER_CMD_ERR 0 0).lower F.TDM_PEER_CMD_BUSY
    else s
  | none => s

/-- PEER_TIMEOUT: 100 µs without a response. -/
def State.peerTimeout (s : State) : State :=
  match s.tdm.request with
  | some (_, t) =>
    if s.passed t 100000 then
      ({ s with tdm := { s.tdm with request := none } }.setFld F.TDM_PEER_CMD_ERR 0 2).lower F.TDM_PEER_CMD_BUSY
    else s
  | none => s

end Sys2Proof.Machine
end

