-- ==== Sys2Proof/Machine/Power.lean ====
section
/-! DEFINITION. The Power Manager: votes, the conditions and the drain of an entry, abandoned entries, wake requests, the
performance point and the clock source (R322 to R344). -/

namespace Sys2Proof.Machine

/-! ### Power domains -/

/-- The code of a switched domain (R344). -/
def Pd.code : Pd → Nat
  | .core => 0
  | .state => 1
  | .log => 2
  | .tel => 3
  | .ring => 4

/-- Replace a handshake. -/
def State.setPsw (s : State) (d : Nat) (p : Psw) : State := { s with pwr := { s.pwr with psw := s.pwr.psw.set d p } }

/-- PWR_STATUS.STATE. -/
def State.pst (s : State) : Nat := s.fld F.PWR_STATUS_STATE

/-- Set it. -/
def State.setPst (s : State) (v : Nat) : State := s.setFld F.PWR_STATUS_STATE 0 v

/-- The clock of a powered domain runs. -/
def State.pdClock (s : State) (d : Nat) : Bool := if d = 4 then s.pst ≠ 5 && (!s.pwr.gated || s.pst = 2 || s.pwr.doze) else s.clocked

/-- A standalone block's RING is OFF: the image and PWR_POLICY allow it (R322). -/
def State.ringOff (s : State) : Bool := !s.img.fabric && s.img.power.offOk.getLsbD 3 && s.bit F.PWR_POLICY_OFF_RING

/-- What PWR_PD_STAT shows of a domain: 0 ON, 1 GATED, 2 RET, 3 OFF (R322). A standalone block's RING is RET, or OFF where
the image and PWR_POLICY allow it. -/
def State.pdStat (s : State) (d : Nat) : Nat :=
  let p := s.psw d
  if p.en && !p.iso then (if s.pdClock d then 0 else 1) else if s.pwr.off.contains d || !p.ret || (d = 4 && s.ringOff) then 3 else 2

/-- A domain is saved or powered off (R108): OFF for the dormancy, SAVED_OFF, a switch-on that timed out (R60), or a standalone
block's RING (R322). -/
def State.pdOff (s : State) (d : Nat) : Bool := s.pst = 6 || ((s.pwr.off.contains d || (d = 4 && s.ringOff)) && !(s.psw d).en)

/-- A domain is dormant (R107): it must wake before an access is served. -/
def State.pdDormant (s : State) (d : Nat) : Bool :=
  !s.pdOff d && (s.pst = 2 || s.pst = 3 || (s.pst = 4 && (!s.pwr.restoring || s.pwr.off.contains d)) || (s.pst = 1 && s.pwr.gated))
    && !(d = 4 && (s.pst = 2 || (s.pwr.doze && s.pst != 3)))

/-! ### Votes (R325 to R327) -/

/-- Domains 1 to 4,095 with an enabled VF and EN 1 that vote 1. -/
def State.vfVoters (s : State) : List Nat :=
  (s.regIdxs .VFM_DOM_CTRL).filter (fun d => decide (1 ≤ d) && decide (d ≤ s.vfm.vfs) && s.domEn d && s.bit F.PWR_VOTE_AWAKE d)

/-- The Tandem Unit's vote. -/
def State.tdmVote (s : State) : Bool :=
  let st := s.fld F.TDM_STATUS_STATE
  if s.primary && (st = 2 || st = 4) then s.tdm.acked != s.tdm.seq && st = 2
  else if s.standby && st = 2 then
    !(s.tdm.partner.any (fun p => p.doze && p.seq == s.tdm.seq))
  else true

/-- The votes of PF, SIDEBAND, Tandem Unit and VF, in the order of R332. -/
def State.voteOf (s : State) (k : Nat) : Bool :=
  if k = 0 then s.bit F.PWR_VOTE_AWAKE 0 else if k = 1 then s.bit F.PWR_VOTE_SB_AWAKE
  else if k = 2 then s.tdmVote else !s.vfVoters.isEmpty

/-- Voters whose vote of 1 holds the block awake: the counted ones, and at a standby its Tandem Unit always (R325, R334). -/
def State.refusers (s : State) : List Nat :=
  [0, 1, 2, 3].filter (fun k => (s.img.power.voters.getLsbD k || (k = 2 && s.standby)) && s.voteOf k)

/-- The VFs that count and vote 1 (R344). -/
def State.countedVfs (s : State) : List Nat := if s.img.power.voters.getLsbD 3 then s.vfVoters else []

/-! ### The deadline (R328) -/

/-- The refill tick of a calendar slot, ns. -/
def State.slotTime (s : State) (k : Nat) : Nat :=
  s.wwl.tickAt + ((k + 4096 - s.wwl.tick % 4096 - 1) % 4096) * s.tickLen

/-- The time at which a head asks for work; `some now` for one that is at work. -/
def State.headTime (s : State) (h : Head) : Option Nat :=
  match h.stage with
  | .wheel k => some (s.slotTime k)
  | .zero _ _ => none
  | .gate t =>
    let pend := (s.img.groupOf h.tgt).bind (fun g => (SMap.find s.oas.pend g.group).map (·.start))
    leastOf ((t.map (· / 45)).toList ++ pend.toList)
  | .parked _ => none
  | _ => some s.ns

/-- The redelivery timer of a record runs: not while RD_TIMEOUT is 0 or its port is down, its domain frozen, or a save past its snapshot
point (R247, R253, R316, R354). -/
def State.timerRuns (s : State) (a : ActiveRec) : Bool :=
  decide (s.fld F.CMP_TGT_CFG_RD_TIMEOUT a.tgt ≠ 0) && !s.portDown a.hport && !s.bit F.VFM_DOM_CTRL_FREEZE a.dom && !s.saving

/-- Intake in a lane, or an input that waits. -/
def State.intakeNow (s : State) : Bool :=
  [0, 1, 2, 3].any (fun k => !(s.laneQ k).isEmpty) || !s.intk.buf.isEmpty || !s.sst.stalled.isEmpty || !s.sst.comps.isEmpty

/-- Work that makes the deadline the present time: an offer whose leaf can compete, or intake. -/
def State.workNow (s : State) : Bool := (s.choose []).isSome || s.intakeNow

/-- The earliest time at which the block has something to do, ns; none when nothing is due. -/
def State.deadline (s : State) : Option Nat :=
  if s.workNow then some s.ns
  else
    let timers := (s.dlv.active.filter s.timerRuns).filterMap (fun a =>
      a.timer.map (fun t => s.ns + (s.fld F.CMP_TGT_CFG_RD_TIMEOUT a.tgt * 1000 - t / 45)))
    leastOf (s.rnk.heads.filterMap s.headTime ++ timers)

/-! ### Entry (R328 to R333) -/

/-- The detached form is allowed: DETACH, no group homed here or every domain disabled, and not the primary. -/
def State.detachOk (s : State) : Bool :=
  s.bit F.PWR_POLICY_DETACH && !s.primary && (s.allDisabled || !(s.img.groups.any (fun g => g.home == s.img.ring.position)))

/-- The entry would have the form DOZE: that of every member of a ring but for the detached one (R333). -/
def State.dozeForm (s : State) : Bool := s.img.fabric && (s.psw 4).en && !s.detachOk

/-- Work of R328 that is in progress: a save or restore, with every move of depot lines, a fetch, a flush, a walk, a change, a
clock switch; or a replay (R402). -/
def State.busyWork (s : State) : Bool :=
  s.sav.run.isSome || !s.sav.wait.isEmpty || !s.dep.jobs.isEmpty || s.imgl.phase != .idle || s.sst.flush.isSome
    || s.vfm.walks.any (fun w => w.2.reset || w.2.fence) || s.pwr.change.isSome || s.pwr.clk.isSome
    || !s.rplDoms.isEmpty

/-- A line wake is pending: the latch of an enabled line that the scan has not served (R335). -/
def State.lineWaits (s : State) : Bool :=
  s.bit F.PWR_POLICY_LINE_WAKE && (List.range 1024).any (fun n => s.intk.latch.getLsbD n && s.bit F.LIN_CFG_EN n)

/-- The conditions that R328 lists, but for the request itself. -/
def State.entryConds (s : State) : Bool :=
  s.refusers.isEmpty && s.pwr.wakes.isEmpty && s.intk.wake.isEmpty && !s.lineWaits
    && s.passed s.pwr.lastExit (s.fld F.PWR_SLEEP_CFG_MIN_AWAKE * 1000)
    && s.holdUsed == 0 && !s.busyWork && (!s.standby || s.detachOk)
    && (s.deadline).all (fun t => decide (s.ns + max 2 (s.fld F.PWR_SLEEP_CFG_MIN_SLEEP) * 1000 ≤ t))

/-- The block is in RUN past start-up, with nothing halted, and every condition of R328 holds. -/
def State.entryOk (s : State) : Bool := s.fld F.REG_RST_STAT_STAGE = 3 && s.pst = 0 && !s.halted && s.entryConds

/-- A domain may go OFF in this entry but for the save slots and the 8 s (R324, R32): RING behind a closed bypass, which a
detached entry closes. -/
def State.offWanted (s : State) (k : Nat) (pol : Field) (d : Nat) : Bool :=
  s.img.power.offOk.getLsbD k && s.bit pol && (d != 4 || !s.bypassN || (s.onRing && s.detachOk))

/-- The domains that go OFF in an entry into DORMANT, and the flags of those that are retained instead. -/
def State.chooseOff (s : State) : List Nat × State :=
  let want := [(0, F.PWR_POLICY_OFF_STATE, 1), (1, F.PWR_POLICY_OFF_LOG, 2), (2, F.PWR_POLICY_OFF_TEL, 3),
               (3, F.PWR_POLICY_OFF_RING, 4)].filter (fun x => s.offWanted x.1 x.2.1 x.2.2)
  if want.isEmpty then ([], s)
  else if s.img.holdup.saveSlots = 0 then ([], s.raise F.PWR_STATUS_NO_OFF_AREA)
  else if s.pwr.offAt.any (fun t => decide (s.tim.now < t + 8000000000 * 45)) then ([], s.raise F.PWR_STATUS_OFF_HOLDOFF)
  else (want.map (fun x => x.2.2), s)

/-- Domains that a switch-on timeout left powered off (R60). -/
def State.deadPds (s : State) : List Nat := s.pwr.off.filter (fun d => !(s.psw d).en)

/-- An entry is decided: the drain begins (R329). -/
def State.entryStart (s : State) : State :=
  let doze := s.dozeForm
  let (off, s) := if doze then ([], s) else s.chooseOff
  let s := (s.setPst 1).raise F.PWR_CMD_BUSY
  let detach := s.onRing && !doze
  let s := { s with pwr := { s.pwr with doze := doze, decided := some s.tim.now,
                                        off := off ++ s.deadPds.filter (fun d => !off.contains d), wakes := [] } }
  let s := s.journalDoms.foldl (fun s d => s.jFlush d) s
  let s := if off.contains 1 then s.flushCache else s
  if detach then s.chlLeave else s

/-- ENTRY_DECISION: AUTOSLEEP is on and every condition holds. -/
def State.entryDecision (s : State) : State := if s.bit F.PWR_AUTOSLEEP_MODE && s.entryOk then s.entryStart else s

/-- PWR_CMD.SLEEP: the lowest code that applies refuses it (R429). -/
def State.sleepCmd (s : State) : State :=
  if !s.entryConds then s.setFld F.PWR_CMD_ERR 0 1
  else if s.pst = 1 then s.setFld F.PWR_CMD_ERR 0 2
  else if !s.entryOk then s.setFld F.PWR_CMD_ERR 0 1
  else (s.setFld F.PWR_CMD_ERR 0 0).entryStart

/-- Every step of the drain but the off area has finished (R329); offers and trees are retained as they stand. -/
def State.drainRest (s : State) : Bool :=
  !s.intakeNow && s.sst.missq.isEmpty && s.intk.maps.isEmpty && s.dep.tags.isEmpty
    && s.dlv.tags.all (fun w => s.dlv.unsent.any (fun u => u.tag == w.tag)) && s.way.q.isEmpty && s.way.doms.all (fun (p : Nat × Jrnl) => !p.2.unwritten) && s.sst.flush.isNone && s.sst.victims.isEmpty
    && (!s.pwr.off.contains 1 || s.dirtyLines.isEmpty)
    && (s.pwr.doze || !s.onRing)

/-- Domains that are on go OFF in this entry: the off area has to be written. -/
def State.offWrites (s : State) : Bool := s.pwr.off.any (fun d => (s.psw d).en)

/-- The window offset of the off area, and its lines (R324). -/
def State.offBase (s : State) : Nat := s.img.depot.keepBase + 0x480000

def offLines : Nat := 57344

/-- The jobs of the off area. -/
def JobKind.offArea (k : JobKind) : Bool := k == .off || k == .offBack

/-- The drain has finished. -/
def State.drainDone (s : State) : Bool := s.drainRest && (!s.offWrites || s.jobDone .off)

/-- What an abandoned entry leaves at the record of abort point `ap` (R332): cause 0 wake, 1 vote, 2 drain limit,
3 switch-off timeout. -/
def State.noteAbort (s : State) (ap cause : Nat) : State :=
  let who := s.refusers
  let s := s.bump F.PWR_ABORT_AP_CNT (ap - 1)
  let s := if cause = 1 then who.foldl (fun s k => s.bump F.PWR_REFUSE_CNT k) s else s
  let wake := ((s.pwr.wakes.map (·.1)).foldl min 15)
  if s.bit F.PWR_LAST_ABORT_VALID then s else
    let s := ((s.raise F.PWR_LAST_ABORT_VALID).setFld F.PWR_LAST_ABORT_AP 0 (ap - 1)).setFld F.PWR_LAST_ABORT_CAUSE 0 cause
    let s := s.setFld F.PWR_LAST_ABORT_WHO 0 (if cause = 1 then who.headD 0 else 0)
    let s := s.setFld F.PWR_LAST_ABORT_WAKE 0 (if cause = 0 then wake else 0)
    s.setFld F.PWR_LAST_ABORT_FUNC 0 (if cause = 1 ∧ who.headD 0 = 3 then s.countedVfs.headD 0 else 0)

/-- A unit of a pair that has left the ring to sleep awaits HELLO again (R334). -/
def State.tdmAway (s : State) : State :=
  if s.paired then
    { s with tdm := { s.tdm with helloOk := false, bulk := none, bulkOut := none } }.setFld F.TDM_STATUS_STATE 0 1
  else s

/-- An abandoned entry has restarted what it stopped: the block is in RUN, and the wake FIFO drains ahead of later
traffic. -/
def State.abandonEnd (s : State) : State :=
  let s := ((s.setPst 0).lower F.PWR_CMD_BUSY).dropJobs JobKind.offArea
  let off := s.deadPds
  let s := { s with pwr := { s.pwr with decided := none, rows := none, back := none, gated := off.contains 0, doze := false,
                                        off := off, wakes := [] } }
  if s.pwr.detached then
    { s with pwr := { s.pwr with detached := false }, chl := { s.chl with st := .ready } }.tdmAway
  else { s with chl := { s.chl with leaving := false } }

/-- An entry is abandoned (R331): at AP1 at once; later the parks are released, the oscillator restarts, which takes
5 ACLK unless the form is DOZE, and only then do the clocks run again. -/
def State.abandon (s : State) (ap cause : Nat) : State :=
  let s := (s.noteAbort ap cause).dropJobs JobKind.offArea
  let n := (if 3 ≤ ap then 1 else 0) + (if s.pwr.doze then 0 else 5)
  if ap = 1 then s.abandonEnd
  else { s with pwr := { s.pwr with rows := none, back := some (s.tim.now + n * 1800), wakes := [] } }

/-- An abort point: a counted vote of 1, or a wake request, abandons the entry. Where both are seen the vote is recorded
(DESIGN CHOICE). -/
def State.abortPoint (s : State) (ap : Nat) (f : State → State) : State :=
  if !s.refusers.isEmpty then s.abandon ap 1 else if !s.pwr.wakes.isEmpty then s.abandon ap 0 else f s

/-- The next domain of the switch-off sequence (R323): TEL, LOG, STATE, RING unless the form is DOZE, CORE last. -/
def State.nextOff (s : State) : Option Nat :=
  ([3, 2, 1] ++ (if s.pwr.doze && s.pst != 6 then [] else [4]) ++ [0]).find? (fun d => (s.psw d).en)

/-- Row 0 of a switch-off (R60): isolation. -/
def State.switchOff (s : State) (d : Nat) : State :=
  s.setPsw d { s.psw d with iso := true, phase := .iso (!s.pwr.off.contains d), since := s.tim.now }

/-- PSW_EN of a domain rises; PSW_ACK is awaited. -/
def State.switchOn (s : State) (d : Nat) : State := s.setPsw d { s.psw d with en := true, phase := .wait, since := s.tim.now }

/-- During the drain records that enter the journal queue are flushed as they come, the state cache is flushed again
while a line is dirty that STATE may not take away, and what goes OFF is written to the off area behind all else, so that it
holds it as it stays (R32, R170, R272, R329). -/
def State.drainFlush (s : State) : State :=
  if s.pst = 1 ∧ s.pwr.rows.isNone ∧ s.pwr.back.isNone ∧ s.coreOn then
    let due (j : Jrnl) (d : Nat) : Bool := j.flush.isNone && (j.unwritten || s.way.q.any (fun r => r.d == d))
    let s := (s.way.doms.filter (fun (p : Nat × Jrnl) => due p.2 p.1)).foldl (fun (s : State) (p : Nat × Jrnl) => s.jFlush p.1) s
    let s := if s.pwr.off.contains 1 ∧ s.sst.flush.isNone ∧ !s.dirtyLines.isEmpty then s.flushCache else s
    if s.offWrites && (s.job .off).isNone && s.drainRest then s.startJob .off true s.offBase offLines else s
  else s

/-- DRAIN_END: the drain has ended; votes, wakes and accesses are seen at AP1 (R330). -/
def State.drainEnd (s : State) : State :=
  if s.pst ≠ 1 ∨ s.pwr.rows.isSome ∨ s.pwr.back.isSome ∨ s.pwr.gated ∨ !s.drainDone then s
  else s.abortPoint 1 (fun s => { s with pwr := { s.pwr with rows := some (s.tim.now, 0) } })

/-- The first row of the switch-off sequence. -/
def State.entryOff (s : State) : State :=
  match s.nextOff with
  | none => s
  | some d => s.switchOff d

/-- Row d + `n` of R330's table: the clocks stop, AP2, the retention command, AP3, AP4, and the switch-offs begin. -/
def State.entryRow (s : State) (n : Nat) : State :=
  match n with
  | 1 => { s with pwr := { s.pwr with gated := true } }
  | 2 => s.abortPoint 2 (fun s => s)
  | 6 => s.abortPoint 3 (fun s => s)
  | 7 => s.abortPoint 4 (fun s => s)
  | 8 => { s with pwr := { s.pwr with rows := none } }.entryOff
  | _ => s

/-- The rows after the drain advance with ACLK, one row each 40 ns. -/
def State.entryRows (s : State) : State :=
  match s.pwr.rows with
  | some (t, n) =>
    if t + (n + 1) * 1800 ≤ s.tim.now then { s with pwr := { s.pwr with rows := some (t, n + 1) } }.entryRow (n + 1) else s
  | none => s

/-- DRAIN_TIMEOUT. -/
def State.drainTimeout (s : State) : State :=
  match s.pwr.decided with
  | none => s
  | some t =>
    if s.pst = 1 ∧ s.pwr.rows.isNone ∧ s.pwr.back.isNone ∧ !s.pwr.gated ∧ s.passed t (max 1 (s.fld F.PWR_SLEEP_CFG_DRAIN_MAX) * 1000) then s.abandon 1 2 else s

/-! ### Wake (R335, R336, R338) -/

/-- Give one register of every domain the same word. -/
def State.setAllDoms (s : State) (r : Reg) (w : Word) : State :=
  let lo := r.key 0
  let hi := r.key 4096
  let mine := if w = r.resetWord 0 then [] else (List.range 4096).map (fun d => (lo + d, w))
  { s with regs := s.regs.filter (fun p => decide (p.1 < lo)) ++ mine ++ s.regs.filter (fun p => decide (hi ≤ p.1)) }

/-- Record a wake (R338). -/
def State.noteWake (s : State) (code detail : Nat) : State :=
  let n := s.pwr.exits + 1
  let s := { s with pwr := { s.pwr with exits := n } }
  let s := (s.setFld F.PWR_WAKE_LAST_CODE 0 code).setFld F.PWR_WAKE_LAST_DETAIL 0 detail
  s.setAllDoms .PWR_WAKE_SRC (BitVec.ofNat 32 (code * 2 ^ 28 + n % 2 ^ 24))

/-- The image gives a ring, and its ports are cabled (R372 step 9). -/
def State.ringWanted (s : State) : Bool := s.img.fabric && s.bit F.REG_STRAPS_RING_PRESENT

/-- PSW_EN of every domain that is off rises; PSW_ACK is awaited (R336 row 1). -/
def State.switchOnAll (s : State) : State :=
  ([0, 1, 2, 3] ++ (if s.ringWanted then [4] else [])).foldl (fun (s : State) d =>
    if (s.psw d).en then s else s.switchOn d) s

/-- A wake request is sampled in DOZE or DORMANT: the exit begins with the lowest code (R338). -/
def State.wakeNow (s : State) : State :=
  if s.pst = 2 ∨ s.pst = 3 then
    match s.pwr.wakes with
    | [] => s
    | w :: r =>
      let x := r.foldl (fun (b : Nat × Nat) y => if y.1 < b.1 then y else b) w
      let s := (s.noteWake x.1 x.2).setPst 4
      { s with pwr := { s.pwr with wakes := [], exiting := true } }.switchOnAll
  else s

/-- WAKE: an honoured wake request. -/
def State.wake (s : State) (code detail : Nat) : State := (s.wakeReq code detail).wakeNow

/-- TIMER_WAKE: 1,500 ns before the deadline. -/
def State.timerWake (s : State) : State :=
  if (s.pst = 2 ∨ s.pst = 3) ∧ s.deadline.any (fun t => decide (t ≤ s.ns + 1500)) then s.wake 5 0 else s

/-- SIGDET_WAKE: a rise of CHL_x_SIGDET after at least 25 ACLK without activity, `quiet` of them, wakes a detached member. -/
def State.sigdet (s : State) (quiet : Nat) : State := if s.pst = 3 ∧ 25 ≤ quiet then s.wake 4 0 else s

/-- A counted Tandem vote of 1 after AP4 is a wake with code VOTE (R332, R335). -/
def State.tdmVoteWake (s : State) : State :=
  if s.refusers.contains 2 && (s.pst = 2 || s.pst = 3 || (s.pst = 1 && s.pwr.gated && s.pwr.rows.isNone && s.pwr.back.isNone)) then s.wakeReq 7 0 else s

/-- SMBUS_ADDRESS_MATCH (R50, R335): the matcher acknowledges its address and holds SB_SCL; another address leaves both
lines released. -/
def State.smbus (s : State) (addr : Nat) : State :=
  if addr = s.fld F.REG_STRAPS_SB_ADDR then { s with io := { s.io with scl := some s.tim.now } }.wake 3 0 else s

/-- SB_SCL is released once the AO logic has taken over: with ACLK running and no wake under way, and after 2 µs at the
latest. -/
def State.sclRun (s : State) : State :=
  match s.io.scl with
  | some t =>
    if (s.pst ≠ 2 ∧ s.pst ≠ 3 ∧ s.pst ≠ 4) ∨ s.img.fabric ∨ s.passed t 2000 then { s with io := { s.io with scl := none } } else s
  | none => s

/-! ### Performance points and clocks (R339 to R342) -/

/-- FCLK returns to the oscillator (R339). -/
def State.toOsc (s : State) : State :=
  if s.bit F.PWR_CLK_SRC then (s.lower F.PWR_CLK_SRC).raise F.PWR_CLK_PLL_LEFT else s

/-- A phase of a change begins now. -/
def State.perfPhase (s : State) (c : PerfChange) (p : PerfPhase) : State :=
  { s with pwr := { s.pwr with change := some { c with phase := p, since := s.tim.now } } }

/-- The Voltage write of a change goes out: VPOINT as it is now, in every retry too (R340, R341). -/
def State.perfFrame (s : State) (c : PerfChange) : State :=
  s.perfPhase { c with mv := s.fld F.PWR_VPOINT_MV c.point } (.frame false)

/-- A change of performance point starts (R341). -/
def State.perfStart (s : State) : State :=
  let p := s.fld F.PWR_PERF_REQ
  let cur := s.fld F.PWR_PERF_CUR
  let s := { s with pwr := { s.pwr with want := false } }
  if p = cur then s
  else
    let s := s.toOsc.raise F.PWR_STATUS_AVS_BUSY
    let c : PerfChange := ⟨p, 0, decide (p < cur), .retune, s.fld F.PWR_AVS_CFG_RETRY, 0⟩
    if c.up && s.bit F.REG_STRAPS_AVS_EN then s.perfFrame c else s.perfPhase c .retune

/-- A request for a performance point: it starts in RUN when no change runs, else it waits. -/
def State.perfReq (s : State) : State :=
  if s.pst = 0 ∧ s.pwr.change.isNone then s.perfStart else { s with pwr := { s.pwr with want := true } }

/-- A change has ended; the request that waits starts. -/
def State.perfEnd (s : State) : State :=
  let s := { s with pwr := { s.pwr with change := none } }.lower F.PWR_STATUS_AVS_BUSY
  if s.pwr.want ∧ s.pst = 0 then s.perfStart else s

/-- Every attempt of a Voltage write failed. -/
def State.avsFail (s : State) (c : PerfChange) : State :=
  let s := (s.raise F.PWR_STATUS_AVS_FAIL).error 17 13 none c.mv .none
  (if c.up then s else s.raise F.PWR_STATUS_VHIGH).perfEnd

/-- AVS_RESPONSE: an AVSBus frame ends; only "good CRC, action taken" counts as acknowledgement (R52). -/
def State.avsResponse (s : State) (answer : AvsAnswer) : State :=
  match s.pwr.change with
  | some c =>
    if c.phase ≠ .frame false then s
    else if answer = .ack 0 then
      let s := s.lower F.PWR_STATUS_VHIGH
      if c.up then s.perfPhase c .settle else s.perfEnd
    else if c.left = 0 then s.avsFail c
    else s.perfPhase { c with left := c.left - 1 } (.frame true)
  | none => s

/-- AVS_RETRY: 1 µs after a failed frame. -/
def State.avsRetry (s : State) : State :=
  match s.pwr.change with
  | some c => if c.phase = .frame true ∧ s.passed c.since 1000 then s.perfPhase c (.frame false) else s
  | none => s

/-- SETTLE_END: SETTLE µs after the acknowledgement the retune starts. -/
def State.settleEnd (s : State) : State :=
  match s.pwr.change with
  | some c =>
    if c.phase = .settle ∧ s.passed c.since (s.fld F.PWR_AVS_CFG_SETTLE * 1000) then s.perfPhase c .retune else s
  | none => s

/-- A retune: once every depot response has come FCLK stops; within 200 ns it runs at the new point (R342). A request that
waited starts once the block is in RUN (R341). -/
def State.retuneRun (s : State) : State :=
  match s.pwr.change with
  | some c =>
    if c.phase ≠ .retune then s
    else if s.pst = 0 then (if s.dep.tags.isEmpty then (s.setPst 5).perfPhase c .retune else s)
    else if s.pst = 5 ∧ s.passed c.since 200 then
      let s := ((s.setPst 0).setFld F.PWR_PERF_CUR 0 c.point).lineWake
      if !c.up && s.bit F.REG_STRAPS_AVS_EN then s.perfFrame c else s.perfEnd
    else s
  | none => if s.pwr.want ∧ s.pst = 0 then s.perfStart else s

/-- PWR_CLK.TO_PLL and TO_OSC (R339): in RUN the switch is a RETUNE pause. A TO_PLL during an entry or a change is refused;
the command that comes while a pause runs decides its outcome. -/
def State.clkSwitch (s : State) (pll : Bool) : State :=
  if s.pwr.clk.isSome then { s with pwr := { s.pwr with clk := s.pwr.clk.map (fun c => (pll, c.2)) } }
  else if pll && (s.pst != 0 || s.pwr.change.isSome) then s.raise F.PWR_CLK_ERR
  else if s.bit F.PWR_CLK_SRC = pll then s
  else
    let s := if s.pst = 0 then s.setPst 5 else s
    { s with pwr := { s.pwr with clk := some (pll, s.tim.now) } }

/-- A clock switch completes: its pause lasts one cycle, at most four cycles of the slower clock. -/
def State.clkRun (s : State) : State :=
  match s.pwr.clk with
  | some (pll, t) =>
    if s.tim.now ≤ t then s
    else
      let s := { s with pwr := { s.pwr with clk := none } }.setFld F.PWR_CLK_SRC 0 (bitNat pll)
      if s.pst = 5 && s.pwr.change.isNone then (s.setPst 0).lineWake else s
  | none => s

end Sys2Proof.Machine
end

