-- ==== Sys2Proof/Machine/Save.lean ====
section
/-! DEFINITION. The Persistent Save Unit: triggers and the save interval, the hold-up check, the snapshot and its record,
the configuration home, and start-up restore (R345 to R360). -/

namespace Sys2Proof.Machine

/-! ### What a save holds -/

/-- The register array of a place in the register file. -/
def regOfKey (k : Nat) : Option Reg := (placements.find? (fun p => p.reg.ctorIdx == k / 65536)).map (·.reg)

/-- The bits of a register that persist in the configuration home (P fields of classes C2 to C4) or in the record (all
other P fields) (R346). -/
def Reg.keepMask (r : Reg) (home : Bool) : Word :=
  (r.fields.filter (fun f => f.surv / 16 % 2 == 1 && (decide (2 ≤ f.cls) && decide (f.cls ≤ 4)) == home)).foldl
    (fun m f => m ||| f.mask) 0

/-- The class of the P fields of a register that are not in the home (R86, R346): verdicts and what a run was started under
in 3, tokens and gate lists in 4, the journal's LAP in 5, any other in 0. -/
def Reg.keepClass (r : Reg) : Nat :=
  match r with
  | .CVN_VERDICT | .CVN_BREAK_EPOCH | .CVN_RUN_IMG | .CVN_RUN_CFG | .CVN_RUN_ROLE => 3
  | .WWL_DOM_TOKS | .WWL_GRP_TOKS | .WWL_TGT_TOKS | .OAS_OPER_START_LO | .OAS_OPER_START_HI | .OAS_PEND_START_LO
  | .OAS_PEND_START_HI | .OAS_OPER_CYCLE | .OAS_OPER_LEN | .OAS_OPER_ENT => 4
  | .WAY_STATUS => 5
  | _ => 0

/-- The persistent words of the register file: those of the home, or those of a record with some classes. -/
def State.keepRegs (s : State) (home : Bool) (cl : BitVec 8) : SMap Word :=
  s.regs.filterMap (fun x =>
    match regOfKey x.1 with
    | none => none
    | some r => if r.keepMask home = 0 || !(home || cl.getLsbD r.keepClass) then none else some (x.1, x.2 &&& r.keepMask home))

/-- Restore persistent words. -/
def State.putRegs (s : State) (home : Bool) (l : SMap Word) : State :=
  l.foldl (fun s x =>
    match regOfKey x.1 with
    | none => s
    | some r =>
      let m := r.keepMask home
      let i := x.1 % 65536
      s.setReg r i ((s.reg r i &&& ~~~m) ||| x.2)) s

/-- The largest part of each class in a record (R346). -/
def classBytes (c : Nat) : Nat :=
  match c with
  | 0 => 327680
  | 3 => 262144
  | 4 => 315392
  | 5 => 131072
  | 6 => 131072
  | 7 => 64
  | _ => 0

/-- The window offsets of the two copies of the home; none where the tables region leaves no room for them (R348). -/
def State.homeBases (s : State) : List Nat :=
  let d := s.img.depot
  if d.tableSize < 2 ^ 24 then [] else [d.tableBase + d.tableSize - 2 ^ 24, d.tableBase + d.tableSize - 2 ^ 23]

/-- The newest home that is complete, with its place. -/
def State.newestHome (s : State) : Option (Nat × Home) :=
  (s.homeBases.filterMap (fun b => (SMap.find s.sav.homes b).map (fun h => (b, h)))).foldl (fun (b : Option (Nat × Home)) x =>
    match b with | none => some x | some y => if y.2.gen < x.2.gen then some x else b) none

/-- Its GEN; 0 when there is none. -/
def State.homeGen (s : State) : Nat := (s.newestHome.map (fun h => h.2.gen)).getD 0

/-- The classes of a save: those with SAVE 1, and for a partial one PRIORITY up to PART_PRIO (R86, R352). -/
def State.saveClasses (s : State) (part : Bool) : BitVec 8 :=
  (s.img.persist.filter (fun e => e.save && (!part || decide (e.prio ≤ s.fld F.SAV_POLICY_PART_PRIO)))).foldl
    (fun m e => m ||| BitVec.ofNat 8 (2 ^ e.cls)) 0

/-- CLASSES of a record: class 1 is held only where a home is (R346, R355). -/
def State.heldClasses (s : State) (cl : BitVec 8) : BitVec 8 := if s.homeGen = 0 then cl &&& 0xFD#8 else cl

/-- Bytes of a record in its slot. -/
def recLength (cl : BitVec 8) : Nat := 4096 + (((List.range 8).filter (fun c => cl.getLsbD c)).map classBytes).sum

/-- The lines that a write-back of the dirty ones has to write: those of the cache, and victims whose write has not been
issued. -/
def State.dirtyCount (s : State) : Nat := s.dirtyLines.length + (s.sst.victims.filter (fun v => v.tag.isNone)).length

/-- The lines that a flush of the journal has to write: those of queued records and of parts not yet written, each once
(R263, R352). -/
def State.journalLines (s : State) : Nat :=
  (s.way.q.map (fun (r : JRec) => (r.d, r.pos / 4)) ++ s.way.doms.filterMap (fun (p : Nat × Jrnl) =>
    if p.2.unwritten then p.2.part.head?.map (fun (r : JRec) => (p.1, r.pos / 4)) else none)).dedup.length

/-- The bytes a save writes: the record, dirty lines and the journal queue's lines (R352). -/
def State.saveSize (s : State) (cl : BitVec 8) : Nat :=
  recLength cl + (if cl.getLsbD 2 then 64 * s.dirtyCount else 0) + (if cl.getLsbD 5 then 64 * s.journalLines else 0)

/-- The energy a save of `b` bytes needs, µJ (R85, R352). -/
def Image.saveReq (im : Image) (b : Nat) : Nat := (b * im.holdup.epb / 1000000 + im.holdup.overhead) * (100 + im.holdup.margin) / 100

/-- The window offset of a slot (R355). -/
def State.slotBase (s : State) (n : Nat) : Nat := s.img.depot.keepBase + 2 ^ 23 * n

/-- The newest record that is valid for the image in force (R358): slot and record. -/
def State.newestSave (s : State) : Option (Nat × SaveRec) :=
  ((List.range s.img.holdup.saveSlots).filterMap (fun n => (SMap.find s.sav.recs (s.slotBase n)).bind (fun r =>
      if r.imgCrc == s.reg .IMG_LOADED_CRC && (r.homeGen == 0 || s.homeBases.any (fun b => (SMap.find s.sav.homes b).any (fun h => h.gen == r.homeGen)))
      then some (n, r) else none))).foldl
    (fun (b : Option (Nat × SaveRec)) x =>
      match b with | none => some x | some y => if y.2.seq < x.2.seq then some x else b) none

/-! ### The configuration home (R348, R349) -/

/-- The lines of a copy of the home. -/
def homeLines : Nat := 2 ^ 17

/-- A home write begins: the configuration in force goes to the copy that does not hold the newest home. -/
def State.homeStart (s : State) : State :=
  let old := s.newestHome
  match s.homeBases.find? (fun b => !old.any (fun h => h.1 == b)) with
  | none => s
  | some b =>
    let h : Home := ⟨(old.map (fun h => h.2.gen)).getD 0 + 1, s.reg .CFG_CRC_REF, s.keepRegs true 0, s.src.source, s.src.xlate⟩
    let s := { s with sav := { s.sav with home := some (b, h), homeAt := some s.tim.now, homeWant := false } }
    (s.lower F.SAV_STATUS_HOME_PEND).startJob .home true b homeLines

/-- Eight seconds have passed since the last home write began, and it has ended. -/
def State.homeDue (s : State) : Bool := s.sav.homeAt.all (fun t => s.passed t 8000000000) && s.sav.home.isNone

/-- An accepted COMMIT requests a home write. -/
def State.homeCommit (s : State) : State :=
  if s.img.holdup.saveSlots = 0 ∨ s.homeBases = [] then s
  else if s.homeDue then s.homeStart
  else { s.raise F.SAV_STATUS_HOME_PEND with sav := { s.sav with homeWant := true } }

/-- HOME_WRITE: the 8 s have passed; with REF_VALID 0 the write waits for the next COMMIT. -/
def State.homeLater (s : State) : State :=
  if !s.sav.homeWant ∨ !s.homeDue then s
  else if s.bit F.CFG_STATUS_REF_VALID then s.homeStart
  else { s.lower F.SAV_STATUS_HOME_PEND with sav := { s.sav with homeWant := false } }

/-- The bytes of line `n` of the home that is written: its body, and last the line with GEN, CFG_CRC_REF and the CRC of the
body, zeros behind them. -/
def State.homeLine (s : State) (b : Nat) (h : Home) (n : Nat) : List Byte :=
  if n + 1 < homeLines then (List.range 64).map (fun i => Config.internalByte 2 h.gen (64 * n + i))
  else leBytes 8 h.gen ++ leBytes 4 h.ref.toNat ++ leBytes 4 (crc32c (s.depBytes b (64 * (homeLines - 1)))).toNat ++ List.replicate 48 0

/-- Its last line is acknowledged: the home is complete. -/
def State.homeEnd (s : State) : State :=
  match (if s.jobDone .home then s.sav.home else none) with
  | none => s
  | some (b, h) =>
    let s := { s with sav := { s.sav with homes := SMap.insert s.sav.homes b h, home := none } }.dropJobs (· == JobKind.home)
    s.raise F.SAV_STATUS_HOME_DONE

/-! ### SAVED_OFF (R356) -/

/-- In SAVED_OFF the next domain that is on is switched off, without retention, by R60's rows. -/
def State.downNext (s : State) : State :=
  if s.pwr.psw.any (fun p => p.phase != .rest) then s
  else match s.nextOff with
    | some d => s.switchOff d
    | none => s

/-- Every switched domain goes OFF, one behind the other; a handshake that runs ends first. Only COLD leaves this state. -/
def State.savedOff (s : State) : State :=
  let s := (s.ringStop.setPst 6).dropJobs (fun _ => true)
  let s := { s with
    pwr := { s.pwr with gated := true, off := [0, 1, 2, 3, 4], wakes := [], decided := none, rows := none, back := none,
                        exiting := false, restoring := false },
    sav := { s.sav with wait := [], run := none, home := none } }
  s.downNext

/-! ### Triggers (R350 to R353) -/

/-- The save interval in 1/45 ns. -/
def State.saveInterval (s : State) : Nat := 8000 * 1000000 * 45 / max 1 s.img.holdup.saveSlots

/-- The present time lies inside the interval of the last save start. -/
def State.inInterval (s : State) : Bool := s.sav.last.any (fun t => decide (s.tim.now < t + s.saveInterval))

/-- Persistence is disabled (R345). -/
def State.saveDisabled (s : State) : Bool := s.img.holdup.saveSlots = 0 || s.fld F.IMG_STATUS_STATE = 0

/-- The record of the present state (R346, R355). -/
def State.snapshot (s : State) (x : SaveRun) : SaveRec :=
  let cl := x.classes
  let on := fun (c : Nat) => cl.getLsbD c
  { seq := ((s.newestSave.map (fun r => r.2.seq)).getD 0) + 1, trig := x.trig, part := x.part,
    imgCrc := s.reg .IMG_LOADED_CRC, homeGen := s.homeGen, time := s.ns,
    classes := s.heldClasses cl, dirty := if on 2 then s.dirtyCount else 0, length := recLength cl,
    regs := s.keepRegs false cl,
    srcs := if on 3 then s.cvn.srcs else [], runs := if on 3 then s.cvn.runs else [],
    tgt := if on 4 then s.wwl.tgt else [], dom := if on 4 then s.wwl.dom else [], grp := if on 4 then s.wwl.grp else [],
    oas := if on 4 then { s.oas with placed := 0 } else Oas.cold, way := if on 5 then s.way.doms.map (fun p => (p.1, p.2.quiet)) else [],
    rpl := if on 5 then s.rpl.map (fun (p : Nat × Replay) => (p.1, { p.2 with ask := none, line := none })) else [],
    cnt := if on 6 then
        (s.tel.cnt.filter (fun c => decide (0x10000 ≤ c.1) && decide (c.1 < 0x30000) && decide (c.1 % 32 < 4))).map (fun c => (c.1, c.2.val))
      else [],
    commit := if on 7 then s.tdm.seq else 0,
    resetting := (s.vfm.walks.filter (fun w => w.2.reset || w.2.fence)).map (·.1) ++ (if x.trig = 0 then s.vfm.saves.map (·.1) ++ s.vfm.restores.map (·.1) else []) }

/-- Intake in transit has reached the state store (R354 step 1, R368). -/
def State.intakeEmpty (s : State) : Bool :=
  s.intk.buf.isEmpty && s.intk.wake.isEmpty && [0, 1, 2, 3].all (fun k => (s.laneQ k).isEmpty) && s.sst.stalled.isEmpty
    && s.intk.maps.isEmpty && s.sst.missq.all (fun m => m.inputs.isEmpty)

/-- The lines of a record that a save writes: all but the marker. -/
def SaveRec.lines (r : SaveRec) : Nat := r.length / 64 - 1

/-- The snapshot point, once intake is empty: BUSY rises, the journal queue and the dirty lines are flushed, and the record
is written behind them (R354). -/
def State.saveSnap (s : State) : State :=
  match s.sav.run with
  | none => s
  | some x =>
    if x.snap.isSome || !s.intakeEmpty then s
    else
      let r := s.snapshot x
      let s := { s with sav := { s.sav with run := some { x with snap := some r } } }.raise F.SAV_STATUS_BUSY
      let s := s.startJob .record true (s.slotBase x.slot) r.lines
      let s := if x.classes.getLsbD 5 then s.journalDoms.foldl (fun s d => s.jFlush d) s else s
      if x.classes.getLsbD 2 then s.flushCache else s

/-- A save starts in the slot after the newest valid one (R355). -/
def State.saveBegin (s : State) (trig : Nat) (part : Bool) : State :=
  let n := s.img.holdup.saveSlots
  let slot := match s.newestSave with | none => 0 | some (k, _) => (k + 1) % n
  let x : SaveRun := ⟨trig, slot, part, s.saveClasses part, none⟩
  let s := { s with sav := { s.sav with run := some x, last := some s.tim.now, skips := 0, pfailed := s.sav.pfailed || trig == 0 } }
  (if trig = 1 then s.raise F.SAV_CMD_BUSY else s).saveSnap

/-- The energy in use at a trigger, in 10 µJ: the sample that the command at work brings; where it brings none, a value that
the manual does not tie to anything here. -/
def State.huNow (s : State) : Nat × State :=
  match s.io.hu with
  | some e => (e, s)
  | none => ((Config.holdupEnergy s.sav.asks).toNat, { s with sav := { s.sav with asks := s.sav.asks + 1 } })

/-- The hold-up check, made once, at the trigger (R352): 0 FULL, 1 PARTIAL, 2 NONE. -/
def State.holdupCheck (s : State) : Nat × State :=
  let (hu, s) := s.huNow
  let req := s.img.saveReq (s.saveSize (s.saveClasses false))
  let s := (s.setFld F.SAV_REQ_UJ 0 req).setFld F.SAV_HAVE_UJ 0 (10 * hu)
  if req ≤ 10 * hu then (0, s)
  else
    let s := (s.raise F.SAV_STATUS_HOLDUP_SHORT).error 25 13 none hu .none
    if s.img.holdup.shortPolicy = 1 ∧ s.img.saveReq (s.saveSize (s.saveClasses true)) ≤ 10 * hu then (1, s)
    else (2, s.raise F.SAV_STATUS_NONE)

/-- What follows the answer of the check (R353, R356). -/
def State.saveAct (s : State) (trig verdict : Nat) : State :=
  if verdict < 2 then s.saveBegin trig (verdict = 1) else if trig = 0 then s.savedOff else s

/-- A trigger waits, with the answer of its check. -/
def State.saveWait (s : State) (trig verdict : Nat) : State :=
  { s with sav := { s.sav with wait := s.sav.wait.filter (fun w => w.1 ≠ trig) ++ [(trig, verdict)] } }

/-- A trigger during dormancy or an entry is a wake request (R351); that of a COMMAND is an access of its port, `detail`. -/
def State.saveWake (s : State) (trig verdict detail : Nat) : State :=
  (s.saveWait trig verdict).wake (if trig = 0 then 8 else if trig = 1 then 6 else 5) detail

/-- The block is awake and past start-up: a save can start. -/
def State.saveReady (s : State) : Bool := s.pst = 0 && s.fld F.REG_RST_STAT_STAGE = 3

/-- No save can start: a PFAIL leads to SAVED_OFF without one (R351, R410). -/
def State.saveBarred (s : State) : Bool := s.saveDisabled || s.halted

/-- PFAIL (R350, R351). -/
def State.pfail (s : State) : State :=
  if s.pst = 6 ∨ s.sav.run.any (fun x => x.trig == 0) then s
  else if s.sav.run.isSome then s.saveWait 0 2
  else if s.saveBarred then (if s.pst = 0 then s.savedOff else s.saveWake 0 2 0)
  else
    let (v, s) := s.holdupCheck
    if !s.saveReady then s.saveWake 0 v 0
    else if s.inInterval && s.sav.pfailed && decide (v < 2) then s.saveWait 0 v
    else s.saveAct 0 v

/-- SAV_CMD.SAVE from the port of a code: the lowest code that applies refuses it (R429). -/
def State.saveCmd (s : State) (code : Nat) : State :=
  if s.inInterval && !s.saveDisabled then s.setFld F.SAV_CMD_ERR 0 1
  else if s.sav.run.isSome then s.setFld F.SAV_CMD_ERR 0 2
  else if s.saveDisabled then s.setFld F.SAV_CMD_ERR 0 3
  else
    let s := s.setFld F.SAV_CMD_ERR 0 0
    if s.halted then s
    else
      let (v, s) := s.holdupCheck
      if !s.saveReady then s.saveWake 1 v code else s.saveAct 1 v

/-- The next PERIODIC trigger is due: one comes every PERIOD × 125 ms after the last save start. -/
def State.periodicDue (s : State) : Bool :=
  let n := s.fld F.SAV_POLICY_PERIOD
  n != 0 && s.passed (s.sav.last.getD 0) ((s.sav.skips + 1) * n * 125000000)

/-- PERIODIC. -/
def State.periodic (s : State) : State :=
  if !s.periodicDue || s.saveBarred then s
  else
    let s := { s with sav := { s.sav with skips := s.sav.skips + 1 } }
    if s.inInterval || s.sav.run.isSome then s.bump F.SAV_SKIPPED_CNT
    else
      let (v, s) := s.holdupCheck
      if !s.saveReady then s.saveWake 2 v 0 else s.saveAct 2 v

/-- The trigger that goes first of those that wait: a PFAIL before any other. -/
def State.nextTrigger (s : State) : Option (Nat × Nat) :=
  match s.sav.wait.find? (fun w => w.1 == 0) with
  | some w => some w
  | none => s.sav.wait.head?

/-- A trigger that waits acts once nothing holds it back: SAVE_INTERVAL_END, or RUN. A PFAIL that can save nothing leads to
SAVED_OFF. -/
def State.saveWaiting (s : State) : State :=
  match s.nextTrigger with
  | none => s
  | some (trig, v) =>
    let rest : State := { s with sav := { s.sav with wait := s.sav.wait.filter (fun w => w.1 ≠ trig) } }
    if !s.saveReady || s.sav.run.isSome then s
    else if s.saveBarred || decide (2 ≤ v) then rest.saveAct trig 2
    else if s.inInterval && (trig != 0 || s.sav.pfailed) then s
    else rest.saveAct trig v

/-- At a tick in RUN, waiting triggers act, but for a PFAIL that waits for the end of the interval. -/
def State.saveRun (s : State) : State :=
  if s.nextTrigger.any (fun w => w.1 == 0 && decide (w.2 < 2)) && s.sav.pfailed && !s.saveBarred then s else s.saveWaiting

/-- The header of a record, whose slot lies at `b` and holds its body (R355): bytes 0x00 to 0x3F. -/
def State.saveHeader64 (s : State) (b : Nat) (r : SaveRec) : List Byte :=
  let h := leBytes 4 0x5045454B ++ [1, 0] ++ leBytes 2 (r.trig + bitNat r.part * 4) ++ leBytes 8 r.seq
    ++ leBytes 4 (s.reg .REG_VERSION).toNat ++ leBytes 4 r.imgCrc.toNat ++ leBytes 8 r.homeGen ++ leBytes 8 r.time
    ++ leBytes 1 r.classes.toNat ++ leBytes 3 0 ++ leBytes 4 r.dirty ++ leBytes 4 r.length ++ leBytes 4 0
    ++ leBytes 4 (crc32c (s.depBytes (b + 128) (r.length - 128))).toNat
  h ++ leBytes 4 (crc32c h).toNat

/-- The newest record is shown (R360). -/
def State.showSave (s : State) (slot : Nat) (r : SaveRec) : State :=
  ((s.setFld F.SAV_LAST_SLOT 0 slot).setFld F.SAV_LAST_TRIG 0 r.trig).setReg64 .SAV_SEQ_LO .SAV_SEQ_HI 0 r.seq

/-- Step 2 has made its requests: the flushes that the save's classes ask for (R354). -/
def State.saveFlushed (s : State) (cl : BitVec 8) : Bool :=
  (!cl.getLsbD 2 || s.sst.flush.isNone)
    && (!cl.getLsbD 5 || (s.way.q.isEmpty && s.way.doms.all (fun (p : Nat × Jrnl) => !p.2.unwritten)))

/-- Every earlier write of the save is acknowledged (R354 step 4). -/
def State.saveAcked (s : State) (j : Job) : Bool :=
  s.jobAcked j && !s.dep.tags.any (fun t => match t.2.use with | .stateWb _ => true | .jrnl _ => true | _ => false)

/-- The bytes of request `n` of a save, once it may go: the body behind the flushes, the header behind every other write. -/
def State.recordLine (s : State) (j : Job) (n : Nat) : Option (List Byte) :=
  match s.sav.run with
  | none => none
  | some x =>
    match x.snap with
    | none => none
    | some r =>
      if !s.saveFlushed x.classes then none
      else if n + 1 < j.count then some ((List.range 64).map (fun i => Config.internalByte 1 r.seq (128 + 64 * n + i)))
      else if s.saveAcked j then some (s.saveHeader64 j.base r)
      else none

/-- PERSISTENT_SAVE_DONE: the header is acknowledged (R354, R356). -/
def State.persistDone (s : State) : State :=
  match (if s.jobDone .record then s.sav.run.bind (fun x => x.snap.map (fun r => (x, r))) else none) with
  | none => s
  | some (x, r) =>
    let b := s.slotBase x.slot
    let s := { s with sav := { s.sav with recs := SMap.insert s.sav.recs b r, run := none,
                                          mark := if x.trig = 0 then none else some (b, r.seq) } }.dropJobs (· == JobKind.record)
    let s := ((s.showSave x.slot r).raise F.SAV_STATUS_DONE).lower F.SAV_STATUS_BUSY
    let s := (if r.part then s.raise F.SAV_STATUS_PARTIAL else s).lower F.SAV_CMD_BUSY
    let s := if x.trig = 0 then s else s.vfStatus 0 0
    if x.trig == 0 || s.sav.wait.any (fun w => w.1 == 0) then s.savedOff else s

/-! ### Restore at start-up (R358, R359) -/

/-- Fields of SAV_RESTORE. -/
def State.restoreResult (s : State) (res : Nat) (part stale : Bool) (cl : Nat) : State :=
  (((s.setFld F.SAV_RESTORE_RESULT 0 res).setFld F.SAV_RESTORE_PARTIAL 0 (bitNat part)).setFld F.SAV_RESTORE_STALE2 0
    (bitNat stale)).setFld F.SAV_RESTORE_CLASSES 0 cl

/-- The classes a record holds come back, with the home that it names; the answer says whether the backing is the event
state. A marker that is still due is due again. -/
def State.restoreRec (s : State) (slot : Nat) (r : SaveRec) (home : Option Home) : Bool × State :=
  let on := fun (c : Nat) => r.classes.getLsbD c
  let b := s.slotBase slot
  let s := match home with
    | some h =>
      let s := if on 0 then s.putRegs true h.regs else s
      if on 1 then { s with src := { s.src with source := h.source, xlate := h.xlate } } else s
    | none => s
  let s := s.putRegs false r.regs
  let s := if on 3 then { s with cvn := { s.cvn with srcs := r.srcs, runs := r.runs } } else s
  let s := if on 4 then { s with wwl := { s.wwl with tgt := r.tgt, dom := r.dom, grp := r.grp }, oas := r.oas } else s
  let s := if on 5 then { s with way := { s.way with doms := r.way }, rpl := r.rpl } else s
  let s := if on 6 then
      { s with tel := { s.tel with cnt := r.cnt.foldl (fun m c => SMap.set Ctr.zero m c.1 ⟨c.2, false⟩) s.tel.cnt } } else s
  let s := if on 7 then { s with tdm := { s.tdm with seq := r.commit, acked := r.commit } } else s
  let marked := s.depNat (b + 0x7C) 4 == (crc32c (s.depBytes (b + 0x40) 0x3C)).toNat && s.depNat (b + 0x40) 8 == r.seq
  let stale := on 2 && marked
  let s := (s.restoreResult 0 (r.classes != 0xFF#8) stale r.classes.toNat).showSave slot r
  (on 2 && !stale, if r.trig = 0 ∨ marked then s else { s with sav := { s.sav with mark := some (b, r.seq) } })

/-- The scan of the keep region ends: no record, or that of a slot with the home it names. The backing is kept only when the
record names it; domains recorded as RESETTING run their walk. -/
def State.restoreEndWith (s : State) (r : Option (Nat × SaveRec × Option Home)) : State :=
  let s := { s with sav := { s.sav with scan := none } }
  match r with
  | none => s.restoreResult 1 false false 0
  | some (slot, r, home) =>
    let (kept, s) := s.restoreRec slot r home
    let s := if kept then s.raise F.SST_STATUS_INIT_DONE else s
    r.resetting.foldl (fun s d => (s.walkEntries d Entry.flr).beginWalk d { Walk.none with reset := true }) s

/-- Checks 1 to 3, and the LENGTH of check 4, on the header of a slot (R358). -/
def State.slotHeaderOk (s : State) (slot : Nat) : Bool :=
  let b := s.slotBase slot
  s.depNat b 4 == 0x5045454B && s.depNat (b + 0x3C) 4 == (crc32c (s.depBytes b 0x3C)).toNat && s.depNat (b + 4) 1 == 1
    && s.depNat (b + 0x12) 2 == 3 && s.depNat (b + 0x14) 4 == (s.reg .IMG_LOADED_CRC).toNat
    && decide (s.depNat (b + 0x30) 4 ≤ 2 ^ 23) && (SMap.find s.sav.recs b).isSome

/-- Its BODY_CRC matches (check 4). -/
def State.slotBodyOk (s : State) (slot : Nat) : Bool :=
  let b := s.slotBase slot
  s.depNat (b + 0x38) 4 == (crc32c (s.depBytes (b + 128) (s.depNat (b + 0x30) 4 - 128))).toNat

/-- The copy at `b` carries this GEN in its last line. -/
def State.homeNamed (s : State) (b gen : Nat) : Bool := s.depNat (b + 2 ^ 23 - 64) 8 == gen

/-- The home at `b` when its GEN, CFG_CRC_REF and CRC are intact (check 5). -/
def State.homeIntact (s : State) (b gen : Nat) : Option Home :=
  (SMap.find s.sav.homes b).filter (fun h => s.homeNamed b gen && h.gen == gen
    && h.ref.toNat == s.depNat (b + 2 ^ 23 - 56) 4
    && s.depNat (b + 2 ^ 23 - 52) 4 == (crc32c (s.depBytes b (2 ^ 23 - 64))).toNat)

/-- The next slot to try: of those with a good header that have not failed a check, the one with the highest SEQ. -/
def State.slotBest (s : State) (failed : List Nat) : Option Nat :=
  ((List.range s.img.holdup.saveSlots).filter (fun k => !failed.contains k && s.slotHeaderOk k)).foldl (fun (b : Option Nat) k =>
    match b with
    | none => some k
    | some y => if s.depNat (s.slotBase y + 8) 8 < s.depNat (s.slotBase k + 8) 8 then some k else b) none

/-- Read the record of the next slot: its marker and its body. -/
def State.slotNext (s : State) : State :=
  match s.sav.scan with
  | none => s
  | some failed =>
    match s.slotBest failed with
    | none => s.restoreEndWith none
    | some k => s.startJob (.body k) false (s.slotBase k + 64) (s.depNat (s.slotBase k + 0x30) 4 / 64 - 1)

/-- A slot fails a check: the next is tried. -/
def State.slotFail (s : State) (slot : Nat) : State :=
  { s with sav := { s.sav with scan := s.sav.scan.map (slot :: ·) } }.slotNext

/-- The record of a slot is the one to restore, with a home. -/
def State.slotTake (s : State) (slot : Nat) (home : Option Home) : State :=
  match SMap.find s.sav.recs (s.slotBase slot) with
  | none => s.slotFail slot
  | some r => s.restoreEndWith (some (slot, r, home))

/-- A record has been read: check 4, then the home that it names. -/
def State.slotBody (s : State) (slot : Nat) (bad : Bool) : State :=
  let gen := s.depNat (s.slotBase slot + 0x18) 8
  if bad || !s.slotBodyOk slot then s.slotFail slot
  else if gen = 0 then s.slotTake slot none
  else match s.homeBases.find? (fun b => s.homeNamed b gen) with
    | none => s.slotFail slot
    | some b => s.startJob (.homeBody slot) false b homeLines

/-- A home has been read: check 5. -/
def State.slotHome (s : State) (slot base : Nat) (bad : Bool) : State :=
  match (if bad then none else s.homeIntact base (s.depNat (s.slotBase slot + 0x18) 8)) with
  | none => s.slotFail slot
  | some h => s.slotTake slot (some h)

/-- Start-up restore after COLD: it reads the header of every slot; RESULT 2 or 3 where there is nothing to restore. -/
def State.restore (s : State) : State :=
  if s.fld F.IMG_STATUS_STATE = 0 then s.restoreResult 3 false false 0
  else if s.img.holdup.saveSlots = 0 then s.restoreResult 2 false false 0
  else { s with sav := { s.sav with scan := some [] } }.startJob .headers false s.img.depot.keepBase s.img.holdup.saveSlots

end Sys2Proof.Machine
end

