-- ==== Sys2Proof/Machine/Startup.lean ====
section
/-! DEFINITION. Resets and start-up: the power-switch handshakes, the exit from dormancy, COLD, WARM and FABRIC, and the
start-up sequence up to READY (R60, R336, R361 to R375). -/

namespace Sys2Proof.Machine

/-- REG_RST_STAT.STAGE. -/
def State.stage (s : State) : Nat := s.fld F.REG_RST_STAT_STAGE

/-- Set it. -/
def State.setStage (s : State) (n : Nat) : State := s.setFld F.REG_RST_STAT_STAGE 0 n

/-- A reset line is asserted: the block takes no request (R362). -/
def State.inReset (s : State) : Bool := s.boot.held || s.boot.warmHeld

/-- What a reset holds off acts only outside it. -/
def State.live (s : State) (f : State → State) : State := if s.inReset then s else f s

/-- The ring port starts once RING is on (R372 steps 9 and 13). -/
def State.ringGo (s : State) : State := if s.ringOn && s.chl.st == .off then s.ringStart else s

/-! ### Register resets (R12, R365) -/

/-- A hardware-owned field that reports a condition of the block: a FABRIC reset, which ends no such condition, leaves
what it reports. -/
def Field.reports (f : Field) : Bool :=
  f.acc == .ro && f.surv == 0 && !(["ERR", "VALID", "DATA", "LIVE_CLEAN", "CRC", "ENTRY"].contains f.name)

/-- The replicas that hold something other than their reset word, or wait for a boundary. -/
def State.regsInUse (s : State) : List (Reg × Nat) :=
  ((s.regs.map (·.1)) ++ s.bnd.map (·.1)).eraseDups.filterMap (fun k => (regOfKey k).map (fun r => (r, k % 65536)))

/-- One register at FABRIC. -/
def State.fabricReg (s : State) (r : Reg) (i : Nat) : State :=
  let old := s.reg r i
  let s := s.resetReg r i 2
  (r.fields.filter Field.reports).foldl (fun s f => s.setFld f i (f.get old)) s

/-- Fields with Reset "img" that a reset does not spare (R10, R94). -/
def State.imgReset (s : State) (letter : Nat) : State :=
  imgFields.foldl (fun s x =>
    if x.1.survives letter then s else x.2.foldl (fun s i => s.setFld x.1 i (x.1.imgValue s.img i)) s) s

/-! ### COLD (R363, R372 step 2) -/

/-- The block as COLD leaves it: only the depot, what persists in it, the pins and the waiting commands remain. -/
def State.coldState (s : State) : State :=
  { State.reset with
    dep := { s.dep with tags := [], out := [], past := [], jobs := [] }
    sst := { Sst.cold with psn := s.sst.psn }
    intk := { Intk.cold with level := s.intk.level, narrow := s.intk.narrow }
    chl := { Chl.cold with east := { ChlSide.cold with lanes := s.chl.east.lanes },
                           west := { ChlSide.cold with lanes := s.chl.west.lanes } }
    dlv := { Dlv.cold with no := s.dlv.no }
    sav := { Sav.cold with recs := s.sav.recs, homes := s.sav.homes, asks := s.sav.asks }
    pending := s.pending }

/-- COLD_RST_N_ASSERTED: the whole block is held in reset. -/
def State.coldAssert (s : State) : State :=
  let s := s.coldState
  { s with boot := { s.boot with held := true }, pwr := { s.pwr with psw := List.replicate 5 (Psw.down false) } }

/-- COLD: COLD_RST_N deasserts, the straps are sampled and CORE is switched on. -/
def State.cold (s : State) (straps : Word) : State := s.coldState.setReg .REG_STRAPS 0 (straps &&& 0x07FFFF7F#32)

/-! ### WARM (R362, R364, R374) -/

/-- Untaken egress writes join the unsent lists of their host ports, which are down. -/
def State.unsendAll (s : State) : State :=
  let l := s.dlv.reissue ++ s.dlv.egr
  let s := { s with dlv := { s.dlv with egr := [], reissue := [], unsent := l.foldl (fun u w => insertWrite w u) s.dlv.unsent } }
  l.foldl (fun s w => s.setReg .DLV_HPORT_DOWN (w.hport / 32)
    (s.reg .DLV_HPORT_DOWN (w.hport / 32) ||| BitVec.ofNat 32 (2 ^ (w.hport % 32)))) s

/-- Intake in transit is lost, with every input of the miss queue; a release among them is a record of the hold store, and
waits there again. -/
def State.dropIntake (s : State) : State :=
  let s := s.missRels.foldl (fun (s : State) r => s.holdBack r) s
  { s with
    intk := { Intk.cold with level := s.intk.level, narrow := s.intk.narrow }
    src := Src.cold
    dlv := { s.dlv with closing := [] }
    sst := { s.sst with stalled := [], comps := [], cmds := [], flush := none,
                        missq := s.sst.missq.map (fun (m : Miss) => { m with inputs := [] }) } }

/-- The registers at WARM. -/
def State.warmRegs (s : State) : State :=
  let s := (s.regsInUse.foldl (fun s x => s.resetReg x.1 x.2 1) s).imgReset 1
  let hold := s.bit F.TIM_STATUS_HOLDOVER
  ((s.setFld F.TIM_STATUS_HOLDOVER 0 (bitNat hold)).setFld F.PWR_PERF_CUR 0 2).setFld F.REG_RST_STAT_LAST 0 1

/-- FLR and fence walks that run finish first (R362). -/
def State.finishWalks (s : State) : State :=
  (s.vfm.walks.filter (fun w => w.2.reset || w.2.fence)).foldl (fun s w => s.walkDone w.1) s

/-- The effect of WARM in the cycle of assertion. A start-up after COLD that had not ended goes on as one, with
arbitration. -/
def State.warmApply (s : State) : State :=
  let early := s.boot.cold && s.stage != 3
  let s := s.finishWalks.saveStop.dropJobs (fun _ => true)
  let arb := s.boot.warmArb || early || s.imgl.phase == .loading || s.imgl.phase == .loaded
  let old := if s.imgl.phase = .idle then s.fld F.IMG_STATUS_STATE else s.imgl.code
  let s := ((s.breachAll 5).breachAll 6).dropIntake.ringStop
  let s := s.warmRegs
  let s := (s.setFld F.IMG_STATUS_STATE 0 old).bump F.REG_RST_STAT_WARM_CNT
  let s := s.unsendAll
  { s with
    dep := { s.dep with past := [] }
    imgl := Loader.idle
    tdm := { Tdm.cold with seq := s.tdm.seq, acked := s.tdm.seq, tag := s.tdm.tag }
    cfg := { Cfg.cold with pass := s.cfg.pass }
    vfm := { s.vfm with vfs := 0, vfEn := false, numVfs := 0, hdr := [], saves := [], restores := [], rst := none }
    pwr := { s.pwr with change := none, clk := none, want := false, accs := [], wakes := [], decided := none,
                        detached := false, gated := s.boot.cold && s.pwr.gated, doze := false }
    sav := { s.sav with wait := s.sav.wait.filter (fun w => w.1 = 0), homeWant := false, home := none, scan := none }
    io := { s.io with sbQ := [] }
    boot := { s.boot with warmHeld := true, warmWant := false, warmArb := arb, cold := early, depWait := none, fabrics := 0 } }

/-- The next steps of start-up after WARM (R374): arbitration where R94 requires it, else the performance point. -/
def State.warmGo (s : State) : State :=
  let s := { s with boot := { s.boot with depWait := none } }
  if s.pwr.gated then s
  else let s := s.lineWake; if s.boot.warmArb then
    let s := s.setStage 1
    (if s.boot.cold then s else s.raise F.REG_RST_STAT_WARM_IMG).arbStart false
  else
    let s := s.setStage 2
    s.perfReq

/-- WARM_RST_N is high again: outstanding depot responses are awaited. -/
def State.warmRise (s : State) : State :=
  let s := { s with boot := { s.boot with warmHeld := false, depWait := some s.tim.now } }
  if s.dep.tags.isEmpty then s.warmGo else s

/-- WARM takes effect; one that had to wait may find its line high again. -/
def State.warmNow (s : State) : State := if s.boot.warmLow then s.warmApply else s.warmApply.warmRise

/-- WARM_RST_N asserts: a WARM in dormancy, an entry or an exit waits until that has ended (R362). -/
def State.warm (s : State) : State :=
  let s := { s with boot := { s.boot with warmLow := true } }
  let later : State := { s with boot := { s.boot with warmWant := true } }
  if s.boot.held then s
  else if s.pst = 6 ∨ s.sav.run.any (fun x => x.trig == 0) then s.raise F.REG_RST_STAT_WARM_IGN
  else if s.pst = 1 ∨ s.pst = 2 ∨ s.pst = 3 then later.wake 6 0
  else if s.pst = 4 then later
  else s.warmNow

/-- WARM_RST_N deasserts. -/
def State.warmEnd (s : State) : State :=
  let s := { s with boot := { s.boot with warmLow := false } }
  if s.boot.warmHeld then s.warmRise else s

/-- Tags that are abandoned: no flush awaits them any more, and a replay asks for its line anew. -/
def State.tagsLost (s : State) (l : List Nat) : State :=
  let s := { s with rpl := s.rpl.map (fun (p : Nat × Replay) => (p.1, { p.2 with ask := none })) }
  (s.way.doms.map (·.1)).foldl (fun (s : State) d =>
    let j := s.jrnl d
    (s.setJrnl d { j with acks := j.acks.map (fun a => a.filter (fun t => !l.contains t)) }).jFlushEnd d) s

/-- The wait for depot responses ends: every one has come, or 10 µs have passed and the missing ones are abandoned. -/
def State.depWaitEnd (s : State) : State :=
  match s.boot.depWait with
  | none => s
  | some t =>
    if s.dep.tags.isEmpty then s.warmGo
    else if s.passed t 10000 then
      let lost := s.dep.tags.map (·.1)
      let s := { s with
        dep := { s.dep with tags := [], out := [] }
        sst := { s.sst with missq := s.sst.missq.map (fun (m : Miss) => { m with tag := none })
                            victims := s.sst.victims.filter (fun v => v.tag.isNone) } }
      ((lost.foldl (fun (s : State) k => s.depProto k) s).tagsLost lost).warmGo
    else s

/-! ### FABRIC (R365) -/

/-- The register lies in the page of a VF. -/
def inVfPage (r : Reg) (i : Nat) : Bool :=
  match r with
  | .WIN_ADDR | .WIN_DATA | .WIN_STATUS | .REG_WIDE_SEL | .REG_WIDE_STAT => decide (1 ≤ i) && decide (i < 4096)
  | .REG_WIDE_DATA => decide (4 ≤ i) && decide (i < 16384)
  | _ => false

/-- FABRIC takes effect: fields without F return to their Reset values in the global registers and in domain 0's
replica. -/
def State.fabricNow (s : State) : State :=
  let l := s.regsInUse.filter (fun x => (!(domRegs.contains x.1) || x.2 == 0) && !inVfPage x.1 x.2)
  let s0 := s
  let s := l.foldl (fun s x => s.fabricReg x.1 x.2) s
  let s := (s.bump F.REG_RST_STAT_FABRIC_CNT).setFld F.REG_RST_STAT_LAST 0 2
  let s := { s.resetHeader 0 with intk := { s.intk with wires := 0 } }
  if covDiffer s0 s l then s.cfgStale else s

/-! ### Start-up after COLD (R370, R372) -/

/-- A domain is on during start-up: CORE starts the loader, STATE, LOG and TEL follow in turn. -/
def State.bootOn (s : State) (d : Nat) : State :=
  match d with
  | 0 =>
    let s := { s with pwr := { s.pwr with gated := false } }.lineWake
    (if s.boot.warmHeld || s.boot.depWait.isSome then s else (s.setStage 1).arbStart false).switchOn 1
  | 1 => s.switchOn 2
  | 2 => s.switchOn 3
  | 3 => s
  | _ => if s.stage = 3 then s.ringGo else s

/-- An image, or the no-image state, is in force: STAGE 2, RING, the performance point and, after COLD, the restore. -/
def State.bootImage (s : State) : State :=
  let s := s.setStage 2
  let s := if (s.psw 4).en then s else if s.ringWanted then s.switchOn 4 else s.setPsw 4 (Psw.down true)
  let s := s.perfReq
  if s.boot.cold then s.restore else s

/-- IMAGE_APPLY_DONE. -/
def State.imageDone (s : State) : State :=
  let old := s.img
  let (decided, s) := s.imgDone
  if !decided then s else if s.stage = 3 then s.ringImage old else s.bootImage

/-- Every switched domain of the main path is on. -/
def State.mainOn (s : State) : Bool := [0, 1, 2, 3].all (fun d => (s.psw d).en && !(s.psw d).iso)

/-- STAGE_READY: RST_DONE and INGR_READY rise, the 64 credits are granted, held FLRs run, the walker starts its passes
and the ring join begins. -/
def State.ready (s : State) : State :=
  if s.stage ≠ 2 ∨ !s.mainOn ∨ s.pwr.change.isSome ∨ !s.bit F.SST_STATUS_INIT_DONE ∨ s.sav.scan.isSome
      ∨ (s.boot.cold ∧ !s.vfm.walks.isEmpty) then s
  else
    let s := s.setStage 3
    let s := { s with
      intk := { s.intk with ready := true, credits := 64 }
      cfg := { s.cfg with on := true, ran := 0, clean := s.bnd.isEmpty, skipped := false, read := [] }
      boot := { s.boot with cold := false, warmArb := false } }
    s.heldFlrs.ringGo.saveWaiting

/-! ### The exit from dormancy (R336) and the handshakes (R60) -/

/-- Boundaries of gate cycles, pending lists and refill ticks that passed during dormancy are applied before any head is
tested (R403). -/
def State.passBounds (s : State) : State :=
  let l := ((s.oas.pend.map (·.1)) ++ s.bndIdxs .OAS_MODE ++ s.bndIdxs .OAS_GUARD).dedup
  l.foldl (fun (s : State) g => (s.switchList g).gateCycle g) (s.catchUp .none)

/-- The exit ends: the block is in RUN. -/
def State.exitEnd (s : State) : State :=
  let doze := s.pwr.doze
  let gone := s.pwr.off.filter (fun d => !(s.psw d).en)
  let was := s.pwr.detached
  let s := (s.setPst 0)
  let s := { s with pwr := { s.pwr with gated := gone.contains 0, exiting := false, restoring := false, doze := false,
                                        off := gone, decided := none, lastExit := s.tim.now, detached := false } }
  let s := if gone.contains 0 then s else s.lineWake.passBounds
  let s := if doze then s else s.toOsc
  let s := if was then s.toListen.tdmAway else s
  let s := if s.primary ∧ s.partnerPos.any (fun p => !s.joinedAt p) then s.askWake else s
  let s := if s.pwr.want then s.perfStart else s
  if s.boot.warmWant then s.warmNow else s.saveWaiting

/-- Every domain of an exit is on: one ACLK after the last isolation the parks are released and the clocks run (R336 row
5 + k); OFF domains are read back from the off area before the block resumes work. -/
def State.exitOn (s : State) : State :=
  if s.pst ≠ 4 ∨ s.pwr.restoring ∨ s.pwr.psw.any (fun p => p.phase != .rest || decide (s.tim.now < p.since + 1800)) then s
  else if s.pwr.off.any (fun d => (s.psw d).en) && !s.pwr.off.contains 0 then
    { s with pwr := { s.pwr with restoring := true, gated := false } }.startJob .offBack false s.offBase offLines
  else s.exitEnd

/-- OFF_AREA_RESTORE_DONE: the last line has come. -/
def State.offRestored (s : State) : State :=
  if s.pst = 4 ∧ s.pwr.restoring ∧ s.jobDone .offBack then (s.dropJobs JobKind.offArea).exitEnd else s

/-- The last domain of an entry is off: DOZE or DORMANT is reached; a wake that came meanwhile starts the exit. -/
def State.entryEnd (s : State) : State :=
  let s := (((s.setPst (if s.pwr.doze then 2 else 3)).bump F.PWR_ENTRIES_CNT).lower F.PWR_CMD_BUSY).dropJobs JobKind.offArea
  { s with pwr := { s.pwr with decided := none } }.wakeNow

/-- An abandoned entry ends once its restart time has passed and every domain is on again (R331). -/
def State.backRun (s : State) : State :=
  match s.pwr.back with
  | some t =>
    if s.tim.now < t ∨ s.pwr.psw.any (fun p => p.phase != .rest) then s
    else
      let s := s.abandonEnd.lineWake
      if s.boot.warmWant then s.warmNow else s.saveWaiting
  | none => s

/-- A domain is on: the abandoned entry or the start-up goes on; an exit does with the cycles. -/
def State.pswOn (s : State) (d : Nat) : State :=
  if s.pst = 4 then s else if s.pst = 1 then s.backRun else if s.pst = 6 then s.downNext else s.bootOn d

/-- PSW_ACK of a domain has deasserted: the next domain of the entry follows. -/
def State.pswOff (s : State) (d : Nat) : State :=
  let s := s.setPsw d { s.psw d with phase := .rest }
  if s.pst = 6 then s.downNext
  else if s.pst ≠ 1 then s
  else match s.nextOff with
    | some d => s.switchOff d
    | none => s.entryEnd

/-- PSW_ACK changes: an asserted one lets RET and then ISO_EN go, one and three ACLK later. -/
def State.pswAck (s : State) (d : Nat) (v : Bool) : State :=
  let p := s.psw d
  let s := s.setPsw d { p with ack := v }
  if p.phase ≠ .wait ∨ p.en ≠ v then s
  else if v then s.setPsw d { p with ack := true, phase := .acked, since := s.tim.now } else s.pswOff d

/-- The rows of R60's tables that take no answer, by ACLK since the row before. RET falls only while PSW_ACK is
asserted. -/
def State.pswRow (s : State) (d : Nat) : State :=
  let p := s.psw d
  let next := decide (p.since + 1800 ≤ s.tim.now)
  match p.phase with
  | .iso keep => if next then s.setPsw d { p with ret := keep, phase := .ret, since := s.tim.now } else s
  | .ret => if next then s.setPsw d { p with en := false, phase := .wait, since := s.tim.now } else s
  | .acked => if next && p.ack then s.setPsw d { p with ret := false, phase := .held, since := s.tim.now } else s
  | .held =>
    if p.since + 3600 ≤ s.tim.now then (s.setPsw d { p with iso := false, phase := .rest, since := s.tim.now }).pswOn d else s
  | _ => s

/-- The handshakes and the rows of an entry and an exit advance with ACLK. -/
def State.pswRun (s : State) : State := ([0, 1, 2, 3, 4].foldl (fun (s : State) d => s.pswRow d) s.entryRows).backRun.exitOn

/-- What this switch-off sequence has switched off is switched on again, CORE first (R331). -/
def State.switchBack (s : State) : State :=
  ([0, 1, 2, 3] ++ (if s.ringWanted then [4] else [])).foldl (fun (s : State) k =>
    if (s.psw k).en then s else s.switchOn k) s

/-- A switch-on without an answer leaves the domain isolated and powered off: its switches open again (DESIGN CHOICE), its
retention stays. -/
def State.switchDead (s : State) (d : Nat) : State :=
  let s := s.setPsw d { s.psw d with en := false, phase := .rest, since := s.tim.now }
  let s := { s with pwr := { s.pwr with off := s.pwr.off.filter (· ≠ d) ++ [d] } }.error 27 13 none d .all
  if s.pst = 6 then s.downNext else s

/-- A switch-off without an answer is taken back, and the entry with it; in SAVED_OFF it is made anew once the domain is on. -/
def State.switchUndo (s : State) (d : Nat) : State :=
  let p := s.psw d
  let s := s.setPsw d { p with en := true, phase := if p.ack then .acked else .wait, since := s.tim.now }
  if s.pst = 6 then s.error 18 13 none d .none else (s.switchBack.error 18 13 none d .none).abandon 4 3

/-- PSW_TIMEOUT: 256 ACLK without an answer. -/
def State.pswTimeout (s : State) (d : Nat) : State :=
  let p := s.psw d
  if p.phase ≠ .wait ∨ !s.passed p.since (256 * 40) then s
  else
    let s := s.logOne F.PWR_PSW_TIMEOUT_VALID 0 [(F.PWR_PSW_TIMEOUT_DIR, bitNat p.en), (F.PWR_PSW_TIMEOUT_DOMAIN, d)]
    if p.en then s.switchDead d else s.switchUndo d

end Sys2Proof.Machine
end

