-- ==== Sys2Proof/Machine/Telemetry.lean ====
section
/-! DEFINITION. Telemetry and the time base: counter commands, freeze and snapshot, the telemetry window, the level probes,
probe configuration, sampler records and the fabric-time input (R54, R376 to R396). -/

namespace Sys2Proof.Machine

/-! ### Counters (R377 to R384) -/

/-- The counter families of R377, without the bank bit. -/
def ctrKnown (i : Nat) : Bool :=
  decide (i < 0x100) || (decide (0x10000 ≤ i) && decide (i < 0x31000)) || (decide (0x34000 ≤ i) && decide (i < 0x34200))

/-- The tables name the counter's code (R378, R379). -/
def ctrNamed (i : Nat) : Bool :=
  if i < 0x100 then decide (i ≤ 0x25) else if i < 0x30000 then decide (i % 32 ≤ 28) else true

/-- A counter of either bank. -/
def State.ctr (s : State) (i : Nat) : Ctr :=
  if i < 2 ^ 23 then SMap.get Ctr.zero s.tel.cnt i else SMap.get Ctr.zero s.tel.snapCnt (i - 2 ^ 23)

/-- TEL_CNT_CMD.GO (R381, R429). -/
def State.cntCmd (s : State) : State :=
  let i := s.fld F.TEL_CNT_CMD_INDEX
  let op := s.fld F.TEL_CNT_CMD_OP
  if !(ctrKnown i && ctrNamed i) then s.setFld F.TEL_CNT_CMD_ERR 0 1
  else if op ≠ 1 ∧ op ≠ 2 then s.setFld F.TEL_CNT_CMD_ERR 0 2
  else
    let v := if op = 1 then BitVec.ofNat 64 (s.reg64 .TEL_CNT_DATA_LO .TEL_CNT_DATA_HI) else (s.ctr i).val
    let s := { s with tel := { s.tel with cnt := SMap.set Ctr.zero s.tel.cnt i ⟨v, false⟩ } }
    s.setFld F.TEL_CNT_CMD_ERR 0 0

/-- The probes. -/
def probes : List Nat := List.range 16

/-- MIN and MAX at their reset values. -/
def State.clearExtrema (s : State) (p : Nat) : State := (s.setReg .TEL_H_MIN p 0xFFFFFFFF#32).setReg .TEL_H_MAX p 0

/-- Every live counter and accumulator at 0, MIN and MAX reset. -/
def State.telClear (s : State) : State :=
  probes.foldl State.clearExtrema { s with tel := { s.tel with cnt := [], acc := [] } }

/-- TEL_CTRL.SNAP. The snapshot cycle is the FCLK cycle after the write's. -/
def State.snap (s : State) : State :=
  let ex := probes.foldl (fun m p => SMap.set ((0xFFFFFFFF#32, 0#32, 0#32) : Word × Word × Word) m p
    (s.reg .TEL_H_MIN p, s.reg .TEL_H_MAX p, s.reg .TEL_H_WMAX p)) []
  { s with tel := { s.tel with snapCnt := s.tel.cnt, snapAcc := s.tel.acc, snapProbe := ex } }.setReg64
    .TEL_SNAP_TIME_LO .TEL_SNAP_TIME_HI 0 (max s.tim.ft (s.tim.ref + s.period) / 45)

/-- TEL_CTRL.SNAP_CLR. -/
def State.snapClr (s : State) : State := s.snap.telClear

/-- TEL_CTRL.CLR_ALL. -/
def State.clrAll (s : State) : State := probes.foldl (fun s p => s.setReg .TEL_H_WMAX p 0) s.telClear

/-- TEL_CTRL.BW_CLR. -/
def State.bwClr (s : State) : State :=
  [Reg.TEL_BW_IN_LAST, .TEL_BW_OUT_LAST, .TEL_BW_IN_MAX, .TEL_BW_OUT_MAX].foldl (fun (s : State) r =>
    (s.regIdxs r).foldl (fun s i => s.setReg r i 0) s) s

/-- The command bits of TEL_CTRL together (R383, R384). -/
def State.telCtrl (s : State) (w : Word) : State :=
  let snap := F.TEL_CTRL_SNAP.get w = 1
  let sclr := F.TEL_CTRL_SNAP_CLR.get w = 1
  let all := F.TEL_CTRL_CLR_ALL.get w = 1
  let s := if F.TEL_CTRL_BW_CLR.get w = 1 then s.bwClr else s
  if sclr || (snap && all) then s.snapClr else if snap then s.snap else if all then s.clrAll else s

/-! ### The telemetry window (R385, R386, R394) -/

/-- TW in ns. -/
def State.telTw (s : State) : Nat := (s.fld F.TEL_WIN_LEN + 1) * 10000

/-- One direction of one port at a window end. -/
def State.bwEnd (s : State) (i : Nat) (last max_ : Reg) (k : Nat) : State :=
  let v := BitVec.ofNat 32 (min (SMap.get 0 s.tel.bw k / 16) (2 ^ 32 - 1))
  let s := s.setReg last i v
  if (s.reg max_ i).toNat < v.toNat then s.setReg max_ i v else s

/-- Bandwidth registers at a window end; a frozen block does not update them. -/
def State.bwEnds (s : State) : State :=
  let s := if s.bit F.TEL_CTRL_FREEZE then s else
    (List.range 131).foldl (fun s i =>
      (s.bwEnd i .TEL_BW_IN_LAST .TEL_BW_IN_MAX (2 * i)).bwEnd i .TEL_BW_OUT_LAST .TEL_BW_OUT_MAX (2 * i + 1)) s
  { s with tel := { s.tel with bw := [] } }

/-- TELEMETRY_WINDOW_END: fabric time has reached the window's end. -/
def State.winClose (s : State) : State :=
  if s.ns < s.tel.winEnd then s
  else
    let e := s.tel.winEnd
    let s := probes.foldl (fun s p => s.setReg .TEL_H_WMAX p (BitVec.ofNat 32 (SMap.get 0 s.tel.wmax p))) s
    let s := s.bwEnds
    let tw := s.telTw
    let next := (e / tw + 1) * tw
    let skip := decide (next ≤ s.ns)
    let s := if skip then s.raise F.TEL_STATUS_WIN_SKIP else s
    { s with
      tel := { s.tel with wmax := [], qPrev := s.tel.qCur, qCur := 0, winEnd := if skip then (s.ns / tw + 1) * tw else next }
      oas := { s.oas with prev := s.oas.cur, cur := [] } }

/-! ### Probes (R387, R389) -/

/-- LEVEL_SAMPLE. -/
def State.levelSample (s : State) : State :=
  if s.ns < s.tel.lvlAt then s
  else
    let t := (s.fld F.TEL_LVL_PERIOD + 1) * 128
    let wheel := s.shapedHeads.length
    let s := [(8, s.mqUsed), (9, s.holdUsed), (10, s.rnk.offers.length), (11, s.way.q.length), (12, s.dlv.active.length),
      (13, s.dlv.tags.length), (14, max s.chl.east.tx.length s.chl.west.tx.length), (15, wheel)].foldl
        (fun (s : State) (x : Nat × Nat) => s.probe x.1 x.2) s
    { s with tel := { s.tel with lvlAt := (s.ns / t + 1) * t } }

/-- An accepted change of a probe's configuration: its buckets, accumulators and extrema reset. -/
def State.probeReset (s : State) (p : Nat) : State :=
  let lo := 0x34000 + 32 * p
  let s := { s with tel := { s.tel with
    cnt := s.tel.cnt.filter (fun x => !(decide (lo ≤ x.1) && decide (x.1 < lo + 32)))
    acc := SMap.erase (SMap.erase s.tel.acc p) (16 + p)
    wmax := SMap.erase s.tel.wmax p } }
  (s.clearExtrema p).setReg .TEL_H_WMAX p 0

/-! ### The sampler (R391 to R393) -/

/-- A delta field: nanoseconds from T_INTAKE. -/
def sampleDelta (t0 : Nat) (t : Option Nat) : Nat :=
  match t with | some t => min ((t - t0) / 45) 0xFFFFFFFE | none => 0xFFFFFFFF

/-- The 64-byte record of a sample. -/
def Sample.record (m : Sample) : BitVec 512 :=
  let n := m.eid + m.flags.toNat * 2 ^ 24 + m.dom * 2 ^ 32 + m.ord * 2 ^ 48 + m.tgt * 2 ^ 64 + m.lane * 2 ^ 80
    + m.prio * 2 ^ 88 + m.no * 2 ^ 96 + m.t0 / 45 % 2 ^ 64 * 2 ^ 128
  let ds := [m.state, m.rel, m.hand, m.shaped, m.gated, m.issue, m.ack, m.fin]
  let d := (ds.mapIdx (fun i t => sampleDelta m.t0 t * 2 ^ (32 * i))).sum
  BitVec.ofNat 512 (n + d * 2 ^ 192 + m.epoch % 2 ^ 32 * 2 ^ 448)

/-- When the sample completed, was dropped, or timed out 2^32 ns after T_INTAKE. -/
def Sample.endAt (m : Sample) : Nat := min (m.endTime.getD (m.t0 + 2 ^ 32 * 45)) (m.t0 + 2 ^ 32 * 45)

/-- The sample that ended first, of those that have ended by `now`. -/
def firstDone (now : Nat) (l : List Sample) : Option Sample :=
  (l.filter (fun m => m.endTime.isSome || decide (m.endAt ≤ now))).foldl (fun (b : Option Sample) m =>
    match b with
    | none => some m
    | some x => if m.endAt < x.endAt then some m else b) none

/-- A record of the 64-record buffer goes to its place in the ring, at the third depot priority. -/
def State.smpWrite (s : State) : State :=
  match s.tel.smpBuf with
  | [] => s
  | r :: rest =>
    if !s.way.q.isEmpty || !s.sst.victims.isEmpty then s else
    let n := s.fld F.TEL_SMP_WPTR_WPTR
    let at_ := s.reg64 .TEL_SMP_AREA_LO .TEL_SMP_AREA_HI + 64 * (n % 2 ^ s.fld F.TEL_SMP_SIZE_SIZE)
    let bytes := (List.range 64).map (fun k => BitVec.ofNat 8 (r.toNat / 2 ^ (8 * k)))
    match s.depWrite .other (at_ / 64) bytes with
    | none => s
    | some (_, s) => { s with tel := { s.tel with smpBuf := rest } }.setFld F.TEL_SMP_WPTR_WPTR 0 ((n + 1) % 2 ^ 32)

/-- SAMPLER_RECORD: of the samples that are done, the one that ended first is written; a full buffer discards it. -/
def State.samplerRecord (s : State) : State :=
  match firstDone s.tim.ft s.tel.samples with
  | none => s.smpWrite
  | some m =>
    let s := { s with tel := { s.tel with samples := s.tel.samples.erase m } }
    let m : Sample := if m.endTime.isSome then m else { m with flags := m.flags ||| 0x40#8 }
    if 64 ≤ s.tel.smpBuf.length then s.bump F.TEL_SMP_STAT_DROPPED
    else { s with tel := { s.tel with smpBuf := s.tel.smpBuf ++ [m.record] } }.smpWrite

/-- A write of TEL_SMP_CFG.EN = 1 is rejected (R393): the ring has no place. -/
def State.samplerBad (s : State) : Bool :=
  let n := s.fld F.TEL_SMP_SIZE_SIZE
  let a := s.reg64 .TEL_SMP_AREA_LO .TEL_SMP_AREA_HI
  let lo := s.img.depot.tableBase
  let hi := lo + s.img.depot.tableSize - min s.img.depot.tableSize (2 ^ 24)
  decide (n < 6) || decide (24 < n) || decide (a < lo) || decide (hi < a + 64 * 2 ^ n)

/-! ### The time base (R54, R395) -/

/-- FT_TOGGLE: the Time Base loads FT_TIME + DELAY. -/
def State.ftToggle (s : State) (t : Nat) : State :=
  let v := (t + s.fld F.TIM_FT_COMP_DELAY) * 45
  let ft := s.tim.ft
  let s := { s with tim := { s.tim with ref := v, ft := max ft v, tog := s.tim.now, seen := true } }.lower F.TIM_STATUS_HOLDOVER
  if v < ft then s.raise F.TIM_STATUS_BACKSTEP
  else if ft + 1000000 * 45 < v then
    { s.raise F.TIM_STATUS_JUMP with wwl := { s.wwl with jumped := true } }.error 20 12 none
      (min ((v - ft) / 45000) (2 ^ 32 - 1)) .none
  else s

/-- HOLDOVER: no toggle for 2 µs. -/
def State.holdover (s : State) : State :=
  if s.passed s.tim.tog 2000 then s.raise F.TIM_STATUS_HOLDOVER else s

end Sys2Proof.Machine
end

