-- ==== Sys2Proof/Machine/Reach.lean ====
section
/-! DEFINITION. Where a register access goes (R100, R103 to R108, R304, R418 to R425), the authority of its port
(R119, R120), and the records of denied, locked, rejected and partial writes (R113, R118, R121, R415). -/

namespace Sys2Proof.Machine

/-- The port an access is attributed to (R100). -/
inductive PortId where
  /-- Code 0: function 0 from a manager port. -/
  | mgtPf
  /-- Code 1: the page of virtual function `fn`. -/
  | vf (fn : BitVec 12)
  /-- Code 2: the sideband, or a switch-internal management request. -/
  | sideband
  /-- Code 3. -/
  | debug
  /-- Code 4. -/
  | peer
  /-- Code 5: function 0 from a host port that the image does not name manager. -/
  | none
  deriving DecidableEq, Repr

/-- Identify the port from REGT_FUNC, REGT_HPORT and REGT_SRC (R49, R100). -/
def State.portOf (s : State) (p : Port) : PortId :=
  match p with
  | .regt true _ _ => .sideband
  | .regt false func hport => if func ≠ 0 then .vf func else if s.img.isMgrPort hport.toNat then .mgtPf else .none
  | .sideband => .sideband
  | .debug => .debug
  | .peer => .peer

/-- Port code of R100. -/
def portCode : PortId → Nat
  | .mgtPf => 0
  | .vf _ => 1
  | .sideband => 2
  | .debug => 3
  | .peer => 4
  | .none => 5

/-- Function number of a port: of the VF page, 0 otherwise. -/
def portFn : PortId → Nat
  | .vf fn => fn.toNat
  | _ => 0

/-- The page registers of a port: its function's for a page, the port's own for SIDEBAND, DEBUG and PEER. -/
def portPage : PortId → Nat
  | .mgtPf => 0
  | .vf fn => fn.toNat
  | .sideband => 4096
  | .debug => 4097
  | .peer => 4098
  | .none => 0

/-- The access comes through the BAR page of a function: it uses WIN_ADDR (R104, R106). -/
def onPage : Port → Bool
  | .regt src _ _ => !src
  | _ => false

/-- The access is a BAR request, which carries byte enables (R48). -/
def onBar : Port → Bool
  | .regt _ _ _ => true
  | _ => false

/-- Two accesses are served one at a time and in order: requests of one function, or commands of one port (R48). -/
def sameQueue : Port → Port → Bool
  | .regt _ f _, .regt _ g _ => f == g
  | .sideband, .sideband => true
  | .debug, .debug => true
  | .peer, .peer => true
  | _, _ => false

/-- One register of an array. -/
structure Spot where
  pl : Placement
  i : Nat
  deriving DecidableEq, Repr

/-- The replica of an array that lies at an offset. -/
def Placement.hit (p : Placement) (off : Nat) : Option Nat :=
  if off < p.base ∨ p.s1 = 0 then none
  else
    let i := (off - p.base) / p.s1
    let q := (off - p.base) % p.s1
    if p.n1 ≤ i then none
    else if p.n2 = 1 then (if q = 0 then some i else none)
    else if q % p.s2 = 0 ∧ q / p.s2 < p.n2 then some (i * p.n2 + q / p.s2) else none

/-- The register at an offset of a space, the page registers apart. -/
def findSpot (sp : Space) (off : Nat) : Option Spot :=
  placements.findSome? (fun p => if p.space == sp && p.kind != .page then (p.hit off).map (Spot.mk p) else none)

/-- The page register at DP `off` of a page (R106, R109). -/
def pageSpot (page off : Nat) : Option Spot :=
  pagePlacements.findSome? (fun p =>
    if p.n2 = 4 then
      (if p.base ≤ off ∧ off < p.base + 16 then some ⟨p, 4 * page + (off - p.base) / 4⟩ else none)
    else if p.base = off then some ⟨p, page⟩ else none)

/-- Offset of replica `d` of the per-domain array (R421). -/
def domBase (d : Nat) : Nat := 0x10000000 + 0x10000 * d

/-- The direct page of a VF (R304). -/
def vfSpot (fn off : Nat) : Option Spot :=
  if off = 0 ∨ off = 0x3C then findSpot .dp off
  else if 0x10 ≤ off ∧ off ≤ 0x34 then pageSpot fn off
  else if 0x40 ≤ off ∧ off ≤ 0x48 then findSpot .ws (domBase fn + (off - 0x40))
  else none

/-- The direct page as a port without a page reaches it (R106): its own mailbox, no pointer. -/
def portSpot (page off : Nat) : Option Spot :=
  if 0x10 ≤ off ∧ off < 0x20 then none
  else if 0x20 ≤ off ∧ off ≤ 0x34 then pageSpot page off
  else findSpot .dp off

/-- The register an access reaches; none at a reserved offset (R9, R419). `off` is a multiple of 4, and a VF's window
offset is already mapped into its replica. -/
def reach (p : PortId) (sp : Space) (off : Nat) : Option Spot :=
  match sp with
  | .sriov => none
  | .cfg => none
  | .ws => if 0x1000 ≤ off then findSpot .ws off else if 0x10 ≤ off ∧ off ≤ 0x34 then none else findSpot .dp off
  | .dp => match p with
    | .vf fn => vfSpot fn.toNat off
    | .mgtPf => if 0x10 ≤ off ∧ off ≤ 0x34 then pageSpot 0 off else findSpot .dp off
    | .none => if 0x10 ≤ off ∧ off ≤ 0x34 then pageSpot 0 off else findSpot .dp off
    | .sideband => portSpot 4096 off
    | .debug => portSpot 4097 off
    | .peer => portSpot 4098 off

/-- The window offset an access names: a VF's view offset lies in its own replica, and the view wraps (R105). -/
def winOff (p : PortId) (off : Nat) : Nat :=
  match p with
  | .vf fn => domBase fn.toNat + off % 0x10000 / 4 * 4
  | _ => off % 2 ^ 30 / 4 * 4

/-- The window offset at which a register lies; a direct-page register has the alias (R419). -/
def Spot.wsOff (x : Spot) : Nat := x.pl.base + x.pl.s1 * (x.i / x.pl.n2) + x.pl.s2 * (x.i % x.pl.n2)

/-! ### Authority (R119, R120) -/

/-- The port holds class `c`. -/
def State.holds (s : State) (p : PortId) (c : Nat) : Bool :=
  match p with
  | .none => false
  | .vf _ => decide (c ≤ 1) && (s.reg .MGT_AUTH).getLsbD (6 + c)
  | _ => (s.reg .MGT_AUTH).getLsbD (6 * portCode p + c)

/-- The first class that the port lacks of those an access needs; DEBUG also needs C5. -/
def State.lacks (s : State) (p : PortId) (need : List Nat) : Option Nat :=
  (if p = .debug then need ++ [5] else need).find? (fun c => !s.holds p c)

/-- The fields of a register that software writes. -/
def Reg.writable (r : Reg) : List Field := r.fields.filter (fun f => f.acc == .rw || f.acc == .rwl || f.acc == .w1p)

/-- The value of a register that a write is compared with: what it holds, buffered or staged. -/
def State.present (s : State) (r : Reg) (i : Nat) : Word :=
  match r with
  | .WAY_ARCH_HI => (s.jrnl i).archHi.getD (s.reg r i)
  | _ => s.regRead r i

/-- The fields that a write writes (R120): it changes the value, or sets a W1P field to 1. -/
def State.writes (s : State) (r : Reg) (i : Nat) (data : Word) : List Field :=
  r.writable.filter (fun f => if f.acc == .w1p then f.get data != 0 else f.get data != f.get (s.present r i))

/-- The classes that a write needs (R120), ascending; a register that software cannot write is C0 (R426). -/
def State.needs (s : State) (r : Reg) (i : Nat) (data : Word) : List Nat :=
  let w := s.writes r i data
  let of := fun (l : List Field) => (List.range 6).filter (fun c => l.any (fun f => f.cls == c))
  if w.isEmpty then (if r.writable.isEmpty then [0] else (of r.writable).take 1) else of w

/-- The write meets a field for which `P` holds: one it writes, or any write where every writable field of the register
has it. -/
def State.meets (s : State) (r : Reg) (i : Nat) (data : Word) (P : Field → Bool) : Bool :=
  (s.writes r i data).any P || (!r.writable.isEmpty && r.writable.all P)

/-! ### Records -/

/-- SPACE of a record's register index. -/
def spaceBit (sp : Space) : Nat := if sp = .dp then 1 else 0

/-- The register index that a record gives: the DW offset in its space; for a register of a VF's replica, reached through
its page, the window offset (R113). A page register of a VF has none, and is given by its DP offset (DESIGN CHOICE). -/
def indexOf (p : PortId) (sp : Space) (off : Nat) : Space × Nat :=
  match p, reach p sp off with
  | .vf _, some x => if x.pl.space = .ws then (.ws, x.wsOff) else (sp, off)
  | _, _ => (sp, off)

/-- A denied access (R121). -/
def State.deny (s : State) (p : PortId) (sp : Space) (off : Nat) (wr : Bool) (c : Nat) : State :=
  s.logFirst F.MGT_DENY_VALID F.MGT_DENY_CNT 0
    [(F.MGT_DENY_PORT, portCode p), (F.MGT_DENY_FUNC, portFn p), (F.MGT_DENY_WR, bitNat wr), (F.MGT_DENY_CLASS, c),
     (F.MGT_DENY_IDX_SPACE, spaceBit (indexOf p sp off).1), (F.MGT_DENY_IDX_INDEX, (indexOf p sp off).2 / 4)]

/-- A locked write (R8, R118). -/
def State.lockedWr (s : State) (p : PortId) (sp : Space) (off : Nat) : State :=
  s.logFirst F.REG_LOCKED_WR_VALID F.REG_LOCKED_WR_CNT 0
    [(F.REG_LOCKED_WR_PORT, portCode p), (F.REG_LOCKED_WR_FUNC, portFn p),
     (F.REG_LOCKED_IDX_SPACE, spaceBit (indexOf p sp off).1), (F.REG_LOCKED_IDX_INDEX, (indexOf p sp off).2 / 4)]

/-- A rejected write (R113). -/
def State.rejected (s : State) (p : PortId) (sp : Space) (off reason : Nat) : State :=
  s.logFirst F.CFG_REJECT_INFO_VALID F.CFG_REJECT_INFO_CNT 0
    [(F.CFG_REJECT_INFO_PORT, portCode p), (F.CFG_REJECT_INFO_FUNC, portFn p), (F.CFG_REJECT_INFO_REASON, reason),
     (F.CFG_REJECT_SPACE, spaceBit (indexOf p sp off).1), (F.CFG_REJECT_INDEX, (indexOf p sp off).2 / 4)]

/-- A BAR write with partial byte enables (R48). -/
def State.partialWr (s : State) (p : PortId) : State :=
  s.logFirst F.REG_PARTIAL_WR_VALID F.REG_PARTIAL_WR_CNT 0
    [(F.REG_PARTIAL_WR_PORT, portCode p), (F.REG_PARTIAL_WR_FUNC, portFn p)]

/-- An access to a domain that is saved and powered off (R108). -/
def State.offAccess (s : State) (p : PortId) : State :=
  match p with
  | .vf fn => s.raise F.WIN_STATUS_OFF fn.toNat
  | _ => (s.raise F.WIN_STATUS_OFF).setFld F.WIN_STATUS_OFF_PORT 0 (portCode p)

/-! ### The way of an access -/

/-- Registers served while start-up runs (R370). -/
def servedEarly (r : Reg) : Bool :=
  match r with
  | .IMG_CTRL | .IMG_STATUS | .IMG_FETCH | .IMG_ERR_OFF | .IMG_LOADED_GEN | .IMG_LOADED_CRC | .IMG_MBOX_DATA
  | .REG_VERSION | .REG_RST_STAT | .REG_STRAPS | .REG_PARTIAL_WR | .REG_LOCK | .REG_LOCKED_WR | .REG_LOCKED_IDX
  | .MGT_PORT_ID | .MGT_AUTH | .MGT_DENY | .MGT_DENY_IDX | .MGT_MGR_PORTS => true
  | _ => false

/-- Start-up does not serve the access yet (R370). -/
def State.early (s : State) (sp : Space) (r : Reg) : Bool :=
  sp == .ws && (s.stage == 0 || (decide (s.stage < 3) && !servedEarly r))

/-- The register's power domain is saved and powered off (R108). -/
def State.spotOff (s : State) (x : Spot) : Bool := x.pl.pd.any (fun d => s.pdOff (Pd.code d))

/-- The register's power domain is dormant (R107). -/
def State.spotDormant (s : State) (x : Spot) : Bool := x.pl.pd.any (fun d => s.pdDormant (Pd.code d))

/-- How an access ends. -/
inductive AccessEnd where
  /-- A reserved offset: reads 0, writes are ignored (R9). -/
  | gone
  | early
  | denied (c : Nat)
  | off
  /-- It waits for the wake it requests (R107). -/
  | waits
  | locked
  | rejects (reason : Nat)
  | ok (x : Spot)
  deriving DecidableEq, Repr

/-- The way of a read (R112's order, R120). -/
def State.readWay (s : State) (p : PortId) (sp : Space) (off : Nat) : AccessEnd :=
  match reach p sp off with
  | none => .gone
  | some x =>
    if s.early sp x.pl.reg then .early
    else match s.lacks p [0] with
      | some c => .denied c
      | none => if s.spotOff x then .off else if s.spotDormant x then .waits else .ok x

end Sys2Proof.Machine
end

