-- ==== Sys2Proof/Machine/Show.lean ====
section
/-! DEFINITION. What a read of a register returns where the field reports a condition of the block, and what a read
clears (R7, R113, R114, R118, R121, R218, R305, R412, R416). -/

namespace Sys2Proof.Machine

/-- Replace fields of a word. -/
def putAll (w : Word) (l : List (Field × Nat)) : Word := l.foldl (fun w x => x.1.put w x.2) w

/-- A signed number as a 32-bit word. -/
def wordOfInt (v : Int) : Word := BitVec.ofInt 32 v

/-- The 32 summary bits of register `k` (R416). -/
def sumBits (k : Nat) (bit : Nat → Bool) : Word :=
  (List.range 32).foldl (fun w i => if bit (32 * k + i) then w ||| BitVec.ofNat 32 (2 ^ i) else w) 0

/-- LIN_CFG.LEVEL of a line (R143): the synchronised level after polarity. -/
def State.linLevel (s : State) (n : Nat) : Bool := s.lineLevel n

/-- LIN_CFG.PEND of a line (R143): its edge latch or its level-change latch is set. -/
def State.linPending (s : State) (n : Nat) : Bool :=
  s.intk.latch.getLsbD n || s.intk.linePend.any (fun x => x.1 == n)

/-- RTE_TGT_STAT.WAIT of a target. -/
def State.tgtWait (s : State) (t : Nat) : Nat :=
  match s.headOf t with
  | none => if s.rnk.heads.any (fun h => h.tgt == t && (match h.stage with | .rte _ => true | _ => false)) then 5 else 0
  | some h =>
    if (s.compete t).isSome then 0
    else if !s.bit F.RTE_TGT_CFG_EN t || s.bit F.RTE_TGT_RT_MASK t then 1
    else if s.fld F.RTE_TGT_RT_RTHRESH t < h.p then 2
    else if s.rnk.heads.any (fun h => h.tgt == t && (match h.stage with | .rte _ => true | _ => false)) then 5
    else if s.inflight t then 4
    else 3

/-- RTE_TGT_STAT (R207, R208). -/
def State.tgtStat (s : State) (t : Nat) : Word :=
  let h := s.headOf t
  putAll 0 [(F.RTE_TGT_STAT_HEADP, (h.map (·.p)).getD 0), (F.RTE_TGT_STAT_HEADV, bitNat h.isSome),
    (F.RTE_TGT_STAT_WAIT, s.tgtWait t), (F.RTE_TGT_STAT_RUNP, s.runp t % 256),
    (F.RTE_TGT_STAT_ACTIVE, (s.activeAt t).length)]

/-- RTE_GRP_STAT.NEN: targets of the group with EN 1 and a ring of nonzero size. -/
def State.grpEnabled (s : State) (g : Nat) : Nat :=
  match s.img.groupEnt g with
  | none => 0
  | some e => ((s.regIdxs .RTE_TGT_CFG).filter (fun t =>
      decide (e.tgtBase ≤ t) && decide (t < e.tgtBase + e.tgtCount) && s.bit F.RTE_TGT_CFG_EN t
        && decide (s.fld F.DLV_RING_CFG_ORDER t ≠ 0))).length

/-- CFG_BND_PEND (R111). -/
def State.bndPend (s : State) : Word :=
  let waits := fun (l : List Reg) => l.any (fun r => !(s.bndIdxs r).isEmpty)
  putAll 0 [(F.CFG_BND_PEND_WAY, bitNat (waits [.WAY_SEG])), (F.CFG_BND_PEND_OAS, bitNat (waits [.OAS_MODE, .OAS_GUARD])),
    (F.CFG_BND_PEND_WWL, bitNat (waits [.WWL_CTRL, .WWL_TGT_RATE, .WWL_TGT_BURST, .WWL_DOM_RATE, .WWL_DOM_BURST,
      .WWL_GRP_RATE, .WWL_GRP_BURST, .VFM_SHARE])),
    (F.CFG_BND_PEND_CVN, bitNat (waits [.CVN_EPOCH_CFG, .CVN_HOLD_CFG]))]

/-- CHL_STATUS.STATE (R288). -/
def ChlSt.code : ChlSt → Nat
  | .off => 0
  | .listen => 1
  | .ready => 2
  | .joined => 3
  | .found => 4
  | .refused => 5

/-- A journal head of the domain is parked. -/
def State.jParked (s : State) (d : Nat) : Bool :=
  s.rnk.heads.any (fun h => h.dom == d && h.stage == .parked .journal)

/-- The register words that report the block's own condition; every other register reads as it is held (R102). -/
def State.shown (s : State) (p : PortId) (r : Reg) (i : Nat) : Word :=
  let w := s.present r i
  match r with
  | .MGT_PORT_ID => putAll 0 [(F.MGT_PORT_ID_PORT, portCode p), (F.MGT_PORT_ID_FUNC, portFn p)]
  | .WIN_STATUS => if i = 0 then w else F.WIN_STATUS_OFF_PORT.put w 0
  | .SB_STATUS => F.SB_STATUS_BUSY.put w (bitNat (s.pwr.accs.any (fun a => a.port == .sideband)))
  | .INT_WFIFO_USE => putAll 0 [(F.INT_WFIFO_USE_USED, s.intk.wake.length)]
  | .PWR_STATUS => F.PWR_STATUS_DETACHED.put w (bitNat s.pwr.detached)
  | .PWR_PD_STAT => putAll 0 [(F.PWR_PD_STAT_PD,
      s.pdStat 0 + s.pdStat 1 * 4 + s.pdStat 2 * 16 + s.pdStat 3 * 64 + s.pdStat 4 * 256)]
  | .PWR_VOTES => putAll 0 [(F.PWR_VOTES_PF, bitNat (s.voteOf 0)), (F.PWR_VOTES_SB, bitNat (s.voteOf 1)),
      (F.PWR_VOTES_TDM, bitNat (s.voteOf 2)), (F.PWR_VOTES_VF, bitNat (!s.countedVfs.isEmpty)),
      (F.PWR_VOTES_VF_CNT, s.countedVfs.length)]
  | .VFM_SUM_EN => sumBits i s.domEn
  | .VFM_SUM_ATTN => sumBits i (fun d => s.reg .VFM_VF_STATUS d != 0)
  | .LIN_PEND => sumBits i (fun n => s.linPending n && !s.intk.fresh.getLsbD n)
  | .LIN_LEVEL => sumBits i s.linLevel
  | .LIN_EN => sumBits i (fun n => s.bit F.LIN_CFG_EN n)
  | .INT_STATUS => F.INT_STATUS_JRNL_STOP.put w (bitNat s.laneJStopped)
  | .LIN_CFG => putAll w [(F.LIN_CFG_LEVEL, bitNat (s.linLevel i)), (F.LIN_CFG_PEND, bitNat (s.linPending i))]
  | .CVN_SRC_CMD => putAll w [(F.CVN_SRC_CMD_COORD_POS, if s.onRing then s.fld F.CHL_STATUS_COORD else s.pos),
      (F.CVN_SRC_CMD_IS_COORD, bitNat s.coordinator)]
  | .CVN_CAL => F.CVN_CAL_QLIVE.put w (min 65535 s.qlive)
  | .CVN_HOLD_USE => putAll 0 [(F.CVN_HOLD_USE_USED, s.holdUsed)]
  | .RNK_NODES => putAll 0 [(F.RNK_NODES_USED, s.rnk.offers.length)]
  | .WWL_WHEEL => putAll 0 [(F.WWL_WHEEL_WAITING, s.shapedHeads.length)]
  | .CMP_ACT_USE => putAll 0 [(F.CMP_ACT_USE_USED, s.dlv.active.length)]
  | .WAY_QUEUE => putAll 0 [(F.WAY_QUEUE_USED, s.way.q.length)]
  | .TDM_STATUS => F.TDM_STATUS_PARTNER_UP.put w (bitNat s.partnerUp)
  | .CHL_STATUS => putAll w [(F.CHL_STATUS_STATE, s.chl.st.code), (F.CHL_STATUS_PAUSED, bitNat (!s.chl.pauses.isEmpty)),
      (F.CHL_STATUS_WIN, bitNat s.chl.window.isSome), (F.CHL_STATUS_W_UP, bitNat (s.portUp .west)),
      (F.CHL_STATUS_E_UP, bitNat (s.portUp .east))]
  | .CHL_QUEUE => putAll 0 [(F.CHL_QUEUE_W_USED, s.chl.west.tx.length), (F.CHL_QUEUE_E_USED, s.chl.east.tx.length)]
  | .CFG_BND_PEND => s.bndPend
  | .TEL_STATUS => F.TEL_STATUS_FROZEN.put w (s.fld F.TEL_CTRL_FREEZE)
  | .WWL_TGT_TOKS => wordOfInt ((s.bucket 0 i).tok.tdiv 1000)
  | .WWL_DOM_TOKS => wordOfInt ((s.bucket 1 i).tok.tdiv 1000)
  | .WWL_GRP_TOKS => wordOfInt ((s.bucket 2 i).tok.tdiv 1000)
  | .RTE_GRP_STAT => F.RTE_GRP_STAT_NEN.put w (s.grpEnabled i)
  | .OAS_STATUS => putAll w [(F.OAS_STATUS_GATED, bitNat (s.gated i)),
      (F.OAS_STATUS_EMPTY, bitNat (s.bit F.OAS_MODE_MODE i && !s.gated i))]
  | .OAS_LIVE => putAll 0 [(F.OAS_LIVE_LIVE, min 65535 (s.gateLive i))]
  | .RTE_TGT_STAT => s.tgtStat i
  | .VFM_DOM_STAT => s.domStat i
  | .CVN_MODE => if s.replaying i then F.CVN_MODE_MODE.put w 1 else w
  | .RNK_DOM_OCC => putAll 0 [(F.RNK_DOM_OCC_OCC, s.occ i),
      (F.RNK_DOM_OCC_WAITV, bitNat (s.rnk.waiting.any (fun e => s.img.inDomain i e)))]
  | .WAY_STATUS =>
    putAll w [(F.WAY_STATUS_LAP, if s.jSlots i = 0 then 0 else (s.jrnl i).pos / s.jSlots i % 2),
      (F.WAY_STATUS_BP, bitNat (s.waybill i && s.jRefused)),
      (F.WAY_STATUS_FULL, bitNat (!s.jCanWrite i && (!(s.jrnl i).waiting.isEmpty || s.jParked i)))]
  | _ => w

/-! ### What a read clears -/

/-- The RC bits of a register. -/
def Reg.rcMask (r : Reg) : Word := (r.fields.filter (fun f => f.acc == .rc)).foldl (fun m f => m ||| f.mask) 0

/-- Clear the RC bits that a read returned as 1 (R7, R114). -/
def State.clearRead (s : State) (r : Reg) (i : Nat) (w : Word) : State :=
  s.setReg r i (s.reg r i &&& ~~~(w &&& r.rcMask))

/-- The registers that a read of another clears with it. -/
def readWith (r : Reg) : List Reg :=
  match r with
  | .INT_DISC_LOG => [.INT_DISC_SRC, .INT_DISC_ORD]
  | .RTE_FAULT_LOG => [.RTE_FAULT_EID]
  | .CMP_DB_LOG => [.CMP_DB_DATA]
  | .ERR_LOG => [.ERR_LOG_IDX]
  | _ => []

/-- What a read of register `r` that returned `w` does (R114): DEBUG reads clear nothing. A read of VFM_VF_STATUS re-arms
the domain's status interrupt (R305), one of ERR_PEND the manager's (R412). -/
def State.readEffect (s : State) (p : PortId) (r : Reg) (i : Nat) (w : Word) : State :=
  if p = .debug then s
  else
    let s := s.clearRead r i w
    let s := (readWith r).foldl (fun (s : State) c => s.clearRead c i 0xFFFFFFFF#32) s
    match r with
    | .VFM_VF_STATUS => s.irqRearm i
    | .ERR_PEND => s.irqRearm 0
    | _ => s

end Sys2Proof.Machine
end

