-- ==== Sys2Proof/Machine/Check.lean ====
section
/-! DEFINITION. The checks of a write (R8, R11, R33, R112, R116, R118): locks, the configuration freeze, the Dis class,
mode permission and the values that the owning chapters reject. -/

namespace Sys2Proof.Machine

/-- The fields that a write replaces. -/
def Reg.rwMask (r : Reg) : Word :=
  (r.fields.filter (fun f => f.acc == .rw || f.acc == .rwl)).foldl (fun m f => m ||| f.mask) 0

/-- The word that a write leaves, buffered fields among it. -/
def State.merged (s : State) (r : Reg) (i : Nat) (data : Word) : Word :=
  (s.present r i &&& ~~~r.rwMask) ||| (data &&& r.rwMask)

/-- A VF's WIN_ADDR holds bits 15:2 only (R106). -/
def portData (p : PortId) (r : Reg) (data : Word) : Word :=
  match p, r with
  | .vf _, .WIN_ADDR => data &&& 0xFFFC#32
  | _, _ => data

/-- The domain in whose replica the register lies. -/
def Spot.dom (x : Spot) : Option Nat := if x.pl.kind == .dom then some (x.i / x.pl.n2) else none

/-! ### Locks (R97, R116, R326) -/

/-- REG_LOCK: a set bit is never cleared, and after SEAL no bit is set. -/
def State.lockBits (s : State) (data : Word) : Bool :=
  let w := s.reg .REG_LOCK
  (w &&& ~~~data &&& Reg.rwMask .REG_LOCK) != 0
    || (s.bit F.REG_LOCK_SEAL && (data &&& ~~~w &&& Reg.rwMask .REG_LOCK) != 0)

/-- IMG_CTRL under its own LOCK and under SEAL. -/
def State.imgLocked (s : State) (data : Word) : Bool :=
  let w := s.writes .IMG_CTRL 0 data
  if s.bit F.IMG_CTRL_LOCK then
    w.contains F.IMG_CTRL_SLOT_SEL || w.contains F.IMG_CTRL_RELOAD || w.contains F.IMG_CTRL_LOCK
  else s.bit F.REG_LOCK_SEAL && w.contains F.IMG_CTRL_LOCK

/-- The port of a vote: a vote register answers its own function only, SIDEBAND's vote only SIDEBAND. -/
def voteForeign (p : PortId) (r : Reg) (i : Nat) : Bool :=
  match r with
  | .PWR_VOTE =>
    match p with
    | .mgtPf => i != 0
    | .vf fn => fn.toNat != i
    | _ => true
  | .PWR_VOTE_SB => p != .sideband
  | _ => false

/-- The write is a locked write (R8). -/
def State.isLocked (s : State) (p : PortId) (x : Spot) (data : Word) : Bool :=
  let under := fun (lock : Field) => s.bit lock && s.meets x.pl.reg x.i data (fun f => f.acc == .rwl)
  match x.pl.reg with
  | .REG_LOCK => s.lockBits data
  | .IMG_CTRL => s.imgLocked data
  | .MGT_AUTH => under F.REG_LOCK_AUTH
  | .TDM_MODE => under F.REG_LOCK_ROLE
  | .TDM_ROLE => under F.REG_LOCK_ROLE
  | .SAV_POLICY => under F.REG_LOCK_KEEP
  | .PWR_PERF => under F.REG_LOCK_RAIL
  | .PWR_VPOINT => under F.REG_LOCK_RAIL
  | .PWR_RAIL => under F.REG_LOCK_RAIL
  | r => voteForeign p r x.i

/-! ### Reason 5: the freeze (R127) -/

/-- The walker has frozen configuration writes: fields of C2 to C4, but for CFG_CTRL. -/
def State.frozenWr (s : State) (x : Spot) (data : Word) : Bool :=
  s.bit F.CFG_STATUS_FROZEN && x.pl.reg != .CFG_CTRL
    && (s.needs x.pl.reg x.i data).any (fun c => decide (2 ≤ c) && decide (c ≤ 4))

/-! ### Reason 1: the Dis class (R11) -/

/-- The owner of the register's Dis fields is enabled. -/
def State.ownerOn (s : State) (x : Spot) (data : Word) : Bool :=
  let i := x.i
  match x.pl.reg with
  | .LIN_CFG => s.bit F.LIN_CFG_EN i || F.LIN_CFG_EN.get data != 0
  | .TDM_MODE => !s.allDisabled
  | .TDM_ROLE => !s.allDisabled
  | .TDM_CFG => !s.allDisabled
  | .DLV_RING_BASE_LO => s.bit F.RTE_TGT_CFG_EN i
  | .DLV_RING_BASE_HI => s.bit F.RTE_TGT_CFG_EN i
  | .DLV_RING_CFG => s.bit F.RTE_TGT_CFG_EN i
  | .DLV_FAULT_CFG => s.bit F.DLV_FAULT_CFG_EN || F.DLV_FAULT_CFG_EN.get data != 0
  | .DLV_FAULT_BASE_LO => s.bit F.DLV_FAULT_CFG_EN
  | .DLV_FAULT_BASE_HI => s.bit F.DLV_FAULT_CFG_EN
  | .TEL_SMP_CFG => s.bit F.TEL_SMP_CFG_EN
  | .TEL_SMP_AREA_LO => s.bit F.TEL_SMP_CFG_EN
  | .TEL_SMP_AREA_HI => s.bit F.TEL_SMP_CFG_EN
  | .TEL_SMP_SIZE => s.bit F.TEL_SMP_CFG_EN
  | .TEL_H_CFG => s.bit F.TEL_H_CFG_EN i
  | .TEL_H_BASE => s.bit F.TEL_H_CFG_EN i
  | _ => x.dom.any s.domEn

/-- A Dis-class write while the owner is enabled. -/
def State.disBad (s : State) (x : Spot) (data : Word) : Bool :=
  s.meets x.pl.reg x.i data (fun f => f.apply == .dis) && s.ownerOn x data

/-! ### Reason 2: mode permission (R33, R83) -/

/-- The write sets the one-bit field `f` from 0 to 1. -/
def State.turnsOn (s : State) (f : Field) (i : Nat) (data : Word) : Bool :=
  f.get data != 0 && f.get (s.present f.reg i) == 0

/-- The write enables a mode that the image does not permit. -/
def State.modeBad (s : State) (x : Spot) (data : Word) : Bool :=
  let i := x.i
  match x.pl.reg with
  | .CVN_MODE => s.turnsOn F.CVN_MODE_MODE i data && !s.img.perm i 0
  | .WAY_MODE => s.turnsOn F.WAY_MODE_MODE i data && (!s.img.perm i 1 || s.img.depot.journalSize == 0)
  | .RPL_MODE => s.turnsOn F.RPL_MODE_MODE i data && !s.img.perm i 2
  | .OAS_MODE => s.turnsOn F.OAS_MODE_MODE i data && !(s.img.groupEnt i).any (·.oasisPerm)
  | .TDM_MODE => s.turnsOn F.TDM_MODE_MODE 0 data && !s.img.ring.tandemPerm
  | .PWR_AUTOSLEEP => s.turnsOn F.PWR_AUTOSLEEP_MODE 0 data && !s.img.power.autosleepPerm
  | _ => false

/-! ### Reason 4: values the owning chapters reject -/

/-- Size in bytes of a domain's journal and replay areas. -/
def State.jBytes (s : State) (d : Nat) : Nat := s.fld F.WAY_AREA_SIZE_SIZE d * 2 ^ 20

def State.rplBase (s : State) (d : Nat) : Nat := s.fld F.RPL_AREA_BASE_BASE d * 2 ^ 20

def State.rplBytes (s : State) (d : Nat) : Nat := s.fld F.RPL_AREA_SIZE_SIZE d * 2 ^ 20

/-- The two areas of a domain overlap. -/
def State.ownOverlap (s : State) (d : Nat) : Bool := rangesMeet (s.jBase d) (s.jBytes d) (s.rplBase d) (s.rplBytes d)

/-- A journal that may not run as its registers stand (R258). -/
def State.wayBad (s : State) (d : Nat) : Bool :=
  s.waybill d && (s.fld F.WAY_SEG_SEG_LEN d == 0 || s.jBytes d == 0
    || decide (s.img.depot.journalBase + s.img.depot.journalSize < s.jBase d + s.jBytes d)
    || (s.regIdxs .WAY_MODE).any (fun e => e != d && s.waybill e && rangesMeet (s.jBase d) (s.jBytes d) (s.jBase e) (s.jBytes e))
    || (s.replaying d && s.ownOverlap d))

/-- A replay source that RPL_MODE.MODE = 1 may not take (R273). -/
def State.rplBad (s : State) (d : Nat) : Bool :=
  s.replaying d && (s.rplBytes d == 0 || decide (s.img.depot.winSize < s.rplBase d + s.rplBytes d)
    || decide (s.rplSlots d ≤ s.reg64 .RPL_START_LO .RPL_START_HI d) || (s.waybill d && s.ownOverlap d))

/-- A ring size outside 0 and 4 to 20 (R235). -/
def orderBad (n : Nat) : Bool := (decide (1 ≤ n) && decide (n ≤ 3)) || decide (21 ≤ n)

/-- The WAY_ARCH that a write of its low half commits lies below the present one or above pos (R270). -/
def State.archBad (s : State) (d : Nat) (lo : Word) : Bool :=
  let v := lo.toNat + (s.present .WAY_ARCH_HI d).toNat * 2 ^ 32
  decide (v < s.jArch d) || decide ((s.jrnl d).pos < v)

/-- A voltage of a point outside the rail or the order of the points (R340). -/
def State.voltBad (s : State) (i mv : Nat) : Bool :=
  let v := fun k => if k = i then mv else s.fld F.PWR_VPOINT_MV k
  decide (mv < s.fld F.PWR_RAIL_VMIN) || decide (s.fld F.PWR_RAIL_VMAX < mv) || decide (v 0 < v 1) || decide (v 1 < v 2)

/-- The performance point may not be requested (R340); `s` holds the written word. -/
def State.reqBad (s : State) : Bool :=
  let q := s.fld F.PWR_PERF_REQ
  q == 3 || decide (q < s.fld F.PWR_PERF_CEIL) || decide (q < s.img.power.perfMax)

/-- The write holds a value that its chapter rejects. -/
def State.valueBad (s : State) (x : Spot) (data : Word) : Bool :=
  let r := x.pl.reg
  let i := x.i
  let w := s.writes r i data
  let t := s.setReg r i (s.merged r i data)
  let is := fun (f : Field) (v : Nat) => w.contains f && f.get data == v
  match r with
  | .POL_SRC_MTR_CFG => is F.POL_SRC_MTR_CFG_RED_ACT 3 || is F.POL_SRC_MTR_CFG_YEL_ACT 3
  | .POL_DOM_MTR_CFG => is F.POL_DOM_MTR_CFG_RED_ACT 3 || is F.POL_DOM_MTR_CFG_YEL_ACT 3
  | .RTE_GRP_CFG => is F.RTE_GRP_CFG_AFFINITY 3
  | .DLV_RING_CFG => is F.DLV_RING_CFG_NMODE 3
    || (w.contains F.DLV_RING_CFG_ORDER && orderBad (F.DLV_RING_CFG_ORDER.get data))
  | .DLV_FAULT_CFG => is F.DLV_FAULT_CFG_NMODE 3
    || (w.contains F.DLV_FAULT_CFG_ORDER && orderBad (F.DLV_FAULT_CFG_ORDER.get data))
    || !s.img.isMgrPort (F.DLV_FAULT_CFG_HPORT.get data)
  | .OAS_GCMD => F.OAS_GCMD_COMMIT.get data != 0 && !s.admOk i
  | .WAY_MODE => t.wayBad i
  | .WAY_AREA_BASE => t.wayBad i
  | .WAY_AREA_SIZE => t.wayBad i
  | .WAY_SEG => t.wayBad i
  | .RPL_AREA_BASE => t.wayBad i
  | .RPL_AREA_SIZE => t.wayBad i
  | .RPL_MODE => t.rplBad i || t.wayBad i
  | .WAY_ARCH_LO => s.archBad i data
  | .VFM_DOM_CTRL => s.turnsOn F.VFM_DOM_CTRL_EN i data && s.enableBad i
  | .PWR_PERF => t.reqBad
  | .PWR_VPOINT => s.voltBad i (F.PWR_VPOINT_MV.get data)
  | .TEL_SMP_CFG => s.turnsOn F.TEL_SMP_CFG_EN 0 data && t.samplerBad
  | _ => false

/-- The reason with which the write is rejected (R113); 0 for none. -/
def State.rejectReason (s : State) (x : Spot) (data : Word) : Nat :=
  let r := x.pl.reg
  if s.disBad x data then 1
  else if s.modeBad x data then 2
  else if r = .IMG_CTRL && F.IMG_CTRL_RELOAD.get data != 0 && !s.reloadOk then 3
  else if s.valueBad x data then 4
  else if r = .CFG_CTRL && F.CFG_CTRL_COMMIT.get data != 0
      && (!s.bit F.CFG_STATUS_LIVE_CLEAN || (s.writes r 0 data).contains F.CFG_CTRL_POLICY) then 6
  else if r = .MGT_AUTH && authBad data then 7
  else 0

/-- The way of a write that has authority: power, locks, the freeze, then the rules of the owner (R112). -/
def State.ruleWay (s : State) (p : PortId) (x : Spot) (data : Word) : AccessEnd :=
  if s.spotOff x then .off
  else if s.spotDormant x then .waits
  else if s.isLocked p x data then .locked
  else if s.frozenWr x data then .rejects 5
  else match s.rejectReason x data with
    | 0 => .ok x
    | n => .rejects n

/-- The way of a write: authority comes first (R112, R120). -/
def State.writeWay (s : State) (p : PortId) (sp : Space) (off : Nat) (data : Word) : AccessEnd :=
  match reach p sp off with
  | none => .gone
  | some x =>
    let data := portData p x.pl.reg data
    if s.early sp x.pl.reg then .early
    else match s.lacks p (s.needs x.pl.reg x.i data) with
      | some c => .denied c
      | none => s.ruleWay p x data

end Sys2Proof.Machine
end

