-- ==== Sys2Proof/Machine/Write.lean ====
section
/-! DEFINITION. What an accepted write does: it stores or buffers, marks covered configuration as changed (R126), is
mirrored to the Tandem partner (R296), and starts the commands of its register (R7, R11, R102, R109, R110, R136, R137,
R219, R429). -/

namespace Sys2Proof.Machine

/-! ### Storing -/

/-- The owner of the register's Bnd fields has a boundary to wait for (R11, R111). -/
def State.hasBoundary (s : State) (x : Spot) : Bool :=
  match x.pl.reg with
  | .CVN_EPOCH_CFG => s.running x.i
  | .CVN_HOLD_CFG => s.running x.i
  | .WAY_SEG => s.domEn x.i && s.waybill x.i
  | .OAS_MODE => s.gated x.i
  | .OAS_GUARD => s.gated x.i
  | .VFM_SHARE => s.domEn x.i
  | .WWL_DOM_RATE => s.domEn x.i
  | .WWL_DOM_BURST => s.domEn x.i
  | _ => true

/-- Take the written word into the register file. -/
def State.storeWord (s : State) (x : Spot) (data : Word) : State :=
  let r := x.pl.reg
  let i := x.i
  let w := s.merged r i data
  match r with
  | .WAY_ARCH_HI => s.setJrnl i { s.jrnl i with archHi := some w }
  | .WAY_ARCH_LO => s.jArchive i w (s.present .WAY_ARCH_HI i)
  | _ =>
    if s.hasBoundary x && ((s.writes r i data).any (fun f => f.apply == .bnd) || s.bndWaiting r i) then
      (s.setReg r i ((s.reg r i &&& r.bndMask) ||| (w &&& ~~~r.bndMask))).setBnd r i w
    else (s.setReg r i w).dropBnd r i

/-- An accepted write to covered fields (R123, R126); one that only sets W1P bits is none. -/
def State.noteCovered (s : State) (x : Spot) (data : Word) : State :=
  let r := x.pl.reg
  if r.covMask = 0 then s
  else if ((s.merged r x.i data ^^^ s.present r x.i) &&& r.covMask) ≠ 0 then s.cfgChanged x.dom
  else if (s.writes r x.i data).any (fun f => f.acc == .w1p) then s
  else s.cfgStale

/-- The meter a register belongs to. -/
def meterOf (x : Spot) : Option (Bool × Nat) :=
  match x.pl.reg with
  | .POL_SRC_MTR_CFG => some (false, x.i)
  | .POL_SRC_MTR_CIR => some (false, x.i)
  | .POL_SRC_MTR_PIR => some (false, x.i)
  | .POL_SRC_MTR_CBS => some (false, x.i)
  | .POL_SRC_MTR_PBS => some (false, x.i)
  | .POL_DOM_MTR_CFG => some (true, x.i)
  | .POL_DOM_MTR_CIR => some (true, x.i)
  | .POL_DOM_MTR_PIR => some (true, x.i)
  | .POL_DOM_MTR_CBS => some (true, x.i)
  | .POL_DOM_MTR_PBS => some (true, x.i)
  | _ => none

/-- The bucket whose parameter word the register is. -/
def bucketOf (x : Spot) : Option (Nat × Nat) :=
  match x.pl.reg with
  | .WWL_TGT_RATE => some (0, x.i)
  | .WWL_TGT_BURST => some (0, x.i)
  | .WWL_DOM_RATE => some (1, x.i)
  | .WWL_DOM_BURST => some (1, x.i)
  | .WWL_GRP_RATE => some (2, x.i)
  | .WWL_GRP_BURST => some (2, x.i)
  | _ => none

/-- Store a write, with what it does to a meter (R149), to a bucket that lost its parameters (R225) or takes new ones
without a tick (R111, R223), and to the gate cycle that a buffered value waits for (R232). -/
def State.store (s : State) (x : Spot) (data : Word) : State :=
  let o := s
  let was : Bool := match meterOf x with
    | some (dom, i) => (s.meterPar dom i).en
    | none => false
  let s := match meterOf x with
    | some (dom, i) => if x.pl.reg = Reg.POL_SRC_MTR_CFG ∨ x.pl.reg = Reg.POL_DOM_MTR_CFG then s else s.meterBefore dom i
    | none => s
  let s := (s.noteCovered x data).storeWord x data
  let s := match meterOf x with
    | some (dom, i) => s.meterAfter dom i was
    | none => s
  match bucketOf x with
  | some (k, i) =>
    let s := s.setBucket k i { s.bucket k i with bad := false }
    if s.hasBoundary x then s else s.bucketSet k i (o.bit (enField k) i)
  | none => if (x.pl.reg == Reg.OAS_MODE || x.pl.reg == Reg.OAS_GUARD) && o.hasBoundary x then s.noteCycle x.i else s

/-! ### SRC_CMD (R136 to R138) -/

/-- SRC_DATA3 to SRC_DATA0 as one number. -/
def State.srcData (s : State) : Nat :=
  ((List.range 4).map (fun k => (s.reg .SRC_DATA k).toNat * 2 ^ (32 * k))).sum

/-- Fill the first `n` SRC_DATA registers. -/
def State.setSrcData (s : State) (n v : Nat) : State :=
  (List.range n).foldl (fun (s : State) k => s.setReg .SRC_DATA k (BitVec.ofNat 32 (v / 2 ^ (32 * k)))) s

/-- Bits of a source entry, and of a LINEAR or INDIRECT translation entry, that are not reserved. -/
def sourceBits : BitVec 64 := 0x800FFFFF0000FFFF#64

def xlateBits (indirect : Bool) : BitVec 128 :=
  if indirect then 0xFC000FFF07FFFFFFFFFFFFFFFFFFFFFF#128 else 0xFC000FFF00FFFFFFFFFFFFFFFFFFFFFF#128

/-- The refusal code of a source entry at an index; 0 for none. -/
def State.sourceErr (s : State) (i : Nat) (e : BitVec 64) : Nat :=
  let o := srcOrd e
  let ways := ((List.range 4).map (fun w => i / 4 * 4 + w)).filter (fun j => j != i)
  let inRange := fun base n => decide (base ≤ o) && decide (o < base + n)
  if !srcValid e then 0
  else if srcSet (srcSeg e) (srcRid e) ≠ i / 4 then 1
  else if ways.any (s.srcHit (srcSeg e) (srcRid e)) then 2
  else if s.src.source.any (fun x => x.1 != i && !s.src.srcBad.contains x.1 && srcValid x.2 && srcOrd x.2 == o) then 3
  else if inRange s.img.ords.lineBase 1024 || inRange s.img.ords.intxBase 512 then 4
  else if (e &&& ~~~sourceBits) ≠ 0 then 6
  else 0

/-- The refusal code of a translation entry; 0 for none. -/
def State.xlateErr (s : State) (e : BitVec 128) : Nat :=
  let x := Xlate.ofBits e
  if !x.valid then 0
  else if x.indirect && decide (s.img.depot.tableSize < 4 * (x.base + x.limit)) then 5
  else if (e &&& ~~~xlateBits x.indirect) ≠ 0 then 6
  else 0

/-- Replace a source entry: a change of region 0. -/
def State.setSource (s : State) (i : Nat) (e : BitVec 64) : State :=
  let e := e &&& sourceBits
  let s := if SMap.get 0 s.src.source i = e then s.cfgStale else s.cfgChanged none
  { s with src := { s.src with source := SMap.set 0 s.src.source i e, srcBad := s.src.srcBad.filter (· ≠ i) } }

/-- Replace a translation entry: a change of the regions of the domains it named and names. -/
def State.setXlate (s : State) (o : Nat) (e : BitVec 128) : State :=
  let e := e &&& xlateBits (e.getLsbD 126)
  let old := SMap.get 0 s.src.xlate o
  let s := if old = e then s.cfgStale else
    (s.cfgChanged (some (Xlate.ofBits old).dom)).cfgChanged (some (Xlate.ofBits e).dom)
  { s with src := { s.src with xlate := SMap.set 0 s.src.xlate o e, xlateBad := s.src.xlateBad.filter (· ≠ o) } }

/-- The error code of a finished SRC_CMD. -/
def State.srcEnd (s : State) (n : Nat) : State := s.setFld F.SRC_CMD_ERR 0 n

/-- A source entry as SRC_CMD reads it: an entry whose word is damaged reads as not valid. -/
def State.sourceShown (s : State) (i : Nat) : BitVec 64 :=
  let e := SMap.get 0 s.src.source i
  if s.src.srcBad.contains i then e &&& ~~~(1#64 <<< 63) else e

/-- A translation entry as SRC_CMD reads it. -/
def State.xlateShown (s : State) (i : Nat) : BitVec 128 :=
  let e := SMap.get 0 s.src.xlate i
  if s.src.xlateBad.contains i then e &&& ~~~(1#128 <<< 127) else e

/-- SRC_CMD writes a source entry. -/
def State.sourceCmd (s : State) (i : Nat) (e : BitVec 64) : State :=
  match s.sourceErr i e with
  | 0 => (s.setSource i e).srcEnd 0
  | n => s.srcEnd n

/-- SRC_CMD writes a translation entry. -/
def State.xlateCmd (s : State) (i : Nat) (e : BitVec 128) : State :=
  match s.xlateErr e with
  | 0 => (s.setXlate i e).srcEnd 0
  | n => s.srcEnd n

/-- SRC_CMD.GO. An entry that an uncorrectable error made VALID 0 reads so (R408). -/
def State.srcCmd (s : State) : State :=
  let i := s.fld F.SRC_CMD_INDEX
  match s.fld F.SRC_CMD_OP with
  | 1 => (s.setSrcData 2 (s.sourceShown i).toNat).srcEnd 0
  | 2 => s.sourceCmd i (BitVec.ofNat 64 s.srcData)
  | 3 => (s.setSrcData 4 (s.xlateShown i).toNat).srcEnd 0
  | 4 => s.xlateCmd i (BitVec.ofNat 128 s.srcData)
  | _ => s.srcEnd 6

/-! ### RTE_TCMD (R219) -/

/-- RTE_TCMD.GO of a domain: the runtime controls of a target that it owns. -/
def State.tgtCmd (s : State) (d : Nat) : State :=
  let t := s.fld F.RTE_TCMD_TARGET d
  if s.fld F.RTE_TGT_CFG_OWNER t ≠ d then s.setFld F.RTE_TCMD_ERR d 1
  else match s.fld F.RTE_TCMD_OP d with
    | 1 => (s.setReg .RTE_TDATA d (s.reg .RTE_TGT_RT t)).setFld F.RTE_TCMD_ERR d 0
    | 2 => (s.setReg .RTE_TGT_RT t (s.reg .RTE_TDATA d)).setFld F.RTE_TCMD_ERR d 0
    | _ => s.setFld F.RTE_TCMD_ERR d 2

/-! ### CFG_CTRL (R126, R127) -/

/-- COMMIT of a clean live value: it becomes the reference, the home is due, and runs that captured another reference
lose condition 6 (R198). -/
def State.cfgCommit (s : State) : State :=
  let live := s.reg .CFG_CRC_LIVE
  let s := (s.setReg .CFG_CRC_REF 0 live).raise F.CFG_STATUS_REF_VALID
  let s := { s with cfg := { s.cfg with refs := s.cfg.crcs } }
  let s := s.runDoms.foldl (fun (s : State) d => if s.reg .CVN_RUN_CFG d ≠ live then s.breach d 6 else s) s
  s.homeCommit

/-! ### Wide values (R109, R110, R380) -/

/-- What a selection names. -/
inductive WideSel where
  | bad (err : Nat)
  /-- A value and the power domain that owns it; none for AO. -/
  | value (pd : Option Nat) (v : Nat)
  deriving DecidableEq, Repr

/-- The value of a counter of either bank with OVF in DATA2. -/
def State.wideCtr (s : State) (i : Nat) : Nat :=
  let c := s.ctr i
  c.val.toNat + bitNat c.ovf * 2 ^ 64

/-- The number of a domain's last closed epoch. -/
def State.lastClosed (s : State) (d : Nat) : Nat := ((s.run d).oldest + 2 ^ 64 - 1) % 2 ^ 64

/-- A selection that a VF page may make: a value of its own domain. -/
def wideOwn (fn kind i : Nat) : Bool :=
  match kind with
  | 2 => i == fn
  | 6 => i == fn
  | 3 => let c := i % 2 ^ 23; decide (0x10000 + 32 * fn ≤ c) && decide (c < 0x10000 + 32 * fn + 32)
  | _ => false

/-- The value that KIND and INDEX select, for the mailbox of a page. -/
def State.wideSel (s : State) (page kind i : Nat) : WideSel :=
  if 1 ≤ page ∧ page < 4096 ∧ !wideOwn page kind i then .bad 2
  else match kind with
    | 1 => if i = 0 then .value none (s.ns % 2 ^ 64) else .bad 1
    | 2 => if i < 4096 then .value (some 0) (s.lastClosed i) else .bad 1
    | 3 => if ctrKnown (i % 2 ^ 23) then .value (some 3) (s.wideCtr i) else .bad 1
    | 4 => if i < 32 then .value (some 3) (SMap.get 0 s.tel.acc i).toNat else .bad 1
    | 5 => if i = 0 then .value (some 4) (s.tdm.seq % 2 ^ 64) else .bad 1
    | 6 => if i < 4096 then .value (some 2) ((s.jrnl i).pos % 2 ^ 64) else .bad 1
    | _ => .bad 1

/-- A capture ends. -/
def State.wideEnd (s : State) (page err v : Nat) : State :=
  let s := (List.range 4).foldl (fun (s : State) k =>
    s.setReg .REG_WIDE_DATA (4 * page + k) (BitVec.ofNat 32 (v / 2 ^ (32 * k)))) s
  s.setReg .REG_WIDE_STAT page (putAll 0 [(F.REG_WIDE_STAT_VALID, 1), (F.REG_WIDE_STAT_ERR, err)])

/-- Capture what REG_WIDE_SEL of a page selects; a dormant value is woken first, BUSY staying 1. -/
def State.wideCapture (s : State) (page code : Nat) : State :=
  match s.wideSel page (s.fld F.REG_WIDE_SEL_KIND page) (s.fld F.REG_WIDE_SEL_INDEX page) with
  | .bad e => s.wideEnd page e 0
  | .value pd v =>
    if pd.any s.pdOff then s.wideEnd page 3 (2 ^ 128 - 1)
    else if pd.any s.pdDormant then (s.raise F.REG_WIDE_STAT_BUSY page).wakeReq 6 code
    else s.wideEnd page 0 v

/-- A write of REG_WIDE_SEL. -/
def State.wideWrite (s : State) (page code : Nat) (data : Word) : State :=
  let s := (s.lower F.REG_WIDE_STAT_VALID page).lower F.REG_WIDE_STAT_ERR page
  if F.REG_WIDE_SEL_CAPTURE.get data ≠ 0 then s.wideCapture page code else s

/-! ### What a write starts -/

/-- A vote that has become 1 and counts wakes the block (R325, R335). -/
def State.voteWritten (s : State) (counts was now : Bool) : State :=
  if counts && !was && now then s.wakeReq 7 0 else s

/-- A vote of domain `d` counts. -/
def State.voteCounts (s : State) (d : Nat) : Bool :=
  if d = 0 then s.img.power.voters.getLsbD 0
  else s.img.power.voters.getLsbD 3 && decide (d ≤ s.vfm.vfs) && s.domEn d

/-- VFM_DOM_CTRL as written: `o` is the state before. -/
def State.domCtrlWritten (s o : State) (d : Nat) : State :=
  let s : State := if !o.domEn d && s.domEn d then s.domEnable d
    else if o.domEn d && !s.domEn d then s.domDisable d else s
  s.noteDrained d

/-- What a write that has been stored does, VFM_DOM_CMD apart: `o` is the state before it, `code` the port's code, and
`ecc` what a command finds in the SRAM word it reads. -/
def State.effect (s o : State) (x : Spot) (data : Word) (code : Nat) (ecc : Ecc) : State :=
  let i := x.i
  let set := fun (f : Field) => f.get data != 0
  match x.pl.reg with
  | .REG_WIDE_SEL => s.wideWrite i code data
  | .LIN_CFG => s.lineEnable i (o.bit F.LIN_CFG_EN i)
  | .WAY_MODE =>
    if !o.waybill i && s.waybill i then s.jStart i
    else if o.waybill i && !s.waybill i then s.applyBnd .WAY_SEG i
    else s
  | .RPL_MODE => if o.replaying i && !s.replaying i then s.unparkAll i else s
  | .RTE_TGT_CFG => if o.bit F.RTE_TGT_CFG_EN i && !s.bit F.RTE_TGT_CFG_EN i then s.dropTarget i else s
  | .VFM_RT => s.noteDrained i
  | .VFM_DOM_CTRL => s.domCtrlWritten o i
  | .TEL_H_CFG => if o.meets .TEL_H_CFG i data (fun f => f.apply == .dis) then s.probeReset i else s
  | .TEL_H_BASE => s.probeReset i
  | .TEL_SMP_CFG =>
    if !o.bit F.TEL_SMP_CFG_EN && s.bit F.TEL_SMP_CFG_EN then { s with tel := { s.tel with smpNo := 0, cand := 0 } } else s
  | .CHL_CTRL =>
    let s := s.chlEn (o.bit F.CHL_CTRL_EN)
    if set F.CHL_CTRL_LEAVE then s.chlLeave else s
  | .PWR_CMD => if set F.PWR_CMD_SLEEP then s.sleepCmd else s
  | .PWR_PERF => if (o.writes .PWR_PERF 0 data).contains F.PWR_PERF_REQ then s.perfReq else s
  | .PWR_CLK =>
    let s := if set F.PWR_CLK_TO_PLL then s.clkSwitch true else s
    if set F.PWR_CLK_TO_OSC then s.clkSwitch false else s
  | .PWR_VOTE => s.voteWritten (s.voteCounts i) (o.bit F.PWR_VOTE_AWAKE i) (s.bit F.PWR_VOTE_AWAKE i)
  | .PWR_VOTE_SB => s.voteWritten (s.img.power.voters.getLsbD 1) (o.bit F.PWR_VOTE_SB_AWAKE) (s.bit F.PWR_VOTE_SB_AWAKE)
  | .SRC_CMD => if set F.SRC_CMD_GO then s.srcCmd else s
  | .SST_CTRL => if set F.SST_CTRL_FLUSH then s.flushCache else s
  | .CVN_SRC_CMD => if set F.CVN_SRC_CMD_GO then s.startSilence else s
  | .DLV_FAULT_CFG => if set F.DLV_FAULT_CFG_RSTPTR then s.clearPtrs none else s
  | .DLV_RING_CFG => if set F.DLV_RING_CFG_RSTPTR then s.clearPtrs (some i) else s
  | .DLV_HPORT_CMD => if set F.DLV_HPORT_CMD_RESUME then s.resumePort (s.fld F.DLV_HPORT_CMD_HPORT) else s
  | .CMP_FORCE => if set F.CMP_FORCE_GO then s.startForce ecc else s
  | .TDM_MODE => if o.bit F.TDM_MODE_MODE && !s.bit F.TDM_MODE_MODE then s.tdmOff else s.tdmSettle
  | .TDM_CMD => if set F.TDM_CMD_SWITCH then s.switchRole else s
  | .TDM_PEER_CMD => if set F.TDM_PEER_CMD_GO then s.peerStart else s
  | .VFM_DOM_RST => if set F.VFM_DOM_RST_GO then s.domReset else s
  | .VFM_DEP_CMD => if set F.VFM_DEP_CMD_GO then s.depLine else s
  | .IMG_CTRL =>
    let s := if set F.IMG_CTRL_ABSENT then s.imgAbsent else s
    if set F.IMG_CTRL_RELOAD then s.arbStart true else s
  | .IMG_MBOX_DATA => if i = 15 then s.imgMailbox else s
  | .CFG_CTRL =>
    let s := if set F.CFG_CTRL_COMMIT then s.cfgCommit else s
    if set F.CFG_CTRL_UNFREEZE then s.lower F.CFG_STATUS_FROZEN else s
  | .SAV_CMD => if set F.SAV_CMD_SAVE then s.saveCmd code else s
  | .TEL_CTRL => s.telCtrl data
  | .TEL_CNT_CMD => if set F.TEL_CNT_CMD_GO then s.cntCmd else s
  | .SST_RTCMD => if set F.SST_RTCMD_GO then s.startRt i ecc else s
  | .SST_CFGCMD => if set F.SST_CFGCMD_GO then s.startCfg i ecc else s
  | .RTE_TCMD => if set F.RTE_TCMD_GO then s.tgtCmd i else s
  | .CMP_DBCMD => if set F.CMP_DBCMD_GO then s.startDb i ecc else s
  | .WAY_CMD =>
    let s := if set F.WAY_CMD_FLUSH then s.jFlushCmd i else s
    if set F.WAY_CMD_NEWSEG then s.newseg i else s
  | .RPL_CMD => if set F.RPL_CMD_STOP then s.rplStop i else s
  | _ => s

/-- An accepted write of C2, C3 or C4 goes to the standby (R296, R404); a COMMIT of a gate list carries its k. -/
def State.mirrorWrite (s o : State) (x : Spot) (data : Word) (k : Nat) : State :=
  if (o.needs x.pl.reg x.i data).any (fun c => decide (2 ≤ c) && decide (c ≤ 4)) then s.mirrorCfg x.wsOff data k else s

/-- An accepted write, VFM_DOM_CMD.GO apart. -/
def State.accept (s : State) (x : Spot) (data : Word) (code : Nat) (ecc : Ecc) : State :=
  let o := s
  let s := s.store x data
  if x.pl.reg = .OAS_GCMD then
    if F.OAS_GCMD_COMMIT.get data ≠ 0 then (s.commitList x.i).2.mirrorWrite o x data (min (s.commitList x.i).1 (2 ^ 28 - 1))
    else s.mirrorWrite o x data 0
  else (s.mirrorWrite o x data 0).effect o x data code ecc

end Sys2Proof.Machine
end

