-- ==== Sys2Proof/Machine/Restore.lean ====
section
/-! DEFINITION. RESTORE of a domain's save record (R317, R319, R320), and with it every write that is accepted. -/

namespace Sys2Proof.Machine

/-- A little-endian field of a byte list. -/
def leAt (bs : List Byte) (o n : Nat) : Nat := ofLeBytes ((bs.drop o).take n)

/-- Check 1 and 2 of R319 fail on a header. -/
def saveHdrBad (h : List Byte) : Bool :=
  leAt h 0 4 != 0x56534D42 || leAt h 0x3C 4 != (crc32c (h.take 0x3C)).toNat || leAt h 4 1 != 1
    || leAt h 8 4 / 2 ^ 16 != 3

/-- An entry of the domain takes a value as a whole: a change of TYPE, PRIO, RKIND or ROUTE is one of covered configuration
(R126), the partner hears of it, the poison list follows (R172), and an active record of the EID is gone (R319). -/
def State.putSaved (s : State) (d eid : Nat) (e : Entry) : State :=
  let o := s.entryNow eid
  let s := if o.typ == e.typ && o.prio == e.prio && o.rkind == e.rkind && o.route == e.route then s else s.cfgChanged (some d)
  let s := ((s.setEntryNow eid e).mirrorEntry eid e).psnSync eid e
  (s.dlv.active.filter (·.eid = eid)).foldl (fun (s : State) a => s.freeRec a) s

/-- The entries of line `n` of a record go to the domain. -/
def State.putSavedLine (s : State) (d n : Nat) (bytes : List Byte) : State :=
  let e := s.img.domainEnt d
  (List.range (min 8 (e.eidCount - 8 * (n - 64)))).foldl (fun (s : State) i =>
    s.putSaved d (e.eidBase + 8 * (n - 64) + i) (Entry.ofBits (BitVec.ofNat 64 (leAt bytes (8 * i) 8)))) s

/-- The first `n` entries of a domain return to their initial values, after a failure at check 4. -/
def State.clearSaved (s : State) (d n : Nat) : State :=
  (List.range n).foldl (fun (s : State) i => s.putSaved d ((s.img.domainEnt d).eidBase + i) Entry.init) s

/-- Apply one register word as a class-C2 write of the manager; one that R112 refuses is skipped and counted. -/
def State.restoreWord (s : State) (d o : Nat) (w : Word) : State :=
  match findSpot .ws (domBase d + o % 0x10000 / 4 * 4) with
  | none => s
  | some x =>
    match s.ruleWay .mgtPf x w with
    | .ok x => s.accept x w 0 .none
    | _ => s.bump F.VFM_XFER_SKIP_SKIP d

/-- The register words of a record, from its offset 0x40 on. -/
def State.restoreWords (s : State) (d n : Nat) (body : List Byte) : State :=
  (List.range n).foldl (fun (s : State) k =>
    s.restoreWord d (leAt body (8 * k) 4) (BitVec.ofNat 32 (leAt body (8 * k + 4) 4))) s

/-- OP RESTORE: it reads the record line by line (R319). -/
def State.domRestore (s : State) (d : Nat) : State :=
  if s.domEn d || s.resetting d then s.setFld F.VFM_DOM_CMD_ERR d 1
  else if s.xferBad d then s.setFld F.VFM_DOM_CMD_ERR d 2
  else
    let s := { s with vfm := { s.vfm with restores := SMap.insert s.vfm.restores d (VfMove.mk (s.xferLen d) [] []) } }
    let s := s.startJob (.restore d) false (s.xferOff d) (linesOf (s.xferLen d))
    (s.raise F.VFM_DOM_CMD_BUSY d).setFld F.VFM_DOM_CMD_ERR d 0

/-- A RESTORE ends with a result (R320). -/
def State.restoreEnd (s : State) (d err : Nat) : State :=
  let s := { s with vfm := { s.vfm with restores := SMap.erase s.vfm.restores d } }.dropJobs (· == JobKind.restore d)
  (s.lower F.VFM_DOM_CMD_BUSY d).setFld F.VFM_DOM_CMD_ERR d err

/-- The words of a record that passed its checks are applied, as writes whose own effects follow, and the RESTORE ends. -/
def State.restoreFinish (s : State) (d : Nat) (x : VfMove) : State :=
  let s := s.setFld F.VFM_XFER_SKIP_SKIP d 0
  let s := s.restoreWords d (min (leAt x.hdr 0x0E 2) 504) x.body
  let s := (s.lower F.VFM_DOM_STAT_SAVED d).lower F.VFM_DOM_STAT_FENCED d
  let s := { s with vfm := { s.vfm with restored := if s.vfm.restored.contains d then s.vfm.restored else d :: s.vfm.restored } }
  s.restoreEnd d 0

/-- Line `n` of the record has come: the header is checked (checks 1 to 3), entries go to the domain as they come, and at
the end the body is checked (check 4) (R319). -/
def State.restoreTook (s : State) (d n line : Nat) (poison : Bool) : State :=
  match SMap.find s.vfm.restores d with
  | none => s
  | some x =>
    let e := s.img.domainEnt d
    let bytes := s.depBytes (64 * line) 64
    if poison then
      ((s.error 4 0 (some d) (64 * line / 512) .none).clearSaved d (min e.eidCount (8 * (n - 64)))).restoreEnd d 5
    else if n = 0 then
      if saveHdrBad bytes then s.restoreEnd d 3
      else if leAt bytes 0x14 4 ≠ e.eidCount then s.restoreEnd d 4
      else { s with vfm := { s.vfm with restores := SMap.insert s.vfm.restores d { x with hdr := bytes } } }
    else
      let x := { x with body := (x.body ++ bytes).take (x.len - 64) }
      let s := { s with vfm := { s.vfm with restores := SMap.insert s.vfm.restores d x } }
      let s := if 64 ≤ n then s.putSavedLine d n bytes else s
      if n + 1 < linesOf x.len then s
      else if leAt x.hdr 0x38 4 ≠ (crc32c x.body).toNat then (s.clearSaved d e.eidCount).restoreEnd d 5
      else s.restoreFinish d x

/-- VFM_DOM_CMD.GO; it is ignored while BUSY. -/
def State.domGo (s : State) (d : Nat) : State :=
  if s.bit F.VFM_DOM_CMD_BUSY d then s
  else if s.fld F.VFM_DOM_CMD_OP d = 2 then s.domRestore d
  else s.domCmd d

/-- An accepted write. -/
def State.acceptWrite (s : State) (x : Spot) (data : Word) (code : Nat) (ecc : Ecc) : State :=
  let s := s.accept x data code ecc
  if x.pl.reg = .VFM_DOM_CMD && F.VFM_DOM_CMD_GO.get data != 0 then s.domGo x.i else s

end Sys2Proof.Machine
end

