-- ==== Sys2Proof/Machine/Job.lean ====
section
/-! DEFINITION. The requests and the answers of what moves depot lines by itself, at the third depot priority: domain SAVE and
RESTORE, depot lines, persistent saves, the configuration home, the off area and start-up restore (R46, R169, R318 to R324,
R336, R349, R354, R358). -/

namespace Sys2Proof.Machine

/-- The bytes of request `n` of a job that writes, once they are there. -/
def State.jobLine (s : State) (j : Job) (n : Nat) : Option (List Byte) :=
  match j.kind with
  | .save d => s.saveLine d n
  | .line data => some (leBytes 64 data.toNat)
  | .record => s.recordLine j n
  | .home => s.sav.home.map (fun h => s.homeLine h.1 h.2 n)
  | .off => some ((List.range 64).map (fun i => Config.internalByte 3 s.pwr.exits (64 * n + i)))
  | _ => none

/-- The last line goes behind every other one's acknowledgement: the header of a save record, the last line of the home
(R318, R349, R354). -/
def JobKind.lastAlone (k : JobKind) : Bool :=
  match k with
  | .save _ | .record | .home => true
  | _ => false

/-- A job may make its next request. A RESTORE reads one line at a time, so that it ends where a check fails (DESIGN CHOICE); a
domain command stands still in a save past its snapshot point (R351). -/
def State.jobMay (s : State) (j : Job) : Bool :=
  decide (j.next < j.count) && (!(j.kind.lastAlone && j.next + 1 == j.count) || s.jobAcked j)
    && match j.kind with
      | .save _ => !s.saving
      | .restore _ => !s.saving && s.jobAcked j
      | _ => true

/-- What the first write of a run of lines takes away: the record of a slot, or the home, that they overwrite; the off area
has been written (R324). -/
def State.jobBegun (s : State) (j : Job) : State :=
  match j.kind with
  | .record => { s with sav := { s.sav with recs := SMap.erase s.sav.recs j.base } }
  | .home => { s with sav := { s.sav with homes := SMap.erase s.sav.homes j.base } }
  | .off => { s with pwr := { s.pwr with offAt := some s.tim.now } }
  | _ => s

/-- The next request of a job. -/
def State.jobRequest (s : State) (j : Job) : Option State :=
  let n := j.next
  let asked := if j.write then (s.jobLine j n).bind (fun b => s.depWrite (.job j.id n) (j.line n) b) else s.depRead (.job j.id n) (j.line n)
  asked.map (fun r => { r.2 with dep := { r.2.dep with
    jobs := r.2.dep.jobs.map (fun (x : Job) => if x.id = j.id then { x with next := n + 1 } else x) } }.jobBegun j)

/-- The first of some jobs that can make a request makes it. -/
def State.jobFirst (s : State) : List Job → State
  | [] => s
  | j :: rest => match (if s.jobMay j then s.jobRequest j else none) with
    | some s => s
    | none => s.jobFirst rest

/-- Requests of the third priority wait behind journal lines and write-backs, and behind those at the port (R169). -/
def State.jobStep (s : State) : State :=
  if s.dep.jobs.isEmpty || !s.dep.out.isEmpty || s.jLineDue || s.sst.victims.any (fun v => v.tag.isNone) then s
  else s.jobFirst s.dep.jobs

/-- The end of a job that reads for start-up restore. -/
def State.slotRead (s : State) (j : Job) : State :=
  let go : State := s.dropJobs (· == j.kind)
  match j.kind with
  | .headers => go.slotNext
  | .body k => go.slotBody k j.bad
  | .homeBody k => go.slotHome k j.base j.bad
  | _ => s

/-- A line of start-up restore has come: a slot whose header is poisoned is out, and so is a body or a home with a poisoned line
(R358). -/
def State.slotLine (s : State) (j : Job) (n : Nat) (poison : Bool) : State :=
  let s : State := if poison && j.kind == .headers then { s with sav := { s.sav with scan := s.sav.scan.map (n :: ·) } } else s
  let j := { j with bad := j.bad || poison }
  let s := { s with dep := { s.dep with jobs := s.dep.jobs.map (fun (x : Job) => if x.id = j.id then { x with bad := j.bad } else x) } }
  if s.jobDone j.kind then s.slotRead j else s

/-- The answer to request `n` of a job, for a line; that of a job given up meanwhile only frees its tag. -/
def State.jobAnswer (s : State) (id n line : Nat) (poison : Bool) : State :=
  match s.dep.jobs.find? (fun j => j.id == id) with
  | none => s
  | some j =>
    match j.kind with
    | .restore d => s.restoreTook d n line poison
    | .line _ => s.depLineDone j.write poison line
    | .home => s.homeEnd
    | .headers | .body _ | .homeBody _ => s.slotLine j n poison
    | _ => s

/-- A running SAVE reads entries, jobs make requests, and the port works, in a cycle of FCLK. -/
def State.jobRun (s : State) : State :=
  if !s.clocked then s
  else
    let s := if s.saving then s else (s.vfm.saves.map (·.1)).foldl (fun (s : State) d => s.saveRead d) s
    s.jobStep.depPort

end Sys2Proof.Machine
end

