-- ==== Sys2Proof/Machine/Access.lean ====
section
/-! DEFINITION. Register accesses from every port (R48, R51, R63, R100 to R109, R302, R303), the window pointer, accesses
that wait for a wake, and the configuration mirror at the standby (R296, R404). -/

namespace Sys2Proof.Machine

/-- An access with nothing beyond a port, an offset and data. -/
def accAt (p : Port) (sp : Space) (off : Nat) (wr : Bool) (data : Word) : RegAcc :=
  { port := p, space := sp, off := off, wr := wr, data := data, be := 15, tag := 0, ecc := .none }

/-- The access goes through WIN_DATA of a page (R104). -/
def RegAcc.isWin (a : RegAcc) : Bool := onPage a.port && a.space == .dp && a.off == 0x14

/-- The access goes to configuration space. -/
def RegAcc.isConfig (a : RegAcc) : Bool := a.space == .sriov || a.space == .cfg

/-- A BAR write with partial byte enables is ignored (R48). -/
def RegAcc.isPartial (a : RegAcc) : Bool := onBar a.port && a.wr && a.be != 15

/-- Where an access goes: one through WIN_DATA to the register at WIN_ADDR of its page (R104). -/
def State.aimed (s : State) (a : RegAcc) : RegAcc :=
  if a.isWin then { a with space := .ws, off := winOff (s.portOf a.port) (s.reg .WIN_ADDR (portPage (s.portOf a.port))).toNat }
  else a

/-- The way of an access, WIN_DATA apart. -/
def State.accWay (s : State) (a : RegAcc) : AccessEnd :=
  if a.wr then s.writeWay (s.portOf a.port) a.space a.off a.data else s.readWay (s.portOf a.port) a.space a.off

/-- What an access returns, with what it does: a read at a way that is not served returns 0, or all-ones where the
register's domain is saved and powered off (R9, R108, R121, R370). -/
def State.accEnd (s : State) (a : RegAcc) (w : AccessEnd) : Word × State :=
  let p := s.portOf a.port
  match w with
  | .gone => (0, s)
  | .early => (0, s.raise F.REG_RST_STAT_EARLY)
  | .denied c => (0, s.deny p a.space a.off a.wr c)
  | .off => (0xFFFFFFFF#32, s.offAccess p)
  | .waits => (0, s)
  | .locked => (0, s.lockedWr p a.space a.off)
  | .rejects n =>
    let s := s.rejected p a.space a.off n
    match reach p a.space a.off with
    | some x => (0, if n = 4 ∧ x.pl.reg = .OAS_GCMD then s.setFld F.OAS_GCMD_ERR x.i 1 else s)
    | none => (0, s)
  | .ok x =>
    if a.wr then (0, s.acceptWrite x (portData p x.pl.reg a.data) (portCode p) a.ecc)
    else
      let v := s.shown p x.pl.reg x.i
      (v, s.readEffect p x.pl.reg x.i v)

/-- A sideband command has ended (R415). -/
def State.sbEnd (s : State) (cmd result : Nat) : State :=
  (s.setFld F.SB_STATUS_RESULT 0 result).setFld F.SB_STATUS_LAST_CMD 0 cmd

/-- The bytes a sideband read returns. -/
def State.sbReturn (s : State) (w : Word) : State := { s with io := { s.io with sb := leBytes 4 w.toNat } }

/-- The completion of an access that has been served: the data of a read goes to the requester, a PEER request is
answered, the sideband notes the result, and a page that waited shows WAKE (R107). -/
def State.complete (s : State) (a : RegAcc) (w : AccessEnd) (v : Word) (waited : Bool) : State :=
  let s : State := if a.wr then s else { s with io := { s.io with rdata := v } }
  let denied := match w with | .denied _ => true | _ => false
  let s := match a.port with
    | .sideband =>
      let s := if a.wr then s else s.sbReturn v
      s.sbEnd (if a.wr then 2 else 1) (if denied then 4 else 0)
    | .peer => s.originate .west (s.peerRec 3 a.tag a.off v)
    | _ => s
  if waited && onPage a.port then s.raise F.WIN_STATUS_WAKE (portFn (s.portOf a.port)) else s

/-- The access reaches a register of a switched power domain that an entry makes dormant: RING stays on in a DOZE and while
FCLK is retuned (R107, R322, R330). -/
def State.inSwitched (s : State) (a : RegAcc) (w : AccessEnd) : Bool :=
  match w with
  | .waits | .locked | .rejects _ | .ok _ => (reach (s.portOf a.port) a.space a.off).any (fun x =>
    x.pl.pd.any (fun d => !(Pd.code d == 4 && (s.pst == 2 || s.pwr.doze))))
  | _ => false

/-! ### Requests of the register target -/

/-- The pointer of a page after an access through WIN_DATA (R104). -/
def State.winNext (s : State) (p : Port) : State :=
  let page := portPage (s.portOf p)
  let w := (s.reg .WIN_ADDR page).toNat + 4
  s.setReg .WIN_ADDR page (BitVec.ofNat 32 (match s.portOf p with | .vf _ => w % 2 ^ 16 | _ => w % 2 ^ 30))

/-- A byte of a configuration write is enabled. -/
def beOn (be k : Nat) : Bool := be.testBit k

/-- A word with its enabled bytes replaced. -/
def mergeBytes (old new : Word) (be : Nat) : Word :=
  (List.range 4).foldl (fun (w : Word) k =>
    if beOn be k then (w &&& ~~~(0xFF#32 <<< (8 * k))) ||| (new &&& (0xFF#32 <<< (8 * k))) else w) old

/-- The function whose configuration space a request reaches. -/
def configFn : Port → Nat
  | .regt _ f _ => f.toNat
  | _ => 0

/-- A word of configuration space, numbered as `Vfm.hdr` does: it holds the word last written there, byte enables honoured
(R48), which decides what it reads by the standard's layout (DESIGN CHOICE (free value): `Config.configWord`, R100). -/
def State.headerWord (s : State) (k : Nat) : Word := Config.configWord (k / 1024) (k % 1024) (SMap.get 0 s.vfm.hdr k)

def State.headerWrite (s : State) (k : Nat) (data : Word) (be : Nat) : State :=
  { s with vfm := { s.vfm with hdr := SMap.set 0 s.vfm.hdr k (mergeBytes (SMap.get 0 s.vfm.hdr k) data be) } }

/-- What the SR-IOV capability of function 0 reads: VF Enable at bit 0 of 0x08 and NumVFs in the low half of 0x10
(PRESUMED, R48, R303), every other bit as its word. -/
def State.sriovWord (s : State) (off : Nat) : Word :=
  let w := s.headerWord (4096 * 1024 + off / 4 % 1024)
  if off = 8 then (w &&& ~~~1#32) ||| BitVec.ofNat 32 (bitNat s.vfm.vfEn)
  else if off = 16 then (w &&& 0xFFFF0000#32) ||| BitVec.ofNat 32 (s.vfm.numVfs % 2 ^ 16)
  else w

/-- A write of the SR-IOV capability, byte enables honoured (R48, R100, R303). -/
def State.sriovWrite (s : State) (off : Nat) (data : Word) (be : Nat) : State :=
  let s := s.headerWrite (4096 * 1024 + off / 4 % 1024) data be
  if off = 8 ∧ beOn be 0 then s.setSriov (data.getLsbD 0) s.vfm.numVfs
  else if off = 16 then
    let lo := if beOn be 0 then data.toNat % 256 else s.vfm.numVfs % 256
    let hi := if beOn be 1 then data.toNat / 256 % 256 else s.vfm.numVfs / 256
    s.setSriov s.vfm.vfEn (lo + 256 * hi)
  else s

/-- A request for configuration space: the PF's SR-IOV capability, or a header; only the register target path has it. -/
def State.configAccess (s : State) (a : RegAcc) : State :=
  let cap := decide (a.space = .sriov ∧ configFn a.port = 0)
  let k := configFn a.port * 1024 + a.off / 4 % 1024
  if !onBar a.port then s
  else if a.wr then (if cap then s.sriovWrite a.off a.data a.be else s.headerWrite k a.data a.be)
  else { s with io := { s.io with rdata := if cap then s.sriovWord a.off else s.headerWord k } }

/-- A VF that SR-IOV has not enabled answers Unsupported Request (R48). -/
def State.unsupported (s : State) (p : Port) : Bool :=
  match p with
  | .regt _ f _ => decide (s.vfm.vfs < f.toNat)
  | _ => false

/-- The completion status of the register target path. -/
def State.setUr (s : State) (p : Port) (v : Bool) : State :=
  if onBar p then { s with io := { s.io with ur := v } } else s

/-- Serve an access to a register now (R104, R107, R112). -/
def State.performReg (s : State) (a : RegAcc) (waited : Bool) : State :=
  let b := s.aimed a
  let s := if a.isWin then s.winNext a.port else s
  if a.isPartial then s.partialWr (s.portOf a.port)
  else
    let w := s.accWay b
    let wake := s.inSwitched b w
    let s := (s.accEnd b w).2.complete b w (s.accEnd b w).1 (waited && wake)
    if wake then s.wakeReq 6 (portCode (s.portOf a.port)) else s

/-- Serve an access now. -/
def State.perform (s : State) (a : RegAcc) (waited : Bool) : State :=
  if s.unsupported a.port then s.setUr a.port true
  else
    let s := s.setUr a.port false
    if a.isConfig then s.configAccess a else s.performReg a waited

/-- The access must wait for the wake of its register's power domain (R107). -/
def State.mustWait (s : State) (a : RegAcc) : Bool :=
  !s.unsupported a.port && !a.isConfig && !a.isPartial && s.accWay (s.aimed a) == .waits

/-- An access of the same function, or of the same port, waits before this one. -/
def State.behind (s : State) (p : Port) : Bool := s.pwr.accs.any (fun b => sameQueue b.port p)

/-- An access joins those that wait. -/
def State.queueAcc (s : State) (a : RegAcc) : State := { s with pwr := { s.pwr with accs := s.pwr.accs ++ [a] } }

/-- An access arrives: one to a dormant domain waits for the wake that it requests, and requests of one function complete
in order, one at a time (R48, R107). -/
def State.serve (s : State) (a : RegAcc) : State :=
  if s.behind a.port then s.queueAcc a
  else if s.mustWait a then (s.queueAcc a).wakeReq 6 (portCode (s.portOf a.port))
  else s.perform a false

/-- The accesses that wait, tried again in their order. -/
def State.serveList : List RegAcc → State → State
  | [], s => s
  | a :: l, s =>
    if s.behind a.port || s.mustWait a then State.serveList l (s.queueAcc a)
    else State.serveList l (s.perform a true)

/-- The mailboxes that wait for the wake of the value they capture. -/
def State.widePages (s : State) : List Nat := (s.regIdxs .REG_WIDE_STAT).filter (fun g => s.bit F.REG_WIDE_STAT_BUSY g)

/-- The port code of a page. -/
def pageCode (page : Nat) : Nat :=
  if page = 0 then 0 else if page < 4096 then 1 else if page = 4096 then 2 else if page = 4097 then 3 else 4

/-- What waits for a wake is served as soon as its domain is awake. -/
def State.serveAccs (s : State) : State :=
  let l := s.pwr.accs
  let s := State.serveList l { s with pwr := { s.pwr with accs := [] } }
  s.widePages.foldl (fun (s : State) g => s.wideCapture g (pageCode g)) s

/-- The access that a request makes, on a port at an offset of a space. A request of the register target for a window
offset stands for a write of WIN_ADDR and one access of WIN_DATA, without what the first leaves in WIN_ADDR; a management
request has no such pointer and meets WIN_DATA, which it does not reach (R106). -/
def State.accessOf (s : State) (p : Port) (sp : Space) (off : Nat) (wr : Bool) (data : Word) (be : Nat) (ecc : Ecc) : RegAcc :=
  let off := off / 4 * 4
  let noPage := sp == .ws && onBar p && !onPage p
  let sp := if noPage then .dp else sp
  let off := if noPage then 0x14 else if sp = .ws then winOff (s.portOf p) off else off
  { port := p, space := sp, off := off, wr := wr, data := data, be := be, tag := 0, ecc := ecc }

/-- A request on a port, at an offset of a space. -/
def State.request (s : State) (p : Port) (sp : Space) (off : Nat) (wr : Bool) (data : Word) (be : Nat) (ecc : Ecc) : State :=
  s.serve (s.accessOf p sp off wr data be ecc)

/-- A full write of a register named by its array and replica, as a port reaches it: a VF page has its own replicas of
the per-domain array and of its page, and reaches no other register (R105). -/
def State.regWrite (s : State) (p : Port) (sp : Space) (off : Nat) (data : Word) : State :=
  s.request p sp off true data 15 .none

/-- The request comes through a VF's page. -/
def vfPage : Port → Bool
  | .regt src f _ => !src && f != 0
  | _ => false

/-- The space in which replica `i` of a register array lies, and its offset there: as a VF names it in its view of the
window, and as the other ports do. -/
def regAt (p : Port) (r : Reg) (i : Nat) : Space × Nat :=
  match placements.find? (fun x => x.reg == r) with
  | none => (.ws, 0)
  | some pl =>
    let o := Spot.wsOff ⟨pl, i⟩
    if vfPage p then (.ws, o % 0x10000) else (pl.space, o)

/-- A command names a register of domain `d`: a VF reaches only its own. -/
def reaches (p : Port) (d : Nat) : Bool :=
  match p with
  | .regt false f _ => f == 0 || f.toNat == d
  | _ => true

/-- Write a global register, or one of an array that no VF page reaches. -/
def State.writeGlob (s : State) (p : Port) (r : Reg) (i : Nat) (data : Word) : State :=
  if vfPage p then s else s.regWrite p (regAt p r i).1 (regAt p r i).2 data

/-- Write a register of domain `d`. -/
def State.writeDom (s : State) (p : Port) (r : Reg) (d : Nat) (data : Word) : State :=
  if reaches p d then s.regWrite p (regAt p r d).1 (regAt p r d).2 data else s

/-- Read a register of domain `d`. -/
def State.readDom (s : State) (p : Port) (r : Reg) (d : Nat) : State :=
  if reaches p d then s.request p (regAt p r d).1 (regAt p r d).2 false 0 15 .none else s

/-! ### Sideband (R51) -/

/-- What a faulty sideband frame leaves: its reason, and the code where the code was known. -/
def State.sbFault (s : State) (f : SbFrame) (cmd : Nat) : State :=
  match f with
  | .good => s
  | .pecWrong => (s.sbEnd cmd 1).raise F.SB_STATUS_PEC_ERR
  | .unknownCode => s.setFld F.SB_STATUS_RESULT 0 2
  | .wrongCount => s.sbEnd cmd 3

/-- The space and offset of a sideband register command: bit 31 selects the window. -/
def sbSpot (off : Word) : Space × Nat :=
  if off.getLsbD 31 then (.ws, off.toNat % 2 ^ 30 / 4 * 4) else (.dp, off.toNat % 2 ^ 31 / 4 * 4)

/-- Sideband commands 0x01 and 0x02. -/
def State.sbRegister (s : State) (f : SbFrame) (off : Word) (wr : Bool) (data : Word) : State :=
  if f ≠ .good then s.sbFault f (if wr then 2 else 1)
  else s.serve (accAt .sideband (sbSpot off).1 (sbSpot off).2 wr data)

/-- Sideband command 0x04: SB_STATUS, as a read from SIDEBAND. -/
def State.sbStatus (s : State) (f : SbFrame) : State :=
  if f ≠ .good then s.sbFault f 4
  else
    let a := accAt .sideband .dp 0x38 false 0
    let w := s.accWay a
    let (v, s) := s.accEnd a w
    (s.sbEnd 4 (match w with | .denied _ => 4 | _ => 0)).sbReturn v

/-- Sideband command 0x03: a chunk of the image. The image mailbox is of class C3. -/
def State.sbImage (s : State) (f : SbFrame) (bytes : List Byte) : State :=
  if f ≠ .good then s.sbFault f 3
  else if bytes.length < 5 ∨ 68 < bytes.length then s.sbEnd 3 3
  else if !s.holds .sideband 3 then s.sbEnd 3 4
  else
    let o := leAt bytes 0 4
    let (ok, s) := s.imgData false (decide (2 ^ 31 ≤ o)) (o % 2 ^ 23) (bytes.drop 4)
    s.sbEnd 3 (if ok then 0 else 5)

/-- Carry out a sideband command. -/
def State.sbDo (s : State) : SbCmd → State
  | .register f off wr data => s.sbRegister f off wr data
  | .status f => s.sbStatus f
  | .image f bytes => s.sbImage f bytes

/-- Sideband commands in the order they came: one that meets BUSY waits (R414). -/
def State.sbServe : List SbCmd → State → State
  | [], s => s
  | c :: l, s =>
    if s.behind .sideband || !s.io.sbQ.isEmpty then State.sbServe l { s with io := { s.io with sbQ := s.io.sbQ ++ [c] } }
    else State.sbServe l (s.sbDo c)

/-- A sideband command arrives. -/
def State.sbCommand (s : State) (c : SbCmd) : State := State.sbServe [c] s

/-- The sideband commands that wait, tried again. -/
def State.sbPump (s : State) : State := State.sbServe s.io.sbQ { s with io := { s.io with sbQ := [] } }

/-! ### PEER requests and the configuration mirror (R296, R302, R404) -/

/-- PEER_REQUEST: only the partner's is served. -/
def State.takeRequest (s : State) (r : Rec) : State :=
  if s.partnerPos ≠ some (recFld r 45 5) ∨ recFld r 118 2 = 0 then s.countG 0x23
  else
    let a := accAt .peer .ws (recFld r 82 28 * 4) (recFld r 118 2 = 2) (BitVec.ofNat 32 (recFld r 50 32))
    s.serve { a with tag := recFld r 110 8 }

/-- A mirrored COMMIT of a gate list: the start follows from the primary's k, or, saturated, from an own late-start
test. -/
def State.mirrorCommit (s : State) (x : Spot) (data : Word) (k : Nat) : State :=
  let s := s.store x data
  if F.OAS_GCMD_COMMIT.get data = 0 then s
  else if k = 2 ^ 28 - 1 then (s.commitList x.i).2
  else
    let g := x.i
    s.setPending g (s.reg64 .OAS_ADM_BASE_LO .OAS_ADM_BASE_HI g + k * (s.reg .OAS_ADM_CYCLE g).toNat)

/-- TANDEM_CFG: the standby applies the write as its own rules allow, and a consumer index as it stands. -/
def State.takeCfg (s : State) (r : Rec) : State :=
  if !s.standby then s
  else
    let s := s.applied (recFld r 0 28)
    let data := BitVec.ofNat 32 (recFld r 56 32)
    match reach .mgtPf .ws (recFld r 88 28 * 4) with
    | none => s
    | some x =>
      if x.pl.reg = .DLV_RING_CI then
        (if s.wordHere (2 ^ 27 + x.i) then s.setCi (data.toNat % 2 ^ 21) (some x.i) else s)
      else if x.pl.reg = .DLV_FAULT_CI then s.setCi (data.toNat % 2 ^ 21) none
      else match s.ruleWay .mgtPf x data with
      | .ok x =>
        if x.pl.reg = .OAS_GCMD then s.mirrorCommit x data (recFld r 28 28)
        else s.acceptWrite x data 0 .none
      | _ => s

end Sys2Proof.Machine
end

