-- ==== Sys2Proof/Machine/Walker.lean ====
section
/-! DEFINITION. The configuration walker (R123 to R127): what it covers, the region CRCs, and the end of a pass. -/

namespace Sys2Proof.Machine

/-- The registers of a placement that belong to region 0 (`none`) or to the region of domain `d`, with their window
offsets. -/
def Placement.covered (p : Placement) (d : Option Nat) : List (Nat × Reg × Nat) :=
  if p.reg.covMask = 0 then []
  else
    let spot := fun (i : Nat) => ((Spot.mk p i).wsOff, p.reg, i)
    match d with
    | none => if p.kind == .dom then [] else (List.range (p.n1 * p.n2)).map spot
    | some d => if p.kind == .dom then (List.range p.n2).map (fun j => spot (d * p.n2 + j)) else []

/-- The covered registers of a region, in ascending window offset. -/
def coveredRegs (d : Option Nat) : List (Nat × Reg × Nat) :=
  (placements.flatMap (fun p => p.covered d)).mergeSort (fun a b => decide (a.1 ≤ b.1))

/-- The bytes a register contributes: its covered bits in force. -/
def State.coveredWord (s : State) (r : Reg) (i : Nat) : List Byte := leBytes 4 (s.reg r i &&& r.covMask).toNat

/-- The bytes of a region (R124): registers, then the tables in section order, then the state entries of a domain.
Region 0 holds the Source Table, the region of a domain the translation entries that name it. -/
def State.regionBytes (s : State) (n : Nat) : List Byte :=
  let d := if n = 0 then none else some (n - 1)
  let regs := (coveredRegs d).flatMap (fun x => s.coveredWord x.2.1 x.2.2)
  let tables := match d with
    | none => (List.range 65536).flatMap (fun i => leBytes 8 (SMap.get 0 s.src.source i).toNat)
    | some d => ((List.range 65536).map (fun o => SMap.get 0 s.src.xlate o)).flatMap (fun e =>
        if (Xlate.ofBits e).dom = d then leBytes 16 e.toNat else [])
  let image := Config.imageBytes s.img.hdrCrc s.img.bodyCrc n
  let entries := match d with
    | none => []
    | some d =>
      let e := s.img.domainEnt d
      (List.range e.eidCount).flatMap (fun k =>
        leBytes 4 ((s.entryNow (e.eidBase + k)).toBits.toNat / 2 ^ 29 % 2 ^ 26))
  regs ++ tables ++ image ++ entries

/-- The number of regions. -/
def regionCount : Nat := 4097

/-- A switched power domain that is off holds covered fields of the region (R125). -/
def State.regionOff (s : State) (n : Nat) : Bool :=
  let d := if n = 0 then none else some (n - 1)
  placements.any (fun p => p.pd.any (fun x => s.pdOff (Pd.code x)) && !(p.covered d).isEmpty)

/-- The walker reads its next region: the CRC of its bytes as they are now (R125). -/
def State.readRegion (s : State) : State :=
  let n := s.cfg.read.length
  { s with cfg := { s.cfg with read := s.cfg.read ++ [crc32c (s.regionBytes n)], skipped := s.cfg.skipped || s.regionOff n } }

/-- The length of a pass: 2^20 ACLK, in 1/45 ns. -/
def passTime : Nat := 2 ^ 20 * 40 * 45

/-- The time in a pass at which region `n` has been read: the regions follow one another evenly (DESIGN CHOICE). -/
def regionTime (n : Nat) : Nat := (n + 1) * passTime / regionCount

/-- The walker's time runs while CORE does, and it reads the region that falls due (R125). -/
def State.runWalker (s : State) (dt : Nat) : State :=
  if s.cfg.on && !s.pwr.gated then
    let s : State := { s with cfg := { s.cfg with ran := s.cfg.ran + dt } }
    if decide (s.cfg.read.length < regionCount) && decide (regionTime s.cfg.read.length ≤ s.cfg.ran) then s.readRegion else s
  else s

/-- The regions that the pass has not read yet. -/
def State.readRest (s : State) : State :=
  (List.range (regionCount - s.cfg.read.length)).foldl (fun (s : State) _ => s.readRegion) s

/-- The region CRCs of a pass: those of regions whose bytes were corrupted behind software's back before the walker read
them are not known. -/
def State.regionCrcs (s : State) (bad : List Nat) : List Word :=
  (List.range regionCount).map (fun n =>
    if bad.contains n then Config.corruptCrc n s.cfg.pass else s.cfg.read.getD n 0)

/-- The live value of R124. -/
def liveCrc (crcs : List Word) : Word := crc32c (crcs.flatMap (fun (c : Word) => leBytes 4 c.toNat))

/-- The regions in which a pass differs from the reference, ascending. -/
def State.regionDiffs (s : State) : List Nat :=
  (List.range regionCount).filter (fun n => s.cfg.crcs.getD n 0 != s.cfg.refs.getD n 0)

/-- What a failed comparison does (R127): a report, a freeze, or a fence of every domain whose region differs. -/
def State.mismatch (s : State) : State :=
  let l := s.regionDiffs
  let r := l.headD 0
  let s := (s.raise F.CFG_STATUS_MISMATCH).setFld F.CFG_STATUS_FIRST_REGION 0 r
  let s := s.error 15 15 none r .none
  match s.fld F.CFG_CTRL_POLICY with
  | 0 => s
  | 2 =>
    let s := l.foldl (fun (s : State) n => if n = 0 then s else s.fence (n - 1) 2) s
    if l.contains 0 then s.raise F.CFG_STATUS_FROZEN else s
  | _ => s.raise F.CFG_STATUS_FROZEN

/-- The next pass begins at once. -/
def State.nextPass (s : State) : State :=
  let c := { s.cfg with ran := s.cfg.ran - passTime, clean := s.bnd.isEmpty, skipped := false }
  { s with cfg := { c with read := [], pass := c.pass + 1 } }

/-- WALKER_PASS_END: the end of a pass that has had its time; a pass that passed over a domain that was off ends
without comparison. -/
def State.passEnd (s : State) (bad : List Nat) : State :=
  if !s.cfg.on || decide (s.cfg.ran < passTime) then s
  else
    let s := s.readRest
    if s.cfg.skipped then (s.raise F.CFG_STATUS_PARTIAL).nextPass
    else
      let crcs := s.regionCrcs bad
      let live := liveCrc crcs
      let s := { s with cfg := { s.cfg with crcs := crcs } }.setReg .CFG_CRC_LIVE 0 live
      let s := if s.cfg.clean then s.raise F.CFG_STATUS_LIVE_CLEAN else s
      let s := if s.bit F.CFG_STATUS_REF_VALID && live != s.reg .CFG_CRC_REF then s.mismatch else s
      s.nextPass

end Sys2Proof.Machine
end

