-- ==== Sys2Proof/Machine/Receive.lean ====
section
/-! DEFINITION. Records arriving at a ring port (R283, R284, R286, R333): which the member acts on at once, which wait
for CORE, and the ones that waited. -/

namespace Sys2Proof.Machine

/-- The RING domain has its clock: in RUN, in an entry or exit of the form DOZE, and in DOZE. A retune only delays. -/
def State.ringClk (s : State) : Bool := !s.pwr.gated || s.pst = 2 || s.pwr.doze

/-- A joined member's receiver takes a record: it counts toward the hop's next CHECK and is acted on. -/
def State.receive (s : State) (p : ChlPort) (r : Rec) (f : State → State) : State :=
  if s.onRing && s.ringClk then f (s.rxCount p r) else s

/-- What a bypassed member also sees of the ring's traffic: BEACON and WINDOW (R288, R290). -/
def State.listenTo (s : State) (p : ChlPort) (r : Rec) (f : State → State) : State :=
  if s.onRing then s.receive p r f else if s.chl.st != .off && s.ringClk then f s else s

/-- A TANDEM record at its unit, by subtype (R296). -/
def State.takeTandem (s : State) (r : Rec) : State :=
  let s := s.heardPartner
  match rTsub r with
  | 1 => s.takeState r
  | 2 => s.takeDeliv r
  | 3 => s.takeCfg r
  | 4 => s.takeDoorbell r
  | 5 => s.takeAck r
  | 6 => s.takeHeartbeat r
  | 7 => s.takeHello r
  | 8 => s.takeDigest r
  | 9 => s.takeBulk r
  | 10 => s.takeBulkEnd
  | 11 => s.takeHandover
  | _ => s

/-- Subtypes that are no wake and wait for no CORE: ACK, HEARTBEAT and HELLO (R333). -/
def tandemLight (sub : Nat) : Bool := sub = 5 || sub = 6 || sub = 7

/-- A TANDEM record of subtype `sub` arrives (R283, R284). -/
def State.rxTandem (s : State) (sub : Nat) (r : Rec) : State :=
  if rTy r ≠ chTandem ∨ rTsub r ≠ sub then s
  else s.receive .east r (fun s =>
    if rPos r ≠ s.pos then s.passOn .east r
    else if tandemLight sub then s.takeTandem r
    else s.whenCore .east r (fun s => s.takeTandem r))

/-- A PEER record at its unit (R302). -/
def State.takePeer (s : State) (r : Rec) : State := if rOp r = 3 then s.takeResponse r else s.takeRequest r

/-- A PEER record arrives: a response (`true`) or a request. -/
def State.rxPeer (s : State) (resp : Bool) (r : Rec) : State :=
  if rTy r ≠ chPeer ∨ decide (rOp r = 3) ≠ resp then s
  else s.receive .east r (fun s =>
    if rPos r ≠ s.pos then s.passOn .east r else s.whenCore .east r (fun s => s.takePeer r))

/-- A caravan record of type `ty` arrives on the west port. -/
def State.rxCaravan (s : State) (ty : Nat) (r : Rec) (f : State → State) : State :=
  if rTy r ≠ ty then s else s.receive .west r f

/-- A CTRL record of subtype `sub` arrives. -/
def State.rxCtrl (s : State) (sub : Nat) (p : ChlPort) (r : Rec) (f : State → State) : State :=
  if isCtrl r sub then s.receive p r f else s

/-- A CTRL record of a reserved subtype is ignored and counted (R287). -/
def State.rxReserved (s : State) (p : ChlPort) (r : Rec) : State :=
  if rTy r = chCtrl ∧ (rSub r = 0 ∨ 12 < rSub r) then s.receive p r (fun s => s.countG 0x22) else s

/-- The record is for this member: named by a unicast, or copied on its way to the partner. Broadcasts and CTRL records
have their own handling, and an EMPTY slot is ignored (R282). -/
def State.forMember (s : State) (r : Rec) : Bool :=
  if isUnicast (rTy r) then rPos r = s.pos || (rTy r = chEvent && s.tandem && s.partnerPos == some (rPos r))
  else true

/-- RECORD_PASSED_ON (R283, R284): a record of the types that name a destination, for another member. -/
def State.rxPass (s : State) (p : ChlPort) (r : Rec) : State :=
  if s.forMember r then s else s.receive p r (fun s => s.passOn p r)

/-- A record that waited for CORE (R333). -/
def State.takeRec (s : State) (r : Rec) : State :=
  if rTy r = chEvent then s.takeEvent r
  else if rTy r = chWaymark then s.takeWaymark r
  else if rTy r = chSilent then s.takeSilent r
  else if rTy r = chClose then s.takeClose r
  else if rTy r = chTandem then s.takeTandem r
  else if rTy r = chPeer then s.takePeer r
  else s

/-- Records that waited are taken in their order. -/
def State.takeWaiting (s : State) : State :=
  if s.chl.rxw.isEmpty || !s.coreOn then s
  else s.chl.rxw.foldl (fun (s : State) x => s.takeRec x.2) { s with chl := { s.chl with rxw := [] } }

end Sys2Proof.Machine
end

