-- ==== Sys2Proof/Machine/Tick.lean ====
section
/-! DEFINITION. A clock tick, which is what a step does while no command waits: time passes by one FCLK period, or one
ACLK period while FCLK stands still, and what runs by itself goes on: hold clocks, timers, retries, transmitters. -/

namespace Sys2Proof.Machine

/-- The length of a tick in 1/45 ns. -/
def State.tickStep (s : State) : Nat := if s.clocked then s.period else 40 * 45

/-- Time passes; fabric time holds while the time last loaded is behind it (R54), and at 0 before the first toggle (R368). -/
def State.advance (s : State) : State :=
  let dt := s.tickStep
  let ref := if s.tim.seen then s.tim.ref + dt else s.tim.ref
  { s with tim := { s.tim with now := s.tim.now + dt, ref := ref, ft := max s.tim.ft ref } }

/-- The full miss queue stalls a lane that holds a descriptor or an event (R133). -/
def State.laneMStopped (s : State) : Bool :=
  s.mqFull && (s.sst.stalled.any (fun x => !x.1.ring) || [0, 1, 2, 3].any (fun k => !(s.laneQ k).isEmpty))

/-- The hold clock of a domain stands still (R186, R285, R354). -/
def State.holdStops (s : State) (d : Nat) : Bool :=
  s.jStopped d || s.laneMStopped || s.laneJStopped || s.pwr.gated || s.saving || (s.coordinator && s.paused (dirOf .east))

/-- Hold clocks run on by `n`, at the coordinator alone (R194). -/
def State.runHolds (s : State) (n : Nat) : State :=
  if !s.coordinator then s else
  { s with cvn := { s.cvn with runs := s.cvn.runs.map (fun (x : Nat × Run) =>
    if s.holdStops x.1 then x else (x.1, { x.2 with clock := x.2.clock.map (· + n) })) } }

/-- Redelivery timers run on by `n`. -/
def State.runTimers (s : State) (n : Nat) : State :=
  { s with dlv := { s.dlv with active := s.dlv.active.map (fun (a : ActiveRec) =>
    if s.timerRuns a then { a with timer := a.timer.map (· + n) } else a) } }

/-- FREEZE_NS counts while telemetry is frozen (R382). -/
def State.runFreeze (s : State) (n : Nat) : State :=
  if s.bit F.TEL_CTRL_FREEZE then
    { s with tel := { s.tel with cnt := SMap.set Ctr.zero s.tel.cnt 0x25 ((SMap.get Ctr.zero s.tel.cnt 0x25).add n) } }
  else s

/-- The fabric time that a toggle loads forward is counted by hold clocks, redelivery timers and FREEZE_NS as any other
(R186, R252, R342, R382). -/
def State.ftToggleRun (s : State) (t : Nat) : State :=
  let u := s.ftToggle t
  ((u.runHolds (u.tim.ft - s.tim.ft)).runTimers (u.tim.ft - s.tim.ft)).runFreeze (u.ns - s.ns)

/-- Refill ticks that fall in a save past its snapshot point are not credited (R354). -/
def State.skipTicks (s : State) : State :=
  if s.saving && decide (s.wwl.tickAt ≤ s.ns) then
    { s with wwl := { s.wwl with tickAt := (s.ns / s.tickLen + 1) * s.tickLen } }
  else s

/-- Domains whose DRAINED may have changed. -/
def State.drainDoms (s : State) : List Nat :=
  (s.vfm.undrained ++ s.regIdxs .VFM_DOM_CTRL ++ s.dlv.tags.map (·.dom) ++ s.way.q.map (·.d)).dedup

/-- A new cycle for what "the same cycle" decides: ERR_LOG, fences, CVN_VERDICT.FIRST and DRAINED (R198, R312, R407, R409). -/
def State.cycleStart (s : State) : State := { s with errs := Errs.mk false [] [] s.vfm.undrained }

/-- The work of the main path that waits for room, a tag or a place. -/
def State.mainTick (s : State) : State :=
  if !s.coreOn then s
  else
    let s := s.takeWaiting
    if s.halted then s
    else
      let s := s.wakeDrain 4
      let s := (s.cvn.runs.map (·.1)).foldl State.closeAll s
      let s := s.newCycle.placeHeld.serveOffers.pumpHeldFaults.pumpRte
      let s := s.retryComps.retryStalled.retryCmds.askHeads.pumpHeads
      let s := s.placeHeads
      let s := (s.pumpWrites 128).runFlush.pumpMisses
      let s := s.rplDoms.foldl State.rplAsk s
      ((s.rplDoms ++ s.rpl.map (·.1)).dedup).foldl (fun (s : State) d =>
        if s.rplRunning d || !(s.replay d).window.isEmpty then s.rplPump d else s) s

/-- The ring port in a tick: `n` beats of 2 ns leave each port, PAUSE and RESUME follow the marks of the transmit
queues, the coordinator's window comes to its limit, a leaver's bypass closes (R56, R285, R290, R293). -/
def State.ringTick (s : State) (n : Nat) : State :=
  if s.txOn && s.ringClk then
    let s := s.standbyLost.bulkOne
    ((((((s.txPort n .east).txPort n .west).txMark .east).txMark .west).windowLimit).leaveEnd)
  else s

/-- A request of MGT-PF is in progress: it waits for a wake. -/
def State.pfBusy (s : State) : Bool := s.pwr.accs.any (fun a => s.portOf a.port == .mgtPf)

/-- FABRIC_RST: it is ignored during COLD and WARM, and takes effect after a request of MGT-PF in progress. -/
def State.fabric (s : State) : State :=
  if s.inReset then s
  else if s.pfBusy then { s with boot := { s.boot with fabrics := s.boot.fabrics + 1 } }
  else s.fabricNow

/-- The pulses that waited for a request of MGT-PF act once it has completed. -/
def State.fabricLate (s : State) : State :=
  if s.boot.fabrics = 0 ∨ s.pfBusy then s
  else (List.range s.boot.fabrics).foldl (fun (s : State) _ => s.fabricNow) { s with boot := { s.boot with fabrics := 0 } }

/-- What waits for a wake, for BUSY of the sideband, and for a request of MGT-PF. -/
def State.serveWaiting (s : State) : State :=
  let s := if s.pwr.accs.isEmpty && s.widePages.isEmpty then s else s.serveAccs
  (if s.io.sbQ.isEmpty then s else s.sbPump).fabricLate

/-- What runs on FCLK alone, beside the main path: the journal, saves, jobs of the depot port and the sampler. -/
def State.coreTick (s : State) : State :=
  let s := if s.coreOn then s.jCycles else s
  let s := s.drainFlush.mainTick.saveSnap.saveRun
  let s := if s.coreOn then s.smpWrite else s
  s.jobRun

/-- Clocks and counters of fabric time, and what the Power Manager does by itself. -/
def State.timeTick (s s0 : State) : State :=
  let dft := s.tim.ft - s0.tim.ft
  let s := ((s.runHolds dft).runTimers dft).skipTicks
  let s := (s.runFreeze (s.ns - s0.ns)).runWalker (s.tim.now - s0.tim.now)
  let s := s.retuneRun.clkRun.tdmVoteWake.wakeNow.pswRun.sclRun.depWaitEnd
  if s.boot.warmWant && s.pst = 0 then s.warmNow else s

/-- One tick: under a reset line only time passes, and under WARM switch handshakes and the hold on SB_SCL go on. -/
def State.clockTick (s : State) : State :=
  let s0 := s.cycleStart
  let s := s0.advance
  if s.inReset then (if s.boot.held then s else s.pswRun.sclRun)
  else
    let s := (s.timeTick s0).coreTick
    let s := s.tdmSettle.ringTick (s.tim.now / 90 - s0.tim.now / 90)
    (s.drainDoms.foldl (fun (s : State) d => s.noteDrained d) s).serveWaiting

end Sys2Proof.Machine
end

