-- ==== Sys2Proof/Machine/Command.lean ====
section
/-! DEFINITION. What the commands share: the clock of the ring, answers of the depot, pins that move while a reset line is
asserted, and register commands that need more than one word. -/

namespace Sys2Proof.Machine

/-- What the RING domain does comes about only while its clock runs. -/
def State.onRingClk (s : State) (f : State → State) : State := if s.ringClk then f s else s

/-! ### Depot answers (R45) -/

/-- A map word returns for a read that waits; the read of an event that a WARM lost only frees its tag. -/
def State.mapResponse (s : State) (tag : Nat) (poison : Bool) (ecc : Ecc) : State :=
  if s.intk.maps.any (fun m => m.tag == tag) then s.mapReturn tag poison ecc
  else if (SMap.find s.dep.tags tag).any (fun t => t.use == .map) then (s.freeDepTag tag).askFills
  else s.depProto tag

/-- An S2M response: with data (DRS) for a read, without (NDR) for a write. An unknown tag or the wrong kind is
discarded. -/
def State.depAnswer (s : State) (data : Bool) (tag : Nat) (poison : Bool) (ecc : Ecc) : State :=
  match SMap.find s.dep.tags tag with
  | none => s.depProto tag
  | some t => match t.use with
    | .fill line => if data then s.fill line poison ecc else s.depProto tag
    | .map => if data then s.mapResponse tag poison ecc else s.depProto tag
    | .stateWb _ => if data then s.depProto tag else s.wbAck tag
    | .other => if data then s.depProto tag else (s.freeDepTag tag).askFills
    | .jrnl d => if data then s.depProto tag else (s.jAck d tag).askFills
    | .replay d => if data then ((s.freeDepTag tag).rplTook d t.line poison).askFills else s.depProto tag
    | .job id n => if data = t.write then s.depProto tag else ((s.freeDepTag tag).jobAnswer id n t.line poison).askFills

/-- The initialisation of the backing ends; it runs in STAGE 2 of a start-up after COLD (R157, R372). -/
def State.backingInit (s : State) : State := if s.stage = 2 ∧ s.sav.scan.isNone then s.initDone else s

/-! ### SRAM words that these commands read (R408) -/

/-- The record about to leave the journal write queue. A record that cannot be read is lost: a CARAVAN domain is fenced
with cause 3 whatever ERR_CONTAIN holds, any other domain owes a GAP record that counts it. -/
def State.journalEcc (s : State) (ecc : Ecc) : State :=
  let i := (Config.recordIndex 9 s.dep.n).toNat
  match s.way.q, ecc with
  | _ :: _, .cor .journalRecord => s.error 9 10 none i .none
  | r :: q, .unc .journalRecord =>
    let s := ({ s with way := { s.way with q := q } }.jMarks).error 8 10 (some r.d) i .dom
    if !s.caravan r.d then s.jLose r.d
    else if (s.reg .ERR_CONTAIN).getLsbD 8 then s
    else s.contain r.d
  | _ :: q, .uncDomain .journalRecord => ({ s with way := { s.way with q := q } }.jMarks).error 26 10 none i .all
  | _, _ => s

/-- The record that just went into the transmit queue of port `p`: one that cannot be read is lost, which is a hop loss
(R286). -/
def State.ringQueueEcc (s : State) (p : ChlPort) (before : Nat) (ecc : Ecc) : State :=
  let lost (s : State) : State := (s.setSide p { s.side p with tx := (s.side p).tx.dropLast }).hopLoss p
  if (s.side p).tx.length ≤ before then s
  else match ecc with
    | .cor .chetalQueue => s.error 9 11 none (Config.recordIndex 12 s.dep.n).toNat .none
    | .unc .chetalQueue => lost s
    | .uncDomain .chetalQueue => lost s
    | _ => s

/-- The first record of the origin queue behind the transmit queue of port `p`: one that cannot be read is lost, which is a
hop loss (R286). -/
def State.originEcc (s : State) (p : ChlPort) (ecc : Ecc) : State :=
  let lost (s : State) : State := (s.setSide p { s.side p with orig := (s.side p).orig.drop 1 }).hopLoss p
  if (s.side p).orig.isEmpty then s
  else match ecc with
    | .cor .originQueue => s.error 9 11 none (Config.recordIndex 12 s.dep.n).toNat .none
    | .unc .originQueue => lost s
    | .uncDomain .originQueue => lost s
    | _ => s

/-- A record passed on by the opposite port, and the queue words of that port. -/
def State.passEcc (s : State) (p : ChlPort) (r : Rec) (ecc : Ecc) : State :=
  ((s.rxPass p r).ringQueueEcc (otherPort p) ((s.side (otherPort p)).tx.length) ecc).originEcc (otherPort p) ecc

/-- A counter that cannot be read becomes 0 with OVF 1, an accumulator 0 (R408). -/
def State.counterEcc (s : State) (ecc : Ecc) : State :=
  match ecc with
  | .cor (.counter i) => s.error 9 12 none i.toNat .none
  | .unc (.counter i) =>
    { s with tel := { s.tel with cnt := SMap.set Ctr.zero s.tel.cnt i.toNat ⟨0, true⟩ } }.error 9 12 none i.toNat .none
  | .cor (.accumulator _ _) => s.error 9 12 none (Config.recordIndex 13 s.dep.n).toNat .none
  | .unc (.accumulator p n) =>
    { s with tel := { s.tel with acc := SMap.erase s.tel.acc (if n then 16 + p.toNat else p.toNat) } }.error 9 12 none
      (Config.recordIndex 13 s.dep.n).toNat .none
  | _ => s

/-! ### Pins -/

/-- A line's raw level changes; while a reset line is asserted nothing follows. -/
def State.lineRaw (s : State) (n : Nat) (v : Bool) : State :=
  if s.inReset then { s with intk := { s.intk with level := putLine s.intk.level n v } } else s.lineChange n v

/-- CHL_x_LANE_UP of a port while a reset line is asserted. -/
def State.lanesRaw (s : State) (p : ChlPort) (l : BitVec 4) : State := s.setSide p { s.side p with lanes := l }

/-- A command that brings a sample of the hold-up monitor: it counts as 0 unless HU_VALID is high and the value has been
steady (R53, R352). A trigger without one takes a free value (`Config.holdupEnergy`). -/
def State.withHu (s : State) (hu : Hu) (f : State → State) : State :=
  let v := if hu.valid && hu.steady then hu.energy.toNat else 0
  let s := f { s with io := { s.io with hu := some v } }
  { s with io := { s.io with hu := none } }

/-- HU_PFAIL_N is captured in AO: while WARM_RST_N is asserted the trigger waits (R53). -/
def State.pfailPin (s : State) (hu : Hu) : State :=
  s.withHu hu (fun s =>
    if s.boot.held then s
    else if !s.boot.warmHeld then s.pfail
    else if s.saveBarred then s.saveWait 0 2
    else s.holdupCheck.2.saveWait 0 s.holdupCheck.1)

/-! ### The TAP (R63) -/

/-- The register instrument is closed: the authority table denies class C5 to DEBUG, and is locked. -/
def State.tapShut (s : State) : Bool := !s.holds .debug 5 && s.bit F.REG_LOCK_AUTH

/-- IDCODE: version, part number, manufacturer code, and the 1 that IEEE 1149.1 puts in bit 0. -/
def State.idcode (s : State) : Word := BitVec.ofNat 32 (0x3 * 2 ^ 28 + 0xB31E * 2 ^ 12 + s.fld F.REG_STRAPS_DBG_MFR * 2 + 1)

/-- What TDO returns. -/
def State.tdo (s : State) (w : Word) : State := { s with io := { s.io with rdata := w } }

/-- An operation of the TAP. It has its own clock and its own reset: what needs no register of the block works under any
reset of it. -/
def State.tap (s : State) (t : Tap) : State :=
  match t with
  | .register wr off data =>
    if s.tapShut then (if wr then s else s.tdo 0)
    else s.live (fun s => s.serve (accAt .debug .ws (winOff .debug off.toNat) wr data))
  | .idcode => s.tdo s.idcode
  | .bypass tdi => { s.tdo (BitVec.ofNat 32 (bitNat s.io.bypass)) with io := { (s.tdo (BitVec.ofNat 32 (bitNat s.io.bypass))).io with bypass := tdi } }
  | .scanDump => { s.tdo (Config.scanDump s.io.dumps) with io := { (s.tdo (Config.scanDump s.io.dumps)).io with dumps := s.io.dumps + 1 } }

/-- A read on the Alert Response Address returns SB_ADDR while SB_ALERT_N is asserted (R89). -/
def State.alertRead (s : State) : State :=
  if s.sbAlert then { s with io := { s.io with sb := [BitVec.ofNat 8 (s.fld F.REG_STRAPS_SB_ADDR)] } } else s

/-! ### Register commands -/

/-- Read a global register. -/
def State.readGlob (s : State) (p : Port) (r : Reg) (i : Nat) : State :=
  if vfPage p then s else s.request p (regAt p r i).1 (regAt p r i).2 false 0 15 .none

/-- A command register of the block: the fields given, every other 0. -/
def State.cmdGlob (s : State) (p : Port) (r : Reg) (i : Nat) (l : List (Field × Nat)) : State :=
  s.writeGlob p r i (putAll 0 l)

/-- The same for a register of domain `d`. -/
def State.cmdDom (s : State) (p : Port) (r : Reg) (d : Nat) (l : List (Field × Nat)) : State :=
  s.writeDom p r d (putAll 0 l)

/-- A command register of domain `d`, and what the command finds. -/
def State.cmdDomEcc (s : State) (p : Port) (r : Reg) (d : Nat) (l : List (Field × Nat)) (ecc : Ecc) : State :=
  if reaches p d then s.request p (regAt p r d).1 (regAt p r d).2 true (putAll 0 l) 15 ecc else s

/-- The same for a command register of the block. -/
def State.cmdGlobEcc (s : State) (p : Port) (r : Reg) (i : Nat) (l : List (Field × Nat)) (ecc : Ecc) : State :=
  if vfPage p then s else s.request p (regAt p r i).1 (regAt p r i).2 true (putAll 0 l) 15 ecc

/-- Change fields of a register, its other fields as they read. -/
def State.changeGlob (s : State) (p : Port) (r : Reg) (i : Nat) (l : List (Field × Nat)) : State :=
  s.writeGlob p r i (putAll (s.present r i) l)

/-- The same for a register of domain `d`. -/
def State.changeDom (s : State) (p : Port) (r : Reg) (d : Nat) (l : List (Field × Nat)) : State :=
  s.writeDom p r d (putAll (s.present r d) l)

/-- The five registers of a source meter, and of a domain meter (R147). -/
def srcMeterReg : MeterReg → Reg
  | .cfg => .POL_SRC_MTR_CFG
  | .cir => .POL_SRC_MTR_CIR
  | .pir => .POL_SRC_MTR_PIR
  | .cbs => .POL_SRC_MTR_CBS
  | .pbs => .POL_SRC_MTR_PBS

def domMeterReg : MeterReg → Reg
  | .cfg => .POL_DOM_MTR_CFG
  | .cir => .POL_DOM_MTR_CIR
  | .pir => .POL_DOM_MTR_PIR
  | .cbs => .POL_DOM_MTR_CBS
  | .pbs => .POL_DOM_MTR_PBS

/-- A write of a meter's register. -/
def State.writeMeter (s : State) (p : Port) (m : MeterId) (r : MeterReg) (data : Word) : State :=
  match m with
  | .src ord => s.writeGlob p (srcMeterReg r) ord.toNat data
  | .dom d => s.writeDom p (domMeterReg r) d.toNat data

end Sys2Proof.Machine
end

