-- ==== Sys2Proof/Machine/CaravanCmds.lean ====
section
/-! DEFINITION. Commands of the Caravan Sequencer (R176 to R199). -/

namespace Sys2Proof.Machine

/-- WAYMARK_MARK (R178). -/
def execWaymarkMark (lane : Fin 4) (ecc : Ecc) (s : State) : Out :=
  .next (s.live (fun s => s.onPathClock (fun s => s.waymarkHead lane.val [0, 3] ecc)))

/-- WAYMARK_QUIET (R178). -/
def execWaymarkQuiet (lane : Fin 4) (ecc : Ecc) (s : State) : Out :=
  .next (s.live (fun s => s.onPathClock (fun s => s.waymarkHead lane.val [1] ecc)))

/-- WAYMARK_RESUME (R178). -/
def execWaymarkResume (lane : Fin 4) (ecc : Ecc) (s : State) : Out :=
  .next (s.live (fun s => s.onPathClock (fun s => s.waymarkHead lane.val [2] ecc)))

/-- SILENCE (R180). -/
def execSilence (p : Port) (ord : BitVec 16) (s : State) : Out :=
  .next (s.live (fun s => s.cmdGlob p .CVN_SRC_CMD 0
    [(F.CVN_SRC_CMD_GO, 1), (F.CVN_SRC_CMD_OP, 1), (F.CVN_SRC_CMD_ORDINAL, ord.toNat)]))

/-- HOLD_CLOCK_START (R185). -/
def execHoldClockStart (d : BitVec 12) (s : State) : Out :=
  .next (s.live (fun s => s.onPathClock (fun s => s.holdStart d.toNat)))

/-- OVERDUE (R188). -/
def execOverdue (d : BitVec 12) (s : State) : Out :=
  .next (s.live (fun s => s.onPathClock (fun s => s.overdue d.toNat)))

/-- STRAGGLER (R188). -/
def execStraggler (d : BitVec 12) (s : State) : Out :=
  .next (s.live (fun s => s.onPathClock (fun s => s.straggler d.toNat)))

/-- RELEASE (R190). -/
def execRelease (ecc : Ecc) (s : State) : Out :=
  .next (s.live (fun s => s.onPathClock (fun s => s.releaseTwo ecc)))

/-- RELEASE_RETRY (R192). -/
def execReleaseRetry (ecc : Ecc) (s : State) : Out :=
  .next (s.live (fun s => s.onPathClock (fun s => s.releaseRetry ecc)))

end Sys2Proof.Machine
end

