-- ==== Sys2Proof/Machine/DeliverCmds.lean ====
section
/-! DEFINITION. Commands of delivery and completion (R235 to R254). -/

namespace Sys2Proof.Machine

/-- EGRESS_ACK (R247). -/
def execEgressAck (tag : BitVec 12) (st : BitVec 2) (s : State) : Out :=
  .next (if s.boot.held then s else s.egressAck tag.toNat st.toNat)

/-- EGRESS_BEAT_TAKEN (R240). -/
def execEgressBeatTaken (s : State) : Out :=
  .next (s.live (fun s => s.beatTaken))

/-- RESUME (R247). -/
def execResume (p : Port) (hport : BitVec 7) (s : State) : Out :=
  .next (s.live (fun s => s.cmdGlob p .DLV_HPORT_CMD 0
    [(F.DLV_HPORT_CMD_RESUME, 1), (F.DLV_HPORT_CMD_HPORT, hport.toNat)]))

/-- RSTPTR (R236). -/
def execRstptr (p : Port) (target : BitVec 16) (s : State) : Out :=
  .next (s.live (fun s => s.changeGlob p .DLV_RING_CFG target.toNat [(F.DLV_RING_CFG_RSTPTR, 1)]))

/-- COMPLETE (R249). -/
def execComplete (lane : Fin 4) (ecc : Ecc) (s : State) : Out :=
  .next (s.live (fun s => s.onPathClock (fun s => s.doorbellHead lane.val 0 ecc)))

/-- COMPLETE_ANY (R249). -/
def execCompleteAny (lane : Fin 4) (ecc : Ecc) (s : State) : Out :=
  .next (s.live (fun s => s.onPathClock (fun s => s.doorbellHead lane.val 1 ecc)))

/-- CONSUME (R236). -/
def execConsume (lane : Fin 4) (ecc : Ecc) (s : State) : Out :=
  .next (s.live (fun s => s.onPathClock (fun s => s.doorbellHead lane.val 2 ecc)))

/-- DOORBELL_RESERVED_OP (R249). -/
def execDoorbellReservedOp (lane : Fin 4) (ecc : Ecc) (s : State) : Out :=
  .next (s.live (fun s => s.onPathClock (fun s => s.doorbellHead lane.val 3 ecc)))

/-- CMP_DBCMD_COMPLETE (R250). -/
def execCmpDbcmdComplete (p : Port) (d : BitVec 12) (ecc : Ecc) (s : State) : Out :=
  .next (s.live (fun s => s.cmdDomEcc p .CMP_DBCMD d.toNat [(F.CMP_DBCMD_GO, 1), (F.CMP_DBCMD_OP, 0)] ecc))

/-- CMP_DBCMD_COMPLETE_ANY (R250). -/
def execCmpDbcmdCompleteAny (p : Port) (d : BitVec 12) (ecc : Ecc) (s : State) : Out :=
  .next (s.live (fun s => s.cmdDomEcc p .CMP_DBCMD d.toNat [(F.CMP_DBCMD_GO, 1), (F.CMP_DBCMD_OP, 1)] ecc))

/-- CMP_DBCMD_CONSUME (R250). -/
def execCmpDbcmdConsume (p : Port) (d : BitVec 12) (fring : Bool) (target : BitVec 16) (s : State) : Out :=
  .next (s.live (fun s => s.cmdDom p .CMP_DBCMD d.toNat
    [(F.CMP_DBCMD_GO, 1), (F.CMP_DBCMD_OP, 2), (F.CMP_DBCMD_FRING, bitNat fring), (F.CMP_DBCMD_TARGET, target.toNat)]))

/-- CMP_FORCE (R250). -/
def execCmpForce (p : Port) (eid : BitVec 24) (ecc : Ecc) (s : State) : Out :=
  .next (s.live (fun s => s.cmdGlobEcc p .CMP_FORCE 0 [(F.CMP_FORCE_GO, 1), (F.CMP_FORCE_EID, eid.toNat)] ecc))

/-- REDELIVERY_TIMEOUT (R252). -/
def execRedeliveryTimeout (eid : BitVec 24) (s : State) : Out :=
  .next (s.live (fun s => s.onPathClock (fun s => (s.redeliveryTimeout eid.toNat).pumpHeads)))

/-- LOST_RETRY (R254). -/
def execLostRetry (s : State) : Out :=
  .next (s.live (fun s => s.onCoreClock (fun s => s.lostAgain)))

/-- FAULT_DELIVERY (R254). -/
def execFaultDelivery (s : State) : Out :=
  .next (s.live (fun s => s.onPathClock (fun s => s.faultDelivery .none)))

end Sys2Proof.Machine
end

