-- ==== Sys2Proof/Machine/DomainCmds.lean ====
section
/-! DEFINITION. Commands of domains and virtual functions (R303 to R321, R366). -/

namespace Sys2Proof.Machine

/-- VFM_VF_STATUS_READ (R305). -/
def execVfmVfStatusRead (p : Port) (d : BitVec 12) (s : State) : Out :=
  .next (s.live (fun s => s.readDom p .VFM_VF_STATUS d.toNat))

/-- DOMAIN_ENABLE (R308). -/
def execDomainEnable (p : Port) (d : BitVec 12) (s : State) : Out :=
  .next (s.live (fun s => s.changeDom p .VFM_DOM_CTRL d.toNat [(F.VFM_DOM_CTRL_EN, 1)]))

/-- DOMAIN_DISABLE (R308). -/
def execDomainDisable (p : Port) (d : BitVec 12) (s : State) : Out :=
  .next (s.live (fun s => s.changeDom p .VFM_DOM_CTRL d.toNat [(F.VFM_DOM_CTRL_EN, 0)]))

/-- MHOLD (R309). -/
def execMhold (p : Port) (d : BitVec 12) (v : Bool) (s : State) : Out :=
  .next (s.live (fun s => s.changeDom p .VFM_DOM_CTRL d.toNat [(F.VFM_DOM_CTRL_MHOLD, bitNat v)]))

/-- THOLD (R309). -/
def execThold (p : Port) (d : BitVec 12) (v : Bool) (s : State) : Out :=
  .next (s.live (fun s => s.changeDom p .VFM_RT d.toNat [(F.VFM_RT_THOLD, bitNat v)]))

/-- FREEZE (R316). -/
def execFreeze (p : Port) (d : BitVec 12) (v : Bool) (s : State) : Out :=
  .next (s.live (fun s => s.changeDom p .VFM_DOM_CTRL d.toNat [(F.VFM_DOM_CTRL_FREEZE, bitNat v)]))

/-- FLR (R312). -/
def execFlr (fn : BitVec 12) (s : State) : Out :=
  .next (s.live (fun s => s.flrFn fn.toNat))

/-- DOMAIN_RESET (R366). -/
def execDomainReset (p : Port) (d : BitVec 12) (s : State) : Out :=
  .next (s.live (fun s => s.cmdGlob p .VFM_DOM_RST 0 [(F.VFM_DOM_RST_GO, 1), (F.VFM_DOM_RST_DOMAIN, d.toNat)]))

/-- RESET_WALK_END (R312). -/
def execResetWalkEnd (d : BitVec 12) (s : State) : Out :=
  .next (s.live (fun s => s.onCoreClock (fun s => s.walkEnd d.toNat)))

/-- SAVE (R318). -/
def execSave (p : Port) (d : BitVec 12) (s : State) : Out :=
  .next (s.live (fun s => s.cmdDom p .VFM_DOM_CMD d.toNat [(F.VFM_DOM_CMD_GO, 1), (F.VFM_DOM_CMD_OP, 1)]))

/-- SAVE_DONE (R318). -/
def execSaveDone (d : BitVec 12) (s : State) : Out :=
  .next (s.live (fun s => s.onCoreClock (fun s => s.saveDone d.toNat)))

/-- RESTORE (R319). -/
def execRestore (p : Port) (d : BitVec 12) (s : State) : Out :=
  .next (s.live (fun s => s.cmdDom p .VFM_DOM_CMD d.toNat [(F.VFM_DOM_CMD_GO, 1), (F.VFM_DOM_CMD_OP, 2)]))

/-- UNFENCE (R313). -/
def execUnfence (p : Port) (d : BitVec 12) (s : State) : Out :=
  .next (s.live (fun s => s.cmdDom p .VFM_DOM_CMD d.toNat [(F.VFM_DOM_CMD_GO, 1), (F.VFM_DOM_CMD_OP, 3)]))

/-- UNSAVE (R320). -/
def execUnsave (p : Port) (d : BitVec 12) (s : State) : Out :=
  .next (s.live (fun s => s.cmdDom p .VFM_DOM_CMD d.toNat [(F.VFM_DOM_CMD_GO, 1), (F.VFM_DOM_CMD_OP, 4)]))

/-- DEPOT_READ_LINE (R321). -/
def execDepotReadLine (p : Port) (s : State) : Out :=
  .next (s.live (fun s => s.cmdGlob p .VFM_DEP_CMD 0 [(F.VFM_DEP_CMD_GO, 1), (F.VFM_DEP_CMD_OP, 1)]))

/-- DEPOT_WRITE_LINE (R321). -/
def execDepotWriteLine (p : Port) (s : State) : Out :=
  .next (s.live (fun s => s.cmdGlob p .VFM_DEP_CMD 0 [(F.VFM_DEP_CMD_GO, 1), (F.VFM_DEP_CMD_OP, 2)]))

/-- SHARE_WRITE (R307). -/
def execShareWrite (p : Port) (d : BitVec 12) (rank : BitVec 13) (s : State) : Out :=
  .next (s.live (fun s => s.changeDom p .VFM_SHARE d.toNat [(F.VFM_SHARE_RANK, rank.toNat)]))

end Sys2Proof.Machine
end

