-- ==== Sys2Proof/Machine/ImageCmds.lean ====
section
/-! DEFINITION. Commands of the image loader and of the sideband (R50, R51, R88 to R95). -/

namespace Sys2Proof.Machine

/-- IMAGE_CHUNK_SIDEBAND (R89). -/
def execImageChunkSideband (frame : SbFrame) (bytes : List Byte) (s : State) : Out :=
  .next (s.live (fun s => s.sbCommand (.image frame bytes)))

/-- IMAGE_CHUNK_MAILBOX (R89). -/
def execImageChunkMailbox (p : Port) (data : Word) (s : State) : Out :=
  .next (s.live (fun s => s.writeGlob p .IMG_MBOX_DATA 15 data))

/-- TIMEOUT (R88). -/
def execTimeout (s : State) : Out :=
  .next (s.live (fun s => s.imgTimeout))

/-- ABSENT (R89). -/
def execAbsent (p : Port) (s : State) : Out :=
  .next (s.live (fun s => s.changeGlob p .IMG_CTRL 0 [(F.IMG_CTRL_ABSENT, 1)]))

/-- ARBITRATION_DONE (R91). -/
def execArbitrationDone (s : State) : Out :=
  .next (s.live (fun s => s.arbDone))

/-- IMAGE_APPLY_DONE (R92). -/
def execImageApplyDone (s : State) : Out :=
  .next (s.live (fun s => s.imageDone))

/-- RELOAD (R95). -/
def execReload (p : Port) (s : State) : Out :=
  .next (s.live (fun s => s.changeGlob p .IMG_CTRL 0 [(F.IMG_CTRL_RELOAD, 1)]))

/-- ALERT_RESPONSE (R89). -/
def execAlertResponse (s : State) : Out :=
  .next (s.live (fun s => s.alertRead))

/-- SB_REGISTER_READ (R51). -/
def execSbRegisterRead (frame : SbFrame) (off : Word) (s : State) : Out :=
  .next (s.live (fun s => s.sbCommand (.register frame off false 0)))

/-- SB_REGISTER_WRITE (R51). -/
def execSbRegisterWrite (frame : SbFrame) (off : Word) (data : Word) (s : State) : Out :=
  .next (s.live (fun s => s.sbCommand (.register frame off true data)))

/-- SB_STATUS_READ (R51). -/
def execSbStatusRead (frame : SbFrame) (s : State) : Out :=
  .next (s.live (fun s => s.sbCommand (.status frame)))

end Sys2Proof.Machine
end

