-- ==== Sys2Proof/Machine/IntakeCmds.lean ====
section
/-! DEFINITION. Commands of intake: carriage beats, lanes, INTx messages and lines (R40, R47, R128 to R145). -/

namespace Sys2Proof.Machine

/-- INGRESS_BEAT (R40). -/
def execIngressBeat (data : BitVec 512) (s : State) : Out :=
  .next (s.live (fun s => s.ingressBeat data))

/-- LANE_ENTRY (R132). -/
def execLaneEntry (ecc : Ecc) (s : State) : Out :=
  .next (s.live (fun s => s.laneEntry ecc))

/-- INGR_CRED_RET (R40). -/
def execIngrCredRet (s : State) : Out :=
  .next (s.live (fun s => s.credReturn))

/-- EVENT_WINDOW_WRITE (R139). -/
def execEventWindowWrite (lane : Fin 4) (ecc : Ecc) (s : State) : Out :=
  .next (s.live (fun s => s.onPathClock (fun s => s.laneHead lane.val ecc)))

/-- MAP_READ_RETURN (R139). -/
def execMapReadReturn (tag : BitVec 10) (poison : Bool) (ecc : Ecc) (s : State) : Out :=
  .next (s.live (fun s => s.onCoreClock (fun s => s.mapResponse tag.toNat poison ecc)))

/-- INTX_ASSERT (R142). -/
def execIntxAssert (ecc : Ecc) (s : State) : Out :=
  .next (s.live (fun s => s.onPathClock (fun s => s.intx true ecc)))

/-- INTX_DEASSERT (R142). -/
def execIntxDeassert (ecc : Ecc) (s : State) : Out :=
  .next (s.live (fun s => s.onPathClock (fun s => s.intx false ecc)))

/-- LINE_CAPTURE (R47). -/
def execLineCapture (line : BitVec 10) (narrow : Bool) (s : State) : Out :=
  .next (s.live (fun s => s.lineCapture line.toNat narrow))

/-- LINE_LEVEL_CHANGE (R144). -/
def execLineLevelChange (line : BitVec 10) (level : Bool) (s : State) : Out :=
  .next (s.lineRaw line.toNat level)

/-- LINE_SCAN (R144). -/
def execLineScan (s : State) : Out :=
  .next (s.live (fun s => s.lineScan))

end Sys2Proof.Machine
end

