-- ==== Sys2Proof/Machine/JournalCmds.lean ====
section
/-! DEFINITION. Commands of the journal and of replay (R255 to R281). -/

namespace Sys2Proof.Machine

/-- JOURNAL_LINE_TIMEOUT (R263). -/
def execJournalLineTimeout (d : BitVec 12) (s : State) : Out :=
  .next (s.live (fun s => s.onCoreClock (fun s => s.jLineTimeout d.toNat)))

/-- JOURNAL_LINE_WRITE (R266). -/
def execJournalLineWrite (ecc : Ecc) (s : State) : Out :=
  .next (s.live (fun s => s.onCoreClock (fun s => State.jLineWrite (s.way.q.length + 1) (s.journalEcc ecc))))

/-- WAY_FLUSH (R272). -/
def execWayFlush (p : Port) (d : BitVec 12) (s : State) : Out :=
  .next (s.live (fun s => s.cmdDom p .WAY_CMD d.toNat [(F.WAY_CMD_FLUSH, 1)]))

/-- NEWSEG (R269). -/
def execNewseg (p : Port) (d : BitVec 12) (s : State) : Out :=
  .next (s.live (fun s => s.cmdDom p .WAY_CMD d.toNat [(F.WAY_CMD_NEWSEG, 1)]))

/-- WAY_ARCH_COMMIT (R270). -/
def execWayArchCommit (p : Port) (d : BitVec 12) (lo : Word) (s : State) : Out :=
  .next (s.live (fun s => s.writeDom p .WAY_ARCH_LO d.toNat lo))

/-- WAYBILL_ENABLE (R259). -/
def execWaybillEnable (p : Port) (d : BitVec 12) (s : State) : Out :=
  .next (s.live (fun s => s.changeDom p .WAY_MODE d.toNat [(F.WAY_MODE_MODE, 1)]))

/-- REPLAY_RECORD (R275). -/
def execReplayRecord (d : BitVec 12) (s : State) : Out :=
  .next (s.live (fun s => s.onPathClock (fun s => s.replayRecord d.toNat)))

/-- STOP (R279). -/
def execStop (p : Port) (d : BitVec 12) (s : State) : Out :=
  .next (s.live (fun s => s.cmdDom p .RPL_CMD d.toNat [(F.RPL_CMD_STOP, 1)]))

/-- RPL_MODE_CLEAR (R280). -/
def execRplModeClear (p : Port) (d : BitVec 12) (s : State) : Out :=
  .next (s.live (fun s => s.changeDom p .RPL_MODE d.toNat [(F.RPL_MODE_MODE, 0)]))

end Sys2Proof.Machine
end

