-- ==== Sys2Proof/Machine/PowerCmds.lean ====
section
/-! DEFINITION. Commands of the Power Manager (R60, R322 to R344). -/

namespace Sys2Proof.Machine

/-- SLEEP (R328). -/
def execSleep (p : Port) (s : State) : Out :=
  .next (s.live (fun s => s.cmdGlob p .PWR_CMD 0 [(F.PWR_CMD_SLEEP, 1)]))

/-- ENTRY_DECISION (R328). -/
def execEntryDecision (s : State) : Out :=
  .next (s.live (fun s => s.entryDecision))

/-- DRAIN_END (R330). -/
def execDrainEnd (s : State) : Out :=
  .next (s.live (fun s => s.drainEnd))

/-- DRAIN_TIMEOUT (R329). -/
def execDrainTimeout (s : State) : Out :=
  .next (s.live (fun s => s.drainTimeout))

/-- PSW_ACK (R60). -/
def execPswAck (pd : Pd) (v : Bool) (s : State) : Out :=
  .next (if s.boot.held then s else (s.pswAck (Pd.code pd) v).serveAccs)

/-- PSW_TIMEOUT (R60). -/
def execPswTimeout (pd : Pd) (s : State) : Out :=
  .next (s.live (fun s => (s.pswTimeout (Pd.code pd)).serveAccs))

/-- WAKE (R335). -/
def execWake (code : BitVec 4) (detail : BitVec 12) (s : State) : Out :=
  .next (s.live (fun s => if code = 0 ∨ 8 < code.toNat then s else s.wake code.toNat detail.toNat))

/-- TIMER_WAKE (R335). -/
def execTimerWake (s : State) : Out :=
  .next (s.live (fun s => s.timerWake))

/-- SIGDET_WAKE (R335). -/
def execSigdetWake (_port : ChlPort) (quiet : BitVec 16) (s : State) : Out :=
  .next (s.live (fun s => s.sigdet quiet.toNat))

/-- SMBUS_ADDRESS_MATCH (R50). -/
def execSmbusAddressMatch (addr : BitVec 7) (s : State) : Out :=
  .next (s.live (fun s => s.smbus addr.toNat))

/-- OFF_AREA_RESTORE_DONE (R336). -/
def execOffAreaRestoreDone (s : State) : Out :=
  .next (s.live (fun s => s.offRestored.serveAccs))

/-- VOTE (R326). -/
def execVote (p : Port) (d : BitVec 12) (v : Bool) (s : State) : Out :=
  .next (s.live (fun s => s.changeDom p .PWR_VOTE d.toNat [(F.PWR_VOTE_AWAKE, bitNat v)]))

/-- VOTE_SB (R326). -/
def execVoteSb (p : Port) (v : Bool) (s : State) : Out :=
  .next (s.live (fun s => s.changeGlob p .PWR_VOTE_SB 0 [(F.PWR_VOTE_SB_AWAKE, bitNat v)]))

/-- PERF_REQ (R340). -/
def execPerfReq (p : Port) (req : BitVec 2) (s : State) : Out :=
  .next (s.live (fun s => s.changeGlob p .PWR_PERF 0 [(F.PWR_PERF_REQ, req.toNat)]))

/-- AVS_RESPONSE (R341). -/
def execAvsResponse (answer : AvsAnswer) (s : State) : Out :=
  .next (s.live (fun s => s.avsResponse answer))

/-- AVS_RETRY (R341). -/
def execAvsRetry (s : State) : Out :=
  .next (s.live (fun s => s.avsRetry))

/-- SETTLE_END (R341). -/
def execSettleEnd (s : State) : Out :=
  .next (s.live (fun s => s.settleEnd))

/-- TO_PLL (R339). -/
def execToPll (p : Port) (s : State) : Out :=
  .next (s.live (fun s => s.changeGlob p .PWR_CLK 0 [(F.PWR_CLK_TO_PLL, 1)]))

/-- TO_OSC (R339). -/
def execToOsc (p : Port) (s : State) : Out :=
  .next (s.live (fun s => s.changeGlob p .PWR_CLK 0 [(F.PWR_CLK_TO_OSC, 1)]))

end Sys2Proof.Machine
end

