-- ==== Sys2Proof/Machine/RankCmds.lean ====
section
/-! DEFINITION. Commands of ranking, routing, shaping and gates (R200 to R234). -/

namespace Sys2Proof.Machine

/-- WAITING_ADMISSION (R202). -/
def execWaitingAdmission (ecc : Ecc) (s : State) : Out :=
  .next (s.live (fun s => s.onPathClock (fun s => s.waitingAdmission ecc)))

/-- HAND_OVER (R212). -/
def execHandOver (ecc : Ecc) (s : State) : Out :=
  .next (s.live (fun s => s.onPathClock (fun s => s.handOver ecc)))

/-- RTE_TGT_READ (R207). -/
def execRteTgtRead (p : Port) (d : BitVec 12) (target : BitVec 16) (s : State) : Out :=
  .next (s.live (fun s => s.cmdDom p .RTE_TCMD d.toNat
    [(F.RTE_TCMD_GO, 1), (F.RTE_TCMD_OP, 1), (F.RTE_TCMD_TARGET, target.toNat)]))

/-- RTE_TGT_WRITE (R210). -/
def execRteTgtWrite (p : Port) (d : BitVec 12) (target : BitVec 16) (s : State) : Out :=
  .next (s.live (fun s => s.cmdDom p .RTE_TCMD d.toNat
    [(F.RTE_TCMD_GO, 1), (F.RTE_TCMD_OP, 2), (F.RTE_TCMD_TARGET, target.toNat)]))

/-- REFILL_TICK (R221). -/
def execRefillTick (ecc : Ecc) (s : State) : Out :=
  .next (s.live (fun s => s.onCoreClock (fun s => s.refillTick ecc)))

/-- COMMIT_GATE (R229). -/
def execCommitGate (p : Port) (g : BitVec 10) (s : State) : Out :=
  .next (s.live (fun s => s.cmdGlob p .OAS_GCMD g.toNat [(F.OAS_GCMD_COMMIT, 1)]))

/-- PENDING_LIST_SWITCH (R229). -/
def execPendingListSwitch (g : BitVec 10) (s : State) : Out :=
  .next (s.live (fun s => s.onCoreClock (fun s => s.switchList g.toNat)))

/-- GATE_OPENING (R234). -/
def execGateOpening (g : BitVec 10) (ecc : Ecc) (s : State) : Out :=
  .next (s.live (fun s => s.onPathClock (fun s => s.gateOpening g.toNat ecc)))

/-- GATE_CYCLE_START (R232). -/
def execGateCycleStart (g : BitVec 10) (s : State) : Out :=
  .next (s.live (fun s => s.onCoreClock (fun s => s.gateCycle g.toNat)))

/-- PARKED_RETURN (R241). -/
def execParkedReturn (ecc : Ecc) (s : State) : Out :=
  .next (s.live (fun s => s.onPathClock (fun s => s.parkedReturn ecc)))

end Sys2Proof.Machine
end

