-- ==== Sys2Proof/Machine/RegisterCmds.lean ====
section
/-! DEFINITION. Register commands (R100 to R127, R136 to R138, R143, R147 to R149). -/

namespace Sys2Proof.Machine

/-- WIN_DATA (R104). -/
def execWinData (p : Port) (wr : Bool) (data : Word) (be : BitVec 4) (s : State) : Out :=
  .next (s.live (fun s => s.request p .dp 0x14 wr data be.toNat .none))

/-- DORMANT_ACCESS_WAKE (R107). -/
def execDormantAccessWake (p : Port) (off : BitVec 30) (s : State) : Out :=
  .next (s.live (fun s => s.request p .ws off.toNat false 0 15 .none))

/-- REGISTER_WRITE (R112). -/
def execRegisterWrite (p : Port) (space : Space) (off : BitVec 30) (data : Word) (be : BitVec 4) (s : State) : Out :=
  .next (s.live (fun s => s.request p space off.toNat true data be.toNat .none))

/-- READ_CLEAR (R114). -/
def execReadClear (p : Port) (space : Space) (off : BitVec 30) (s : State) : Out :=
  .next (s.live (fun s => s.request p space off.toNat false 0 15 .none))

/-- WIDE_CAPTURE (R110). -/
def execWideCapture (p : Port) (kind : BitVec 7) (index : BitVec 24) (s : State) : Out :=
  .next (s.live (fun s => s.request p .dp 0x20 true
    (putAll 0 [(F.REG_WIDE_SEL_CAPTURE, 1), (F.REG_WIDE_SEL_KIND, kind.toNat), (F.REG_WIDE_SEL_INDEX, index.toNat)]) 15 .none))

/-- MGT_AUTH_WRITE (R122). -/
def execMgtAuthWrite (p : Port) (data : Word) (s : State) : Out :=
  .next (s.live (fun s => s.writeGlob p .MGT_AUTH 0 data))

/-- REG_LOCK_WRITE (R116). -/
def execRegLockWrite (p : Port) (data : Word) (s : State) : Out :=
  .next (s.live (fun s => s.writeGlob p .REG_LOCK 0 data))

/-- COMMIT (R126). -/
def execCommit (p : Port) (s : State) : Out :=
  .next (s.live (fun s => s.changeGlob p .CFG_CTRL 0 [(F.CFG_CTRL_COMMIT, 1)]))

/-- UNFREEZE (R127). -/
def execUnfreeze (p : Port) (s : State) : Out :=
  .next (s.live (fun s => s.changeGlob p .CFG_CTRL 0 [(F.CFG_CTRL_UNFREEZE, 1)]))

/-- WALKER_PASS_END (R125). -/
def execWalkerPassEnd (bad : List (BitVec 13)) (s : State) : Out :=
  .next (s.live (fun s => s.onCoreClock (fun s => s.passEnd (bad.map BitVec.toNat))))

/-- SRC_READ_SOURCE (R136). -/
def execSrcReadSource (p : Port) (index : BitVec 16) (s : State) : Out :=
  .next (s.live (fun s => s.cmdGlob p .SRC_CMD 0
    [(F.SRC_CMD_GO, 1), (F.SRC_CMD_OP, 1), (F.SRC_CMD_INDEX, index.toNat)]))

/-- SRC_WRITE_SOURCE (R137). -/
def execSrcWriteSource (p : Port) (index : BitVec 16) (s : State) : Out :=
  .next (s.live (fun s => s.cmdGlob p .SRC_CMD 0
    [(F.SRC_CMD_GO, 1), (F.SRC_CMD_OP, 2), (F.SRC_CMD_INDEX, index.toNat)]))

/-- SRC_READ_TRANSLATION (R136). -/
def execSrcReadTranslation (p : Port) (index : BitVec 16) (s : State) : Out :=
  .next (s.live (fun s => s.cmdGlob p .SRC_CMD 0
    [(F.SRC_CMD_GO, 1), (F.SRC_CMD_OP, 3), (F.SRC_CMD_INDEX, index.toNat)]))

/-- SRC_WRITE_TRANSLATION (R137). -/
def execSrcWriteTranslation (p : Port) (index : BitVec 16) (s : State) : Out :=
  .next (s.live (fun s => s.cmdGlob p .SRC_CMD 0
    [(F.SRC_CMD_GO, 1), (F.SRC_CMD_OP, 4), (F.SRC_CMD_INDEX, index.toNat)]))

/-- LIN_CFG_WRITE (R143). -/
def execLinCfgWrite (p : Port) (line : BitVec 10) (data : Word) (s : State) : Out :=
  .next (s.live (fun s => s.writeGlob p .LIN_CFG line.toNat data))

/-- METER_WRITE (R149). -/
def execMeterWrite (p : Port) (m : MeterId) (r : MeterReg) (data : Word) (s : State) : Out :=
  .next (s.live (fun s => s.writeMeter p m r data))

/-- DEBUG_ACCESS (R63). -/
def execDebugAccess (tap : Tap) (s : State) : Out :=
  .next (s.tap tap)

end Sys2Proof.Machine
end

