-- ==== Sys2Proof/Machine/ResetCmds.lean ====
section
/-! DEFINITION. Persistent saves, resets and start-up (R345 to R375). -/

namespace Sys2Proof.Machine

/-- PFAIL (R350). -/
def execPfail (hu : Hu) (s : State) : Out :=
  .next (s.pfailPin hu)

/-- SAV_SAVE (R350). -/
def execSavSave (p : Port) (hu : Hu) (s : State) : Out :=
  .next (s.live (fun s => s.withHu hu (fun s => s.cmdGlob p .SAV_CMD 0 [(F.SAV_CMD_SAVE, 1)])))

/-- PERIODIC (R350). -/
def execPeriodic (hu : Hu) (s : State) : Out :=
  .next (s.live (fun s => s.withHu hu State.periodic))

/-- SAVE_INTERVAL_END (R350). -/
def execSaveIntervalEnd (s : State) : Out :=
  .next (s.live (fun s => s.saveWaiting))

/-- PERSISTENT_SAVE_DONE (R356). -/
def execPersistentSaveDone (s : State) : Out :=
  .next (s.live (fun s => s.onCoreClock (fun s => s.persistDone)))

/-- HOME_WRITE (R349). -/
def execHomeWrite (s : State) : Out :=
  .next (s.live (fun s => s.homeLater))

/-- COLD (R363). -/
def execCold (straps : Word) (s : State) : Out :=
  .next (s.cold straps)

/-- COLD_RST_N_ASSERTED (R58). -/
def execColdRstNAsserted (s : State) : Out :=
  .next (s.coldAssert)

/-- WARM (R364). -/
def execWarm (s : State) : Out :=
  .next (if s.boot.warmHeld then s else s.warm)

/-- WARM_RST_N_DEASSERTED (R364). -/
def execWarmRstNDeasserted (s : State) : Out :=
  .next (s.warmEnd)

/-- WARM_DEPOT_WAIT_END (R364). -/
def execWarmDepotWaitEnd (s : State) : Out :=
  .next (s.live (fun s => s.depWaitEnd))

/-- FABRIC_RST (R365). -/
def execFabricRst (s : State) : Out :=
  .next (s.fabric)

/-- STAGE_READY (R370). -/
def execStageReady (s : State) : Out :=
  .next (s.live (fun s => s.ready))

end Sys2Proof.Machine
end

