-- ==== Sys2Proof/Machine/RingCmds.lean ====
section
/-! DEFINITION. Records and events of the Chetal ring (R193 to R195, R282 to R293). -/

namespace Sys2Proof.Machine

/-- EVENT_RECORD (R193). -/
def execEventRecord (rec : Rec) (s : State) : Out :=
  .next (s.live (fun s => s.rxCaravan chEvent rec (fun s => s.rxEvent .west rec)))

/-- WAYMARK_RECORD (R193). -/
def execWaymarkRecord (rec : Rec) (s : State) : Out :=
  .next (s.live (fun s => s.rxCaravan chWaymark rec (fun s => s.rxWaymark .west rec)))

/-- SILENT_RECORD (R194). -/
def execSilentRecord (rec : Rec) (s : State) : Out :=
  .next (s.live (fun s => s.rxCaravan chSilent rec (fun s => s.rxSilent .west rec)))

/-- CLOSE_RECORD (R194). -/
def execCloseRecord (rec : Rec) (s : State) : Out :=
  .next (s.live (fun s => s.rxCaravan chClose rec (fun s => s.rxClose .west rec)))

/-- CHECK (R286). -/
def execCheck (port : ChlPort) (rec : Rec) (s : State) : Out :=
  .next (s.live (fun s => s.rxCtrl 1 port rec (fun s => s.rxCheck port rec)))

/-- CHECK_SEND (R286). -/
def execCheckSend (port : ChlPort) (s : State) : Out :=
  .next (s.live (fun s => s.onRingClk (fun s => s.checkSend port)))

/-- BEACON (R289). -/
def execBeacon (rec : Rec) (s : State) : Out :=
  .next (s.live (fun s => if isCtrl rec 2 then s.listenTo .west rec (fun s => s.rxBeacon .west rec) else s))

/-- BEACON_SEND (R287). -/
def execBeaconSend (s : State) : Out :=
  .next (s.live (fun s => s.onRingClk (fun s => s.beaconSend)))

/-- PROBE (R292). -/
def execProbe (rec : Rec) (s : State) : Out :=
  .next (s.live (fun s => s.rxCtrl 3 .west rec (fun s => s.rxProbe .west rec)))

/-- PROBE_SEND (R287). -/
def execProbeSend (s : State) : Out :=
  .next (s.live (fun s => s.onRingClk (fun s => s.probeSend)))

/-- PAUSE (R285). -/
def execPause (port : ChlPort) (rec : Rec) (s : State) : Out :=
  .next (s.live (fun s => s.rxCtrl 4 port rec (fun s => s.rxPause port rec)))

/-- RING_RESUME (R285). -/
def execRingResume (port : ChlPort) (rec : Rec) (s : State) : Out :=
  .next (s.live (fun s => s.rxCtrl 5 port rec (fun s => s.rxResume port rec)))

/-- TX_QUEUE_MARK (R285). -/
def execTxQueueMark (port : ChlPort) (s : State) : Out :=
  .next (s.live (fun s => s.onRingClk (fun s => s.txMark port)))

/-- WINDOW (R290). -/
def execWindow (rec : Rec) (s : State) : Out :=
  .next (s.live (fun s => if isCtrl rec 6 then s.listenTo .west rec (fun s => s.rxWindow .west rec) else s))

/-- WINDOW_SEND (R290). -/
def execWindowSend (s : State) : Out :=
  .next (s.live (fun s => s.onRingClk (fun s => s.windowSend)))

/-- WINDOW_OPEN (R290). -/
def execWindowOpen (s : State) : Out :=
  .next (s.live (fun s => s.onRingClk (fun s => s.windowOpen)))

/-- JOIN_TIMEOUT (R290). -/
def execJoinTimeout (s : State) : Out :=
  .next (s.live (fun s => s.onRingClk (fun s => s.joinTimeout)))

/-- WINDOW_END (R290). -/
def execWindowEnd (s : State) : Out :=
  .next (s.live (fun s => s.onRingClk (fun s => s.windowEnd)))

/-- JOINED (R290). -/
def execJoined (rec : Rec) (s : State) : Out :=
  .next (s.live (fun s => s.rxCtrl 7 .west rec (fun s => s.rxJoined .west rec)))

/-- LEAVE_REQ (R290). -/
def execLeaveReq (rec : Rec) (s : State) : Out :=
  .next (s.live (fun s => s.rxCtrl 8 .west rec (fun s => s.rxWant .west rec)))

/-- LEAVE (R292). -/
def execLeave (rec : Rec) (s : State) : Out :=
  .next (s.live (fun s => s.rxCtrl 9 .west rec (fun s => s.rxLeave .west rec)))

/-- LOSS (R286). -/
def execLoss (port : ChlPort) (rec : Rec) (s : State) : Out :=
  .next (s.live (fun s => s.rxCtrl 10 port rec (fun s => s.rxLoss port rec)))

/-- WAKE_REQ (R290). -/
def execWakeReq (rec : Rec) (s : State) : Out :=
  .next (s.live (fun s => s.rxCtrl 12 .west rec (fun s => s.rxWant .west rec)))

/-- HOP_LOSS (R286). -/
def execHopLoss (port : ChlPort) (lanes : BitVec 4) (s : State) : Out :=
  .next (if s.inReset then s.lanesRaw port lanes else s.lanesTo port lanes)

/-- LANE_LOCK (R290). -/
def execLaneLock (port : ChlPort) (s : State) : Out :=
  .next (if s.inReset then s.lanesRaw port 15 else s.laneLock port)

/-- FOUNDING (R291). -/
def execFounding (s : State) : Out :=
  .next (s.live (fun s => s.onRingClk (fun s => s.founding)))

/-- FOUNDING_TIMEOUT (R291). -/
def execFoundingTimeout (s : State) : Out :=
  .next (s.live (fun s => s.onRingClk (fun s => s.foundingTimeout)))

/-- FOUNDING_JOINED (R291). -/
def execFoundingJoined (s : State) : Out :=
  .next (s.live (fun s => s.onRingClk (fun s => s.foundingJoined)))

/-- BEACON_MISS (R292). -/
def execBeaconMiss (s : State) : Out :=
  .next (s.live (fun s => s.onRingClk (fun s => s.beaconMiss)))

/-- CHL_LEAVE (R290). -/
def execChlLeave (p : Port) (s : State) : Out :=
  .next (s.live (fun s => s.changeGlob p .CHL_CTRL 0 [(F.CHL_CTRL_LEAVE, 1)]))

/-- CHL_EN_WRITE (R288). -/
def execChlEnWrite (p : Port) (v : Bool) (s : State) : Out :=
  .next (s.live (fun s => s.changeGlob p .CHL_CTRL 0 [(F.CHL_CTRL_EN, bitNat v)]))

/-- RECORD_PASSED_ON (R283). -/
def execRecordPassedOn (port : ChlPort) (rec : Rec) (ecc : Ecc) (s : State) : Out :=
  .next (s.live (fun s => s.passEcc port rec ecc))

/-- RESERVED_CTRL_SUBTYPE (R287). -/
def execReservedCtrlSubtype (port : ChlPort) (rec : Rec) (s : State) : Out :=
  .next (s.live (fun s => s.rxReserved port rec))

end Sys2Proof.Machine
end

