-- ==== Sys2Proof/Machine/StateCmds.lean ====
section
/-! DEFINITION. Commands of the Event State Store and its depot traffic (R45, R155 to R175). -/

namespace Sys2Proof.Machine

/-- STATE_MISS_FILL (R167). -/
def execStateMissFill (line : BitVec 21) (poison : Bool) (ecc : Ecc) (s : State) : Out :=
  .next (s.live (fun s => s.onCoreClock (fun s => s.fill line.toNat poison ecc)))

/-- VICTIM_WRITEBACK (R169). -/
def execVictimWriteback (s : State) : Out :=
  .next (s.live (fun s => s.onCoreClock (fun s => s.writeVictim)))

/-- DEP_RESPONSE (R45): a response is accepted whatever the clocks do, and under WARM (R364, R369). -/
def execDepResponse (data : Bool) (tag : BitVec 10) (poison : Bool) (ecc : Ecc) (s : State) : Out :=
  .next (if s.boot.held then s else s.depAnswer data tag.toNat poison ecc)

/-- SST_INIT_DONE (R157). -/
def execSstInitDone (s : State) : Out :=
  .next (s.live (fun s => s.onCoreClock (fun s => s.backingInit)))

/-- SCRUB (R173). -/
def execScrub (ecc : Ecc) (s : State) : Out :=
  .next (s.live (fun s => s.onCoreClock (fun s => s.scrubLine ecc)))

/-- FLUSH (R170). -/
def execFlush (p : Port) (s : State) : Out :=
  .next (s.live (fun s => s.changeGlob p .SST_CTRL 0 [(F.SST_CTRL_FLUSH, 1)]))

/-- READ_ENTRY (R165). -/
def execReadEntry (p : Port) (d : BitVec 12) (eid : BitVec 24) (ecc : Ecc) (s : State) : Out :=
  .next (s.live (fun s => s.cmdDomEcc p .SST_RTCMD d.toNat
    [(F.SST_RTCMD_GO, 1), (F.SST_RTCMD_OP, 1), (F.SST_RTCMD_EID, eid.toNat)] ecc))

/-- SET_EN (R161). -/
def execSetEn (p : Port) (d : BitVec 12) (eid : BitVec 24) (ecc : Ecc) (s : State) : Out :=
  .next (s.live (fun s => s.cmdDomEcc p .SST_RTCMD d.toNat
    [(F.SST_RTCMD_GO, 1), (F.SST_RTCMD_OP, 2), (F.SST_RTCMD_EID, eid.toNat)] ecc))

/-- CLEAR_EN (R161). -/
def execClearEn (p : Port) (d : BitVec 12) (eid : BitVec 24) (ecc : Ecc) (s : State) : Out :=
  .next (s.live (fun s => s.cmdDomEcc p .SST_RTCMD d.toNat
    [(F.SST_RTCMD_GO, 1), (F.SST_RTCMD_OP, 3), (F.SST_RTCMD_EID, eid.toNat)] ecc))

/-- SET_MASK (R161). -/
def execSetMask (p : Port) (d : BitVec 12) (eid : BitVec 24) (ecc : Ecc) (s : State) : Out :=
  .next (s.live (fun s => s.cmdDomEcc p .SST_RTCMD d.toNat
    [(F.SST_RTCMD_GO, 1), (F.SST_RTCMD_OP, 4), (F.SST_RTCMD_EID, eid.toNat)] ecc))

/-- CLEAR_MASK (R161). -/
def execClearMask (p : Port) (d : BitVec 12) (eid : BitVec 24) (ecc : Ecc) (s : State) : Out :=
  .next (s.live (fun s => s.cmdDomEcc p .SST_RTCMD d.toNat
    [(F.SST_RTCMD_GO, 1), (F.SST_RTCMD_OP, 5), (F.SST_RTCMD_EID, eid.toNat)] ecc))

/-- SST_CFG_WRITE (R165). -/
def execSstCfgWrite (p : Port) (d : BitVec 12) (eid : BitVec 24) (ecc : Ecc) (s : State) : Out :=
  .next (s.live (fun s => s.cmdDomEcc p .SST_CFGCMD d.toNat
    [(F.SST_CFGCMD_GO, 1), (F.SST_CFGCMD_OP, 1), (F.SST_CFGCMD_EID, eid.toNat)] ecc))

/-- CLEAR_STATE (R165). -/
def execClearState (p : Port) (d : BitVec 12) (eid : BitVec 24) (ecc : Ecc) (s : State) : Out :=
  .next (s.live (fun s => s.cmdDomEcc p .SST_CFGCMD d.toNat
    [(F.SST_CFGCMD_GO, 1), (F.SST_CFGCMD_OP, 2), (F.SST_CFGCMD_EID, eid.toNat)] ecc))

/-- CLEAR_POISON (R172). -/
def execClearPoison (p : Port) (d : BitVec 12) (eid : BitVec 24) (ecc : Ecc) (s : State) : Out :=
  .next (s.live (fun s => s.cmdDomEcc p .SST_CFGCMD d.toNat
    [(F.SST_CFGCMD_GO, 1), (F.SST_CFGCMD_OP, 3), (F.SST_CFGCMD_EID, eid.toNat)] ecc))

end Sys2Proof.Machine
end

