-- ==== Sys2Proof/Machine/TandemCmds.lean ====
section
/-! DEFINITION. Records and events of a Tandem pair, and PEER commands (R294 to R302). -/

namespace Sys2Proof.Machine

/-- TANDEM_STATE (R296). -/
def execTandemState (rec : Rec) (s : State) : Out :=
  .next (s.live (fun s => s.rxTandem 1 rec))

/-- TANDEM_DELIV (R296). -/
def execTandemDeliv (rec : Rec) (s : State) : Out :=
  .next (s.live (fun s => s.rxTandem 2 rec))

/-- TANDEM_CFG (R296). -/
def execTandemCfg (rec : Rec) (s : State) : Out :=
  .next (s.live (fun s => s.rxTandem 3 rec))

/-- TANDEM_DOORBELL (R295). -/
def execTandemDoorbell (rec : Rec) (s : State) : Out :=
  .next (s.live (fun s => s.rxTandem 4 rec))

/-- TANDEM_ACK (R297). -/
def execTandemAck (rec : Rec) (s : State) : Out :=
  .next (s.live (fun s => s.rxTandem 5 rec))

/-- HEARTBEAT (R296). -/
def execHeartbeat (rec : Rec) (s : State) : Out :=
  .next (s.live (fun s => s.rxTandem 6 rec))

/-- HELLO (R294). -/
def execHello (rec : Rec) (s : State) : Out :=
  .next (s.live (fun s => s.rxTandem 7 rec))

/-- DIGEST (R301). -/
def execDigest (rec : Rec) (s : State) : Out :=
  .next (s.live (fun s => s.rxTandem 8 rec))

/-- BULK (R300). -/
def execBulk (rec : Rec) (s : State) : Out :=
  .next (s.live (fun s => s.rxTandem 9 rec))

/-- BULK_END (R300). -/
def execBulkEnd (rec : Rec) (s : State) : Out :=
  .next (s.live (fun s => s.rxTandem 10 rec))

/-- HANDOVER (R298). -/
def execHandover (rec : Rec) (s : State) : Out :=
  .next (s.live (fun s => s.rxTandem 11 rec))

/-- PEER_REQUEST (R302). -/
def execPeerRequest (rec : Rec) (s : State) : Out :=
  .next (s.live (fun s => s.rxPeer false rec))

/-- PEER_RESPONSE (R302). -/
def execPeerResponse (rec : Rec) (s : State) : Out :=
  .next (s.live (fun s => s.rxPeer true rec))

/-- TDM_PEER_CMD (R302). -/
def execTdmPeerCmd (p : Port) (wr : Bool) (off : BitVec 27) (s : State) : Out :=
  .next (s.live (fun s => s.cmdGlob p .TDM_PEER_CMD 0
    [(F.TDM_PEER_CMD_GO, 1), (F.TDM_PEER_CMD_WR, bitNat wr), (F.TDM_PEER_CMD_OFFSET, off.toNat)]))

/-- PEER_TIMEOUT (R302). -/
def execPeerTimeout (s : State) : Out :=
  .next (s.live (fun s => s.peerTimeout))

/-- HEARTBEAT_SEND (R296). -/
def execHeartbeatSend (s : State) : Out :=
  .next (s.live (fun s => s.onRingClk (fun s => s.heartbeatSend)))

/-- HELLO_SEND (R296). -/
def execHelloSend (s : State) : Out :=
  .next (s.live (fun s => s.onRingClk (fun s => s.helloSend)))

/-- ACK_SEND (R297). -/
def execAckSend (s : State) : Out :=
  .next (s.live (fun s => s.onRingClk (fun s => s.ackSend)))

/-- PRIMARY_LOST (R298). -/
def execPrimaryLost (s : State) : Out :=
  .next (s.live (fun s => s.onRingClk (fun s => s.primaryLost)))

/-- SWITCH (R298). -/
def execSwitch (p : Port) (s : State) : Out :=
  .next (s.live (fun s => s.cmdGlob p .TDM_CMD 0 [(F.TDM_CMD_SWITCH, 1)]))

end Sys2Proof.Machine
end

