-- ==== Sys2Proof/Machine/TelemetryCmds.lean ====
section
/-! DEFINITION. Commands of the time base, telemetry and error reporting (R54, R376 to R394, R412). -/

namespace Sys2Proof.Machine

/-- FT_TOGGLE (R54). -/
def execFtToggle (ft : BitVec 64) (s : State) : Out :=
  .next (if s.boot.held then s else s.ftToggleRun ft.toNat)

/-- HOLDOVER (R54). -/
def execHoldover (s : State) : Out :=
  .next (if s.boot.held then s else s.holdover)

/-- SNAP (R383). -/
def execSnap (p : Port) (s : State) : Out :=
  .next (s.live (fun s => s.changeGlob p .TEL_CTRL 0 [(F.TEL_CTRL_SNAP, 1)]))

/-- SNAP_CLR (R383). -/
def execSnapClr (p : Port) (s : State) : Out :=
  .next (s.live (fun s => s.changeGlob p .TEL_CTRL 0 [(F.TEL_CTRL_SNAP_CLR, 1)]))

/-- CLR_ALL (R384). -/
def execClrAll (p : Port) (s : State) : Out :=
  .next (s.live (fun s => s.changeGlob p .TEL_CTRL 0 [(F.TEL_CTRL_CLR_ALL, 1)]))

/-- BW_CLR (R394). -/
def execBwClr (p : Port) (s : State) : Out :=
  .next (s.live (fun s => s.changeGlob p .TEL_CTRL 0 [(F.TEL_CTRL_BW_CLR, 1)]))

/-- TEL_CNT_WRITE (R381). -/
def execTelCntWrite (p : Port) (index : BitVec 24) (s : State) : Out :=
  .next (s.live (fun s => s.cmdGlob p .TEL_CNT_CMD 0
    [(F.TEL_CNT_CMD_GO, 1), (F.TEL_CNT_CMD_OP, 1), (F.TEL_CNT_CMD_INDEX, index.toNat)]))

/-- TEL_CNT_CLEAR_OVF (R381). -/
def execTelCntClearOvf (p : Port) (index : BitVec 24) (s : State) : Out :=
  .next (s.live (fun s => s.cmdGlob p .TEL_CNT_CMD 0
    [(F.TEL_CNT_CMD_GO, 1), (F.TEL_CNT_CMD_OP, 2), (F.TEL_CNT_CMD_INDEX, index.toNat)]))

/-- TELEMETRY_WINDOW_END (R385). -/
def execTelemetryWindowEnd (ecc : Ecc) (s : State) : Out :=
  .next (s.live (fun s => s.onCoreClock (fun s => (s.counterEcc ecc).winClose)))

/-- LEVEL_SAMPLE (R387). -/
def execLevelSample (s : State) : Out :=
  .next (s.live (fun s => s.onCoreClock (fun s => s.levelSample)))

/-- PROBE_CFG_WRITE (R389). -/
def execProbeCfgWrite (p : Port) (probe : BitVec 4) (base : Bool) (data : Word) (s : State) : Out :=
  .next (s.live (fun s => s.writeGlob p (if base then .TEL_H_BASE else .TEL_H_CFG) probe.toNat data))

/-- SAMPLER_RECORD (R391). -/
def execSamplerRecord (s : State) : Out :=
  .next (s.live (fun s => s.onCoreClock (fun s => s.samplerRecord)))

/-- ERR_PEND_READ (R412). -/
def execErrPendRead (p : Port) (s : State) : Out :=
  .next (s.live (fun s => s.readGlob p .ERR_PEND 0))

end Sys2Proof.Machine
end

