-- ==== Sys2Proof/Machine/Dispatch.lean ====
section
/-! DEFINITION. One arm per command: its meaning, on everything but the queue. -/

namespace Sys2Proof.Machine

/-- The effect of one command. -/
def exec (i : Instr) (s : State) : Host.Outcome State Fault Refusal :=
  match i with
  | .ingressBeat data => Sys2Proof.Machine.execIngressBeat data s
  | .laneEntry ecc => Sys2Proof.Machine.execLaneEntry ecc s
  | .ingrCredRet => Sys2Proof.Machine.execIngrCredRet s
  | .eventWindowWrite lane ecc => Sys2Proof.Machine.execEventWindowWrite lane ecc s
  | .mapReadReturn tag poison ecc => Sys2Proof.Machine.execMapReadReturn tag poison ecc s
  | .intxAssert ecc => Sys2Proof.Machine.execIntxAssert ecc s
  | .intxDeassert ecc => Sys2Proof.Machine.execIntxDeassert ecc s
  | .lineCapture line narrow => Sys2Proof.Machine.execLineCapture line narrow s
  | .lineLevelChange line level => Sys2Proof.Machine.execLineLevelChange line level s
  | .lineScan => Sys2Proof.Machine.execLineScan s
  | .stateMissFill line poison ecc => Sys2Proof.Machine.execStateMissFill line poison ecc s
  | .victimWriteback => Sys2Proof.Machine.execVictimWriteback s
  | .depResponse data tag poison ecc => Sys2Proof.Machine.execDepResponse data tag poison ecc s
  | .sstInitDone => Sys2Proof.Machine.execSstInitDone s
  | .scrub ecc => Sys2Proof.Machine.execScrub ecc s
  | .flush p => Sys2Proof.Machine.execFlush p s
  | .readEntry p d eid ecc => Sys2Proof.Machine.execReadEntry p d eid ecc s
  | .setEn p d eid ecc => Sys2Proof.Machine.execSetEn p d eid ecc s
  | .clearEn p d eid ecc => Sys2Proof.Machine.execClearEn p d eid ecc s
  | .setMask p d eid ecc => Sys2Proof.Machine.execSetMask p d eid ecc s
  | .clearMask p d eid ecc => Sys2Proof.Machine.execClearMask p d eid ecc s
  | .sstCfgWrite p d eid ecc => Sys2Proof.Machine.execSstCfgWrite p d eid ecc s
  | .clearState p d eid ecc => Sys2Proof.Machine.execClearState p d eid ecc s
  | .clearPoison p d eid ecc => Sys2Proof.Machine.execClearPoison p d eid ecc s
  | .waymarkMark lane ecc => Sys2Proof.Machine.execWaymarkMark lane ecc s
  | .waymarkQuiet lane ecc => Sys2Proof.Machine.execWaymarkQuiet lane ecc s
  | .waymarkResume lane ecc => Sys2Proof.Machine.execWaymarkResume lane ecc s
  | .silence p ord => Sys2Proof.Machine.execSilence p ord s
  | .holdClockStart d => Sys2Proof.Machine.execHoldClockStart d s
  | .overdue d => Sys2Proof.Machine.execOverdue d s
  | .straggler d => Sys2Proof.Machine.execStraggler d s
  | .release ecc => Sys2Proof.Machine.execRelease ecc s
  | .releaseRetry ecc => Sys2Proof.Machine.execReleaseRetry ecc s
  | .waitingAdmission ecc => Sys2Proof.Machine.execWaitingAdmission ecc s
  | .handOver ecc => Sys2Proof.Machine.execHandOver ecc s
  | .rteTgtRead p d target => Sys2Proof.Machine.execRteTgtRead p d target s
  | .rteTgtWrite p d target => Sys2Proof.Machine.execRteTgtWrite p d target s
  | .refillTick ecc => Sys2Proof.Machine.execRefillTick ecc s
  | .commitGate p g => Sys2Proof.Machine.execCommitGate p g s
  | .pendingListSwitch g => Sys2Proof.Machine.execPendingListSwitch g s
  | .gateOpening g ecc => Sys2Proof.Machine.execGateOpening g ecc s
  | .parkedReturn ecc => Sys2Proof.Machine.execParkedReturn ecc s
  | .egressAck tag st => Sys2Proof.Machine.execEgressAck tag st s
  | .resume p hport => Sys2Proof.Machine.execResume p hport s
  | .rstptr p target => Sys2Proof.Machine.execRstptr p target s
  | .complete lane ecc => Sys2Proof.Machine.execComplete lane ecc s
  | .completeAny lane ecc => Sys2Proof.Machine.execCompleteAny lane ecc s
  | .consume lane ecc => Sys2Proof.Machine.execConsume lane ecc s
  | .doorbellReservedOp lane ecc => Sys2Proof.Machine.execDoorbellReservedOp lane ecc s
  | .cmpDbcmdComplete p d ecc => Sys2Proof.Machine.execCmpDbcmdComplete p d ecc s
  | .cmpDbcmdCompleteAny p d ecc => Sys2Proof.Machine.execCmpDbcmdCompleteAny p d ecc s
  | .cmpDbcmdConsume p d fring target => Sys2Proof.Machine.execCmpDbcmdConsume p d fring target s
  | .cmpForce p eid ecc => Sys2Proof.Machine.execCmpForce p eid ecc s
  | .redeliveryTimeout eid => Sys2Proof.Machine.execRedeliveryTimeout eid s
  | .lostRetry => Sys2Proof.Machine.execLostRetry s
  | .faultDelivery => Sys2Proof.Machine.execFaultDelivery s
  | .vfmVfStatusRead p d => Sys2Proof.Machine.execVfmVfStatusRead p d s
  | .journalLineTimeout d => Sys2Proof.Machine.execJournalLineTimeout d s
  | .journalLineWrite ecc => Sys2Proof.Machine.execJournalLineWrite ecc s
  | .wayFlush p d => Sys2Proof.Machine.execWayFlush p d s
  | .newseg p d => Sys2Proof.Machine.execNewseg p d s
  | .wayArchCommit p d lo => Sys2Proof.Machine.execWayArchCommit p d lo s
  | .waybillEnable p d => Sys2Proof.Machine.execWaybillEnable p d s
  | .replayRecord d => Sys2Proof.Machine.execReplayRecord d s
  | .stop p d => Sys2Proof.Machine.execStop p d s
  | .rplModeClear p d => Sys2Proof.Machine.execRplModeClear p d s
  | .domainEnable p d => Sys2Proof.Machine.execDomainEnable p d s
  | .domainDisable p d => Sys2Proof.Machine.execDomainDisable p d s
  | .mhold p d v => Sys2Proof.Machine.execMhold p d v s
  | .thold p d v => Sys2Proof.Machine.execThold p d v s
  | .freeze p d v => Sys2Proof.Machine.execFreeze p d v s
  | .flr fn => Sys2Proof.Machine.execFlr fn s
  | .domainReset p d => Sys2Proof.Machine.execDomainReset p d s
  | .resetWalkEnd d => Sys2Proof.Machine.execResetWalkEnd d s
  | .save p d => Sys2Proof.Machine.execSave p d s
  | .saveDone d => Sys2Proof.Machine.execSaveDone d s
  | .restore p d => Sys2Proof.Machine.execRestore p d s
  | .unfence p d => Sys2Proof.Machine.execUnfence p d s
  | .unsave p d => Sys2Proof.Machine.execUnsave p d s
  | .depotReadLine p => Sys2Proof.Machine.execDepotReadLine p s
  | .depotWriteLine p => Sys2Proof.Machine.execDepotWriteLine p s
  | .shareWrite p d rank => Sys2Proof.Machine.execShareWrite p d rank s
  | .eventRecord rec => Sys2Proof.Machine.execEventRecord rec s
  | .waymarkRecord rec => Sys2Proof.Machine.execWaymarkRecord rec s
  | .silentRecord rec => Sys2Proof.Machine.execSilentRecord rec s
  | .closeRecord rec => Sys2Proof.Machine.execCloseRecord rec s
  | .tandemState rec => Sys2Proof.Machine.execTandemState rec s
  | .tandemDeliv rec => Sys2Proof.Machine.execTandemDeliv rec s
  | .tandemCfg rec => Sys2Proof.Machine.execTandemCfg rec s
  | .tandemDoorbell rec => Sys2Proof.Machine.execTandemDoorbell rec s
  | .tandemAck rec => Sys2Proof.Machine.execTandemAck rec s
  | .heartbeat rec => Sys2Proof.Machine.execHeartbeat rec s
  | .hello rec => Sys2Proof.Machine.execHello rec s
  | .digest rec => Sys2Proof.Machine.execDigest rec s
  | .bulk rec => Sys2Proof.Machine.execBulk rec s
  | .bulkEnd rec => Sys2Proof.Machine.execBulkEnd rec s
  | .handover rec => Sys2Proof.Machine.execHandover rec s
  | .check port rec => Sys2Proof.Machine.execCheck port rec s
  | .checkSend port => Sys2Proof.Machine.execCheckSend port s
  | .beacon rec => Sys2Proof.Machine.execBeacon rec s
  | .beaconSend => Sys2Proof.Machine.execBeaconSend s
  | .probe rec => Sys2Proof.Machine.execProbe rec s
  | .probeSend => Sys2Proof.Machine.execProbeSend s
  | .pause port rec => Sys2Proof.Machine.execPause port rec s
  | .ringResume port rec => Sys2Proof.Machine.execRingResume port rec s
  | .txQueueMark port => Sys2Proof.Machine.execTxQueueMark port s
  | .window rec => Sys2Proof.Machine.execWindow rec s
  | .windowSend => Sys2Proof.Machine.execWindowSend s
  | .windowOpen => Sys2Proof.Machine.execWindowOpen s
  | .joinTimeout => Sys2Proof.Machine.execJoinTimeout s
  | .windowEnd => Sys2Proof.Machine.execWindowEnd s
  | .joined rec => Sys2Proof.Machine.execJoined rec s
  | .leaveReq rec => Sys2Proof.Machine.execLeaveReq rec s
  | .leave rec => Sys2Proof.Machine.execLeave rec s
  | .loss port rec => Sys2Proof.Machine.execLoss port rec s
  | .wakeReq rec => Sys2Proof.Machine.execWakeReq rec s
  | .peerRequest rec => Sys2Proof.Machine.execPeerRequest rec s
  | .peerResponse rec => Sys2Proof.Machine.execPeerResponse rec s
  | .tdmPeerCmd p wr off => Sys2Proof.Machine.execTdmPeerCmd p wr off s
  | .peerTimeout => Sys2Proof.Machine.execPeerTimeout s
  | .hopLoss port lanes => Sys2Proof.Machine.execHopLoss port lanes s
  | .founding => Sys2Proof.Machine.execFounding s
  | .foundingTimeout => Sys2Proof.Machine.execFoundingTimeout s
  | .foundingJoined => Sys2Proof.Machine.execFoundingJoined s
  | .beaconMiss => Sys2Proof.Machine.execBeaconMiss s
  | .heartbeatSend => Sys2Proof.Machine.execHeartbeatSend s
  | .helloSend => Sys2Proof.Machine.execHelloSend s
  | .ackSend => Sys2Proof.Machine.execAckSend s
  | .primaryLost => Sys2Proof.Machine.execPrimaryLost s
  | .switch p => Sys2Proof.Machine.execSwitch p s
  | .chlLeave p => Sys2Proof.Machine.execChlLeave p s
  | .chlEnWrite p v => Sys2Proof.Machine.execChlEnWrite p v s
  | .sleep p => Sys2Proof.Machine.execSleep p s
  | .entryDecision => Sys2Proof.Machine.execEntryDecision s
  | .drainEnd => Sys2Proof.Machine.execDrainEnd s
  | .drainTimeout => Sys2Proof.Machine.execDrainTimeout s
  | .pswAck pd v => Sys2Proof.Machine.execPswAck pd v s
  | .pswTimeout pd => Sys2Proof.Machine.execPswTimeout pd s
  | .wake code detail => Sys2Proof.Machine.execWake code detail s
  | .timerWake => Sys2Proof.Machine.execTimerWake s
  | .sigdetWake port quiet => Sys2Proof.Machine.execSigdetWake port quiet s
  | .smbusAddressMatch addr => Sys2Proof.Machine.execSmbusAddressMatch addr s
  | .offAreaRestoreDone => Sys2Proof.Machine.execOffAreaRestoreDone s
  | .vote p d v => Sys2Proof.Machine.execVote p d v s
  | .voteSb p v => Sys2Proof.Machine.execVoteSb p v s
  | .perfReq p req => Sys2Proof.Machine.execPerfReq p req s
  | .avsResponse answer => Sys2Proof.Machine.execAvsResponse answer s
  | .avsRetry => Sys2Proof.Machine.execAvsRetry s
  | .settleEnd => Sys2Proof.Machine.execSettleEnd s
  | .toPll p => Sys2Proof.Machine.execToPll p s
  | .toOsc p => Sys2Proof.Machine.execToOsc p s
  | .pfail hu => Sys2Proof.Machine.execPfail hu s
  | .savSave p hu => Sys2Proof.Machine.execSavSave p hu s
  | .periodic hu => Sys2Proof.Machine.execPeriodic hu s
  | .persistentSaveDone => Sys2Proof.Machine.execPersistentSaveDone s
  | .homeWrite => Sys2Proof.Machine.execHomeWrite s
  | .cold straps => Sys2Proof.Machine.execCold straps s
  | .warm => Sys2Proof.Machine.execWarm s
  | .warmDepotWaitEnd => Sys2Proof.Machine.execWarmDepotWaitEnd s
  | .fabricRst => Sys2Proof.Machine.execFabricRst s
  | .stageReady => Sys2Proof.Machine.execStageReady s
  | .imageChunkSideband frame bytes => Sys2Proof.Machine.execImageChunkSideband frame bytes s
  | .imageChunkMailbox p data => Sys2Proof.Machine.execImageChunkMailbox p data s
  | .timeout => Sys2Proof.Machine.execTimeout s
  | .absent p => Sys2Proof.Machine.execAbsent p s
  | .arbitrationDone => Sys2Proof.Machine.execArbitrationDone s
  | .imageApplyDone => Sys2Proof.Machine.execImageApplyDone s
  | .reload p => Sys2Proof.Machine.execReload p s
  | .alertResponse => Sys2Proof.Machine.execAlertResponse s
  | .sbRegisterRead frame off => Sys2Proof.Machine.execSbRegisterRead frame off s
  | .sbRegisterWrite frame off data => Sys2Proof.Machine.execSbRegisterWrite frame off data s
  | .sbStatusRead frame => Sys2Proof.Machine.execSbStatusRead frame s
  | .winData p wr data be => Sys2Proof.Machine.execWinData p wr data be s
  | .dormantAccessWake p off => Sys2Proof.Machine.execDormantAccessWake p off s
  | .registerWrite p space off data be => Sys2Proof.Machine.execRegisterWrite p space off data be s
  | .readClear p space off => Sys2Proof.Machine.execReadClear p space off s
  | .wideCapture p kind index => Sys2Proof.Machine.execWideCapture p kind index s
  | .mgtAuthWrite p data => Sys2Proof.Machine.execMgtAuthWrite p data s
  | .regLockWrite p data => Sys2Proof.Machine.execRegLockWrite p data s
  | .commit p => Sys2Proof.Machine.execCommit p s
  | .unfreeze p => Sys2Proof.Machine.execUnfreeze p s
  | .walkerPassEnd bad => Sys2Proof.Machine.execWalkerPassEnd bad s
  | .srcReadSource p index => Sys2Proof.Machine.execSrcReadSource p index s
  | .srcWriteSource p index => Sys2Proof.Machine.execSrcWriteSource p index s
  | .srcReadTranslation p index => Sys2Proof.Machine.execSrcReadTranslation p index s
  | .srcWriteTranslation p index => Sys2Proof.Machine.execSrcWriteTranslation p index s
  | .linCfgWrite p line data => Sys2Proof.Machine.execLinCfgWrite p line data s
  | .meterWrite p m r data => Sys2Proof.Machine.execMeterWrite p m r data s
  | .ftToggle ft => Sys2Proof.Machine.execFtToggle ft s
  | .holdover => Sys2Proof.Machine.execHoldover s
  | .snap p => Sys2Proof.Machine.execSnap p s
  | .snapClr p => Sys2Proof.Machine.execSnapClr p s
  | .clrAll p => Sys2Proof.Machine.execClrAll p s
  | .bwClr p => Sys2Proof.Machine.execBwClr p s
  | .telCntWrite p index => Sys2Proof.Machine.execTelCntWrite p index s
  | .telCntClearOvf p index => Sys2Proof.Machine.execTelCntClearOvf p index s
  | .telemetryWindowEnd ecc => Sys2Proof.Machine.execTelemetryWindowEnd ecc s
  | .levelSample => Sys2Proof.Machine.execLevelSample s
  | .probeCfgWrite p probe base data => Sys2Proof.Machine.execProbeCfgWrite p probe base data s
  | .samplerRecord => Sys2Proof.Machine.execSamplerRecord s
  | .errPendRead p => Sys2Proof.Machine.execErrPendRead p s
  | .debugAccess tap => Sys2Proof.Machine.execDebugAccess tap s
  | .laneLock port => Sys2Proof.Machine.execLaneLock port s
  | .gateCycleStart g => Sys2Proof.Machine.execGateCycleStart g s
  | .egressBeatTaken => Sys2Proof.Machine.execEgressBeatTaken s
  | .saveIntervalEnd => Sys2Proof.Machine.execSaveIntervalEnd s
  | .coldRstNAsserted => Sys2Proof.Machine.execColdRstNAsserted s
  | .warmRstNDeasserted => Sys2Proof.Machine.execWarmRstNDeasserted s
  | .recordPassedOn port rec ecc => Sys2Proof.Machine.execRecordPassedOn port rec ecc s
  | .reservedCtrlSubtype port rec => Sys2Proof.Machine.execReservedCtrlSubtype port rec s

end Sys2Proof.Machine
end

