-- ==== Sys2Proof/Machine/Pins.lean ====
section
/-! DEFINITION. The output pins that follow from the state: the error outputs, start-up, the sideband alert, the ring's
bypass and transmitters, and the power handshakes. -/

namespace Sys2Proof.Machine

/-- The codes of class COR (R406). -/
def corCodes : List Nat := [6, 9, 10, 12, 18, 19, 20, 21, 22]

/-- The codes of class NF (R406). -/
def nfCodes : List Nat := [1, 2, 3, 4, 5, 7, 8, 11, 13, 14, 15, 16, 17, 23, 24, 25]

/-- The codes of class FATAL (R406). -/
def fatalCodes : List Nat := [26, 27]

/-- ERR_PEND AND NOT ERR_MASK holds one of the codes (R411). -/
def State.errShown (s : State) (codes : List Nat) : Bool :=
  codes.any (fun c => (s.reg .ERR_PEND &&& ~~~(s.reg .ERR_MASK)).getLsbD c)

/-- ERR_COR (R411). -/
def State.pinErrCor (s : State) : Bool := s.errShown corCodes

/-- ERR_NONFATAL (R411). -/
def State.pinErrNonfatal (s : State) : Bool := s.errShown nfCodes

/-- ERR_FATAL (R411). -/
def State.pinErrFatal (s : State) : Bool := s.errShown fatalCodes || s.halted

/-- RST_DONE: start-up reached "registers available" (R374). -/
def State.pinRstDone (s : State) : Bool := decide (s.stage = 3)

/-- INGR_READY: the block accepts beats (R39, R40). -/
def State.pinIngrReady (s : State) : Bool := s.intk.ready

/-- SB_ALERT_N: low while IMG_FETCH.REQ is 1 on the sideband path (R89). -/
def State.pinSbAlertN (s : State) : Bool := !(s.bit F.IMG_FETCH_REQ && !s.mailboxPath)

/-- An egress request slot (R42): RO is never set (R243, R245), unlisted bits are 0. -/
def EgrWrite.slot (w : EgrWrite) : BitVec 256 :=
  BitVec.ofNat 256 (w.data.toNat % 2 ^ (32 * w.len) * 2 ^ 128 + w.addr / 4 % 2 ^ 62 * 2 ^ 66 + w.hport % 128 * 2 ^ 59
    + w.tag % 4096 * 2 ^ 47 + w.len % 8 * 2 ^ 44 + bitNat w.ns * 2 ^ 42 + w.wkind % 4 * 2 ^ 40 + w.func % 4096 * 2 ^ 28)

/-- EGR_VALID: a beat is present (R42, R44); a halted block issues none (R410). -/
def State.pinEgrValid (s : State) : Bool := !s.dlv.egr.isEmpty && !s.halted

/-- EGR_DATA: the two oldest writes, slot 0 in the low half; a slot without a write is empty, LEN 0 (R42, R43). -/
def State.pinEgrData (s : State) : BitVec 512 :=
  ((s.dlv.egr[1]?).map EgrWrite.slot).getD 0#256 ++ ((s.dlv.egr[0]?).map EgrWrite.slot).getD 0#256

/-! ### The depot requester (R45, R46): the oldest request that the port has not taken -/

/-- DEP_REQ_VALID. -/
def State.pinDepReqValid (s : State) : Bool := !s.dep.out.isEmpty

/-- DEP_REQ_OP: MemWr. -/
def State.pinDepReqOp (s : State) : Bool := (s.dep.out.head?).any (·.write)

/-- DEP_REQ_ADDR: bits 40:6 of the window offset. -/
def State.pinDepReqAddr (s : State) : BitVec 35 := BitVec.ofNat 35 (((s.dep.out.head?).map (·.line)).getD 0)

/-- DEP_REQ_TAG. -/
def State.pinDepReqTag (s : State) : BitVec 10 := BitVec.ofNat 10 (((s.dep.out.head?).map (·.tag)).getD 0)

/-- DEP_WDATA. -/
def State.pinDepWdata (s : State) : BitVec 512 := ((s.dep.out.head?).map (·.data)).getD 0

/-- DEP_RDATA with the response of a tag: the line as the depot, which State holds, has it. -/
def State.pinDepRdata (s : State) (tag : BitVec 10) : BitVec 512 :=
  match SMap.find s.dep.tags tag.toNat with
  | some t => lineData (s.depBytes (64 * t.line) 64)
  | none => 0

/-! ### Ring and power -/

/-- CHL_BYPASS_N (R56). -/
def State.pinChlBypassN (s : State) : Bool := s.bypassN

/-- CHL_x_TXEN (R288, R293). -/
def State.pinChlTxen (s : State) (p : ChlPort) : Bool := s.txEn p

/-- CHL_x_TXVALID and CHL_x_TXD (R54, R282). -/
def State.pinChlTxvalid (s : State) (p : ChlPort) : Bool := s.txOn && !(s.side p).out.isEmpty

def State.pinChlTxd (s : State) (p : ChlPort) : BitVec 512 := s.txData p

/-- PSW_EN, ISO_EN and RET of a switched domain, by its code (R60). -/
def State.pinPswEn (s : State) (d : Nat) : Bool := (s.psw d).en

def State.pinIsoEn (s : State) (d : Nat) : Bool := (s.psw d).iso

def State.pinRet (s : State) (d : Nat) : Bool := (s.psw d).ret

/-- SB_SCL_PD: SB_SCL is held low until the AO logic has taken over (R50), and after the code byte of a command that
waits for BUSY (R414). -/
def State.pinSbSclPd (s : State) : Bool := s.io.scl.isSome || !s.io.sbQ.isEmpty

/-- SB_SDA_PD: the acknowledgement of the address stands on SB_SDA while SB_SCL is held (DESIGN CHOICE). -/
def State.pinSbSdaPd (s : State) : Bool := s.io.scl.isSome

/-! ### AVSBus (R52, R64) -/

/-- The 3-bit frame CRC of PMBus 1.4 AVSBus, polynomial x^3 + x + 1 (PRESUMED), over `n` bits of `v`, the first one
highest. -/
def crc3 (v : Nat) : Nat → Nat → Nat
  | 0, c => c
  | n + 1, c =>
    let b := (c / 4 + bitNat (v.testBit n)) % 2
    crc3 v n ((c * 2 % 8).xor (b * 3))

/-- The frames that the controller has (R52): Voltage write, Voltage read, Status read. -/
inductive AvsCmd where
  | writeVoltage (mv : Nat)
  | readVoltage
  | readStatus
  deriving DecidableEq, Repr

/-- The frame of a command for a rail: start code, command, group 0, data type, rail, data, CRC (PRESUMED: the layout of
PMBus 1.4). -/
def avsFrame (rail : Nat) (c : AvsCmd) : BitVec 32 :=
  let (cmd, typ, data) := match c with
    | .writeVoltage mv => (0, 0, mv)
    | .readVoltage => (3, 0, 0xFFFF)
    | .readStatus => (3, 14, 0xFFFF)
  let v := ((((1 * 4 + cmd) * 2) * 16 + typ) * 16 + rail) * 65536 + data
  BitVec.ofNat 32 (v * 8 + crc3 v 29 0)

/-- The frame that AVS_MDATA carries, if one is on the bus: the Voltage write of a change (R341). -/
def State.pinAvsFrame (s : State) : Option (BitVec 32) :=
  match s.pwr.change with
  | some c =>
    if c.phase = .frame false then some (avsFrame (s.fld F.REG_STRAPS_AVS_RAIL) (.writeVoltage c.mv))
    else none
  | none => none

end Sys2Proof.Machine
end

