-- ==== Sys2Proof/Safety.lean ====
section
/-! DEFINITION. What counts as a safe run, and the invariant that every step keeps. -/

namespace Sys2Proof.Machine

/-- The step goes on: no fault and no refusal. -/
def Runs (o : Host.Outcome State Fault Refusal) : Prop := ∃ t, o = .next t

/-- A run of `k` steps goes on throughout. -/
def SafeRun (k : Nat) (s : State) : Prop := ∃ t, Host.Core.run Sys2Proof.core k s = .next t

/-- What `State.Sound` says, of the components it speaks of. -/
def SoundParts (floor : Nat) (queue : List Instr) (regs : SMap Word) (mem : List Host.Cell) (backing : SMap Entry)
    (tim : Tim) (pending : List Instr) : Prop :=
  SMap.risingFrom 0 regs = true ∧ SMap.wf 0 mem = true ∧ SMap.wf Entry.init backing = true ∧ tim.ref ≤ tim.ft
    ∧ floor ≤ tim.ft ∧ pending = queue

/-- The register file lists its words with rising keys, the depot and the state backing have their canonical form,
fabric time is not behind the time last loaded and not below `floor`, and the queue of waiting commands is `queue`. -/
def State.Sound (floor : Nat) (queue : List Instr) (s : State) : Prop :=
  SoundParts floor queue s.regs s.dep.mem s.dep.backing s.tim s.pending

/-- The canonical form of memory: addresses strictly rising, no listed byte equal to what an unlisted one reads as. -/
def Memory.wf (m : List Host.Cell) : Bool := SMap.wf 0 m

/-! ### When commands act -/

/-- No reset line is asserted, the path clock runs and the block is not halted (R13, R362, R410). -/
def State.PathUp (s : State) : Prop := s.inReset = false ∧ s.coreOn = true ∧ s.bit F.ERR_STATUS_HALTED = false

/-- No reset line is asserted and CORE is clocked. -/
def State.CoreUp (s : State) : Prop := s.inReset = false ∧ s.coreOn = true

/-- No reset line is asserted and the ring port is clocked. -/
def State.RingUp (s : State) : Prop := s.inReset = false ∧ s.ringClk = true

/-- The member is joined and its ring port is clocked: it takes records of both directions (R284, R288). -/
def State.RingOpen (s : State) : Prop := s.RingUp ∧ s.onRing = true

/-! ### Accesses that are served -/

/-- The last completion of the port is no Unsupported Request. -/
def State.answered (s : State) (p : Port) : State := s.setUr p false

/-- The state in which the access is carried out: an access through WIN_DATA has moved the pointer (R104). -/
def State.begun (s : State) (a : RegAcc) : State :=
  if a.isWin then (s.answered a.port).winNext a.port else s.answered a.port

/-- Where the access goes: one through WIN_DATA to the register at WIN_ADDR of its page (R104). -/
def State.goal (s : State) (a : RegAcc) : RegAcc := (s.answered a.port).aimed a

/-- An access is carried out now: no reset line is asserted, the function answers, nothing of its port or function waits
before it, it need not wait for a wake, and it is no configuration request and no partial write. -/
def State.Carries (s : State) (a : RegAcc) : Prop :=
  s.inReset = false ∧ s.unsupported a.port = false ∧ s.behind a.port = false ∧ s.mustWait a = false
    ∧ a.isConfig = false ∧ a.isPartial = false

/-- An access is served: it is carried out, passes every check of R112 and finds the register at `x`. -/
def State.Serves (s : State) (a : RegAcc) (x : Spot) : Prop :=
  s.Carries a ∧ (s.begun a).accWay (s.goal a) = .ok x

/-- The end of an access, carried out with way `w` and answer `v`: it completes, and one of a switched power domain has
requested the wake (R107). `u` is the state after its effect. -/
def State.ended (s u : State) (a : RegAcc) (w : AccessEnd) (v : Word) : State :=
  let t := u.complete (s.goal a) w v false
  if (s.begun a).inSwitched (s.goal a) w then t.wakeReq 6 (portCode (t.portOf a.port)) else t

/-- The state in which the effect of an accepted write begins: the word is stored and mirrored to a standby. -/
def State.stored (s : State) (a : RegAcc) (x : Spot) : State :=
  ((s.begun a).store x a.data).mirrorWrite (s.begun a) x a.data 0

/-- A write that is served: the register takes it, with what the register does, and the write completes. -/
def State.written (s : State) (a : RegAcc) (x : Spot) : State :=
  let p := (s.begun a).portOf a.port
  s.ended ((s.begun a).acceptWrite x (portData p x.pl.reg a.data) (portCode p) a.ecc) a (.ok x) 0

/-- A read that is served: its effect on the bits that the read clears, and the data to the requester. -/
def State.readDone (s : State) (a : RegAcc) (x : Spot) : State :=
  let p := (s.begun a).portOf a.port
  let v := (s.begun a).shown p x.pl.reg x.i
  s.ended ((s.begun a).readEffect p x.pl.reg x.i v) a (.ok x) v

/-- An access waits for the wake that it requests (R107). -/
def State.waiting (s : State) (a : RegAcc) : State := (s.queueAcc a).wakeReq 6 (portCode (s.portOf a.port))

/-- A command that is a write of one register: its access, the register and replica that lie there, and what the write
does to the state in which the word is stored, given the state before it. -/
structure RegStart where
  acc : RegAcc
  reg : Reg
  idx : Nat
  op : State → State → State

/-- The full write of a register, as a port reaches it. -/
def State.writeAcc (s : State) (p : Port) (r : Reg) (i : Nat) (data : Word) (ecc : Ecc) : RegAcc :=
  s.accessOf p (regAt p r i).1 (regAt p r i).2 true data 15 ecc

/-- A write of a global register; no VF page reaches one (R105). -/
def RegStart.glob (s : State) (p : Port) (r : Reg) (i : Nat) (data : Word) (op : State → State → State)
    (ecc : Ecc := .none) : Option RegStart :=
  if vfPage p then none else some ⟨s.writeAcc p r i data ecc, r, i, op⟩

/-- A write of a register of domain `d`; a VF page reaches only its own (R105). -/
def RegStart.dom (s : State) (p : Port) (r : Reg) (d : Nat) (data : Word) (op : State → State → State)
    (ecc : Ecc := .none) : Option RegStart :=
  if reaches p d then some ⟨s.writeAcc p r d data ecc, r, d, op⟩ else none

/-- A pulse field that the word sets. -/
def pulse (f : Field) (data : Word) (op : State → State) (u : State) : State := if f.get data != 0 then op u else u

/-- The commands that are a write of one register, each with what the write starts. -/
def regStart (s : State) : Instr → Option RegStart
  | .mgtAuthWrite p data => RegStart.glob s p .MGT_AUTH 0 data (fun _ u => u)
  | .regLockWrite p data => RegStart.glob s p .REG_LOCK 0 data (fun _ u => u)
  | .commit p =>
    let data := putAll (s.present .CFG_CTRL 0) [(F.CFG_CTRL_COMMIT, 1)]
    RegStart.glob s p .CFG_CTRL 0 data (fun _ u => pulse F.CFG_CTRL_UNFREEZE data (·.lower F.CFG_STATUS_FROZEN) u.cfgCommit)
  | .unfreeze p =>
    let data := putAll (s.present .CFG_CTRL 0) [(F.CFG_CTRL_UNFREEZE, 1)]
    RegStart.glob s p .CFG_CTRL 0 data (fun _ u => (pulse F.CFG_CTRL_COMMIT data (·.cfgCommit) u).lower F.CFG_STATUS_FROZEN)
  | .srcReadSource p k => RegStart.glob s p .SRC_CMD 0 (putAll 0 [(F.SRC_CMD_GO, 1), (F.SRC_CMD_OP, 1), (F.SRC_CMD_INDEX, k.toNat)]) (fun _ u => u.srcCmd)
  | .srcWriteSource p k => RegStart.glob s p .SRC_CMD 0 (putAll 0 [(F.SRC_CMD_GO, 1), (F.SRC_CMD_OP, 2), (F.SRC_CMD_INDEX, k.toNat)]) (fun _ u => u.srcCmd)
  | .srcReadTranslation p k => RegStart.glob s p .SRC_CMD 0 (putAll 0 [(F.SRC_CMD_GO, 1), (F.SRC_CMD_OP, 3), (F.SRC_CMD_INDEX, k.toNat)]) (fun _ u => u.srcCmd)
  | .srcWriteTranslation p k => RegStart.glob s p .SRC_CMD 0 (putAll 0 [(F.SRC_CMD_GO, 1), (F.SRC_CMD_OP, 4), (F.SRC_CMD_INDEX, k.toNat)]) (fun _ u => u.srcCmd)
  | .linCfgWrite p n data => RegStart.glob s p .LIN_CFG n.toNat data (fun o u => u.lineEnable n.toNat (o.bit F.LIN_CFG_EN n.toNat))
  | .meterWrite p (.src o) r data => RegStart.glob s p (srcMeterReg r) o.toNat data (fun _ u => u)
  | .meterWrite p (.dom d) r data => RegStart.dom s p (domMeterReg r) d.toNat data (fun _ u => u)
  | .flush p => RegStart.glob s p .SST_CTRL 0 (putAll (s.present .SST_CTRL 0) [(F.SST_CTRL_FLUSH, 1)]) (fun _ u => u.flushCache)
  | .readEntry p d e ecc => RegStart.dom s p .SST_RTCMD d.toNat (putAll 0 [(F.SST_RTCMD_GO, 1), (F.SST_RTCMD_OP, 1), (F.SST_RTCMD_EID, e.toNat)]) (fun _ u => u.startRt d.toNat ecc) ecc
  | .setEn p d e ecc => RegStart.dom s p .SST_RTCMD d.toNat (putAll 0 [(F.SST_RTCMD_GO, 1), (F.SST_RTCMD_OP, 2), (F.SST_RTCMD_EID, e.toNat)]) (fun _ u => u.startRt d.toNat ecc) ecc
  | .clearEn p d e ecc => RegStart.dom s p .SST_RTCMD d.toNat (putAll 0 [(F.SST_RTCMD_GO, 1), (F.SST_RTCMD_OP, 3), (F.SST_RTCMD_EID, e.toNat)]) (fun _ u => u.startRt d.toNat ecc) ecc
  | .setMask p d e ecc => RegStart.dom s p .SST_RTCMD d.toNat (putAll 0 [(F.SST_RTCMD_GO, 1), (F.SST_RTCMD_OP, 4), (F.SST_RTCMD_EID, e.toNat)]) (fun _ u => u.startRt d.toNat ecc) ecc
  | .clearMask p d e ecc => RegStart.dom s p .SST_RTCMD d.toNat (putAll 0 [(F.SST_RTCMD_GO, 1), (F.SST_RTCMD_OP, 5), (F.SST_RTCMD_EID, e.toNat)]) (fun _ u => u.startRt d.toNat ecc) ecc
  | .sstCfgWrite p d e ecc => RegStart.dom s p .SST_CFGCMD d.toNat (putAll 0 [(F.SST_CFGCMD_GO, 1), (F.SST_CFGCMD_OP, 1), (F.SST_CFGCMD_EID, e.toNat)]) (fun _ u => u.startCfg d.toNat ecc) ecc
  | .clearState p d e ecc => RegStart.dom s p .SST_CFGCMD d.toNat (putAll 0 [(F.SST_CFGCMD_GO, 1), (F.SST_CFGCMD_OP, 2), (F.SST_CFGCMD_EID, e.toNat)]) (fun _ u => u.startCfg d.toNat ecc) ecc
  | .clearPoison p d e ecc => RegStart.dom s p .SST_CFGCMD d.toNat (putAll 0 [(F.SST_CFGCMD_GO, 1), (F.SST_CFGCMD_OP, 3), (F.SST_CFGCMD_EID, e.toNat)]) (fun _ u => u.startCfg d.toNat ecc) ecc
  | .silence p o => RegStart.glob s p .CVN_SRC_CMD 0 (putAll 0 [(F.CVN_SRC_CMD_GO, 1), (F.CVN_SRC_CMD_OP, 1), (F.CVN_SRC_CMD_ORDINAL, o.toNat)]) (fun _ u => u.startSilence)
  | .rteTgtRead p d t => RegStart.dom s p .RTE_TCMD d.toNat (putAll 0 [(F.RTE_TCMD_GO, 1), (F.RTE_TCMD_OP, 1), (F.RTE_TCMD_TARGET, t.toNat)]) (fun _ u => u.tgtCmd d.toNat)
  | .rteTgtWrite p d t => RegStart.dom s p .RTE_TCMD d.toNat (putAll 0 [(F.RTE_TCMD_GO, 1), (F.RTE_TCMD_OP, 2), (F.RTE_TCMD_TARGET, t.toNat)]) (fun _ u => u.tgtCmd d.toNat)
  | .resume p h => RegStart.glob s p .DLV_HPORT_CMD 0 (putAll 0 [(F.DLV_HPORT_CMD_RESUME, 1), (F.DLV_HPORT_CMD_HPORT, h.toNat)])
      (fun _ u => u.resumePort (u.fld F.DLV_HPORT_CMD_HPORT))
  | .rstptr p t => RegStart.glob s p .DLV_RING_CFG t.toNat (putAll (s.present .DLV_RING_CFG t.toNat) [(F.DLV_RING_CFG_RSTPTR, 1)]) (fun _ u => u.clearPtrs (some t.toNat))
  | .cmpDbcmdComplete p d ecc => RegStart.dom s p .CMP_DBCMD d.toNat (putAll 0 [(F.CMP_DBCMD_GO, 1), (F.CMP_DBCMD_OP, 0)]) (fun _ u => u.startDb d.toNat ecc) ecc
  | .cmpDbcmdCompleteAny p d ecc => RegStart.dom s p .CMP_DBCMD d.toNat (putAll 0 [(F.CMP_DBCMD_GO, 1), (F.CMP_DBCMD_OP, 1)]) (fun _ u => u.startDb d.toNat ecc) ecc
  | .cmpDbcmdConsume p d f t => RegStart.dom s p .CMP_DBCMD d.toNat
      (putAll 0 [(F.CMP_DBCMD_GO, 1), (F.CMP_DBCMD_OP, 2), (F.CMP_DBCMD_FRING, bitNat f), (F.CMP_DBCMD_TARGET, t.toNat)]) (fun _ u => u.startDb d.toNat .none)
  | .cmpForce p e ecc => RegStart.glob s p .CMP_FORCE 0 (putAll 0 [(F.CMP_FORCE_GO, 1), (F.CMP_FORCE_EID, e.toNat)]) (fun _ u => u.startForce ecc) ecc
  | .wayFlush p d => RegStart.dom s p .WAY_CMD d.toNat (putAll 0 [(F.WAY_CMD_FLUSH, 1)]) (fun _ u => u.jFlushCmd d.toNat)
  | .newseg p d => RegStart.dom s p .WAY_CMD d.toNat (putAll 0 [(F.WAY_CMD_NEWSEG, 1)]) (fun _ u => u.newseg d.toNat)
  | .wayArchCommit p d lo => RegStart.dom s p .WAY_ARCH_LO d.toNat lo (fun _ u => u)
  | .waybillEnable p d => RegStart.dom s p .WAY_MODE d.toNat (putAll (s.present .WAY_MODE d.toNat) [(F.WAY_MODE_MODE, 1)])
      (fun o u => if !o.waybill d.toNat && u.waybill d.toNat then u.jStart d.toNat
        else if o.waybill d.toNat && !u.waybill d.toNat then u.applyBnd .WAY_SEG d.toNat else u)
  | .stop p d => RegStart.dom s p .RPL_CMD d.toNat (putAll 0 [(F.RPL_CMD_STOP, 1)]) (fun _ u => u.rplStop d.toNat)
  | .rplModeClear p d => RegStart.dom s p .RPL_MODE d.toNat (putAll (s.present .RPL_MODE d.toNat) [(F.RPL_MODE_MODE, 0)])
      (fun o u => if o.replaying d.toNat && !u.replaying d.toNat then u.unparkAll d.toNat else u)
  | .chlLeave p => RegStart.glob s p .CHL_CTRL 0 (putAll (s.present .CHL_CTRL 0) [(F.CHL_CTRL_LEAVE, 1)])
      (fun o u => (u.chlEn (o.bit F.CHL_CTRL_EN)).chlLeave)
  | .chlEnWrite p v =>
    let data := putAll (s.present .CHL_CTRL 0) [(F.CHL_CTRL_EN, bitNat v)]
    RegStart.glob s p .CHL_CTRL 0 data (fun o u => pulse F.CHL_CTRL_LEAVE data (·.chlLeave) (u.chlEn (o.bit F.CHL_CTRL_EN)))
  | .tdmPeerCmd p wr off => RegStart.glob s p .TDM_PEER_CMD 0
      (putAll 0 [(F.TDM_PEER_CMD_GO, 1), (F.TDM_PEER_CMD_WR, bitNat wr), (F.TDM_PEER_CMD_OFFSET, off.toNat)]) (fun _ u => u.peerStart)
  | .switch p => RegStart.glob s p .TDM_CMD 0 (putAll 0 [(F.TDM_CMD_SWITCH, 1)]) (fun _ u => u.switchRole)
  | .domainEnable p d => RegStart.dom s p .VFM_DOM_CTRL d.toNat (putAll (s.present .VFM_DOM_CTRL d.toNat) [(F.VFM_DOM_CTRL_EN, 1)]) (fun o u => u.domCtrlWritten o d.toNat)
  | .domainDisable p d => RegStart.dom s p .VFM_DOM_CTRL d.toNat (putAll (s.present .VFM_DOM_CTRL d.toNat) [(F.VFM_DOM_CTRL_EN, 0)]) (fun o u => u.domCtrlWritten o d.toNat)
  | .mhold p d v => RegStart.dom s p .VFM_DOM_CTRL d.toNat (putAll (s.present .VFM_DOM_CTRL d.toNat) [(F.VFM_DOM_CTRL_MHOLD, bitNat v)]) (fun o u => u.domCtrlWritten o d.toNat)
  | .freeze p d v => RegStart.dom s p .VFM_DOM_CTRL d.toNat (putAll (s.present .VFM_DOM_CTRL d.toNat) [(F.VFM_DOM_CTRL_FREEZE, bitNat v)]) (fun o u => u.domCtrlWritten o d.toNat)
  | .thold p d v => RegStart.dom s p .VFM_RT d.toNat (putAll (s.present .VFM_RT d.toNat) [(F.VFM_RT_THOLD, bitNat v)]) (fun _ u => u.noteDrained d.toNat)
  | .domainReset p d => RegStart.glob s p .VFM_DOM_RST 0 (putAll 0 [(F.VFM_DOM_RST_GO, 1), (F.VFM_DOM_RST_DOMAIN, d.toNat)]) (fun _ u => u.domReset)
  | .save p d => RegStart.dom s p .VFM_DOM_CMD d.toNat (putAll 0 [(F.VFM_DOM_CMD_GO, 1), (F.VFM_DOM_CMD_OP, 1)]) (fun _ u => u.domGo d.toNat)
  | .unfence p d => RegStart.dom s p .VFM_DOM_CMD d.toNat (putAll 0 [(F.VFM_DOM_CMD_GO, 1), (F.VFM_DOM_CMD_OP, 3)]) (fun _ u => u.domGo d.toNat)
  | .unsave p d => RegStart.dom s p .VFM_DOM_CMD d.toNat (putAll 0 [(F.VFM_DOM_CMD_GO, 1), (F.VFM_DOM_CMD_OP, 4)]) (fun _ u => u.domGo d.toNat)
  | .restore p d => RegStart.dom s p .VFM_DOM_CMD d.toNat (putAll 0 [(F.VFM_DOM_CMD_GO, 1), (F.VFM_DOM_CMD_OP, 2)]) (fun _ u => u.domGo d.toNat)
  | .depotReadLine p => RegStart.glob s p .VFM_DEP_CMD 0 (putAll 0 [(F.VFM_DEP_CMD_GO, 1), (F.VFM_DEP_CMD_OP, 1)]) (fun _ u => u.depLine)
  | .depotWriteLine p => RegStart.glob s p .VFM_DEP_CMD 0 (putAll 0 [(F.VFM_DEP_CMD_GO, 1), (F.VFM_DEP_CMD_OP, 2)]) (fun _ u => u.depLine)
  | .shareWrite p d n => RegStart.dom s p .VFM_SHARE d.toNat (putAll (s.present .VFM_SHARE d.toNat) [(F.VFM_SHARE_RANK, n.toNat)]) (fun _ u => u)
  | .sleep p => RegStart.glob s p .PWR_CMD 0 (putAll 0 [(F.PWR_CMD_SLEEP, 1)]) (fun _ u => u.sleepCmd)
  | .vote p d v => RegStart.dom s p .PWR_VOTE d.toNat (putAll (s.present .PWR_VOTE d.toNat) [(F.PWR_VOTE_AWAKE, bitNat v)])
      (fun o u => u.voteWritten (u.voteCounts d.toNat) (o.bit F.PWR_VOTE_AWAKE d.toNat) (u.bit F.PWR_VOTE_AWAKE d.toNat))
  | .voteSb p v => RegStart.glob s p .PWR_VOTE_SB 0 (putAll (s.present .PWR_VOTE_SB 0) [(F.PWR_VOTE_SB_AWAKE, bitNat v)])
      (fun o u => u.voteWritten (u.img.power.voters.getLsbD 1) (o.bit F.PWR_VOTE_SB_AWAKE) (u.bit F.PWR_VOTE_SB_AWAKE))
  | .perfReq p q =>
    let data := putAll (s.present .PWR_PERF 0) [(F.PWR_PERF_REQ, q.toNat)]
    RegStart.glob s p .PWR_PERF 0 data (fun o u => if (o.writes .PWR_PERF 0 data).contains F.PWR_PERF_REQ then u.perfReq else u)
  | .toPll p =>
    let data := putAll (s.present .PWR_CLK 0) [(F.PWR_CLK_TO_PLL, 1)]
    RegStart.glob s p .PWR_CLK 0 data (fun _ u => pulse F.PWR_CLK_TO_OSC data (·.clkSwitch false) (u.clkSwitch true))
  | .toOsc p =>
    let data := putAll (s.present .PWR_CLK 0) [(F.PWR_CLK_TO_OSC, 1)]
    RegStart.glob s p .PWR_CLK 0 data (fun _ u => (pulse F.PWR_CLK_TO_PLL data (·.clkSwitch true) u).clkSwitch false)
  | .imageChunkMailbox p data => RegStart.glob s p .IMG_MBOX_DATA 15 data (fun _ u => u.imgMailbox)
  | .absent p =>
    let data := putAll (s.present .IMG_CTRL 0) [(F.IMG_CTRL_ABSENT, 1)]
    RegStart.glob s p .IMG_CTRL 0 data (fun _ u => pulse F.IMG_CTRL_RELOAD data (·.arbStart true) u.imgAbsent)
  | .reload p =>
    let data := putAll (s.present .IMG_CTRL 0) [(F.IMG_CTRL_RELOAD, 1)]
    RegStart.glob s p .IMG_CTRL 0 data (fun _ u => (pulse F.IMG_CTRL_ABSENT data (·.imgAbsent) u).arbStart true)
  | .snap p => RegStart.glob s p .TEL_CTRL 0 (putAll (s.present .TEL_CTRL 0) [(F.TEL_CTRL_SNAP, 1)])
      (fun _ u => u.telCtrl (putAll (s.present .TEL_CTRL 0) [(F.TEL_CTRL_SNAP, 1)]))
  | .snapClr p => RegStart.glob s p .TEL_CTRL 0 (putAll (s.present .TEL_CTRL 0) [(F.TEL_CTRL_SNAP_CLR, 1)])
      (fun _ u => u.telCtrl (putAll (s.present .TEL_CTRL 0) [(F.TEL_CTRL_SNAP_CLR, 1)]))
  | .clrAll p => RegStart.glob s p .TEL_CTRL 0 (putAll (s.present .TEL_CTRL 0) [(F.TEL_CTRL_CLR_ALL, 1)])
      (fun _ u => u.telCtrl (putAll (s.present .TEL_CTRL 0) [(F.TEL_CTRL_CLR_ALL, 1)]))
  | .bwClr p => RegStart.glob s p .TEL_CTRL 0 (putAll (s.present .TEL_CTRL 0) [(F.TEL_CTRL_BW_CLR, 1)])
      (fun _ u => u.telCtrl (putAll (s.present .TEL_CTRL 0) [(F.TEL_CTRL_BW_CLR, 1)]))
  | .telCntWrite p k => RegStart.glob s p .TEL_CNT_CMD 0 (putAll 0 [(F.TEL_CNT_CMD_GO, 1), (F.TEL_CNT_CMD_OP, 1), (F.TEL_CNT_CMD_INDEX, k.toNat)]) (fun _ u => u.cntCmd)
  | .telCntClearOvf p k => RegStart.glob s p .TEL_CNT_CMD 0 (putAll 0 [(F.TEL_CNT_CMD_GO, 1), (F.TEL_CNT_CMD_OP, 2), (F.TEL_CNT_CMD_INDEX, k.toNat)]) (fun _ u => u.cntCmd)
  | .probeCfgWrite p n true data => RegStart.glob s p .TEL_H_BASE n.toNat data (fun _ u => u.probeReset n.toNat)
  | .probeCfgWrite p n false data => RegStart.glob s p .TEL_H_CFG n.toNat data
      (fun o u => if o.meets .TEL_H_CFG n.toNat data (fun f => f.apply == .dis) then u.probeReset n.toNat else u)
  | _ => none

/-- The access that a request of the register target path, of the sideband or of the TAP makes, and the one of a command
that is a read of one register. -/
def requestOf (s : State) : Instr → Option RegAcc
  | .registerWrite p sp off data be => some (s.accessOf p sp off.toNat true data be.toNat .none)
  | .readClear p sp off => some (s.accessOf p sp off.toNat false 0 15 .none)
  | .winData p wr data be => some (s.accessOf p .dp 0x14 wr data be.toNat .none)
  | .dormantAccessWake p off => some (s.accessOf p .ws off.toNat false 0 15 .none)
  | .debugAccess (.register wr off data) => if s.tapShut then none else some (accAt .debug .ws (winOff .debug off.toNat) wr data)
  | .sbRegisterWrite .good off data => if s.io.sbQ.isEmpty then some (accAt .sideband (sbSpot off).1 (sbSpot off).2 true data) else none
  | .sbRegisterRead .good off => if s.io.sbQ.isEmpty then some (accAt .sideband (sbSpot off).1 (sbSpot off).2 false 0) else none
  | .wideCapture p kind index => some (s.accessOf p .dp 0x20 true
      (putAll 0 [(F.REG_WIDE_SEL_CAPTURE, 1), (F.REG_WIDE_SEL_KIND, kind.toNat), (F.REG_WIDE_SEL_INDEX, index.toNat)]) 15 .none)
  | .commitGate p g => if vfPage p then none else some (s.writeAcc p .OAS_GCMD g.toNat (putAll 0 [(F.OAS_GCMD_COMMIT, 1)]) .none)
  | .vfmVfStatusRead p d => if reaches p d.toNat then
      some (s.accessOf p (regAt p .VFM_VF_STATUS d.toNat).1 (regAt p .VFM_VF_STATUS d.toNat).2 false 0 15 .none) else none
  | .errPendRead p => if vfPage p then none else
      some (s.accessOf p (regAt p .ERR_PEND 0).1 (regAt p .ERR_PEND 0).2 false 0 15 .none)
  | _ => none

/-- The sideband command that a command gives (R51). -/
def sidebandOf : Instr → Option SbCmd
  | .sbRegisterWrite f off data => some (.register f off true data)
  | .sbRegisterRead f off => some (.register f off false 0)
  | .sbStatusRead f => some (.status f)
  | .imageChunkSideband f b => some (.image f b)
  | _ => none

/-- No reset line is asserted, no sideband access waits and no sideband command waits behind one (R414). -/
def State.SidebandOpen (s : State) : Prop := s.inReset = false ∧ s.behind .sideband = false ∧ s.io.sbQ = []

/-! ### What holds a command off -/

/-- Commands that act while COLD_RST_N or WARM_RST_N is asserted: the pins that move, the resets themselves, the TAP,
and the acknowledgements and depot responses of what was asked before (R40, R45, R53, R54, R58, R60, R63, R364). -/
def passesReset : Instr → Bool
  | .lineLevelChange _ _ | .egressAck _ _ | .hopLoss _ _ | .cold _ | .warm | .ftToggle _ | .holdover | .laneLock _
  | .coldRstNAsserted | .warmRstNDeasserted | .pswAck _ _ | .pfail _ | .debugAccess _ | .depResponse _ _ _ _ => true
  | _ => false

/-- Commands of the main path, which a halt stops and which need the clock of CORE (R13, R410). -/
def onPath : Instr → Bool
  | .eventWindowWrite _ _ | .intxAssert _ | .intxDeassert _ | .waymarkMark _ _ | .waymarkQuiet _ _ | .waymarkResume _ _
  | .holdClockStart _ | .overdue _ | .straggler _ | .release _ | .releaseRetry _ | .waitingAdmission _ | .handOver _
  | .gateOpening _ _ | .parkedReturn _ | .complete _ _ | .completeAny _ _ | .consume _ _ | .doorbellReservedOp _ _
  | .redeliveryTimeout _ | .faultDelivery | .replayRecord _ => true
  | _ => false

/-- Commands that need the clock of CORE and go on while the block is halted. -/
def onCore : Instr → Bool
  | .mapReadReturn _ _ _ | .stateMissFill _ _ _ | .victimWriteback | .sstInitDone | .scrub _
  | .refillTick _ | .pendingListSwitch _ | .lostRetry | .journalLineTimeout _ | .journalLineWrite _ | .resetWalkEnd _
  | .saveDone _ | .persistentSaveDone | .walkerPassEnd _ | .telemetryWindowEnd _ | .levelSample | .samplerRecord
  | .gateCycleStart _ => true
  | _ => false

/-- Sends and timers of the ring port, which need the clock of RING (R13, R284). -/
def onRing : Instr → Bool
  | .checkSend _ | .beaconSend | .probeSend | .txQueueMark _ | .windowSend | .windowOpen | .joinTimeout
  | .windowEnd | .founding | .foundingTimeout | .foundingJoined | .beaconMiss | .heartbeatSend | .helloSend
  | .ackSend | .primaryLost => true
  | _ => false

end Sys2Proof.Machine
end

