-- ==== Sys2Proof/Certificates/Slice0/Obligations.lean ====
section
/-! DEFINITION. The statements for the provers: what the commands and the block do, rule by rule. -/

open Sys2Proof Sys2Proof.Machine

/-- For every command c and state s whose queue begins with c, step answers what exec answers for c on s with the rest of the queue. -/
def Obligations.StepRunsFrontCommand : Prop :=
  ∀ (c : Instr) (rest : List Instr) (s : State), s.pending = c :: rest → step s = exec c { s with pending := rest }

/-- On an empty queue step answers the state after one tick of the block's clock; that an empty queue is a tick is the model's choice of log entry 4. -/
def Obligations.EmptyQueueIsOneTick : Prop :=
  ∀ s : State, s.pending = [] → step s = .next s.clockTick

/-- The command decoder answers none for every word of every width, and placing a word before the next step changes nothing. -/
def Obligations.NoWordSpellsACommand : Prop :=
  (∀ n w : Nat, decodeTableWord n w = none) ∧ ∀ (s : State) (n w : Nat), s.withFetchWord n w = s

/-- After reset the register file, the depot and the state backing have their canonical form, fabric time is not behind the time last loaded, and no command waits. -/
def Obligations.ResetIsSound : Prop :=
  State.reset.Sound 0 [] ∧ Memory.wf State.reset.dep.mem = true

/-- From every state whose register file has rising keys, whose depot and state backing have their canonical form and whose fabric time is not behind the time last loaded, a step answers a next state with the same properties, and the queue of waiting commands has lost exactly its front. -/
def Obligations.StepKeepsSound : Prop :=
  ∀ s : State, s.Sound 0 s.pending → ∃ t, step s = .next t ∧ t.Sound 0 s.pending.tail

/-- For every command other than COLD and COLD_RST_N_ASSERTED, and for a tick, the fabric time after the step is at least the fabric time before it, from every state that satisfies the invariant; a command leaves the queue as it was. -/
def Obligations.FabricTimeNeverRunsBack : Prop :=
  (∀ (c : Instr) (s t : State), s.Sound 0 s.pending → (∀ w, c ≠ .cold w) → c ≠ .coldRstNAsserted → exec c s = .next t →
    s.tim.ft ≤ t.tim.ft ∧ t.pending = s.pending)
  ∧ ∀ s : State, s.Sound 0 s.pending → s.tim.ft ≤ s.clockTick.tim.ft ∧ s.clockTick.pending = s.pending

/-- While COLD_RST_N or WARM_RST_N is asserted, every command but the pins that move (a line level, the lanes of the ring, PSW_ACK, PFAIL), the time input, the TAP, the acknowledgements of writes already taken and the resets themselves leaves the whole state as it was. -/
def Obligations.ResetHoldsCommandsOff : Prop :=
  ∀ (c : Instr) (s : State), s.inReset = true → passesReset c = false → exec c s = .next s

/-- A command of the main path leaves the whole state as it was while CORE is not clocked or ERR_STATUS.HALTED reads 1; a command of CORE while CORE is not clocked; a send or timer of the ring port while RING is not clocked. -/
def Obligations.ClockedCommandsNeedTheirClock : Prop :=
  (∀ (c : Instr) (s : State), onPath c = true → s.coreOn = false ∨ s.bit F.ERR_STATUS_HALTED = true → exec c s = .next s)
  ∧ (∀ (c : Instr) (s : State), onCore c = true → s.coreOn = false → exec c s = .next s)
  ∧ ∀ (c : Instr) (s : State), onRing c = true → s.ringClk = false → exec c s = .next s

/-- For a write that reaches a register whose interface is up: without authority it is denied; with it, a powered-off owner discards it and a dormant one makes it wait for its wake; then a lock makes it a locked write; then the freeze rejects it with reason 5; then the rules of the owner reject it with their reason; only a write that passes all of them is accepted, and a rejected write does nothing but what its record says (and an ERR of a gate command). -/
def Obligations.WritesAreCheckedInOrder : Prop :=
  ∀ (s : State) (a : RegAcc) (x : Spot), a.wr = true → reach (s.portOf a.port) a.space a.off = some x →
    s.early a.space x.pl.reg = false →
    let p := s.portOf a.port
    let data := portData p x.pl.reg a.data
    let way := s.accWay a
    let lacks := s.lacks p (s.needs x.pl.reg x.i data)
    (∀ c, lacks = some c → way = .denied c)
    ∧ (lacks = none →
      (s.spotOff x = true → way = .off)
      ∧ (s.spotOff x = false → s.spotDormant x = true → way = .waits)
      ∧ (s.spotOff x = false → s.spotDormant x = false →
        (s.isLocked p x data = true → way = .locked)
        ∧ (s.isLocked p x data = false → s.frozenWr x data = true → way = .rejects 5)
        ∧ (s.isLocked p x data = false → s.frozenWr x data = false →
          (s.rejectReason x data = 0 → way = .ok x)
          ∧ (s.rejectReason x data ≠ 0 → way = .rejects (s.rejectReason x data)))))
    ∧ (∀ n, way = .rejects n → s.accEnd a way =
        (0, if n = 4 ∧ x.pl.reg = .OAS_GCMD then (s.rejected p a.space a.off n).setFld F.OAS_GCMD_ERR x.i 1
          else s.rejected p a.space a.off n))

/-- Where no record is held, a rejected write, a locked write and a denied access each fill their record with the port, the function, the reason or class and the register (one that a VF reaches at its direct page and that lies in the window space, by its window offset: log entry 91); where one is held, only the count advances, up to 255. -/
def Obligations.FirstRecordIsKept : Prop :=
  (∀ (s : State) (p : PortId) (sp : Space) (off n : Nat),
    (s.bit F.CFG_REJECT_INFO_VALID = true → s.rejected p sp off n = s.bump F.CFG_REJECT_INFO_CNT)
    ∧ (s.bit F.CFG_REJECT_INFO_VALID = false →
      let t := s.rejected p sp off n
      t.fld F.CFG_REJECT_INFO_VALID = 1 ∧ t.fld F.CFG_REJECT_INFO_PORT = portCode p ∧ t.fld F.CFG_REJECT_INFO_FUNC = portFn p % 4096
      ∧ t.fld F.CFG_REJECT_INFO_REASON = n % 16 ∧ t.fld F.CFG_REJECT_SPACE = spaceBit (indexOf p sp off).1
      ∧ t.fld F.CFG_REJECT_INDEX = (indexOf p sp off).2 / 4 % 2 ^ 28 ∧ t.fld F.CFG_REJECT_INFO_CNT = min (s.fld F.CFG_REJECT_INFO_CNT + 1) 255))
  ∧ (∀ (s : State) (p : PortId) (sp : Space) (off : Nat),
    (s.bit F.REG_LOCKED_WR_VALID = true → s.lockedWr p sp off = s.bump F.REG_LOCKED_WR_CNT)
    ∧ (s.bit F.REG_LOCKED_WR_VALID = false →
      let t := s.lockedWr p sp off
      t.fld F.REG_LOCKED_WR_VALID = 1 ∧ t.fld F.REG_LOCKED_WR_PORT = portCode p ∧ t.fld F.REG_LOCKED_WR_FUNC = portFn p % 4096
      ∧ t.fld F.REG_LOCKED_IDX_SPACE = spaceBit (indexOf p sp off).1 ∧ t.fld F.REG_LOCKED_IDX_INDEX = (indexOf p sp off).2 / 4 % 2 ^ 28
      ∧ t.fld F.REG_LOCKED_WR_CNT = min (s.fld F.REG_LOCKED_WR_CNT + 1) 255))
  ∧ (∀ (s : State) (p : PortId) (sp : Space) (off c : Nat) (wr : Bool),
    (s.bit F.MGT_DENY_VALID = true → s.deny p sp off wr c = s.bump F.MGT_DENY_CNT)
    ∧ (s.bit F.MGT_DENY_VALID = false →
      let t := s.deny p sp off wr c
      t.fld F.MGT_DENY_VALID = 1 ∧ t.fld F.MGT_DENY_PORT = portCode p ∧ t.fld F.MGT_DENY_FUNC = portFn p % 4096
      ∧ t.fld F.MGT_DENY_WR = bitNat wr ∧ t.fld F.MGT_DENY_CLASS = c % 8 ∧ t.fld F.MGT_DENY_IDX_SPACE = spaceBit (indexOf p sp off).1
      ∧ t.fld F.MGT_DENY_IDX_INDEX = (indexOf p sp off).2 / 4 % 2 ^ 28 ∧ t.fld F.MGT_DENY_CNT = min (s.fld F.MGT_DENY_CNT + 1) 255))

/-- The default of the section is the class mask 0x0185F0DF and host port 0 alone, and with that mask in MGT_AUTH the ports hold exactly the classes of the table. -/
def Obligations.DefaultAuthority : Prop :=
  Image.defaultAuth.classMask = 0x0185F0DF#32 ∧ Image.defaultAuth.mgrPorts = 1#128
  ∧ ∀ (s : State) (c : Nat), c < 6 → s.reg .MGT_AUTH = Image.defaultAuth.classMask →
    (s.holds .mgtPf c = true ↔ c ≤ 4) ∧ (∀ fn, s.holds (.vf fn) c = true ↔ c ≤ 1) ∧ s.holds .none c = false ∧ (s.holds .sideband c = true ↔ c ≤ 4)
    ∧ (s.holds .debug c = true ↔ c = 0 ∨ c = 5) ∧ (s.holds .peer c = true ↔ c = 0)

/-- A view offset of a VF page maps onto the same offset, modulo 64 KiB, within the VF's replica; whatever register a window access of a VF page reaches is of that replica; and a command that names a global register, or a register of another domain, changes nothing when it comes from a VF page. -/
def Obligations.VfPageReachesOnlyItsReplica : Prop :=
  (∀ (fn : BitVec 12) (off : Nat), winOff (.vf fn) off = 0x10000000 + 0x10000 * fn.toNat + off % 0x10000 / 4 * 4)
  ∧ (∀ (fn : BitVec 12) (off : Nat) (x : Spot), reach (.vf fn) .ws (winOff (.vf fn) off) = some x →
    x.pl.kind = .dom ∧ x.i / x.pl.n2 = fn.toNat)
  ∧ (∀ (p : Port) (fn : BitVec 12) (r : Reg) (i d : Nat) (data : Word) (s : State), s.portOf p = .vf fn →
    s.writeGlob p r i data = s ∧ s.readGlob p r i = s ∧ (fn.toNat ≠ d → s.writeDom p r d data = s ∧ s.readDom p r d = s))

/-- For every row of the register map, the manager port reaches the first replica at the base offset that the map gives it, in the space that the map gives. -/
def Obligations.EveryRegisterLiesAtItsOffset : Prop :=
  ∀ pl ∈ placements, pl.kind = .page ∨ findSpot pl.space pl.base = some ⟨pl, 0⟩

/-- An accepted write of REG_LOCK leaves every lock bit set that was set before; a write that would clear one, or set one after SEAL, is a locked write. -/
def Obligations.LockBitsAreOnlySet : Prop :=
  (∀ (s : State) (x : Spot) (data : Word), x.pl.reg = .REG_LOCK → x.i = 0 → s.lockBits data = false →
    ((s.storeWord x data).reg .REG_LOCK &&& s.reg .REG_LOCK) = s.reg .REG_LOCK)
  ∧ (∀ (s : State) (p : PortId) (x : Spot) (data : Word), x.pl.reg = .REG_LOCK →
    (∃ k, k < 5 ∧ (((s.reg .REG_LOCK).getLsbD k = true ∧ data.getLsbD k = false)
      ∨ (s.bit F.REG_LOCK_SEAL = true ∧ (s.reg .REG_LOCK).getLsbD k = false ∧ data.getLsbD k = true))) →
    s.isLocked p x data = true)

/-- For each of the 67 commands that are a full write of one register (MGT_AUTH_WRITE, REG_LOCK_WRITE, COMMIT, UNFREEZE, the four SRC_ commands, LIN_CFG_WRITE, METER_WRITE, FLUSH, READ_ENTRY, SET_EN, CLEAR_EN, SET_MASK, CLEAR_MASK, SST_CFG_WRITE, CLEAR_STATE, CLEAR_POISON, SILENCE, RTE_TGT_READ, RTE_TGT_WRITE, RESUME, RSTPTR, the three CMP_DBCMD commands, CMP_FORCE, WAY_FLUSH, NEWSEG, WAY_ARCH_COMMIT, WAYBILL_ENABLE, STOP, RPL_MODE_CLEAR, CHL_LEAVE, CHL_EN_WRITE, TDM_PEER_CMD, SWITCH, DOMAIN_ENABLE, DOMAIN_DISABLE, MHOLD, THOLD, FREEZE, DOMAIN_RESET, SAVE, UNFENCE, UNSAVE, RESTORE, DEPOT_READ_LINE, DEPOT_WRITE_LINE, SHARE_WRITE, SLEEP, VOTE, VOTE_SB, PERF_REQ, TO_PLL, TO_OSC, IMAGE_CHUNK_MAILBOX, ABSENT, RELOAD, SNAP, SNAP_CLR, CLR_ALL, BW_CLR, TEL_CNT_WRITE, TEL_CNT_CLEAR_OVF, PROBE_CFG_WRITE): where the register interface serves the write of the command's word at the command's register, the command answers the state in which the word is stored and mirrored to a standby, the register's operation has run, and the access has completed. -/
def Obligations.RegisterCommandsTakeEffect : Prop :=
  ∀ (c : Instr) (s : State) (a : RegStart) (x : Spot), regStart s c = some a → s.Serves a.acc x →
    x.pl.reg = a.reg → x.i = a.idx →
    exec c s = .next (s.ended (a.op (s.begun a.acc) (s.stored a.acc x)) a.acc (.ok x) 0)

/-- For each command that is a full write of one register: carried out at an enabled function with nothing of its port or function waiting, a write without authority, to a locked register, one that a rule rejects, and one to a domain that is powered off leave only the record of that outcome, for whatever reason a rule rejects, and complete; one whose register is not up yet sets REG_RST_STAT.EARLY and completes, and one that reaches no register only completes; behind an access that waits it joins the queue, and at a dormant owner it joins the queue and requests the wake; at a function that SR-IOV has not enabled it only answers Unsupported Request. -/
def Obligations.RegisterCommandsTurnedAway : Prop :=
  ∀ (c : Instr) (s : State) (a : RegStart), regStart s c = some a →
    let g := s.goal a.acc
    let p := (s.begun a.acc).portOf a.acc.port
    let way := (s.begun a.acc).accWay g
    (s.Carries a.acc →
      (∀ k, way = .denied k → exec c s = .next (s.ended ((s.begun a.acc).deny p g.space g.off true k) a.acc way 0))
      ∧ (way = .locked → exec c s = .next (s.ended ((s.begun a.acc).lockedWr p g.space g.off) a.acc way 0))
      ∧ (∀ n, way = .rejects n → (n = 4 → ∃ x, reach p g.space g.off = some x ∧ x.pl.reg = a.reg) →
        exec c s = .next (s.ended ((s.begun a.acc).rejected p g.space g.off n) a.acc way 0))
      ∧ (way = .early → exec c s = .next (s.ended ((s.begun a.acc).raise F.REG_RST_STAT_EARLY) a.acc way 0))
      ∧ (way = .gone → exec c s = .next (s.ended (s.begun a.acc) a.acc way 0))
      ∧ (way = .off → exec c s = .next (s.ended ((s.begun a.acc).offAccess p) a.acc way 0xFFFFFFFF#32)))
    ∧ (s.inReset = false → s.behind a.acc.port = true → exec c s = .next (s.queueAcc a.acc))
    ∧ (s.inReset = false → s.behind a.acc.port = false → s.mustWait a.acc = true → exec c s = .next (s.waiting a.acc))
    ∧ (s.inReset = false → s.behind a.acc.port = false → s.unsupported a.acc.port = true →
        exec c s = .next (s.setUr a.acc.port true))

/-- For each request (REGISTER_WRITE, READ_CLEAR, WIN_DATA, DORMANT_ACCESS_WAKE, DEBUG_ACCESS, SB_REGISTER_WRITE, SB_REGISTER_READ, WIDE_CAPTURE, COMMIT_GATE, VFM_VF_STATUS_READ, ERR_PEND_READ): a write that the interface serves is taken by the register it reaches, and a read that it serves returns what the register shows, a read from any port but DEBUG clearing what it returns, where a request through WIN_DATA has first moved the pointer by 4; behind an access of its function or port that waits, the request joins the queue (a sideband command waits in its own queue instead); at a dormant owner it waits and requests the wake; a function that SR-IOV has not enabled answers Unsupported Request and changes nothing else; a BAR write with partial byte enables only leaves its record; a configuration request is taken by configuration space. The SR-IOV capability of function 0 takes VF Enable from bit 0 of offset 8 and NumVFs from bits 15:0 of offset 0x10; the two offsets are the model's choice of log entry 25. -/
def Obligations.RegisterRequests : Prop :=
  (∀ (c : Instr) (s : State) (a : RegAcc), requestOf s c = some a →
    (∀ x, s.Serves a x → (a.wr = true → exec c s = .next (s.written a x)) ∧ (a.wr = false → exec c s = .next (s.readDone a x)))
    ∧ (s.inReset = false → a.port ≠ .sideband → s.behind a.port = true → exec c s = .next (s.queueAcc a))
    ∧ (s.inReset = false → s.behind a.port = false →
      (s.mustWait a = true → exec c s = .next (s.waiting a))
      ∧ (s.unsupported a.port = true → exec c s = .next (s.setUr a.port true))
      ∧ (s.unsupported a.port = false → a.isConfig = true → exec c s = .next ((s.answered a.port).configAccess a))
      ∧ (s.unsupported a.port = false → a.isConfig = false → a.isPartial = true →
          exec c s = .next ((s.begun a).partialWr ((s.begun a).portOf a.port)))))
  ∧ (∀ (s : State) (h : BitVec 7) (data : Word) (be : BitVec 4), s.inReset = false →
    s.behind (.regt false 0#12 h) = false → be.getLsbD 0 = true →
    let u := s.answered (.regt false 0#12 h)
    exec (.registerWrite (.regt false 0#12 h) .sriov 8 data be) s =
      .next ((u.headerWrite (4096 * 1024 + 2) data be.toNat).setSriov (data.getLsbD 0) s.vfm.numVfs))
  ∧ (∀ (s : State) (h : BitVec 7) (data : Word), s.inReset = false → s.behind (.regt false 0#12 h) = false →
    let u := s.answered (.regt false 0#12 h)
    exec (.registerWrite (.regt false 0#12 h) .sriov 16 data 15) s =
      .next ((u.headerWrite (4096 * 1024 + 4) data 15).setSriov s.vfm.vfEn (data.toNat % 2 ^ 16)))

/-- COMMIT_GATE that is served takes its word, makes the list pending with its start not earlier than 2 microseconds from now, counts a late start, and mirrors the write with the number of cycles skipped, at most 2^28 - 1; SAV_SAVE runs its register command with the sample of the hold-up energy that it carries, 0 where the sample is not valid or not steady, and the sample is gone afterwards; WIDE_CAPTURE clears VALID and ERR and copies what its selection names; VFM_VF_STATUS_READ and ERR_PEND_READ return the register, clear what they return and rearm the interrupt. -/
def Obligations.SpecialRegisterCommands : Prop :=
  (∀ (s : State) (p : Port) (g : BitVec 10) (a : RegAcc) (x : Spot),
    requestOf s (.commitGate p g) = some a → s.Serves a x → x.pl.reg = .OAS_GCMD → x.i = g.toNat →
    let u := ((s.begun a).store x a.data).commitList g.toNat
    exec (.commitGate p g) s = .next (s.ended (u.2.mirrorWrite (s.begun a) x a.data (min u.1 (2 ^ 28 - 1))) a (.ok x) 0))
  ∧ (∀ (s : State) (p : Port) (hu : Hu) (x : Spot),
    let v := if hu.valid && hu.steady then hu.energy.toNat else 0
    let s1 := { s with io := { s.io with hu := some v } }
    let a := s1.writeAcc p .SAV_CMD 0 (putAll 0 [(F.SAV_CMD_SAVE, 1)]) .none
    let t := s1.ended ((s1.stored a x).saveCmd (portCode ((s1.begun a).portOf p))) a (.ok x) 0
    vfPage p = false → s1.Serves a x → x.pl.reg = .SAV_CMD →
    exec (.savSave p hu) s = .next { t with io := { t.io with hu := none } })
  ∧ (∀ (s : State) (p : Port) (kind : BitVec 7) (index : BitVec 24) (a : RegAcc) (x : Spot),
    requestOf s (.wideCapture p kind index) = some a → s.Serves a x → x.pl.reg = .REG_WIDE_SEL →
    let u := ((s.stored a x).lower F.REG_WIDE_STAT_VALID x.i).lower F.REG_WIDE_STAT_ERR x.i
    exec (.wideCapture p kind index) s =
      .next (s.ended (u.wideCapture x.i (portCode ((s.begun a).portOf p))) a (.ok x) 0))
  ∧ (∀ (s : State) (p : Port) (d : BitVec 12) (a : RegAcc) (x : Spot),
    requestOf s (.vfmVfStatusRead p d) = some a → s.Serves a x → x.pl.reg = .VFM_VF_STATUS → (s.begun a).portOf p ≠ .debug →
    let v := (s.begun a).shown ((s.begun a).portOf p) .VFM_VF_STATUS x.i
    exec (.vfmVfStatusRead p d) s =
      .next (s.ended (((s.begun a).clearRead .VFM_VF_STATUS x.i v).irqRearm x.i) a (.ok x) v))
  ∧ (∀ (s : State) (p : Port) (a : RegAcc) (x : Spot),
    requestOf s (.errPendRead p) = some a → s.Serves a x → x.pl.reg = .ERR_PEND → (s.begun a).portOf p ≠ .debug →
    let v := (s.begun a).shown ((s.begun a).portOf p) .ERR_PEND x.i
    exec (.errPendRead p) s =
      .next (s.ended (((s.begun a).clearRead .ERR_PEND x.i v).irqRearm 0) a (.ok x) v))

/-- The model's choice, by log entries 30 and 31: what stands behind a waiting access is queued, a status read returns the status before it sets LAST_CMD, an unknown code leaves LAST_CMD, and an alert returns the strap field as its byte. A good SB_REGISTER_WRITE that is served is taken as a write of the SIDEBAND port and ends with result 0; a good SB_REGISTER_READ returns the four bytes of the register, low byte first; SB_STATUS_READ returns the status word, as its register reads; a frame with a wrong PEC, an unknown code or a wrong count carries out nothing and records its reason in SB_STATUS; ALERT_RESPONSE returns the address while the alert is asserted, and nothing otherwise. A command of the sideband that comes while an access of the sideband waits, or behind a command that waits there, waits in its order. -/
def Obligations.SidebandCommands : Prop :=
  (∀ (s : State) (off data : Word) (x : Spot),
    let a := accAt .sideband (sbSpot off).1 (sbSpot off).2 true data
    s.Serves a x → s.io.sbQ = [] → x.pl.pd = none →
    exec (.sbRegisterWrite .good off data) s = .next ((s.acceptWrite x data 2 .none).sbEnd 2 0))
  ∧ (∀ (s : State) (off : Word) (x : Spot),
    let a := accAt .sideband (sbSpot off).1 (sbSpot off).2 false 0
    s.Serves a x → s.io.sbQ = [] → x.pl.pd = none →
    let v := s.shown .sideband x.pl.reg x.i
    let u := s.readEffect .sideband x.pl.reg x.i v
    exec (.sbRegisterRead .good off) s = .next (({ u with io := { u.io with rdata := v, sb := leBytes 4 v.toNat } }).sbEnd 1 0))
  ∧ (∀ (s : State) (x : Spot), s.SidebandOpen → s.readWay .sideband .dp 0x38 = .ok x →
    let v := s.shown .sideband x.pl.reg x.i
    exec (.sbStatusRead .good) s = .next (((s.readEffect .sideband x.pl.reg x.i v).sbEnd 4 0).sbReturn v))
  ∧ (∀ (s : State) (c : Instr) (x : SbCmd), sidebandOf c = some x → s.inReset = false →
    s.behind .sideband = true ∨ s.io.sbQ ≠ [] → exec c s = .next { s with io := { s.io with sbQ := s.io.sbQ ++ [x] } })
  ∧ (∀ (s : State) (off data : Word), s.SidebandOpen →
    exec (.sbRegisterWrite .pecWrong off data) s = .next ((s.sbEnd 2 1).raise F.SB_STATUS_PEC_ERR)
    ∧ exec (.sbRegisterWrite .unknownCode off data) s = .next (s.setFld F.SB_STATUS_RESULT 0 2)
    ∧ exec (.sbRegisterWrite .wrongCount off data) s = .next (s.sbEnd 2 3)
    ∧ exec (.sbRegisterRead .pecWrong off) s = .next ((s.sbEnd 1 1).raise F.SB_STATUS_PEC_ERR)
    ∧ exec (.sbStatusRead .pecWrong) s = .next ((s.sbEnd 4 1).raise F.SB_STATUS_PEC_ERR))
  ∧ (∀ s : State, s.inReset = false →
    (s.sbAlert = true →
      exec .alertResponse s = .next { s with io := { s.io with sb := [BitVec.ofNat 8 (s.fld F.REG_STRAPS_SB_ADDR)] } })
    ∧ (s.sbAlert = false → exec .alertResponse s = .next s))

/-- INGRESS_BEAT while the block is ready: with a credit the descriptors of a non-empty beat join the ingress buffer behind the beats that wait and one credit is taken; a beat of four empty slots leaves the state as it was; a beat without a credit, also before the block is ready, is discarded, sets CREDIT_OVR and raises the uncorrectable error. While the wake FIFO captures and the block is not halted, the descriptors of a non-empty beat join the end of the FIFO instead, marked with the number of beats that wait before them, one credit is taken, the wake of the ingress is requested with the host port of the first, and the credit is due again. INGR_CRED_RET returns a due credit, or, where the wake FIFO could then not take every beat in hand, sets WFIFO_FULL. In every case no register outside telemetry and these flags moves. -/
def Obligations.IngressBeats : Prop :=
  (∀ (s : State) (b : BitVec 512), s.inReset = false → s.intk.ready = true → s.intk.credits ≠ 0 → beatDescs b ≠ [] →
    s.capturing = false ∨ s.halted = true →
    ∃ t, exec (.ingressBeat b) s = .next t ∧ t.intk.buf = s.intk.buf ++ [beatDescs b] ∧ t.intk.credits + 1 = s.intk.credits
      ∧ t.regs = s.regs ∧ t.intk.lane0 = s.intk.lane0 ∧ t.intk.wake = s.intk.wake ∧ t.dep = s.dep ∧ t.pending = s.pending)
  ∧ (∀ (s : State) (b : BitVec 512), s.inReset = false → s.intk.ready = true → s.intk.credits ≠ 0 → beatDescs b ≠ [] →
    s.capturing = true → s.halted = false →
    let u := (beatDescs b).foldl (fun (x : State) d => x.traffic (dHport d) false 16) s
    let v := { u with intk := { u.intk with
      credits := u.intk.credits - 1, wake := u.intk.wake ++ (beatDescs b).map (fun d => (u.intk.buf.length, d)) } }
    exec (.ingressBeat b) s = .next (v.wakeReq 1 (((beatDescs b).head?).elim 0 dHport)).credDue
      ∧ u.intk = s.intk ∧ u.regs = s.regs ∧ u.pending = s.pending)
  ∧ (∀ (s : State) (b : BitVec 512), s.inReset = false → s.intk.ready = true → s.intk.credits ≠ 0 → beatDescs b = [] →
    exec (.ingressBeat b) s = .next s)
  ∧ (∀ (s : State) (b : BitVec 512), s.inReset = false → s.intk.ready = false ∨ s.intk.credits = 0 →
    exec (.ingressBeat b) s = .next ((s.raise F.INT_STATUS_CREDIT_OVR).error 1 1 none (dHport (b.extractLsb' 0 128)) .all))
  ∧ (∀ s : State, s.inReset = false → s.intk.due ≠ 0 → s.halted = false → s.sav.run = none → s.fld F.PWR_STATUS_STATE ≠ 5 →
    (s.intk.wake.length + 4 * (s.intk.credits + 1) ≤ 1024 →
      exec .ingrCredRet s = .next { s with intk := { s.intk with due := s.intk.due - 1, credits := s.intk.credits + 1 } })
    ∧ (1024 < s.intk.wake.length + 4 * (s.intk.credits + 1) →
      exec .ingrCredRet s = .next (s.raise F.INT_STATUS_WFIFO_FULL)))

/-- LANE_ENTRY: the next descriptor joins the end of the lane its requester hashes to, the other lanes are as before and the descriptor is counted; a word of the wake FIFO with an uncorrectable error is lost with error 3 at index 4 instead; while that lane holds 16 entries nothing happens. LINE_SCAN: the next line event joins the end of lane 0 when it is the turn of the lines, an edge clearing its latch, and is counted. -/
def Obligations.LanesKeepOrder : Prop :=
  (∀ (s : State) (d : Rec) (ecc : Ecc), s.inReset = false → s.lanesOpen = true → s.carriageNext = some d → s.laneRoom (dLane d) = true →
    (s.wakeEcc ecc).1 = true → (dLane d = 0 → s.intk.lineLast = true ∨ s.linesOpen = false ∨ s.lineNext = none) →
    ∃ u : State, exec (.laneEntry ecc) s = .next (u.countG 0) ∧ u.laneQ (dLane d) = s.laneQ (dLane d) ++ [.desc d]
      ∧ (∀ k, k < 4 → k ≠ dLane d → u.laneQ k = s.laneQ k) ∧ (dLane d = 0 → u.intk.lineLast = false)
      ∧ u.cvn = s.cvn ∧ u.dep = s.dep ∧ u.src = s.src ∧ u.pending = s.pending)
  ∧ (∀ (s : State) (d : Rec) (ecc : Ecc) (w : List (Nat × Rec)), s.inReset = false → s.lanesOpen = true → s.carriageNext = some d →
    s.laneRoom (dLane d) = true → (dLane d = 0 → s.intk.lineLast = true ∨ s.linesOpen = false ∨ s.lineNext = none) →
    s.intk.wake = (0, d) :: w → ecc = .unc .descriptor ∨ ecc = .uncDomain .descriptor →
    exec (.laneEntry ecc) s = .next (({ s with intk := { s.intk with wake := w } }.countG 0x15).error 3 1 none 4 .all))
  ∧ (∀ (s : State) (d : Rec) (ecc : Ecc), s.inReset = false → s.lanesOpen = true → s.carriageNext = some d → 16 ≤ (s.laneQ (dLane d)).length →
    exec (.laneEntry ecc) s = .next s)
  ∧ (∀ (s : State) (n : Nat) (k : EvKind) (level : Bool), s.inReset = false → s.linesOpen = true →
    s.laneRoom 0 = true → (s.intk.lineLast = true → ∀ d, s.carriageNext = some d → dLane d ≠ 0) → s.lineNext = some (n, k, level) →
    ∃ u : State, exec .lineScan s = .next (u.countG 0x13) ∧ u.laneQ 0 = s.laneQ 0 ++ [.line n k] ∧ u.intk.lineLast = true
      ∧ (∀ j, 0 < j → j < 4 → u.laneQ j = s.laneQ j) ∧ u.regs = s.regs
      ∧ (level = true → u.intk.linePend = s.intk.linePend.erase (n, k) ∧ u.intk.latch = s.intk.latch)
      ∧ (level = false → u.intk.latch = putLine s.intk.latch n false ∧ u.intk.lastLine = n))

/-- EVENT_WINDOW_WRITE on a lane that does not stall: an event descriptor whose window is an event window and whose requester the Source Table does not know is discarded with reason 7; a known one takes its place in its source's epoch, keeps it while translation stalls it, and then leaves its lane and is translated with the key that KEYSEL selects, the waymarks behind it following; a descriptor with a reason of its own is discarded with it; a line event at the head is translated with key 0. -/
def Obligations.WindowEventsAndLines : Prop :=
  ∀ (s : State) (lane : Fin 4) (ecc : Ecc), s.PathUp →
    let u := s.noteFull
    u.laneStalls lane.val = false →
    (∀ (r : Rec) (q : List LaneItem), u.laneQ lane.val = .desc r :: q → u.descLost lane.val ecc = none →
      let v := u.descCor lane.val ecc
      dKind r = 1 →
      (∀ c, v.descReason r = some c →
        exec (.eventWindowWrite lane ecc) s = .next ((v.laneDrop lane.val).discardDesc c lane.val r none))
      ∧ (v.descReason r = none → v.fld F.INT_WIN_CFG_KIND (dWin r) = 1 →
        let o : Origin := ⟨lane.val, none, dSeg r, dRid r⟩
        let key := if v.bit F.INT_WIN_CFG_KEYSEL (dWin r) then dWoff r else dData r
        let goes (w : State) (m : Named) : Prop :=
          (w.xlateStalls m.ord key = true → exec (.eventWindowWrite lane ecc) s = .next w)
          ∧ (w.xlateStalls m.ord key = false → exec (.eventWindowWrite lane ecc) s =
            .next (((w.laneDrop lane.val).translate ⟨o, m.ord, .raise, m.pos, m.t0⟩ key ecc).wmAll))
        (∀ m, v.intk.named.find? (fun n => n.lane == lane.val) = some m → goes v m)
        ∧ (v.intk.named.find? (fun n => n.lane == lane.val) = none →
          let found := v.srcLookup (dSeg r) (dRid r) ecc
          (found.1 = none → exec (.eventWindowWrite lane ecc) s = .next ((found.2.laneDrop lane.val).discard 7 o none none))
          ∧ (∀ ord, found.1 = some ord →
            let placed := found.2.epochOf ord
            let m : Named := ⟨lane.val, ord, placed.1, placed.2.tim.ft⟩
            goes { placed.2 with intk := { placed.2.intk with named := placed.2.intk.named ++ [m] } } m))))
    ∧ (∀ (n : Nat) (k : EvKind) (q : List LaneItem), u.laneQ lane.val = .line n k :: q → u.xlateStalls (u.img.ords.lineBase + n) 0 = false →
      exec (.eventWindowWrite lane ecc) s =
        .next (((u.laneDrop 0).translate ⟨⟨0, some n, 0, n⟩, u.img.ords.lineBase + n, k, none, u.tim.ft⟩ 0 ecc).wmAll))

/-- Translation of an arrival: an entry that is not valid discards it with reason 8; a masked key that is not below KEY_LIMIT discards it with reason 9 at the domain of the entry; a LINEAR entry polices the event EID_BASE + k; an INDIRECT entry with a free depot tag asks for its map word and remembers what it is for. MAP_READ_RETURN: a poisoned word discards with reason 11 and raises the error, a word with bit 31 at 0 discards with reason 10, any other polices the event in bits 23:0. -/
def Obligations.TranslationOutcomes : Prop :=
  (∀ (s : State) (a : Arrival) (key : Nat) (ecc : Ecc),
    let u := s.xlateEcc a.ord ecc
    let e := u.xlateOf a.ord
    (e.valid = false → s.translate a key ecc = u.discard 8 a.o (some a.ord) none)
    ∧ (e.valid = true → e.limit ≤ (key &&& e.mask) → s.translate a key ecc = u.discard 9 a.o (some a.ord) (some e.dom))
    ∧ (e.valid = true → (key &&& e.mask) < e.limit → e.indirect = false →
      s.translate a key ecc = u.policed a e.dom (e.base + (key &&& e.mask)) e.msel e.pre ecc)
    ∧ (∀ t v, e.valid = true → (key &&& e.mask) < e.limit → e.indirect = true → u.depRead .map ((u.img.depot.tableBase + 4 * (e.base + (key &&& e.mask))) / 64) = some (t, v) →
      (s.translate a key ecc).intk.maps = v.intk.maps ++ [⟨t, a.ord, e.dom, e.base + (key &&& e.mask), a.o.lane, a.kind, a.pos, e.msel, e.pre,
        a.o.seg, a.o.line.getD a.o.rid, a.o.line.isSome, a.t0⟩]))
  ∧ (∀ (s : State) (tag : BitVec 10) (poison : Bool) (ecc : Ecc) (m : MapWait), s.CoreUp → s.intk.maps.find? (fun x => x.tag == tag.toNat) = some m →
    let u := { s with intk := { s.intk with maps := s.intk.maps.filter (fun x => x.tag ≠ tag.toNat) } }.freeDepTag tag.toNat
    let addr := s.img.depot.tableBase + 4 * m.index
    let a : Arrival := ⟨⟨m.lane, if m.line then some m.rid else none, m.seg, m.rid⟩, m.ord, m.kind, m.pos, m.t0⟩
    let w := s.depNat addr 4
    (poison = true → exec (.mapReadReturn tag poison ecc) s =
      .next ((((u.discard 11 a.o (some m.ord) (some m.dom)).error 4 2 (some m.dom) (addr / 512) .dom).wmAll).askFills))
    ∧ (poison = false → w < 2 ^ 31 → exec (.mapReadReturn tag poison ecc) s =
      .next (((u.discard 10 a.o (some m.ord) (some m.dom)).wmAll).askFills))
    ∧ (poison = false → 2 ^ 31 ≤ w → exec (.mapReadReturn tag poison ecc) s =
      .next (((u.policed a m.dom (w % 2 ^ 24) m.msel m.pre ecc).wmAll).askFills)))

/-- INTX_ASSERT and INTX_DEASSERT at the head of lane 0: a message that finds its wire already so is discarded with reason 6 and the wires are as they were; one that finds the wire otherwise sets or clears exactly that wire, leaves the lane, is counted and is translated with key 0 as a level event; a poisoned one is discarded with reason 5 and the wires are as they were. -/
def Obligations.IntxWires : Prop :=
  ∀ (s : State) (up : Bool) (ecc : Ecc) (r : Rec) (q : List LaneItem), s.PathUp →
    let c : Instr := if up then .intxAssert ecc else .intxDeassert ecc
    let x := s.noteFull
    let u := x.descCor 0 ecc
    let w := 4 * dHport r + dPin r
    let ord := u.img.ords.intxBase + w
    x.laneStalls 0 = false → x.laneQ 0 = .desc r :: q → dKind r = (if up then 2 else 3) → x.descLost 0 ecc = none →
    (dPoison r = true → exec c s = .next ((u.laneDrop 0).discardDesc 5 0 r none))
    ∧ (dPoison r = false → u.intk.wires.getLsbD w = up → exec c s = .next ((u.laneDrop 0).discardDesc 6 0 r (some ord)))
    ∧ (dPoison r = false → u.intk.wires.getLsbD w ≠ up → u.xlateStalls ord 0 = false →
      let bit : BitVec 512 := BitVec.ofNat 512 (2 ^ w)
      let v := { u with intk := { u.intk with wires := if up then u.intk.wires ||| bit else u.intk.wires &&& ~~~bit } }
      exec c s = .next (((((v.laneDrop 0).countG 0x14).translate
        ⟨⟨0, none, dSeg r, dRid r⟩, ord, if up then .lvlAssert else .lvlDeassert, none, u.tim.ft⟩ 0 ecc)).wmAll))

/-- LINE_CAPTURE of a pulse of at least 2 ns on an edge line, or on any line while CORE is not clocked, sets the latch (noting a latch first set while CORE is stopped, which LIN_PEND does not show) and, on an enabled line, requests the wake of the lines; on a level line with CORE clocked it does nothing. A pulse that is narrower is captured or not as the free value of the pulse says (log entry 1), and counts one free value used. LINE_LEVEL_CHANGE sets the raw level; with CORE clocked a changed level passes the synchroniser, and an enabled level line then queues its level event; while a reset line is asserted, or CORE is not clocked, nothing but the raw level moves. -/
def Obligations.LineInputs : Prop :=
  (∀ (s : State) (n : BitVec 10), s.inReset = false → s.lineIsLevel n.toNat = false ∨ s.coreOn = false →
    let u := if s.coreOn || s.intk.latch.getLsbD n.toNat then s
      else { s with intk := { s.intk with fresh := putLine s.intk.fresh n.toNat true } }
    (s.bit F.LIN_CFG_EN n.toNat = true → exec (.lineCapture n false) s = .next ((u.setLatch n.toNat true).wakeReq 2 n.toNat))
    ∧ (s.bit F.LIN_CFG_EN n.toNat = false → exec (.lineCapture n false) s = .next (u.setLatch n.toNat true)))
  ∧ (∀ (s : State) (n : BitVec 10), s.inReset = false → s.lineIsLevel n.toNat = true → s.coreOn = true →
    exec (.lineCapture n false) s = .next s)
  ∧ (∀ (s : State) (n : BitVec 10), s.inReset = false →
    let u := { s with intk := { s.intk with narrow := s.intk.narrow + 1 } }
    (Config.narrowPulseCaptured s.intk.narrow = false → exec (.lineCapture n true) s = .next u)
    ∧ (Config.narrowPulseCaptured s.intk.narrow = true → exec (.lineCapture n true) s = exec (.lineCapture n false) u))
  ∧ (∀ (s : State) (n : BitVec 10) (v : Bool),
    let u := { s with intk := { s.intk with level := putLine s.intk.level n.toNat v } }
    (s.inReset = true ∨ s.coreOn = false → exec (.lineLevelChange n v) s = .next u)
    ∧ (s.inReset = false → s.coreOn = true → s.intk.sync.getLsbD n.toNat ≠ v →
      let w := { u with intk := { u.intk with sync := putLine s.intk.sync n.toNat v } }
      ((s.bit F.LIN_CFG_EN n.toNat && s.lineIsLevel n.toNat) = false → exec (.lineLevelChange n v) s = .next w)
      ∧ ((s.bit F.LIN_CFG_EN n.toNat && s.lineIsLevel n.toNat) = true → exec (.lineLevelChange n v) s =
        .next (w.linePush n.toNat (if w.lineLevel n.toNat then .lvlAssert else .lvlDeassert)).lineScan)))

/-- DEP_RESPONSE: a response whose tag no request holds, data for a write, or an acknowledgement for a read, is discarded: it sets DEP_PROTO and raises its error, and the tag stays as it was; data for a fill, for a map word and for a line of a replay, the acknowledgement of a write-back, of a journal line and of any other write, and either for the line of a job that reads or writes, end the request that holds the tag. -/
def Obligations.DepotResponses : Prop :=
  ∀ (s : State) (data poison : Bool) (ecc : Ecc) (tag : BitVec 10), s.boot.held = false →
    let bad := (s.raise F.SST_STATUS_DEP_PROTO).error 5 4 none tag.toNat .none
    (SMap.find s.dep.tags tag.toNat = none → exec (.depResponse data tag poison ecc) s = .next bad)
    ∧ (∀ t : DepTag, SMap.find s.dep.tags tag.toNat = some t →
      (∀ n, t.use = .fill n →
        exec (.depResponse data tag poison ecc) s = .next (if data then s.fill n poison ecc else bad))
      ∧ (t.use = .map →
        exec (.depResponse data tag poison ecc) s = .next (if data then s.mapResponse tag.toNat poison ecc else bad))
      ∧ (∀ n, t.use = .stateWb n →
        exec (.depResponse data tag poison ecc) s = .next (if data then bad else s.wbAck tag.toNat))
      ∧ (∀ d, t.use = .jrnl d →
        exec (.depResponse data tag poison ecc) s = .next (if data then bad else (s.jAck d tag.toNat).askFills))
      ∧ (∀ d, t.use = .replay d → exec (.depResponse data tag poison ecc) s =
        .next (if data then ((s.freeDepTag tag.toNat).rplTook d t.line poison).askFills else bad))
      ∧ (∀ id n, t.use = .job id n → exec (.depResponse data tag poison ecc) s =
        .next (if data = t.write then bad else ((s.freeDepTag tag.toNat).jobAnswer id n t.line poison).askFills))
      ∧ (t.use = .other →
        exec (.depResponse data tag poison ecc) s = .next (if data then bad else (s.freeDepTag tag.toNat).askFills)))

/-- STATE_MISS_FILL for a line whose read is outstanding, with room for it: its tag is freed, and then, as soon as a place for it is found, the line is installed, the miss removed, and the waiting inputs of that line applied in their order, to entries that a poisoned fill first made POISONED; where no place is free, or the inputs that wait may not dirty the line yet, the data waits; without such a read nothing happens. VICTIM_WRITEBACK writes the first victim whose write is not outstanding and remembers its tag, unless a journal line goes first. SST_INIT_DONE in STAGE 2, once the headers of the save slots are read, gives every entry its initial value and sets INIT_DONE, once. That SST_INIT_DONE acts when commanded, and that unwritten depot memory and backing read as they do, is the model's choice of log entries 7 and 2. -/
def Obligations.FillsAndWriteBacks : Prop :=
  (∀ (s : State) (line : BitVec 21) (poison : Bool) (ecc : Ecc), s.CoreUp →
    s.sst.missq.find? (fun m => m.line == line.toNat && m.tag.isSome) = none → exec (.stateMissFill line poison ecc) s = .next s)
  ∧ (∀ (s : State) (line : BitVec 21) (poison : Bool) (ecc : Ecc) (m : Miss), s.CoreUp →
    s.sst.missq.find? (fun m => m.line == line.toNat && m.tag.isSome) = some m →
    let a := s.freeDepTag (m.tag.getD 0)
    let b := { a with sst := { a.sst with missq := a.sst.missq.map (fun (x : Miss) =>
      if x.line = line.toNat then { x with tag := none, got := some poison } else x) } }
    let c := b.probe 4 ((b.tim.ft - m.t0) / 45)
    exec (.stateMissFill line poison ecc) s = .next (c.landMiss line.toNat ecc).askFills)
  ∧ (∀ (s v : State) (n : Nat) (m : Miss) (ecc : Ecc), s.sst.missq.find? (fun m => m.line == n && m.got.isSome) = some m →
    (s.install n (s.backingLine n) false = none → s.landMiss n ecc = s)
    ∧ (s.install n (s.backingLine n) false = some v → v.lineReady n = false → s.landMiss n ecc = s)
    ∧ (s.install n (s.backingLine n) false = some v → v.lineReady n = true →
      let b := { v with sst := { v.sst with missq := v.sst.missq.filter (fun x => x.line ≠ n) } }
      s.landMiss n ecc = (if m.got = some true then b.poisonLine n else b).applyInputs n m.inputs ecc))
  ∧ (∀ s : State, s.CoreUp → s.sst.victims.find? (fun v => v.tag.isNone) = none ∨ s.jLineDue = true →
    exec .victimWriteback s = .next s)
  ∧ (∀ (s u : State) (v : Victim) (t : Nat), s.CoreUp → s.sst.victims.find? (fun v => v.tag.isNone) = some v →
    s.jLineDue = false → s.writeBack v.line v.entries = some (t, u) →
    exec .victimWriteback s =
      .next { u with sst := { u.sst with victims := u.sst.victims.map (fun x => if x = v then { v with tag := some t } else x) } })
  ∧ (∀ s : State, s.CoreUp →
    (s.stage = 2 → s.sav.scan = none → s.bit F.SST_STATUS_INIT_DONE = false →
      exec .sstInitDone s = .next ({ s with dep := { s.dep with backing := [] } }.raise F.SST_STATUS_INIT_DONE).askFills)
    ∧ (s.stage ≠ 2 ∨ s.sav.scan ≠ none ∨ s.bit F.SST_STATUS_INIT_DONE = true → exec .sstInitDone s = .next s))

/-- SCRUB with a nonzero interval takes the first cached line at or after its pointer, from the start after the last, moves the pointer behind it, and treats the event entry that a memory error names there, asking the depot for the line again where it had to be erased, or setting MQ_FULL where the miss queue has no room for that; with SCRUB_INT 0, or an empty cache, nothing happens. That SCRUB acts when commanded, without its period, is the model's choice of log entry 7. -/
def Obligations.ScrubReadsOneLine : Prop :=
  (∀ (s : State) (ecc : Ecc), s.CoreUp → s.fld F.SST_CTRL_SCRUB_INT = 0 ∨ s.sst.cache = [] → exec (.scrub ecc) s = .next s)
  ∧ (∀ (s : State) (n : Nat) (l : Line), s.CoreUp → s.fld F.SST_CTRL_SCRUB_INT ≠ 0 →
    (s.sst.cache.find? (fun x => decide (s.sst.scrub ≤ x.1))).orElse (fun _ => s.sst.cache.head?) = some (n, l) →
    let u := { s with sst := { s.sst with scrub := n + 1 } }
    exec (.scrub .none) s = .next u
    ∧ (∀ k : Fin 8, exec (.scrub (.cor (.stateEntry k))) s = .next (let r := u.entryEcc (8 * n + k.val) (.cor (.stateEntry k))
        if r.1 then r.2 else if r.2.mqRoom n then r.2.joinAll n [] else r.2.raise F.SST_STATUS_MQ_FULL))
    ∧ (∀ k : Fin 8, exec (.scrub (.unc (.stateEntry k))) s = .next (let r := u.entryEcc (8 * n + k.val) (.unc (.stateEntry k))
        if r.1 then r.2 else if r.2.mqRoom n then r.2.joinAll n [] else r.2.raise F.SST_STATUS_MQ_FULL))
    ∧ (∀ k : Fin 8, exec (.scrub (.uncDomain (.stateEntry k))) s = .next (let r := u.entryEcc (8 * n + k.val) (.uncDomain (.stateEntry k))
        if r.1 then r.2 else if r.2.mqRoom n then r.2.joinAll n [] else r.2.raise F.SST_STATUS_MQ_FULL)))

/-- SST_RTCMD.GO and SST_CFGCMD.GO: a GO while BUSY is 1 is ignored; a range outside the domain ends with ERR 1, a reserved operation with ERR 2, and CLEAR_STATE of an enabled domain with ERR 4, none touching an entry; an accepted command reports ERR 0 and BUSY while it runs over EID to EID + CNT, a read over the first EID alone, a write of a sequenced enabled domain first waiting for the epoch close. -/
def Obligations.RangeCommands : Prop :=
  (∀ (s : State) (d : Nat) (ecc : Ecc),
    let op := s.fld F.SST_RTCMD_OP d
    let eid := s.fld F.SST_RTCMD_EID d
    let n := if op = 1 then 0 else s.fld F.SST_RTCNT_CNT d
    let go := (s.raise F.SST_RTCMD_BUSY d).setFld F.SST_RTCMD_ERR d 0
    (s.bit F.SST_RTCMD_BUSY d = true → s.startRt d ecc = s)
    ∧ (s.bit F.SST_RTCMD_BUSY d = false → s.rangeOk d eid n = false → s.startRt d ecc = s.setFld F.SST_RTCMD_ERR d 1)
    ∧ (s.bit F.SST_RTCMD_BUSY d = false → s.rangeOk d eid n = true → (op = 0 ∨ 5 < op) → s.startRt d ecc = s.setFld F.SST_RTCMD_ERR d 2)
    ∧ (s.bit F.SST_RTCMD_BUSY d = false → s.rangeOk d eid n = true → 1 ≤ op → op ≤ 5 →
      (op ≠ 1 ∧ go.sequenced d = true ∧ go.domEn d = true →
        (s.startRt d ecc).sst.cmds = go.sst.cmds ++ [⟨false, d, op, eid, n + 1, true, false⟩] ∧ (s.startRt d ecc).fld F.SST_RTCMD_BUSY d = 1)
      ∧ (op = 1 ∨ go.sequenced d = false ∨ go.domEn d = false →
        s.startRt d ecc = State.runCmd (n + 2) (go.cmdEcc eid ecc) ⟨false, d, op, eid, n + 1, false, false⟩)))
  ∧ (∀ (s : State) (d : Nat) (ecc : Ecc),
    let op := s.fld F.SST_CFGCMD_OP d
    let eid := s.fld F.SST_CFGCMD_EID d
    let n := s.fld F.SST_CFGCNT_CNT d
    let go := (s.raise F.SST_CFGCMD_BUSY d).setFld F.SST_CFGCMD_ERR d 0
    (s.bit F.SST_CFGCMD_BUSY d = true → s.startCfg d ecc = s)
    ∧ (s.bit F.SST_CFGCMD_BUSY d = false → s.rangeOk d eid n = false → s.startCfg d ecc = s.setFld F.SST_CFGCMD_ERR d 1)
    ∧ (s.bit F.SST_CFGCMD_BUSY d = false → s.rangeOk d eid n = true → (op = 0 ∨ 3 < op) → s.startCfg d ecc = s.setFld F.SST_CFGCMD_ERR d 2)
    ∧ (s.bit F.SST_CFGCMD_BUSY d = false → s.rangeOk d eid n = true → op = 2 → s.domEn d = true →
      s.startCfg d ecc = s.setFld F.SST_CFGCMD_ERR d 4)
    ∧ (s.bit F.SST_CFGCMD_BUSY d = false → s.rangeOk d eid n = true → op = 2 → s.domEn d = false →
      s.startCfg d ecc = State.runCmd (n + 2) (go.cmdEcc eid ecc) ⟨true, d, 2, eid, n + 1, false, false⟩)
    ∧ (s.bit F.SST_CFGCMD_BUSY d = false → s.rangeOk d eid n = true → (op = 1 ∨ op = 3) →
      s.startCfg d ecc = State.runCmd (n + 2) ((go.cfgChanged (some d)).cmdEcc eid ecc) ⟨true, d, op, eid, n + 1, false, false⟩))

/-- WAYMARK_MARK (MARK and the reserved kind 3), WAYMARK_QUIET and WAYMARK_RESUME on a lane that does not stall: a head of another kind is left alone; a requester that the Source Table does not know discards with reason 7; a waymark of a source whose domain is not sequenced or not running is ignored and counted; one of a domain that is disabled, fenced or held is discarded and counted at the domain; one of a domain whose journal holds it back stays at the head; any other leaves its lane and marks its source. -/
def Obligations.WaymarksFollowTheirSource : Prop :=
  ∀ (s : State) (lane : Fin 4) (ecc : Ecc) (kind : Fin 3) (r : Rec), s.PathUp →
    let c : Instr := if kind.val = 0 then .waymarkMark lane ecc else if kind.val = 1 then .waymarkQuiet lane ecc else .waymarkResume lane ecc
    let mine : List Nat := if kind.val = 0 then [0, 3] else if kind.val = 1 then [1] else [2]
    let u := s.noteFull
    let f := (u.descCor lane.val ecc).srcLookup (dSeg r) (dRid r) ecc
    u.laneStalls lane.val = false → u.windowHead lane.val 2 = some r →
    (mine.contains (dData r / 2 ^ 30 % 4) = false → exec c s = .next u)
    ∧ (mine.contains (dData r / 2 ^ 30 % 4) = true → u.descLost lane.val ecc = none → f.1 = none →
      exec c s = .next ((f.2.laneDrop lane.val).discard 7 ⟨lane.val, none, dSeg r, dRid r⟩ none none))
    ∧ (∀ ord, mine.contains (dData r / 2 ^ 30 % 4) = true → u.descLost lane.val ecc = none → f.1 = some ord →
      let v := f.2.laneDrop lane.val
      (f.2.img.caravanOf ord = none → exec c s = .next (v.countG 0x1E))
      ∧ (∀ d, f.2.img.caravanOf ord = some d → f.2.jStopped d = true → exec c s = .next f.2)
      ∧ (∀ d, f.2.img.caravanOf ord = some d → f.2.jStopped d = false →
        (v.sequenced d = false → exec c s = .next (v.countG 0x1E))
        ∧ (v.sequenced d = true → (v.domEn d = false ∨ v.bit F.VFM_DOM_STAT_FENCED d = true ∨ v.held d = true) →
          exec c s = .next (v.countD d 26))
        ∧ (v.sequenced d = true → v.domEn d = true → v.bit F.VFM_DOM_STAT_FENCED d = false → v.held d = false →
          (v.running d = false → exec c s = .next (v.countG 0x1E))
          ∧ (v.running d = true → exec c s = .next (v.waymark d ord (dWoff r) (dData r))))))

/-- HOLD_CLOCK_START of a running sequenced domain whose epoch has reached its length starts the hold clock at 0 and closes what may close, at every member of the ring (the model's choice: log entry 97); OVERDUE at the coordinator, once per epoch and not before its time, sets OVERDUE and counts it; STRAGGLER at the coordinator, not before the ceiling, declares every missing source, breaches conditions 2 and 3, sets STRAGGLER and closes; before their time all three leave the state as it was. -/
def Obligations.EpochTimers : Prop :=
  (∀ (s : State) (d : BitVec 12), s.PathUp →
    let r := s.run d.toNat
    (s.running d.toNat = true → s.sequenced d.toNat = true → r.clock = none → r.since + s.epochLen d.toNat * 45 ≤ s.tim.ft →
      exec (.holdClockStart d) s = .next ((s.setRun d.toNat { r with clock := some 0 }).closeAll d.toNat))
    ∧ (s.running d.toNat = false ∨ s.tim.ft < r.since + s.epochLen d.toNat * 45 → exec (.holdClockStart d) s = .next s))
  ∧ (∀ (s : State) (d : BitVec 12), s.PathUp →
    let due := s.coordinator && s.clockAt d.toNat (s.stragTs d.toNat) && !(s.run d.toNat).overdue
    (due = true → exec (.overdue d) s =
      .next (((s.setRun d.toNat { s.run d.toNat with overdue := true }).raise F.CVN_STATUS_OVERDUE d.toNat).countD d.toNat 23))
    ∧ (due = false → exec (.overdue d) s = .next s))
  ∧ (∀ (s : State) (d : BitVec 12), s.PathUp →
    let at_ceiling := s.coordinator && s.clockAt d.toNat (s.holdCeil d.toNat)
    let e := (s.run d.toNat).oldest
    (at_ceiling = true → exec (.straggler d) s =
      .next (((((s.missing d.toNat).foldl (fun (u : State) o => ((u.stragglerSrc o e).logStrag d.toNat o 0).sendSilent d.toNat o e 0) s).breach
        d.toNat 2).breach d.toNat 3).raise F.CVN_STATUS_STRAGGLER d.toNat |>.closeAll d.toNat))
    ∧ (at_ceiling = false → exec (.straggler d) s = .next s))

/-- RELEASE forgets the closed epochs that hold nothing and are agreed, then releases up to two events, of different EIDs, the first with the memory error that the command names; RELEASE_RETRY empties the list of refused releases and tries each of them once, in its order. -/
def Obligations.ReleasesOfClosedEpochs : Prop :=
  (∀ (s : State) (ecc : Ecc), s.PathUp →
    let u := { s with cvn := { s.cvn with closed := s.cvn.closed.filter (fun c => !c.groups.isEmpty || !c.agreed) } }
    let v := u.releaseOne ecc
    ((v.nextGroup.map (·.eid)) = (u.nextGroup.map (·.eid)) → exec (.release ecc) s = .next v)
    ∧ ((v.nextGroup.map (·.eid)) ≠ (u.nextGroup.map (·.eid)) → exec (.release ecc) s = .next (v.releaseOne .none)))
  ∧ (∀ (s : State) (ecc : Ecc), s.PathUp →
    (s.cvn.refused = [] → exec (.releaseRetry ecc) s = .next s)
    ∧ (∀ r l, s.cvn.refused = r :: l → exec (.releaseRetry ecc) s =
      .next (l.foldl (fun (u : State) x => u.relTry x .none) ({ s with cvn := { s.cvn with refused := [] } }.relTry r ecc))))

/-- CVN_SRC_CMD.GO: an ordinal that no running CARAVAN domain has ends with ERR 1, a reserved operation with ERR 2, a block that is not the coordinator with ERR 3, each changing nothing else; an accepted command declares the source silent and ends with ERR 0. -/
def Obligations.SilenceOfASource : Prop :=
  ∀ s : State,
    let o := s.fld F.CVN_SRC_CMD_ORDINAL
    let d := s.img.caravanOf o
    (d.any s.running = false → s.startSilence = s.setFld F.CVN_SRC_CMD_ERR 0 1)
    ∧ (d.any s.running = true → s.fld F.CVN_SRC_CMD_OP ≠ 1 → s.startSilence = s.setFld F.CVN_SRC_CMD_ERR 0 2)
    ∧ (d.any s.running = true → s.fld F.CVN_SRC_CMD_OP = 1 → s.coordinator = false → s.startSilence = s.setFld F.CVN_SRC_CMD_ERR 0 3)
    ∧ (∀ k, d = some k → s.running k = true → s.fld F.CVN_SRC_CMD_OP = 1 → s.coordinator = true →
      s.startSilence = (s.silence k o).setFld F.CVN_SRC_CMD_ERR 0 0)

/-- RTE_TCMD.GO of a domain: a target that the domain does not own ends with ERR 1 and a reserved operation with ERR 2, no control moving; a read copies RTE_TGT_RT of the target into RTE_TDATA; a write copies RTE_TDATA into RTE_TGT_RT; both end with ERR 0, and no other register than these two and RTE_TCMD changes. -/
def Obligations.TargetRuntimeCommands : Prop :=
  ∀ (s : State) (d : Nat), d < 65536 →
    let t := s.fld F.RTE_TCMD_TARGET d
    let u := s.tgtCmd d
    t < 65536 →
    (s.fld F.RTE_TGT_CFG_OWNER t ≠ d → u = s.setFld F.RTE_TCMD_ERR d 1)
    ∧ (s.fld F.RTE_TGT_CFG_OWNER t = d →
      (s.fld F.RTE_TCMD_OP d = 1 → u.reg .RTE_TDATA d = s.reg .RTE_TGT_RT t ∧ u.fld F.RTE_TCMD_ERR d = 0
        ∧ u.reg .RTE_TGT_RT t = s.reg .RTE_TGT_RT t)
      ∧ (s.fld F.RTE_TCMD_OP d = 2 → u.reg .RTE_TGT_RT t = s.reg .RTE_TDATA d ∧ u.fld F.RTE_TCMD_ERR d = 0
        ∧ u.reg .RTE_TDATA d = s.reg .RTE_TDATA d)
      ∧ (s.fld F.RTE_TCMD_OP d ≠ 1 → s.fld F.RTE_TCMD_OP d ≠ 2 → u = s.setFld F.RTE_TCMD_ERR d 2)
      ∧ ∀ (r : Reg) (i : Nat), i < 65536 → ¬ (r = .RTE_TDATA ∧ i = d) → ¬ (r = .RTE_TGT_RT ∧ i = t) → ¬ (r = .RTE_TCMD ∧ i = d) →
        u.reg r i = s.reg r i)

/-- WAITING_ADMISSION on a primary: with no waiting event the state is as it was; otherwise a memory error of the word that the scan reads is treated, an uncorrectable one ending the cycle (a word holds 64 EIDs: the model's choice of log entry 149), and then the event that the scan names is admitted, and the next one of the scan. HAND_OVER on a primary: with nothing to hand over, or no room at the input of shaping, the state is as it was; with one target chosen its head is handed over and shaping runs; with two, both choices come before either hand-over, and both heads go. -/
def Obligations.RankingCommands : Prop :=
  (∀ (s : State) (ecc : Ecc), s.PathUp → s.standby = true ∨ s.scanNext none = none → exec (.waitingAdmission ecc) s = .next s)
  ∧ (∀ (s : State) (ecc : Ecc) (d e : Nat), s.PathUp → s.standby = false → s.scanNext none = some (d, e) →
    let w := s.waitEcc d e ecc
    let u := w.2.scanAdmit d e
    (w.1 = false → exec (.waitingAdmission ecc) s = .next w.2)
    ∧ (w.1 = true → u.scanNext (some d) = none → exec (.waitingAdmission ecc) s = .next u)
    ∧ (∀ d2 e2, w.1 = true → u.scanNext (some d) = some (d2, e2) → exec (.waitingAdmission ecc) s = .next (u.scanAdmit d2 e2)))
  ∧ (∀ (s : State) (ecc : Ecc), s.PathUp → s.standby = true ∨ s.inputRoom = false ∨ s.chooseTake [] = none →
    exec (.handOver ecc) s = .next s)
  ∧ (∀ (s u : State) (ecc : Ecc) (t : Nat), s.PathUp → s.standby = false → s.inputRoom = true →
    s.chooseTake [] = some (t, u) →
    (u.chooseTake [t] = none → exec (.handOver ecc) s = .next ((u.handOne t ecc).shapeRun (some t) ecc))
    ∧ (∀ t2 v, u.chooseTake [t] = some (t2, v) →
      exec (.handOver ecc) s = .next (((v.handOne t ecc).handOne t2 .none).shapeRun (some t) ecc)))

/-- REFILL_TICK brings the buckets up to the time once a tick has come and runs shaping, and before that changes nothing; nothing refills while the block saves; PENDING_LIST_SWITCH before the start of the pending list, or with none, changes nothing, and at its start makes the list operative, clears PENDING and the pending start, and retests the heads; GATE_OPENING tries the heads whose window has opened; GATE_CYCLE_START at a cycle of the operative list that has not been seen takes the values that wait for it, and tries the heads again where the group is gated no more, and within a cycle changes nothing; PARKED_RETURN offers the first parked head that may return. -/
def Obligations.WheelAndGateClocks : Prop :=
  (∀ (s : State) (ecc : Ecc), s.CoreUp → s.wwl.tickAt ≤ s.ns → exec (.refillTick ecc) s = .next ((s.catchUp ecc).shapeRun none .none ecc))
  ∧ (∀ (s : State) (ecc : Ecc), s.CoreUp → s.ns < s.wwl.tickAt → exec (.refillTick ecc) s = .next s)
  ∧ (∀ (s : State) (ecc : Ecc), s.saving = true → s.catchUp ecc = s)
  ∧ (∀ (s : State) (g : BitVec 10) (l : GateList), s.CoreUp → SMap.find s.oas.pend g.toNat = some l →
    (s.ns < l.start → exec (.pendingListSwitch g) s = .next s)
    ∧ (l.start ≤ s.ns →
      let u := s.setOper g.toNat l
      let v := { u with oas := { u.oas with pend := SMap.erase u.oas.pend g.toNat, damaged := u.oas.damaged.filter (· ≠ g.toNat) } }
      let w := (v.lower F.OAS_GCMD_PENDING g.toNat).setReg64 .OAS_PEND_START_LO .OAS_PEND_START_HI g.toNat 0
      exec (.pendingListSwitch g) s = .next (((w.noteCycle g.toNat).gateBoundary g.toNat).gateRecheck g.toNat)))
  ∧ (∀ (s : State) (g : BitVec 10), s.CoreUp → SMap.find s.oas.pend g.toNat = none → exec (.pendingListSwitch g) s = .next s)
  ∧ (∀ (s : State) (g : BitVec 10) (ecc : Ecc), s.PathUp → exec (.gateOpening g ecc) s =
    .next (s.gateHeads ((s.gateWaiters g.toNat).filter (fun h => match h.stage with
      | .gate (some t) => decide (t ≤ s.tim.ft)
      | _ => false)) 1 ecc))
  ∧ (∀ (s : State) (g : BitVec 10), s.CoreUp →
    let u := (s.noteCycle g.toNat).gateBoundary g.toNat
    (s.cycleNow g.toNat ≤ SMap.get 0 s.oas.cyc g.toNat → exec (.gateCycleStart g) s = .next s)
    ∧ (SMap.get 0 s.oas.cyc g.toNat < s.cycleNow g.toNat →
      exec (.gateCycleStart g) s = .next (if s.gated g.toNat && !u.gated g.toNat then u.gateRecheck g.toNat else u)))
  ∧ (∀ (s : State) (ecc : Ecc), s.PathUp → s.rnk.heads.find? (fun h => s.parkCleared h) = none → exec (.parkedReturn ecc) s = .next s)
  ∧ (∀ (s : State) (ecc : Ecc) (h : Head), s.PathUp → s.rnk.heads.find? (fun h => s.parkCleared h) = some h →
    exec (.parkedReturn ecc) s = .next (s.readHead h ecc (fun u => u.gateHead h 2 ecc)))

/-- The start that COMMIT of an admission list gives is at least 2 microseconds from now, is the base plus a whole number of cycles, is the base itself where that is in time, and is the first such start where it is not. -/
def Obligations.LateListStart : Prop :=
  ∀ base cycle now : Nat, 0 < cycle →
    now + 2000 ≤ (lateStart base cycle now).2 ∧ (lateStart base cycle now).2 = base + (lateStart base cycle now).1 * cycle
    ∧ (now + 2000 ≤ base → lateStart base cycle now = (0, base))
    ∧ (base < now + 2000 → (lateStart base cycle now).2 < now + 2000 + cycle)

/-- EGRESS_BEAT_TAKEN takes up to two writes from the front of the egress queue, counts their bytes at their ports and lets writes and heads go on; while the block is halted none is taken. EGRESS_ACK of a tag that no taken write holds sets ACK_STRAY and nothing else; with status 0 it frees exactly that tag; with any other status the bit of the host port in DLV_HPORT_DOWN is set, HPORT_DOWN is raised with its error, the write joins the unsent list in issue order and keeps its tag. That an acknowledgement is taken unless COLD_RST_N is asserted, and one of a write that is not taken is stray, is the model's choice of log entry 57. -/
def Obligations.EgressWritesAndAcknowledgements : Prop :=
  (∀ s : State, s.inReset = false → s.halted = true → exec .egressBeatTaken s = .next s)
  ∧ (∀ s : State, s.inReset = false → s.halted = false →
    let u := { s with dlv := { s.dlv with egr := s.dlv.egr.drop 2 } }
    exec .egressBeatTaken s =
      .next ((((s.dlv.egr.take 2).foldl (fun (v : State) w => v.traffic w.hport true (4 * w.len)) u).pumpWrites 128).pumpHeads))
  ∧ (∀ (s : State) (tag : BitVec 12) (st : BitVec 2), s.boot.held = false → s.takenWrite tag.toNat = none →
    exec (.egressAck tag st) s = .next (s.raise F.DLV_STATUS_ACK_STRAY))
  ∧ (∀ (s : State) (tag : BitVec 12) (w : EgrWrite), s.boot.held = false → s.takenWrite tag.toNat = some w →
    exec (.egressAck tag 0) s = .next (s.ackGood w))
  ∧ (∀ (s : State) (tag : BitVec 12) (st : BitVec 2) (w : EgrWrite), s.boot.held = false → s.takenWrite tag.toNat = some w → st ≠ 0 →
    let u := ((s.setReg .DLV_HPORT_DOWN (w.hport / 32) (s.reg .DLV_HPORT_DOWN (w.hport / 32)
      ||| BitVec.ofNat 32 (2 ^ (w.hport % 32)))).raise F.DLV_STATUS_HPORT_DOWN).error 21 9 none w.hport .none
    exec (.egressAck tag st) s = .next { u with dlv := { u.dlv with unsent := insertWrite w u.dlv.unsent } })
  ∧ (∀ s : State, s.boot.held = true → ∀ (tag : BitVec 12) (st : BitVec 2), exec (.egressAck tag st) s = .next s)

/-- DLV_HPORT_CMD.RESUME: before writes go on, the bit of the port in DLV_HPORT_DOWN reads 0, every other bit of it is as before, the unsent writes of the port stand in their order behind the writes already to be re-issued, and the unsent writes of other ports stay. RSTPTR sets PI, CI and ARM of its ring to 0. -/
def Obligations.ResumeReissues : Prop :=
  (∀ (s : State) (p : Nat), p < 128 →
    ∃ u : State, s.resumePort p = u.pumpWrites 128
      ∧ (u.reg .DLV_HPORT_DOWN (p / 32)).getLsbD (p % 32) = false
      ∧ (∀ k, k < 32 → k ≠ p % 32 → (u.reg .DLV_HPORT_DOWN (p / 32)).getLsbD k = (s.reg .DLV_HPORT_DOWN (p / 32)).getLsbD k)
      ∧ u.dlv.reissue = s.dlv.reissue ++ s.dlv.unsent.filter (fun w => w.hport = p)
      ∧ u.dlv.unsent = s.dlv.unsent.filter (fun w => w.hport ≠ p)
      ∧ u.dlv.tags = s.dlv.tags ∧ u.sst = s.sst)
  ∧ (∀ (s : State) (r : Option Nat), s.clearPtrs r = ((s.setPi 0 r).setCi 0 r).setArm false r)

/-- COMPLETE, COMPLETE_ANY, CONSUME and DOORBELL_RESERVED_OP on a lane that does not stall: a head that is another doorbell is left alone; one whose word cannot be read is lost with its error; at a standby the doorbell leaves the lane and goes to the partner; otherwise it leaves the lane and runs: a completion with or without the check of SEQ, a consumer pointer, or, for the reserved operation, only its record. -/
def Obligations.DoorbellsOfALane : Prop :=
  ∀ (s : State) (lane : Fin 4) (op : Fin 4) (ecc : Ecc) (r : Rec), s.PathUp →
    let c : Instr := if op.val = 0 then .complete lane ecc else if op.val = 1 then .completeAny lane ecc
      else if op.val = 2 then .consume lane ecc else .doorbellReservedOp lane ecc
    let u := s.noteFull
    u.laneStalls lane.val = false → u.windowHead lane.val 3 = some r →
    (dWoff r / 2 ^ 20 ≠ op.val → exec c s = .next u)
    ∧ (dWoff r / 2 ^ 20 = op.val →
      let v := (u.descCor lane.val ecc).laneDrop lane.val
      (∀ x, u.descLost lane.val ecc = some x → exec c s = .next x)
      ∧ (u.descLost lane.val ecc = none → v.standby = true →
        exec c s = .next (v.toPartner 4 (dHport r * 2 ^ 109 + dWoff r * 2 ^ 87 + dData r * 2 ^ 55)))
      ∧ (u.descLost lane.val ecc = none → v.standby = false →
        (op.val = 0 → exec c s = .next (v.doComplete (some (dHport r)) false (dWoff r) (dData r) ecc).2.askFills)
        ∧ (op.val = 1 → exec c s = .next (v.doComplete (some (dHport r)) true (dWoff r) (dData r) ecc).2.askFills)
        ∧ (op.val = 2 → exec c s = .next (v.doConsume (some (dHport r)) (dWoff r) (dData r)).2.askFills)
        ∧ (op.val = 3 → exec c s = .next (v.logDoorbell 1 (dHport r) (dWoff r) (dData r)).askFills)))

/-- CMP_DBCMD.GO: an EID or target outside the domain ends with ERR 1, the reserved operation with ERR 2, a doorbell that is logged or stray with ERR 3, a good one with ERR 0. CMP_FORCE.GO: an EID that is not ACTIVE ends with ERR 1 and changes nothing else; an ACTIVE one completes, by its active record where it has one that can be read. -/
def Obligations.DoorbellRegisters : Prop :=
  (∀ (s : State) (d : Nat) (ecc : Ecc),
    (s.dbOutside d = true → s.startDb d ecc = s.setFld F.CMP_DBCMD_ERR d 1)
    ∧ (s.dbOutside d = false → s.fld F.CMP_DBCMD_OP d = 3 → s.startDb d ecc = s.setFld F.CMP_DBCMD_ERR d 2)
    ∧ (s.dbOutside d = false → s.fld F.CMP_DBCMD_OP d ≠ 3 →
      let run := s.doorbell none (dbOffset (s.fld F.CMP_DBCMD_OP d) (s.fld F.CMP_DBCMD_FRING d) (s.fld F.CMP_DBCMD_TARGET d))
        (s.reg .CMP_DBDATA d).toNat ecc
      (run.1 = true → s.startDb d ecc = run.2.setFld F.CMP_DBCMD_ERR d 0)
      ∧ (run.1 = false → s.startDb d ecc = run.2.setFld F.CMP_DBCMD_ERR d 3)))
  ∧ (∀ (s : State) (ecc : Ecc),
    let eid := s.fld F.CMP_FORCE_EID
    let u := s.setFld F.CMP_FORCE_ERR 0 0
    ((s.entryNow eid).st ≠ .active → s.startForce ecc = s.setFld F.CMP_FORCE_ERR 0 1)
    ∧ ((s.entryNow eid).st = .active →
      (∀ a, u.dlv.active.find? (fun a => a.eid == eid && !a.replay) = some a →
        let r := u.activeEcc a ecc
        (r.1 = true → s.startForce ecc = r.2.finish a ecc)
        ∧ (r.1 = false → s.startForce ecc = (r.2.completeAt eid none .none).pumpHeads))
      ∧ (u.dlv.active.find? (fun a => a.eid == eid && !a.replay) = none → s.startForce ecc = (u.completeAt eid none ecc).pumpHeads)))

/-- REDELIVERY_TIMEOUT of an expired record: in a CARAVAN domain, or after RD_MAX redeliveries, a LOST entry is pushed and the timer stopped; otherwise the original entry goes to the gate as a redelivery; with no expired record only the heads go on. LOST_RETRY empties the list of expiries that found the tracker full and tries each in order. FAULT_DELIVERY on a ready fault ring writes the first LOST entry, before any offer of the fault queue; without a free tag it sets TAG_STALL, and an offer without a free active record sets ACT_FULL; with neither entry nor offer, with no room at the egress, or on a ring that is not ready, nothing happens; a primary whose partner lags sets LAG instead. That LOST is flagged when its entry is written, and that a waiting redelivery has class 3 at its gate, is the model's choice of log entries 56 and 116. -/
def Obligations.RedeliveryAndFaultRing : Prop :=
  (∀ (s : State) (eid : BitVec 24), s.PathUp →
    (s.dlv.active.find? (fun a => a.eid == eid.toNat && s.expired a) = none → exec (.redeliveryTimeout eid) s = .next s.pumpHeads)
    ∧ (∀ a, s.dlv.active.find? (fun a => a.eid == eid.toNat && s.expired a) = some a →
      let u := s.stopTimer a
      ((u.caravan a.dom = true ∨ a.rdMax ≤ a.redelivs) → exec (.redeliveryTimeout eid) s =
        .next (u.pushLost (u.lostEntry a (if u.caravan a.dom then 0 else a.rdMax))).pumpHeads)
      ∧ (u.caravan a.dom = false → a.redelivs < a.rdMax → exec (.redeliveryTimeout eid) s =
        .next (u.gateHead ⟨a.eid, a.dom, a.tgt, a.p, none, .redeliv a.entry, .rte 0, false, false, u.tim.ft, 0, u.tim.ft⟩ 3 .none).pumpHeads)))
  ∧ (∀ s : State, s.CoreUp → exec .lostRetry s =
    .next (s.dlv.lostRetry.foldl (fun (u : State) r => u.pushLost r) { s with dlv := { s.dlv with lostRetry := [] } }))
  ∧ (∀ s : State, s.PathUp →
    let ready := !s.standby && !s.saving && !s.tdm.switching && s.faultRingReady && s.faultTurn
    let free := s.tagsFree (s.writesOf none)
    let room := s.egrRoom (s.writesOf none)
    (ready = false → exec .faultDelivery s = .next s)
    ∧ (ready = true → s.dlv.lost = [] → s.rnk.faultQ = [] → exec .faultDelivery s = .next s)
    ∧ (ready = true → s.dlv.lost = [] → s.rnk.faultQ ≠ [] → s.activeFull = true →
      exec .faultDelivery s = .next (s.raise F.DLV_STATUS_ACT_FULL))
    ∧ (ready = true → s.dlv.lost ≠ [] ∨ (s.rnk.faultQ ≠ [] ∧ s.activeFull = false) → free = false →
      exec .faultDelivery s = .next (s.raise F.DLV_STATUS_TAG_STALL))
    ∧ (ready = true → s.dlv.lost ≠ [] ∨ (s.rnk.faultQ ≠ [] ∧ s.activeFull = false) → free = true → s.lagFull = true →
      exec .faultDelivery s = .next (s.raise F.TDM_STATUS_LAG))
    ∧ (ready = true → s.dlv.lost ≠ [] ∨ (s.rnk.faultQ ≠ [] ∧ s.activeFull = false) → free = true → s.lagFull = false → room = false →
      exec .faultDelivery s = .next s)
    ∧ (∀ r rest, ready = true → s.dlv.lost = r :: rest → free = true → s.lagFull = false → room = true →
      let u := { s with dlv := { s.dlv with lost := rest } }
      let d := recFld r 64 12
      exec .faultDelivery s =
        .next ((((u.writeEntry none d (u.entryAgain r reLost (recFld r 60 4) false)).countD d 19).raise F.CMP_STATUS_LOST).vfStatus d 3))
    ∧ (∀ x q, ready = true → s.dlv.lost = [] → s.rnk.faultQ = x :: q → s.activeFull = false → free = true → s.lagFull = false → room = true →
      exec .faultDelivery s = .next (s.issueFault x .none)))

/-- HOLD_CLOCK_START of a running sequenced domain without a clock, once its epoch has its length, answers the state in which the clock of the oldest epoch counts from 0 and what may close has closed (at every member of the ring: log entry 97); OVERDUE at the coordinator, with the clock at STRAG_TS, a source missing and no report yet for the epoch, sets OVERDUE and counts event 23 of the domain; STRAGGLER at the coordinator, with the clock at the hold ceiling and a source missing, answers the state after closing out each missing source, the two breaches, STRAGGLER and the close. -/
def Obligations.EpochTimersComplete : Prop :=
  (∀ (s : State) (d : BitVec 12), s.PathUp → s.running d.toNat = true → s.sequenced d.toNat = true →
    (s.run d.toNat).clock = none → (s.run d.toNat).since + s.epochLen d.toNat * 45 ≤ s.tim.ft →
    exec (.holdClockStart d) s = .next ((s.setRun d.toNat { s.run d.toNat with clock := some 0 }).closeAll d.toNat))
  ∧ (∀ (s : State) (d : BitVec 12), s.PathUp → s.coordinator = true → s.clockAt d.toNat (s.stragTs d.toNat) = true →
    (s.run d.toNat).overdue = false →
    exec (.overdue d) s =
      .next (((s.setRun d.toNat { s.run d.toNat with overdue := true }).raise F.CVN_STATUS_OVERDUE d.toNat).countD d.toNat 23))
  ∧ (∀ (s : State) (d : BitVec 12), s.PathUp → s.coordinator = true → s.clockAt d.toNat (s.holdCeil d.toNat) = true →
    let u := (s.missing d.toNat).foldl (fun (u : State) o =>
      ((u.stragglerSrc o (s.run d.toNat).oldest).logStrag d.toNat o 0).sendSilent d.toNat o (s.run d.toNat).oldest 0) s
    exec (.straggler d) s =
      .next ((((u.breach d.toNat 2).breach d.toNat 3).raise F.CVN_STATUS_STRAGGLER d.toNat).closeAll d.toNat))

/-- JOURNAL_LINE_TIMEOUT of a domain with no record in the queue, once its partial line has waited 256 CORE cycles, writes that line where a depot tag is free, and otherwise changes nothing. JOURNAL_LINE_WRITE lets the records at the front of the queue leave: with none that may, it changes nothing more than what its memory error says; a record that completes a line writes it; one that does not goes to the partial line and the next follows. REPLAY_RECORD of a running replay whose line has come takes the record at its slot, lets heads launch and asks for the next line where it needs it; a poisoned line ends the replay with code 6; without its line it asks the depot for it, once, where a request is free; a replay that is not running, whose records are all taken or whose window is full takes none and asks for none. -/
def Obligations.JournalAndReplayRecords : Prop :=
  (∀ (s : State) (d : BitVec 12), s.CoreUp →
    let j := s.jrnl d.toNat
    let mine := s.way.q.any (fun r => r.d == d.toNat)
    (mine = false → j.partAt + 256 * s.period ≤ s.tim.now →
      (∀ u, s.jWriteLine d.toNat j.part = some u → exec (.journalLineTimeout d) s = .next u)
      ∧ (s.jWriteLine d.toNat j.part = none → exec (.journalLineTimeout d) s = .next s))
    ∧ (mine = true ∨ s.tim.now < j.partAt + 256 * s.period → exec (.journalLineTimeout d) s = .next s))
  ∧ (∀ (s : State) (ecc : Ecc), s.CoreUp →
    let u := s.journalEcc ecc
    (u.jLeave = none → exec (.journalLineWrite ecc) s = .next u)
    ∧ (∀ v, u.jLeave = some (true, v) → exec (.journalLineWrite ecc) s = .next v)
    ∧ (∀ v, u.jLeave = some (false, v) → exec (.journalLineWrite ecc) s = .next (State.jLineWrite s.way.q.length v)))
  ∧ (∀ (s : State) (d : BitVec 12), s.PathUp →
    let r := s.replay d.toNat
    (r.line = none → exec (.replayRecord d) s = .next (s.rplAsk d.toNat))
    ∧ (∀ n data poison, r.line = some (n, data, poison) →
      (s.rplReads d.toNat = false → exec (.replayRecord d) s = .next s)
      ∧ (s.rplReads d.toNat = true → n ≠ s.rplLine d.toNat → exec (.replayRecord d) s = .next (s.rplAsk d.toNat))
      ∧ (s.rplReads d.toNat = true → n = s.rplLine d.toNat → poison = false → exec (.replayRecord d) s =
        .next (((s.rplRecord d.toNat (data.extractLsb' (128 * (r.slot % 4)) 128)).rplPump d.toNat).rplAsk d.toNat))
      ∧ (s.rplReads d.toNat = true → n = s.rplLine d.toNat → poison = true → exec (.replayRecord d) s =
        .next ((s.error 4 10 (some d.toNat) (64 * n / 512) .none).rplEnd d.toNat 6))))
  ∧ (∀ (s : State) (d : Nat),
    let r := s.replay d
    ((s.rplReads d = false ∨ r.ask.isSome = true ∨ r.line.any (fun l => l.1 == s.rplLine d) = true) → s.rplAsk d = s)
    ∧ (s.rplReads d = true → r.ask = none → r.line.any (fun l => l.1 == s.rplLine d) = false →
      (s.depRead (.replay d) (s.rplLine d) = none → s.rplAsk d = s)
      ∧ (∀ t u, s.depRead (.replay d) (s.rplLine d) = some (t, u) →
        s.rplAsk d = u.setReplay d { u.replay d with ask := some (u.rplLine d) })))

/-- FLR of an enabled function while registers are available resets its domain as an FLR does; before that it is held, once; FLR of function 0 or of a function that SR-IOV has not enabled changes nothing. RESET_WALK_END, once the walk has passed the last entry of the domain, ends the walk, and before changes nothing. SAVE_DONE of a domain save in progress, once every line of its record is acknowledged, sets SAVED and the length, clears BUSY with ERR 0 and reports it; without one, before that, or while the persistent save runs, it changes nothing. -/
def Obligations.DomainResetAndSaveEnds : Prop :=
  (∀ (s : State) (fn : BitVec 12), s.inReset = false →
    (fn.toNat = 0 ∨ s.vfm.vfs < fn.toNat → exec (.flr fn) s = .next s)
    ∧ (fn.toNat ≠ 0 → fn.toNat ≤ s.vfm.vfs → s.fld F.REG_RST_STAT_STAGE = 3 → exec (.flr fn) s = .next (s.flr fn.toNat 4))
    ∧ (fn.toNat ≠ 0 → fn.toNat ≤ s.vfm.vfs → s.fld F.REG_RST_STAT_STAGE ≠ 3 →
      exec (.flr fn) s = .next
        { s with vfm := { s.vfm with heldFlr := if s.vfm.heldFlr.contains fn.toNat then s.vfm.heldFlr else s.vfm.heldFlr ++ [fn.toNat] } }))
  ∧ (∀ (s : State) (d : BitVec 12), s.CoreUp →
    let e := s.img.domainEnt d.toNat
    let past := s.walkPassed d.toNat (e.eidBase + e.eidCount - 1)
    (past = true → exec (.resetWalkEnd d) s = .next (s.walkDone d.toNat))
    ∧ (past = false → exec (.resetWalkEnd d) s = .next s))
  ∧ (∀ (s : State) (d : BitVec 12), s.CoreUp →
    (s.saving = true ∨ s.jobDone (.save d.toNat) = false ∨ SMap.find s.vfm.saves d.toNat = none → exec (.saveDone d) s = .next s)
    ∧ (∀ x, s.saving = false → s.jobDone (.save d.toNat) = true → SMap.find s.vfm.saves d.toNat = some x →
      let u := State.dropJobs { s with vfm := { s.vfm with saves := SMap.erase s.vfm.saves d.toNat } } (· == JobKind.save d.toNat)
      let v := (u.raise F.VFM_DOM_STAT_SAVED d.toNat).setFld F.VFM_XFER_LEN_LEN d.toNat (x.len / 8)
      exec (.saveDone d) s =
        .next (((v.lower F.VFM_DOM_CMD_BUSY d.toNat).setFld F.VFM_DOM_CMD_ERR d.toNat 0).vfStatus d.toNat 0)))

/-- PFAIL and PERIODIC carry a sample of the hold-up energy, 0 where it is not valid or not steady, which is gone when the command has acted. PFAIL held by COLD_RST_N starts nothing; held by WARM_RST_N it is judged and waits; otherwise it triggers a save. PERIODIC at a multiple of its period from the last save start is judged and starts a save, or asks for the wake first where the block is not ready, and counts itself as skipped inside the save interval or while a save runs; between those times, while saves are disabled or while the block is halted it changes nothing. SAVE_INTERVAL_END starts the first waiting trigger, a power failure before all others, when its save may start. HOME_WRITE starts the home write that is wanted and due, where the reference is valid. PERSISTENT_SAVE_DONE, once every line of the record is acknowledged, ends the save: the record is listed, shown and flagged, and the block goes to SAVED_OFF after a power failure or where one waits; before that, or with no save running, it changes nothing. -/
def Obligations.PersistentSaveTriggers : Prop :=
  (∀ (s : State) (hu : Hu),
    let u := { s with io := { s.io with hu := some (if hu.valid && hu.steady then hu.energy.toNat else 0) } }
    let gone (t : State) : State := { t with io := { t.io with hu := none } }
    (s.boot.held = true → exec (.pfail hu) s = .next (gone u))
    ∧ (s.boot.held = false → s.boot.warmHeld = true → s.saveBarred = true → exec (.pfail hu) s = .next (gone (u.saveWait 0 2)))
    ∧ (s.boot.held = false → s.boot.warmHeld = true → s.saveBarred = false →
      exec (.pfail hu) s = .next (gone (u.holdupCheck.2.saveWait 0 u.holdupCheck.1)))
    ∧ (s.boot.held = false → s.boot.warmHeld = false → exec (.pfail hu) s = .next (gone u.pfail)))
  ∧ (∀ (s : State) (hu : Hu), s.inReset = false →
    let u := { s with io := { s.io with hu := some (if hu.valid && hu.steady then hu.energy.toNat else 0) } }
    let gone (t : State) : State := { t with io := { t.io with hu := none } }
    let w := { u with sav := { u.sav with skips := u.sav.skips + 1 } }
    let off := !s.periodicDue || s.saveBarred
    (off = true → exec (.periodic hu) s = .next (gone u))
    ∧ (off = false → (s.inInterval || s.sav.run.isSome) = true → exec (.periodic hu) s = .next (gone (w.bump F.SAV_SKIPPED_CNT)))
    ∧ (off = false → (s.inInterval || s.sav.run.isSome) = false →
      let c := w.holdupCheck
      (c.2.saveReady = false → exec (.periodic hu) s = .next (gone (c.2.saveWake 2 c.1 0)))
      ∧ (c.2.saveReady = true → exec (.periodic hu) s = .next (gone (c.2.saveAct 2 c.1)))))
  ∧ (∀ s : State, s.inReset = false →
    (s.nextTrigger = none → exec .saveIntervalEnd s = .next s)
    ∧ (∀ trig v, s.nextTrigger = some (trig, v) →
      let rest : State := { s with sav := { s.sav with wait := s.sav.wait.filter (fun w => w.1 ≠ trig) } }
      ((!s.saveReady || s.sav.run.isSome) = true → exec .saveIntervalEnd s = .next s)
      ∧ ((!s.saveReady || s.sav.run.isSome) = false →
        ((s.saveBarred || decide (2 ≤ v)) = true → exec .saveIntervalEnd s = .next (rest.saveAct trig 2))
        ∧ ((s.saveBarred || decide (2 ≤ v)) = false →
          ((s.inInterval && (trig != 0 || s.sav.pfailed)) = true → exec .saveIntervalEnd s = .next s)
          ∧ ((s.inInterval && (trig != 0 || s.sav.pfailed)) = false → exec .saveIntervalEnd s = .next (rest.saveAct trig v))))))
  ∧ (∀ s : State, s.inReset = false →
    (s.sav.homeWant = false ∨ s.homeDue = false → exec .homeWrite s = .next s)
    ∧ (s.sav.homeWant = true → s.homeDue = true →
      (s.bit F.CFG_STATUS_REF_VALID = true → exec .homeWrite s = .next s.homeStart)
      ∧ (s.bit F.CFG_STATUS_REF_VALID = false →
        exec .homeWrite s = .next { s.lower F.SAV_STATUS_HOME_PEND with sav := { s.sav with homeWant := false } })))
  ∧ (∀ s : State, s.CoreUp →
    (s.jobDone .record = false ∨ s.sav.run.bind (·.snap) = none → exec .persistentSaveDone s = .next s)
    ∧ (∀ x r, s.jobDone .record = true → s.sav.run = some x → x.snap = some r →
      let base := s.slotBase x.slot
      let b := State.dropJobs { s with sav := { s.sav with
        recs := SMap.insert s.sav.recs base r, run := none, mark := if x.trig = 0 then none else some (base, r.seq) } } (· == JobKind.record)
      let v := ((b.showSave x.slot r).raise F.SAV_STATUS_DONE).lower F.SAV_STATUS_BUSY
      let w := (if r.part then v.raise F.SAV_STATUS_PARTIAL else v).lower F.SAV_CMD_BUSY
      let z := if x.trig = 0 then w else w.vfStatus 0 0
      exec .persistentSaveDone s = .next (if x.trig == 0 || z.sav.wait.any (fun k => k.1 == 0) then z.savedOff else z)))

/-- At a joined member with the ring clocked, a record is counted for the next CHECK, and then: an EVENT for this position is taken; one for the partner of a Tandem unit is taken and passed on; any other is passed on. A WAYMARK or SILENT record of another origin is taken and forwarded, its own comes back and ends. A CLOSE for this position is taken, any other passed on. To take a record is to act on it where CORE is clocked, and otherwise to keep it until CORE runs and to ask for a wake. A record of another type, and every record at a member that is not joined, changes nothing. -/
def Obligations.CaravanRecordsFromTheRing : Prop :=
  (∀ (s : State) (r : Rec), s.RingOpen →
    let u := s.rxCount .west r
    (rTy r = chEvent →
      (rPos r = u.pos → exec (.eventRecord r) s = .next (u.whenCore .west r (fun x => x.takeEvent r)))
      ∧ (rPos r ≠ u.pos → u.tandem = true → u.partnerPos = some (rPos r) →
        exec (.eventRecord r) s = .next ((u.whenCore .west r (fun x => x.takeEvent r)).passOn .west r))
      ∧ (rPos r ≠ u.pos → u.tandem = false ∨ u.partnerPos ≠ some (rPos r) → exec (.eventRecord r) s = .next (u.passOn .west r)))
    ∧ (rTy r = chWaymark →
      (rPos r = u.pos → exec (.waymarkRecord r) s = .next u)
      ∧ (rPos r ≠ u.pos →
        exec (.waymarkRecord r) s = .next ((u.whenCore .west r (fun x => x.takeWaymark r)).forward .west r)))
    ∧ (rTy r = chSilent →
      (rPos r = u.pos → exec (.silentRecord r) s = .next u)
      ∧ (rPos r ≠ u.pos →
        exec (.silentRecord r) s = .next ((u.whenCore .west r (fun x => x.takeSilent r)).forward .west r)))
    ∧ (rTy r = chClose →
      (rPos r = u.pos → exec (.closeRecord r) s = .next (u.whenCore .west r (fun x => x.takeClose r)))
      ∧ (rPos r ≠ u.pos → exec (.closeRecord r) s = .next (u.passOn .west r))))
  ∧ (∀ (s : State) (r : Rec), s.inReset = false →
    (rTy r ≠ chEvent ∨ s.onRing = false → exec (.eventRecord r) s = .next s)
    ∧ (rTy r ≠ chWaymark ∨ s.onRing = false → exec (.waymarkRecord r) s = .next s)
    ∧ (rTy r ≠ chSilent ∨ s.onRing = false → exec (.silentRecord r) s = .next s)
    ∧ (rTy r ≠ chClose ∨ s.onRing = false → exec (.closeRecord r) s = .next s))
  ∧ (∀ (s : State) (p : ChlPort) (r : Rec) (f : State → State),
    (s.coreOn = true → s.whenCore p r f = f s)
    ∧ (s.coreOn = false → s.whenCore p r f =
      State.wakeReq { s with chl := { s.chl with rxw := s.chl.rxw ++ [(p, r)] } } 4 0))

/-- At a joined member with the ring clocked, a TANDEM record of the subtype of its command is counted for the next CHECK; for another position it is passed on; for this one the partner is noted as heard and the record is taken: STATE, DELIV, CFG and DOORBELL apply their change, ACK moves the acknowledged sequence, HEARTBEAT and HELLO form the pair, DIGEST, BULK and BULK_END serve the resynchronisation, HANDOVER the switch of roles; all but ACK, HEARTBEAT and HELLO wait for CORE. A record of another subtype changes nothing. PEER_REQUEST and PEER_RESPONSE of this position are served, and of another passed on; PEER_TIMEOUT, 100 microseconds after the request, ends it with ERR 2, and before changes nothing. -/
def Obligations.TandemRecordsFromThePartner : Prop :=
  (∀ (s : State) (r : Rec), s.RingOpen → rTy r = chTandem →
    let u := s.rxCount .east r
    let run (i : Instr) (f : State → State) : Prop :=
      (rPos r = u.pos → exec i s = .next (u.whenCore .east r (fun x => f x.heardPartner)))
      ∧ (rPos r ≠ u.pos → exec i s = .next (u.passOn .east r))
    let now (i : Instr) (f : State → State) : Prop :=
      (rPos r = u.pos → exec i s = .next (f u.heardPartner)) ∧ (rPos r ≠ u.pos → exec i s = .next (u.passOn .east r))
    (rTsub r = 1 → run (.tandemState r) (fun x => x.takeState r))
    ∧ (rTsub r = 2 → run (.tandemDeliv r) (fun x => x.takeDeliv r))
    ∧ (rTsub r = 3 → run (.tandemCfg r) (fun x => x.takeCfg r))
    ∧ (rTsub r = 4 → run (.tandemDoorbell r) (fun x => x.takeDoorbell r))
    ∧ (rTsub r = 5 → now (.tandemAck r) (fun x => x.takeAck r))
    ∧ (rTsub r = 6 → now (.heartbeat r) (fun x => x.takeHeartbeat r))
    ∧ (rTsub r = 7 → now (.hello r) (fun x => x.takeHello r))
    ∧ (rTsub r = 8 → run (.digest r) (fun x => x.takeDigest r))
    ∧ (rTsub r = 9 → run (.bulk r) (fun x => x.takeBulk r))
    ∧ (rTsub r = 10 → run (.bulkEnd r) (fun x => x.takeBulkEnd))
    ∧ (rTsub r = 11 → run (.handover r) (fun x => x.takeHandover)))
  ∧ (∀ (s : State) (r : Rec), s.inReset = false →
    let none_ (i : Instr) (n : Nat) : Prop := rTsub r ≠ n → exec i s = .next s
    none_ (.tandemState r) 1 ∧ none_ (.tandemDeliv r) 2 ∧ none_ (.tandemCfg r) 3 ∧ none_ (.tandemDoorbell r) 4
    ∧ none_ (.tandemAck r) 5 ∧ none_ (.heartbeat r) 6 ∧ none_ (.hello r) 7 ∧ none_ (.digest r) 8 ∧ none_ (.bulk r) 9
    ∧ none_ (.bulkEnd r) 10 ∧ none_ (.handover r) 11)
  ∧ (∀ (s : State) (r : Rec), s.RingOpen → rTy r = chPeer →
    let u := s.rxCount .east r
    (rPos r = u.pos → rOp r ≠ 3 → exec (.peerRequest r) s = .next (u.whenCore .east r (fun x => x.takeRequest r)))
    ∧ (rPos r = u.pos → rOp r = 3 → exec (.peerResponse r) s = .next (u.whenCore .east r (fun x => x.takeResponse r)))
    ∧ (rPos r ≠ u.pos → rOp r ≠ 3 → exec (.peerRequest r) s = .next (u.passOn .east r))
    ∧ (rPos r ≠ u.pos → rOp r = 3 → exec (.peerResponse r) s = .next (u.passOn .east r)))
  ∧ (∀ s : State, s.inReset = false →
    (s.tdm.request = none → exec .peerTimeout s = .next s)
    ∧ (∀ n t, s.tdm.request = some (n, t) →
      (s.passed t 100000 = false → exec .peerTimeout s = .next s)
      ∧ (s.passed t 100000 = true → exec .peerTimeout s =
        .next (({ s with tdm := { s.tdm with request := none } }.setFld F.TDM_PEER_CMD_ERR 0 2).lower F.TDM_PEER_CMD_BUSY))))

/-- At a joined member with its ring clock, a CTRL record of the subtype of its command is counted for the next CHECK (a CHECK itself is not), and then: CHECK compares count and CRC of its hop and restarts both, a difference being a hop loss; PROBE of this position measures the ring, any other goes on; PAUSE and RESUME set the pause of their direction and go on, a RESUME of the window closing it; WINDOW sets the coming window; JOINED, WANT (LEAVE_REQ and WAKE_REQ), LEAVE and LOSS act as received and go on; each ends at its origin. BEACON of another member is followed and goes on. A record that is for another member goes on from the transmit queue of the other port; a reserved subtype is counted and goes nowhere. What a LOSS and a LEAVE of the partner count as, and when a joiner takes the duties of coordinator, is the model's choice of log entries 68 and 133. -/
def Obligations.RingControlRecords : Prop :=
  (∀ (s : State) (p : ChlPort) (r : Rec), s.RingOpen →
    let u := s.rxCount p r
    let good := recFld r 80 32 = (u.side p).rcvd % 2 ^ 32 ∧ BitVec.ofNat 32 (recFld r 48 32) = (u.side p).rcvdCrc ^^^ 0xFFFFFFFF#32
    let v := u.setSide p { u.side p with rcvd := 0, rcvdCrc := 0xFFFFFFFF#32 }
    (isCtrl r 1 = true → (good → exec (.check p r) s = .next v) ∧ (¬ good → exec (.check p r) s = .next (v.hopLoss p)))
    ∧ (isCtrl r 4 = true →
      (rPos r = u.pos → exec (.pause p r) s = .next u)
      ∧ (rPos r ≠ u.pos → exec (.pause p r) s = .next ((u.setPause (rPos r) (r.getLsbD 111) true).forward p r)))
    ∧ (isCtrl r 5 = true →
      (rPos r = u.pos → exec (.ringResume p r) s = .next u)
      ∧ (rPos r ≠ u.pos → r.getLsbD 110 = true → exec (.ringResume p r) s = .next (u.windowOver.forward p r))
      ∧ (rPos r ≠ u.pos → r.getLsbD 110 = false →
        exec (.ringResume p r) s = .next ((u.setPause (rPos r) (r.getLsbD 111) false).forward p r)))
    ∧ (isCtrl r 10 = true →
      (rPos r = u.pos → exec (.loss p r) s = .next u)
      ∧ (rPos r ≠ u.pos → exec (.loss p r) s = .next ((u.ringLost 2).forward p r)))
    ∧ (rTy r = chCtrl → rSub r = 0 ∨ 12 < rSub r → exec (.reservedCtrlSubtype p r) s = .next (u.countG 0x22))
    ∧ (s.forMember r = false → exec (.recordPassedOn p r .none) s = .next (u.passOn p r)))
  ∧ (∀ (s : State) (r : Rec), s.RingOpen →
    let u := s.rxCount .west r
    (isCtrl r 3 = true → rPos r ≠ u.pos → exec (.probe r) s = .next (u.forward .west r))
    ∧ (isCtrl r 3 = true → rPos r = u.pos → u.chl.calib = none →
      exec (.probe r) s = .next (u.ringExcess (u.ns - recFld r 48 64)))
    ∧ (∀ at_ n m, isCtrl r 3 = true → rPos r = u.pos → u.chl.calib = some (at_, n, m) →
      exec (.probe r) s = .next (if recFld r 48 64 = at_ then u.calibTake at_ n m (u.ns - recFld r 48 64)
        else u.ringExcess (u.ns - recFld r 48 64)))
    ∧ (isCtrl r 2 = true → rPos r ≠ u.pos →
      (u.coordinator = true → u.pos < rPos r → exec (.beacon r) s = .next (u.forward .west r))
      ∧ (u.coordinator = false ∨ rPos r ≤ u.pos → exec (.beacon r) s = .next ((u.beaconTake r).forward .west r)))
    ∧ (isCtrl r 2 = true → rPos r = u.pos → exec (.beacon r) s = .next u)
    ∧ (isCtrl r 6 = true → rPos r = u.pos → exec (.window r) s = .next u)
    ∧ (isCtrl r 6 = true → rPos r ≠ u.pos → exec (.window r) s = .next (State.forward
      { u with chl := { u.chl with window := some (recFld r 48 64, max 1 (recFld r 32 16)), opened := false } } .west r))
    ∧ (isCtrl r 7 = true → rPos r = u.pos → exec (.joined r) s = .next (if u.coordinator then u.calibrate else u))
    ∧ (isCtrl r 7 = true → rPos r ≠ u.pos → u.coordinator = false → exec (.joined r) s = .next (u.forward .west r))
    ∧ (isCtrl r 7 = true → rPos r ≠ u.pos → u.coordinator = true →
      let v := u.setJoined (u.joinedList ++ [rPos r])
      exec (.joined r) s =
        .next ((if rPos r < v.pos then v.setFld F.CHL_STATUS_COORD 0 (rPos r) else v.calibrate).forward .west r))
    ∧ (isCtrl r 8 = true → exec (.leaveReq r) s = .next (u.rxWant .west r))
    ∧ (isCtrl r 12 = true → exec (.wakeReq r) s = .next (u.rxWant .west r))
    ∧ (isCtrl r 9 = true → rPos r = u.pos → exec (.leave r) s = .next u)
    ∧ (isCtrl r 9 = true → rPos r ≠ u.pos →
      let v := u.memberGone (rPos r)
      exec (.leave r) s = .next ((if v.partnerPos = some (rPos r) then { v with chl := { v.chl with absent := 2 } }
        else v).forward .west r)))
  ∧ (∀ (s : State) (p : ChlPort) (r : Rec),
    (rPos r = s.pos → s.rxWant p r = s)
    ∧ (rPos r ≠ s.pos → s.coordinator = true →
      s.rxWant p r = State.forward { s with chl := { s.chl with winWant := true } } p r)
    ∧ (rPos r ≠ s.pos → s.coordinator = false → s.rxWant p r = s.forward p r))

/-- With the ring clocked: CHECK_SEND with room puts the CHECK of the port at the head of its queue and restarts count and CRC; BEACON_SEND, PROBE_SEND, WINDOW_SEND and WINDOW_END act at the coordinator, each at its time; TX_QUEUE_MARK pauses at 4096 records and resumes below 2048; HEARTBEAT_SEND, HELLO_SEND and ACK_SEND send to the partner at their intervals; BEACON_MISS, 30,720 ns after the last BEACON, takes the coordinator for gone; PRIMARY_LOST makes the standby primary and alone; each changes nothing where its condition does not hold. That WINDOW_END waits for a calibration, and that a unit which left the ring awaits HELLO before it takes over, is the model's choice of log entries 132 and 139. -/
def Obligations.RingSendsAndTimers : Prop :=
  (∀ (s : State) (p : ChlPort), s.RingUp →
    ((s.onRing && s.txRoom p) = true → exec (.checkSend p) s =
      .next (s.setSide p { s.side p with tx := s.checkRec p :: (s.side p).tx, sent := 0, sentCrc := 0xFFFFFFFF#32 }))
    ∧ ((s.onRing && s.txRoom p) = false → exec (.checkSend p) s = .next s))
  ∧ (∀ (s : State) (p : ChlPort), s.RingUp →
    let x := s.side p
    let body := if dirOf p then 2 ^ 111 else 0
    (4096 ≤ x.tx.length → x.pausing = false → exec (.txQueueMark p) s =
      .next (((s.setSide p { x with pausing := true }).setPause s.pos (dirOf p) true).sendCtrl (otherPort p) 4 body))
    ∧ (x.tx.length < 2048 → x.pausing = true → exec (.txQueueMark p) s =
      .next (((s.setSide p { x with pausing := false }).setPause s.pos (dirOf p) false).sendCtrl (otherPort p) 5 body))
    ∧ (2048 ≤ x.tx.length → x.tx.length < 4096 → exec (.txQueueMark p) s = .next s))
  ∧ (∀ s : State, s.RingUp →
    let lead := s.onRing && s.coordinator
    let beacon := lead && (s.chl.beaconSent == 0 || s.passed s.chl.beaconSent 10240)
    let probe := lead && (s.chl.probeSent == 0 || s.passed s.chl.probeSent 1024)
    let window := lead && s.chl.window.isNone && s.windowDue
    let closing := lead && s.chl.window.isSome && s.chl.opened && s.chl.calib.isNone
    let miss := s.onRing && !s.coordinator && s.passed s.chl.beacon 30720
    (beacon = true → exec .beaconSend s = .next { s.sendCtrl .east 2 s.beaconBody with
      chl := { (s.sendCtrl .east 2 s.beaconBody).chl with beaconSent := max 1 s.tim.now } })
    ∧ (beacon = false → exec .beaconSend s = .next s)
    ∧ (probe = true → exec .probeSend s = .next { s.probeOut with chl := { s.probeOut.chl with probeSent := max 1 s.tim.now } })
    ∧ (probe = false → exec .probeSend s = .next s)
    ∧ (window = true → ∃ t : State, exec .windowSend s = .next t ∧ t.chl.winWant = false ∧ t.chl.opened = false
      ∧ t.chl.window = some (s.ns + 2 * s.fld F.CVN_CAL_RTT + 5000, max 1 (s.fld F.CHL_CTRL_WIN_LEN)))
    ∧ (window = false → exec .windowSend s = .next s)
    ∧ (closing = true → exec .windowEnd s = .next s.windowClose) ∧ (closing = false → exec .windowEnd s = .next s)
    ∧ (miss = true → exec .beaconMiss s =
      .next { s.memberGone (s.fld F.CHL_STATUS_COORD) with
        chl := { (s.memberGone (s.fld F.CHL_STATUS_COORD)).chl with beacon := s.tim.now } })
    ∧ (miss = false → exec .beaconMiss s = .next s))
  ∧ (∀ s : State, s.RingUp →
    let beat := s.tandem && s.onRing && (s.tdm.hbSent == 0 || s.passed s.tdm.hbSent 1024)
    let hello := s.partnerPos.isSome && s.onRing && (s.tdm.helloSent == 0 || s.passed s.tdm.helloSent 1000000)
    let ack := s.standby && s.paired && (decide (256 ≤ s.tdm.sinceAck) || s.passed s.tdm.ackSent 1024)
    let lost := s.standby && !s.pwr.detached && s.partnerLost
    (beat = true → exec .heartbeatSend s = .next { s.toPartner 6 s.heartbeatBody with
      tdm := { (s.toPartner 6 s.heartbeatBody).tdm with hbSent := max 1 s.tim.now } })
    ∧ (beat = false → exec .heartbeatSend s = .next s)
    ∧ (hello = true → exec .helloSend s = .next { s.toPartner 7 s.helloBody with
      tdm := { (s.toPartner 7 s.helloBody).tdm with helloSent := max 1 s.tim.now } })
    ∧ (hello = false → exec .helloSend s = .next s)
    ∧ (ack = true → exec .ackSend s = .next s.ackNow) ∧ (ack = false → exec .ackSend s = .next s)
    ∧ (lost = true →
      let u := { s with tdm := { s.tdm with seq := (s.tdm.seq + 2 ^ 32) % 2 ^ 64 } }.becomePrimary.alone
      let v := u.memberGone (s.partnerPos.getD 0)
      exec .primaryLost s = .next ((v.raise F.TDM_STATUS_TAKEOVER).error 22 14 none (s.partnerPos.getD 0) .none))
    ∧ (lost = false → exec .primaryLost s = .next s))

/-- FOUNDING at a listening member whose time without a BEACON has come starts to found; FOUNDING_JOINED with both ports up within 20 microseconds makes it a joined member, alone on the ring, its founder and coordinator, and starts the calibration; FOUNDING_TIMEOUT after 20 microseconds goes back to listening with JERR 4; JOIN_TIMEOUT after 10 microseconds of joining goes back to listening. WINDOW_OPEN at its time opens the window: a ready member joins, a leaving one sends LEAVE and departs, one with waking neighbours wakes both ports. HOP_LOSS sets the lanes of a port, lanes lost at a joined member being a hop loss; LANE_LOCK sets all lanes and restarts the counts, and with both ports locked a joining member has joined; while a reset line is asserted both only set the lanes. Before their time the timers change nothing. When JOIN_TIMEOUT applies, and when a joiner with the lowest position becomes coordinator, is the model's choice of log entries 67 and 133. -/
def Obligations.JoiningAndLeavingTheRing : Prop :=
  (∀ s : State, s.RingUp →
    let found := decide (s.chl.st = .listen) && s.passed s.chl.beacon ((1 + s.pos) * 100000)
    let up := decide (s.chl.st = .found) && s.portUp .east && s.portUp .west && s.within s.chl.tried 20000
    let late := decide (s.chl.st = .found) && s.passed s.chl.tried 20000
    let stuck := s.chl.joining && s.passed s.chl.tried 10000
    (found = true → exec .founding s = .next { s with chl := { s.chl with st := .found, tried := s.tim.now } })
    ∧ (found = false → exec .founding s = .next s)
    ∧ (up = true →
      let u := { s with chl := { s.chl with st := .joined } }
      exec .foundingJoined s = .next (((u.setJoined [u.pos]).raise F.CHL_STATUS_FOUNDER).takeCoord).calibrate)
    ∧ (up = false → exec .foundingJoined s = .next s)
    ∧ (late = true → exec .foundingTimeout s = .next (s.setFld F.CHL_STATUS_JERR 0 4).toListen)
    ∧ (late = false → exec .foundingTimeout s = .next s)
    ∧ (stuck = true → exec .joinTimeout s = .next s.toListen) ∧ (stuck = false → exec .joinTimeout s = .next s))
  ∧ (∀ s : State, s.RingUp →
    (s.chl.window = none → exec .windowOpen s = .next s)
    ∧ (∀ opn len, s.chl.window = some (opn, len) →
      (s.chl.opened = true ∨ s.ns < opn → exec .windowOpen s = .next s)
      ∧ (s.chl.opened = false → opn ≤ s.ns →
        let u := { s with chl := { s.chl with opened := true } }
        (s.chl.st = .ready → exec .windowOpen s = .next
          { u with chl := { u.chl with st := .joined, joining := true, lockE := false, lockW := false, tried := s.tim.now } })
        ∧ (s.chl.st = .joined → s.chl.leaving = true → exec .windowOpen s =
          .next { u.sendCtrl .east 9 0 with chl := { (u.sendCtrl .east 9 0).chl with departing := true } })
        ∧ (s.chl.st = .joined → s.chl.leaving = false → s.chl.waking = true →
          exec .windowOpen s = .next ((u.wakePort .east).wakePort .west))
        ∧ (s.chl.st = .joined → s.chl.leaving = false → s.chl.waking = false → exec .windowOpen s = .next u)
        ∧ (s.chl.st ≠ .ready → s.chl.st ≠ .joined → exec .windowOpen s = .next u))))
  ∧ (∀ (s : State) (p : ChlPort) (l : BitVec 4),
    let u := s.setSide p { s.side p with lanes := l }
    (s.inReset = true → exec (.hopLoss p l) s = .next u)
    ∧ (s.inReset = false → (s.side p).lanes &&& ~~~l ≠ 0 → u.onRing = true → exec (.hopLoss p l) s = .next (State.hopLoss u p))
    ∧ (s.inReset = false → (s.side p).lanes &&& ~~~l = 0 ∨ u.onRing = false → exec (.hopLoss p l) s = .next u))
  ∧ (∀ (s : State) (p : ChlPort),
    let u := s.setSide p { s.side p with lanes := 15, sent := 0, sentCrc := 0xFFFFFFFF#32, rcvd := 0, rcvdCrc := 0xFFFFFFFF#32 }
    let v : State := { u with chl := { u.chl with lockE := u.chl.lockE || decide (p = ChlPort.east), lockW := u.chl.lockW || decide (p = ChlPort.west) } }
    (s.inReset = true → exec (.laneLock p) s = .next (s.setSide p { s.side p with lanes := 15 }))
    ∧ (s.inReset = false → u.chl.joining = false → exec (.laneLock p) s = .next u)
    ∧ (s.inReset = false → u.chl.joining = true →
      ((v.chl.lockE && v.chl.lockW) = false → exec (.laneLock p) s = .next v)
      ∧ ((v.chl.lockE && v.chl.lockW) = true →
        let w := { v with chl := { v.chl with joining := false } }
        exec (.laneLock p) s =
          .next (((w.setJoined (w.joinedList ++ [w.pos])).sendCtrl .east 7 (w.img.ring.ringId.toNat * 2 ^ 80)).lowestTakes))))

/-- ENTRY_DECISION in automatic sleep with every condition met starts the entry, and otherwise changes nothing. DRAIN_END in the drain with everything drained abandons the entry with cause 1 where a register refuses it and with cause 0 where a wake came, and otherwise goes on to the switched domains; while work is left it changes nothing. DRAIN_TIMEOUT past DRAIN_MAX abandons with cause 2. WAKE with a code of 1 to 8 records the request and, asleep, starts the exit by the lowest code; with another code it changes nothing. TIMER_WAKE at the first deadline, SIGDET_WAKE in DOZE after at least 25 clocks of 40 ns (1 microsecond) of silence at its port, and SMBUS_ADDRESS_MATCH with the address of the block wake with codes 5, 4 and 3. OFF_AREA_RESTORE_DONE, once every line of the off area has been read, ends the exit, and then what waited for the wake is served. That WAKE with another code changes nothing, and that a vote and a wake met at one abort point give the cause vote, is the model's choice of log entries 46 and 101. -/
def Obligations.SleepEntryAndWake : Prop :=
  (∀ s : State, s.inReset = false →
    let go := s.bit F.PWR_AUTOSLEEP_MODE && s.entryOk
    (go = true → exec .entryDecision s = .next s.entryStart) ∧ (go = false → exec .entryDecision s = .next s))
  ∧ (∀ s : State, s.inReset = false →
    let draining := decide (s.pst = 1) && s.pwr.rows.isNone && s.pwr.back.isNone && !s.pwr.gated
    (draining = true → s.drainDone = true →
      (s.refusers ≠ [] → exec .drainEnd s = .next (s.abandon 1 1))
      ∧ (s.refusers = [] → s.pwr.wakes ≠ [] → exec .drainEnd s = .next (s.abandon 1 0))
      ∧ (s.refusers = [] → s.pwr.wakes = [] →
        exec .drainEnd s = .next { s with pwr := { s.pwr with rows := some (s.tim.now, 0) } }))
    ∧ (draining = false ∨ s.drainDone = false → exec .drainEnd s = .next s)
    ∧ (∀ t, s.pwr.decided = some t →
      let late := s.passed t (max 1 (s.fld F.PWR_SLEEP_CFG_DRAIN_MAX) * 1000)
      (draining = true → late = true → exec .drainTimeout s = .next (s.abandon 1 2))
      ∧ (draining = false ∨ late = false → exec .drainTimeout s = .next s))
    ∧ (s.pwr.decided = none → exec .drainTimeout s = .next s))
  ∧ (∀ (s : State) (code : BitVec 4) (detail : BitVec 12), s.inReset = false →
    (code ≠ 0 → code.toNat ≤ 8 →
      exec (.wake code detail) s = .next (s.wakeReq code.toNat detail.toNat).wakeNow)
    ∧ (code = 0 ∨ 8 < code.toNat → exec (.wake code detail) s = .next s))
  ∧ (∀ s : State, s.inReset = false →
    let due := (decide (s.pst = 2) || decide (s.pst = 3)) && s.deadline.any (fun t => decide (t ≤ s.ns + 1500))
    (due = true → exec .timerWake s = .next (s.wakeReq 5 0).wakeNow) ∧ (due = false → exec .timerWake s = .next s))
  ∧ (∀ (s : State) (p : ChlPort) (quiet : BitVec 16), s.inReset = false →
    (s.pst = 3 → 25 ≤ quiet.toNat → exec (.sigdetWake p quiet) s = .next (s.wakeReq 4 0).wakeNow)
    ∧ (s.pst ≠ 3 ∨ quiet.toNat < 25 → exec (.sigdetWake p quiet) s = .next s))
  ∧ (∀ (s : State) (addr : BitVec 7), s.inReset = false →
    (addr.toNat = s.fld F.REG_STRAPS_SB_ADDR → exec (.smbusAddressMatch addr) s =
      .next (State.wakeReq { s with io := { s.io with scl := some s.tim.now } } 3 0).wakeNow)
    ∧ (addr.toNat ≠ s.fld F.REG_STRAPS_SB_ADDR → exec (.smbusAddressMatch addr) s = .next s))
  ∧ (∀ s : State, s.inReset = false →
    (s.pst = 4 → s.pwr.restoring = true → s.jobDone .offBack = true →
      exec .offAreaRestoreDone s = .next (s.dropJobs JobKind.offArea).exitEnd.serveAccs)
    ∧ (s.pst ≠ 4 ∨ s.pwr.restoring = false ∨ s.jobDone .offBack = false → exec .offAreaRestoreDone s = .next s.serveAccs))

/-- PSW_ACK that answers what a domain waits for lets its switch-on go on and ends its switch-off; any other only sets the acknowledgement. PSW_TIMEOUT, 256 ACLK cycles after the request, records the first timeout, and then leaves a domain off that did not come on, with error 27, and takes back a switch-off that did not end, with error 18 and the entry abandoned (on the way to SAVED_OFF the next domain goes on); before its time it changes nothing. AVS_RESPONSE while a frame waits: a good acknowledgement clears VHIGH and goes on to the settling of a higher voltage or ends a lower one; any other is retried while retries are left, and then fails with error 17. AVS_RETRY after 1 microsecond sends the frame again, SETTLE_END after the settling time goes on to the retune. That a switch-on which times out opens its switch again, the form of an AVSBus frame, and the order in which domains come back after an abandoned entry are the model's choice of log entries 100, 104 and 105. -/
def Obligations.PowerSwitchesAndRails : Prop :=
  (∀ (s : State) (pd : Pd) (v : Bool),
    let d := Pd.code pd
    let p := s.psw d
    let u := s.setPsw d { p with ack := v }
    (s.boot.held = true → exec (.pswAck pd v) s = .next s)
    ∧ (s.boot.held = false → p.phase ≠ .wait ∨ p.en ≠ v → exec (.pswAck pd v) s = .next u.serveAccs)
    ∧ (s.boot.held = false → p.phase = .wait → p.en = v →
      (v = true → exec (.pswAck pd v) s =
        .next (u.setPsw d { p with ack := true, phase := .acked, since := s.tim.now }).serveAccs)
      ∧ (v = false → exec (.pswAck pd v) s = .next (u.pswOff d).serveAccs)))
  ∧ (∀ (s : State) (pd : Pd), s.inReset = false →
    let d := Pd.code pd
    let p := s.psw d
    let late := s.passed p.since (256 * 40)
    let u := s.logOne F.PWR_PSW_TIMEOUT_VALID 0 [(F.PWR_PSW_TIMEOUT_DIR, bitNat p.en), (F.PWR_PSW_TIMEOUT_DOMAIN, d)]
    (p.phase ≠ .wait ∨ late = false → exec (.pswTimeout pd) s = .next s.serveAccs)
    ∧ (p.phase = .wait → late = true → p.en = true →
      let v := u.setPsw d { u.psw d with en := false, phase := .rest, since := u.tim.now }
      let w := State.error { v with pwr := { v.pwr with off := v.pwr.off.filter (fun k => decide (k ≠ d)) ++ [d] } } 27 13 none d .all
      exec (.pswTimeout pd) s = .next (if w.pst = 6 then w.downNext else w).serveAccs)
    ∧ (p.phase = .wait → late = true → p.en = false →
      let v := u.setPsw d { u.psw d with en := true, phase := if (u.psw d).ack then .acked else .wait, since := u.tim.now }
      exec (.pswTimeout pd) s =
        .next (if v.pst = 6 then v.error 18 13 none d .none else (v.switchBack.error 18 13 none d .none).abandon 4 3).serveAccs))
  ∧ (∀ s : State, s.inReset = false → s.pwr.change = none →
    (∀ a, exec (.avsResponse a) s = .next s) ∧ exec .avsRetry s = .next s ∧ exec .settleEnd s = .next s)
  ∧ (∀ (s : State) (c : PerfChange) (a : AvsAnswer), s.inReset = false → s.pwr.change = some c →
    (c.phase ≠ .frame false → exec (.avsResponse a) s = .next s)
    ∧ (c.phase = .frame false → a = .ack 0 →
      let u := s.lower F.PWR_STATUS_VHIGH
      (c.up = true → exec (.avsResponse a) s = .next (u.perfPhase c .settle))
      ∧ (c.up = false → exec (.avsResponse a) s = .next u.perfEnd))
    ∧ (c.phase = .frame false → a ≠ .ack 0 →
      (c.left = 0 → exec (.avsResponse a) s = .next (s.avsFail c))
      ∧ (c.left ≠ 0 → exec (.avsResponse a) s = .next (s.perfPhase { c with left := c.left - 1 } (.frame true))))
    ∧ (c.phase = .frame true → s.passed c.since 1000 = true → exec .avsRetry s = .next (s.perfPhase c (.frame false)))
    ∧ (c.phase ≠ .frame true ∨ s.passed c.since 1000 = false → exec .avsRetry s = .next s)
    ∧ (c.phase = .settle → s.passed c.since (s.fld F.PWR_AVS_CFG_SETTLE * 1000) = true →
      exec .settleEnd s = .next (s.perfPhase c .retune))
    ∧ (c.phase ≠ .settle ∨ s.passed c.since (s.fld F.PWR_AVS_CFG_SETTLE * 1000) = false → exec .settleEnd s = .next s))

/-- COLD leaves every register but the straps, and every unit but what a cold reset keeps (the depot memory, the state backing, the save records, the homes and the levels on the pins), as after reset, and takes the straps; COLD_RST_N_ASSERTED leaves the same, held, with every domain switched off. WARM while a power-fail save has begun or the block has powered down is ignored and raises WARM_IGN; in an entry or asleep it wakes the block and waits; in an exit it waits for its end; otherwise it acts now; held by COLD_RST_N it only notes the line, and a second assertion while WARM_RST_N is held changes nothing. WARM_RST_N_DEASSERTED ends the hold, and goes on at once where no depot tag is outstanding; a WARM that acts late, after its line has risen, goes on in the same way at once; WARM_DEPOT_WAIT_END goes on when none is left, or after 10 microseconds, with DEP_PROTO for each tag still out. FABRIC_RST resets what a fabric reset resets, once the accesses of the PF that wait have ended. STAGE_READY in STAGE 2 with everything up, the save headers read and, after COLD, no reset walk left makes the block ready: STAGE 3, ready for beats with 64 credits, the walker started. That WARM during an unfinished start-up begins the arbitration again, that a second assertion is ignored, and that FABRIC pulses are counted while accesses wait, is the model's choice of log entries 41 and 140. -/
def Obligations.ResetsAndStartup : Prop :=
  (∀ (s : State) (w : Word), ∃ t : State, exec (.cold w) s = .next t
    ∧ t.reg .REG_STRAPS = (w &&& 0x07FFFF7F#32)
    ∧ (∀ (r : Reg) (i : Nat), i < 65536 → ¬ (r = .REG_STRAPS ∧ i = 0) → t.reg r i = State.reset.reg r i)
    ∧ t.bnd = State.reset.bnd ∧ t.img = State.reset.img ∧ t.tim = State.reset.tim ∧ t.tel = State.reset.tel
    ∧ t.src = State.reset.src ∧ t.cvn = State.reset.cvn ∧ t.rnk = State.reset.rnk ∧ t.wwl = State.reset.wwl
    ∧ t.oas = State.reset.oas ∧ t.way = State.reset.way ∧ t.rpl = State.reset.rpl ∧ t.vfm = State.reset.vfm
    ∧ t.tdm = State.reset.tdm ∧ t.pwr = State.reset.pwr ∧ t.imgl = State.reset.imgl ∧ t.cfg = State.reset.cfg
    ∧ t.boot = State.reset.boot ∧ t.dep.mem = s.dep.mem ∧ t.dep.backing = s.dep.backing ∧ t.dep.tags = []
    ∧ t.sav.recs = s.sav.recs ∧ t.intk.level = s.intk.level ∧ t.pending = s.pending)
  ∧ (∀ s : State, ∃ t : State, exec .coldRstNAsserted s = .next t ∧ t.regs = State.reset.regs ∧ t.boot.held = true
    ∧ t.inReset = true ∧ t.pwr.psw = List.replicate 5 (Psw.down false) ∧ t.dep.mem = s.dep.mem ∧ t.pending = s.pending)
  ∧ (∀ s : State,
    let l := { s with boot := { s.boot with warmLow := true } }
    (s.boot.warmHeld = true → exec .warm s = .next s)
    ∧ (s.boot.warmHeld = false → s.boot.held = true → exec .warm s = .next l)
    ∧ (s.inReset = false →
      let late := decide (s.pst = 6) || s.sav.run.any (fun x => x.trig == 0)
      (late = true → exec .warm s = .next (l.raise F.REG_RST_STAT_WARM_IGN))
      ∧ (late = false → s.pst = 1 ∨ s.pst = 2 ∨ s.pst = 3 →
        exec .warm s = .next (State.wake { l with boot := { l.boot with warmWant := true } } 6 0))
      ∧ (late = false → s.pst = 4 → exec .warm s = .next { l with boot := { l.boot with warmWant := true } })
      ∧ (late = false → s.pst ≠ 1 → s.pst ≠ 2 → s.pst ≠ 3 → s.pst ≠ 4 → exec .warm s = .next l.warmApply)))
  ∧ (∀ s : State,
    let u := { s with boot := { s.boot with warmLow := false, warmHeld := false, depWait := some s.tim.now } }
    (s.boot.warmHeld = false → exec .warmRstNDeasserted s = .next { s with boot := { s.boot with warmLow := false } })
    ∧ (s.boot.warmHeld = true → s.dep.tags = [] → exec .warmRstNDeasserted s = .next u.warmGo)
    ∧ (s.boot.warmHeld = true → s.dep.tags ≠ [] → exec .warmRstNDeasserted s = .next u))
  ∧ (∀ s : State,
    (s.boot.warmLow = true → s.warmNow = s.warmApply) ∧ (s.boot.warmLow = false → s.warmNow = s.warmApply.warmRise))
  ∧ (∀ (s : State) (t : Nat), s.inReset = false → s.boot.depWait = some t →
    (s.dep.tags = [] → exec .warmDepotWaitEnd s = .next s.warmGo)
    ∧ (s.dep.tags ≠ [] → s.passed t 10000 = false → exec .warmDepotWaitEnd s = .next s)
    ∧ (s.dep.tags ≠ [] → s.passed t 10000 = true →
      let lost := s.dep.tags.map (·.1)
      let u := { s with dep := { s.dep with tags := [], out := [] } }
      let v := { u with sst := { u.sst with missq := u.sst.missq.map (fun (m : Miss) => { m with tag := none }), victims := u.sst.victims.filter (fun v => v.tag.isNone) } }
      exec .warmDepotWaitEnd s = .next ((lost.foldl (fun (x : State) k => x.depProto k) v).tagsLost lost).warmGo))
  ∧ (∀ s : State,
    (s.inReset = true → exec .fabricRst s = .next s)
    ∧ (s.inReset = false → s.pfBusy = true → exec .fabricRst s = .next { s with boot := { s.boot with fabrics := s.boot.fabrics + 1 } })
    ∧ (s.inReset = false → s.pfBusy = false → exec .fabricRst s = .next s.fabricNow))
  ∧ (∀ s : State, s.inReset = false →
    let go := decide (s.stage = 2) && s.mainOn && s.pwr.change.isNone && s.bit F.SST_STATUS_INIT_DONE && s.sav.scan.isNone
      && !(s.boot.cold && !s.vfm.walks.isEmpty)
    (go = true → ∃ u : State, exec .stageReady s = .next u.heldFlrs.ringGo.saveWaiting
      ∧ u.stage = 3 ∧ u.intk.ready = true ∧ u.intk.credits = 64 ∧ u.cfg.on = true ∧ u.boot.cold = false)
    ∧ (go = false → exec .stageReady s = .next s))

/-- IMAGE_CHUNK_SIDEBAND: a faulty frame leaves its record; a chunk of fewer than 5 or more than 68 bytes ends with result 3, one without class C3 with result 4; a good one is taken at its slot and offset, and ends with result 0, or with 5 where the loader does not want it. TIMEOUT, 100 ms after the request, judges the slot as not delivered. ARBITRATION_DONE, once both slots are judged, loads the slot chosen, a RELOAD first resetting every domain; with none chosen a RELOAD keeps the image, and a start-up goes on without one. IMAGE_APPLY_DONE brings the bytes read into force and, at start-up, goes on to STAGE 2; bytes that fail their reading fall back to the other slot, if it has one. That an unknown code leaves LAST_CMD, and that image data needs class C3, is the model's choice of log entry 30. -/
def Obligations.ImageTransfers : Prop :=
  (∀ (s : State) (b : List Byte), s.SidebandOpen →
    let o := leAt b 0 4
    let r := s.imgData false (decide (2 ^ 31 ≤ o)) (o % 2 ^ 23) (b.drop 4)
    (exec (.imageChunkSideband .pecWrong b) s = .next ((s.sbEnd 3 1).raise F.SB_STATUS_PEC_ERR)
    ∧ exec (.imageChunkSideband .unknownCode b) s = .next (s.setFld F.SB_STATUS_RESULT 0 2)
    ∧ exec (.imageChunkSideband .wrongCount b) s = .next (s.sbEnd 3 3))
    ∧ (b.length < 5 ∨ 68 < b.length → exec (.imageChunkSideband .good b) s = .next (s.sbEnd 3 3))
    ∧ (5 ≤ b.length → b.length ≤ 68 → s.holds .sideband 3 = false → exec (.imageChunkSideband .good b) s = .next (s.sbEnd 3 4))
    ∧ (5 ≤ b.length → b.length ≤ 68 → s.holds .sideband 3 = true →
      exec (.imageChunkSideband .good b) s = .next (r.2.sbEnd 3 (if r.1 then 0 else 5))))
  ∧ (∀ s : State, s.inReset = false →
    let late := s.imgReq && s.passed s.imgl.since 100000000
    (late = true → exec .timeout s = .next (s.imgJudge 2 (s.fld F.IMG_FETCH_OFFSET))) ∧ (late = false → exec .timeout s = .next s))
  ∧ (∀ s : State, s.inReset = false →
    let u := if s.imgl.choose.2 then s.raise F.IMG_STATUS_TWIN_CONFLICT else s
    (s.imgl.phase ≠ .judged → exec .arbitrationDone s = .next s)
    ∧ (∀ slot, s.imgl.phase = .judged → s.imgl.choose.1 = some slot →
      exec .arbitrationDone s =
        .next ((if u.imgl.reload then allDoms.foldl (fun (x : State) d => x.flr d 8) u else u).imgLoad slot))
    ∧ (s.imgl.phase = .judged → s.imgl.choose.1 = none → s.imgl.reload = true → exec .arbitrationDone s =
        .next { (u.raise F.IMG_STATUS_KEPT).setFld F.IMG_STATUS_STATE 0 s.imgl.code with imgl := Loader.idle })
    ∧ (s.imgl.phase = .judged → s.imgl.choose.1 = none → s.imgl.reload = false → exec .arbitrationDone s =
        .next { u with imgl := { u.imgl with phase := .loaded, code := 0x13, a := none, b := none } }))
  ∧ (∀ s : State, s.inReset = false →
    let r := s.imgDone
    (s.imgl.phase ≠ .loaded → exec .imageApplyDone s = .next s)
    ∧ (r.1 = false → exec .imageApplyDone s = .next r.2)
    ∧ (r.1 = true → r.2.stage = 3 → exec .imageApplyDone s = .next (r.2.ringImage s.img))
    ∧ (r.1 = true → r.2.stage ≠ 3 → exec .imageApplyDone s = .next r.2.bootImage))

/-- FT_TOGGLE loads the fabric time, never backward, marks a step back, or a jump of more than 1 ms with error 20, and the hold clocks, the timers and FREEZE count the time gained; HOLDOVER, 2 microseconds after the last toggle, raises its flag. WALKER_PASS_END after the time of a pass reads what is left, and then either ends a partial pass or shows the live check value, marks it clean and reports a difference from the reference. TELEMETRY_WINDOW_END at the end of the window shows its maxima and starts the next one; LEVEL_SAMPLE at its time samples the eight levels and moves the next sample to the next multiple of its period; SAMPLER_RECORD forms the record of the first sample that has ended, or counts it as dropped where 64 records wait, and writes one record. Each changes nothing before its time. -/
def Obligations.TimeWalkerAndTelemetry : Prop :=
  (∀ (s : State) (ft : BitVec 64),
    let v := (ft.toNat + s.fld F.TIM_FT_COMP_DELAY) * 45
    let b := { s with tim := { s.tim with ref := v, ft := max s.tim.ft v, tog := s.tim.now, seen := true } }.lower F.TIM_STATUS_HOLDOVER
    let k := b.raise F.TIM_STATUS_BACKSTEP
    let j := { b.raise F.TIM_STATUS_JUMP with wwl := { s.wwl with jumped := true } }.error 20 12 none
      (min ((v - s.tim.ft) / 45000) (2 ^ 32 - 1)) .none
    let gain (x : State) (n : Nat) : State := ((x.runHolds n).runTimers n).runFreeze (x.ns - s.ns)
    (s.boot.held = true → exec (.ftToggle ft) s = .next s)
    ∧ (s.boot.held = false → v < s.tim.ft → exec (.ftToggle ft) s = .next (gain k 0))
    ∧ (s.boot.held = false → s.tim.ft ≤ v → v ≤ s.tim.ft + 1000000 * 45 →
      exec (.ftToggle ft) s = .next (gain b (v - s.tim.ft)))
    ∧ (s.boot.held = false → s.tim.ft + 1000000 * 45 < v →
      exec (.ftToggle ft) s = .next (gain j (j.tim.ft - s.tim.ft))))
  ∧ (∀ s : State,
    let gone := !s.boot.held && s.passed s.tim.tog 2000
    (gone = true → exec .holdover s = .next (s.raise F.TIM_STATUS_HOLDOVER)) ∧ (gone = false → exec .holdover s = .next s))
  ∧ (∀ (s : State) (bad : List (BitVec 13)), s.CoreUp →
    let early := !s.cfg.on || decide (s.cfg.ran < passTime)
    let u := s.readRest
    let crcs := u.regionCrcs (bad.map BitVec.toNat)
    let live := liveCrc crcs
    let v := { u with cfg := { u.cfg with crcs := crcs } }.setReg .CFG_CRC_LIVE 0 live
    let w := if v.cfg.clean then v.raise F.CFG_STATUS_LIVE_CLEAN else v
    (early = true → exec (.walkerPassEnd bad) s = .next s)
    ∧ (early = false → u.cfg.skipped = true → exec (.walkerPassEnd bad) s = .next (u.raise F.CFG_STATUS_PARTIAL).nextPass)
    ∧ (early = false → u.cfg.skipped = false → exec (.walkerPassEnd bad) s =
      .next (if w.bit F.CFG_STATUS_REF_VALID && live != w.reg .CFG_CRC_REF then w.mismatch else w).nextPass))
  ∧ (∀ (s : State) (ecc : Ecc), s.CoreUp →
    let u := s.counterEcc ecc
    (u.ns < u.tel.winEnd → exec (.telemetryWindowEnd ecc) s = .next u)
    ∧ (u.tel.winEnd ≤ u.ns → ∃ t : State, exec (.telemetryWindowEnd ecc) s = .next t ∧ t.tel.wmax = [] ∧ t.tel.qCur = 0
      ∧ t.oas.prev = u.oas.cur ∧ t.oas.cur = [] ∧ t.dep = u.dep ∧ t.pending = s.pending))
  ∧ (∀ s : State, s.CoreUp →
    (s.ns < s.tel.lvlAt → exec .levelSample s = .next s)
    ∧ (s.tel.lvlAt ≤ s.ns → ∃ t : State, exec .levelSample s = .next t
      ∧ t.tel.lvlAt = (s.ns / ((s.fld F.TEL_LVL_PERIOD + 1) * 128) + 1) * ((s.fld F.TEL_LVL_PERIOD + 1) * 128)
      ∧ t.dep = s.dep ∧ t.rnk = s.rnk ∧ t.dlv = s.dlv ∧ t.pending = s.pending))
  ∧ (∀ s : State, s.CoreUp →
    (firstDone s.tim.ft s.tel.samples = none → exec .samplerRecord s = .next s.smpWrite)
    ∧ (∀ m, firstDone s.tim.ft s.tel.samples = some m →
      let u := { s with tel := { s.tel with samples := s.tel.samples.erase m } }
      let k : Sample := if m.endTime.isSome then m else { m with flags := m.flags ||| 0x40#8 }
      (64 ≤ s.tel.smpBuf.length → exec .samplerRecord s = .next (u.bump F.TEL_SMP_STAT_DROPPED))
      ∧ (s.tel.smpBuf.length < 64 →
        exec .samplerRecord s = .next (State.smpWrite { u with tel := { u.tel with smpBuf := u.tel.smpBuf ++ [k.record] } }))))

/-- After bytes are stored from an address on, each byte of the range reads as stored and every byte outside it reads as before, no unit but the depot changes, and memory keeps its canonical form. -/
def Obligations.DepotMemoryReadsBack : Prop :=
  ∀ (s : State) (a : Nat) (l : List Byte),
    let t := s.setDepBytes a l
    (∀ k b, l[k]? = some b → SMap.get 0 t.dep.mem (a + k) = b)
    ∧ (∀ x, x < a ∨ a + l.length ≤ x → SMap.get 0 t.dep.mem x = SMap.get 0 s.dep.mem x ∧ t.depByte x = s.depByte x)
    ∧ t.dep.tags = s.dep.tags ∧ t.dep.backing = s.dep.backing ∧ t.regs = s.regs ∧ t.sst = s.sst ∧ t.pending = s.pending
    ∧ (Memory.wf s.dep.mem = true → Memory.wf t.dep.mem = true)

/-- DEBUG_ACCESS with IDCODE returns version 0x3, part number 0xB31E and the manufacturer code of the straps; BYPASS returns the bit shifted in before and keeps the new one; a scan dump returns a free value and counts one used, and bit 0 of the IDCODE is 1 (the model's choice of log entry 99); while the authority table denies class C5 to DEBUG and is locked, a read of the register instrument returns 0 and a write changes nothing. Nothing else of the state moves. -/
def Obligations.TapInstructions : Prop :=
  ∀ s : State,
    exec (.debugAccess .idcode) s = .next { s with io := { s.io with
      rdata := BitVec.ofNat 32 (0x3 * 2 ^ 28 + 0xB31E * 2 ^ 12 + s.fld F.REG_STRAPS_DBG_MFR * 2 + 1) } }
    ∧ (∀ b, exec (.debugAccess (.bypass b)) s =
        .next { s with io := { s.io with rdata := BitVec.ofNat 32 (bitNat s.io.bypass), bypass := b } })
    ∧ exec (.debugAccess .scanDump) s =
        .next { s with io := { s.io with rdata := Config.scanDump s.io.dumps, dumps := s.io.dumps + 1 } }
    ∧ (s.holds .debug 5 = false → s.bit F.REG_LOCK_AUTH = true → ∀ (off : BitVec 30) (data : Word),
        exec (.debugAccess (.register false off data)) s = .next { s with io := { s.io with rdata := 0 } }
        ∧ exec (.debugAccess (.register true off data)) s = .next s)
end

