-- ==== Sys2Proof/Laws/SMap.lean ====
section
/-! SUPPORT. Laws of sparse maps: reading after writing, and that every operation keeps the canonical form. -/

namespace Sys2Proof.Machine

variable {α : Type}

@[simp] theorem SMap.find_nil (k : Nat) : SMap.find ([] : SMap α) k = none := rfl

@[simp] theorem SMap.get_nil (d : α) (k : Nat) : SMap.get d [] k = d := rfl

/-- A key that was listed reads its value. -/
@[simp] theorem SMap.find_insert_self (m : SMap α) (k : Nat) (v : α) : SMap.find (SMap.insert m k v) k = some v := by
  induction m with
  | nil => simp [SMap.insert, SMap.find]
  | cons p r ih =>
    obtain ⟨a, w⟩ := p
    simp only [SMap.insert]
    split
    · simp [SMap.find]
    · split
      · simp [SMap.find]
      · have h : a ≠ k := by omega
        simp [SMap.find, h, ih]

/-- Listing one key leaves what every other key reads. -/
theorem SMap.find_insert_other (m : SMap α) {k j : Nat} (v : α) (h : j ≠ k) :
    SMap.find (SMap.insert m k v) j = SMap.find m j := by
  induction m with
  | nil => simp [SMap.insert, SMap.find, Ne.symm h]
  | cons p r ih =>
    obtain ⟨a, w⟩ := p
    simp only [SMap.insert]
    split
    · simp [SMap.find, Ne.symm h]
    · split
      · rename_i h2; subst h2; simp [SMap.find, Ne.symm h]
      · simp [SMap.find, ih]

/-- An erased key is not listed. -/
@[simp] theorem SMap.find_erase_self (m : SMap α) (k : Nat) : SMap.find (SMap.erase m k) k = none := by
  induction m with
  | nil => rfl
  | cons p r ih =>
    obtain ⟨a, w⟩ := p
    by_cases h : a = k
    · simpa [SMap.erase, h] using ih
    · have : SMap.erase ((a, w) :: r) k = (a, w) :: SMap.erase r k := by simp [SMap.erase, h]
      simp [this, SMap.find, h, ih]

/-- Erasing one key leaves what every other key reads. -/
theorem SMap.find_erase_other (m : SMap α) {k j : Nat} (h : j ≠ k) : SMap.find (SMap.erase m k) j = SMap.find m j := by
  induction m with
  | nil => rfl
  | cons p r ih =>
    obtain ⟨a, w⟩ := p
    by_cases ha : a = k
    · have : SMap.erase ((a, w) :: r) k = SMap.erase r k := by simp [SMap.erase, ha]
      have h2 : a ≠ j := by omega
      simp [this, SMap.find, h2, ih]
    · have : SMap.erase ((a, w) :: r) k = (a, w) :: SMap.erase r k := by simp [SMap.erase, ha]
      simp [this, SMap.find, ih]

/-- Reading after writing the same key. -/
@[simp] theorem SMap.get_set_self [DecidableEq α] (d : α) (m : SMap α) (k : Nat) (v : α) :
    SMap.get d (SMap.set d m k v) k = v := by
  unfold SMap.set SMap.get
  split
  · simp_all
  · simp

/-- Reading another key after a write. -/
theorem SMap.get_set_other [DecidableEq α] (d e : α) (m : SMap α) {k j : Nat} (v : α) (h : j ≠ k) :
    SMap.get e (SMap.set d m k v) j = SMap.get e m j := by
  unfold SMap.set SMap.get
  split
  · rw [SMap.find_erase_other m h]
  · rw [SMap.find_insert_other m v h]

/-! ### The canonical form -/

theorem SMap.rising_mono {b c : Nat} (h : c ≤ b) : ∀ {m : SMap α}, SMap.risingFrom b m = true → SMap.risingFrom c m = true
  | [], _ => rfl
  | (a, w) :: r, hm => by
    simp only [SMap.risingFrom, Bool.and_eq_true, decide_eq_true_eq] at hm ⊢
    exact ⟨by omega, hm.2⟩

/-- Listing a key keeps the keys rising. -/
theorem SMap.rising_insert {m : SMap α} {b k : Nat} (v : α) (hb : b ≤ k) (hm : SMap.risingFrom b m = true) :
    SMap.risingFrom b (SMap.insert m k v) = true := by
  induction m generalizing b with
  | nil => simp [SMap.insert, SMap.risingFrom, hb]
  | cons p r ih =>
    obtain ⟨a, w⟩ := p
    simp only [SMap.risingFrom, Bool.and_eq_true, decide_eq_true_eq] at hm
    simp only [SMap.insert]
    split
    · simp only [SMap.risingFrom, Bool.and_eq_true, decide_eq_true_eq]
      exact ⟨hb, by omega, hm.2⟩
    · split
      · rename_i h2; subst h2
        simp only [SMap.risingFrom, Bool.and_eq_true, decide_eq_true_eq]
        exact ⟨hb, hm.2⟩
      · simp only [SMap.risingFrom, Bool.and_eq_true, decide_eq_true_eq]
        exact ⟨hm.1, ih (by omega) hm.2⟩

/-- Dropping entries keeps the keys rising. -/
theorem SMap.rising_filter {m : SMap α} {b : Nat} (f : Nat × α → Bool) (hm : SMap.risingFrom b m = true) :
    SMap.risingFrom b (m.filter f) = true := by
  induction m generalizing b with
  | nil => rfl
  | cons p r ih =>
    obtain ⟨a, w⟩ := p
    simp only [SMap.risingFrom, Bool.and_eq_true, decide_eq_true_eq] at hm
    by_cases h : f (a, w) = true
    · rw [List.filter_cons_of_pos h]
      simp only [SMap.risingFrom, Bool.and_eq_true, decide_eq_true_eq]
      exact ⟨hm.1, ih hm.2⟩
    · rw [List.filter_cons_of_neg h]
      exact SMap.rising_mono (by omega) (ih hm.2)

/-- Erasing a key keeps the keys rising. -/
theorem SMap.rising_erase {m : SMap α} {b : Nat} (k : Nat) (hm : SMap.risingFrom b m = true) :
    SMap.risingFrom b (SMap.erase m k) = true := SMap.rising_filter _ hm

/-- Writing keeps the keys rising. -/
theorem SMap.rising_set [DecidableEq α] {m : SMap α} (d : α) (k : Nat) (v : α) (hm : SMap.risingFrom 0 m = true) :
    SMap.risingFrom 0 (SMap.set d m k v) = true := by
  unfold SMap.set
  split
  · exact SMap.rising_erase k hm
  · exact SMap.rising_insert v (Nat.zero_le k) hm

/-- What listing a key lists. -/
theorem SMap.all_insert {m : SMap α} {P : Nat × α → Bool} {k : Nat} {v : α} (hv : P (k, v) = true)
    (hm : m.all P = true) : (SMap.insert m k v).all P = true := by
  induction m with
  | nil => simp [SMap.insert, hv]
  | cons p r ih =>
    obtain ⟨a, w⟩ := p
    simp only [List.all_cons, Bool.and_eq_true] at hm
    simp only [SMap.insert]
    split
    · simp [hv, hm]
    · split
      · simp [hv, hm]
      · simp only [List.all_cons, Bool.and_eq_true]
        exact ⟨hm.1, ih hm.2⟩

/-- Writing keeps the canonical form. -/
theorem SMap.wf_set [DecidableEq α] {d : α} {m : SMap α} (k : Nat) (v : α) (hm : SMap.wf d m = true) :
    SMap.wf d (SMap.set d m k v) = true := by
  simp only [SMap.wf, Bool.and_eq_true] at hm ⊢
  refine ⟨SMap.rising_set d k v hm.1, ?_⟩
  unfold SMap.set
  split
  · exact List.all_eq_true.mpr (fun p hp => List.all_eq_true.mp hm.2 p (List.mem_of_mem_filter hp))
  · rename_i h
    exact SMap.all_insert (by simpa using h) hm.2

/-- The keys of rising maps of which each lies below the next one's are rising together. -/
theorem SMap.rising_append {l m : SMap α} {b c : Nat} (hl : SMap.risingFrom b l = true) (hb : b ≤ c)
    (hc : ∀ p ∈ l, p.1 < c) (hm : SMap.risingFrom c m = true) : SMap.risingFrom b (l ++ m) = true := by
  induction l generalizing b with
  | nil => exact SMap.rising_mono hb hm
  | cons p r ih =>
    obtain ⟨a, w⟩ := p
    simp only [SMap.risingFrom, Bool.and_eq_true, decide_eq_true_eq] at hl
    have ha := hc (a, w) (by simp)
    simp only [List.cons_append, SMap.risingFrom, Bool.and_eq_true, decide_eq_true_eq]
    exact ⟨hl.1, ih hl.2 (by have : a < c := ha; omega) (fun p hp => hc p (by simp [hp]))⟩

/-- The entries from a key on rise from that key. -/
theorem SMap.rising_from {m : SMap α} {b : Nat} (c : Nat) (hm : SMap.risingFrom b m = true) :
    SMap.risingFrom c (m.filter (fun p => decide (c ≤ p.1))) = true := by
  induction m generalizing b c with
  | nil => rfl
  | cons p r ih =>
    obtain ⟨a, w⟩ := p
    simp only [SMap.risingFrom, Bool.and_eq_true, decide_eq_true_eq] at hm
    by_cases h : c ≤ a
    · rw [List.filter_cons_of_pos (by simpa using h)]
      simp only [SMap.risingFrom, Bool.and_eq_true, decide_eq_true_eq]
      exact ⟨h, SMap.rising_filter _ hm.2⟩
    · rw [List.filter_cons_of_neg (by simpa using h)]
      exact ih c hm.2

/-- A run of consecutive keys with one value rises. -/
theorem SMap.rising_run (lo : Nat) (v : α) (n : Nat) :
    ∀ k, SMap.risingFrom (lo + k) ((List.range' k n).map (fun d => (lo + d, v))) = true := by
  induction n with
  | zero => intro k; rfl
  | succ n ih =>
    intro k
    simp only [List.range'_succ, List.map_cons, SMap.risingFrom, Bool.and_eq_true, decide_eq_true_eq]
    exact ⟨Nat.le_refl _, ih (k + 1)⟩

/-- The entries of a range of keys replaced by ones of that range. -/
theorem SMap.rising_splice {m l : SMap α} {lo hi : Nat} (hm : SMap.risingFrom 0 m = true) (h : lo ≤ hi)
    (hl : SMap.risingFrom lo l = true) (hb : ∀ p ∈ l, p.1 < hi) :
    SMap.risingFrom 0 (m.filter (fun p => decide (p.1 < lo)) ++ l ++ m.filter (fun p => decide (hi ≤ p.1))) = true := by
  rw [List.append_assoc]
  refine SMap.rising_append (SMap.rising_filter _ hm) (Nat.zero_le lo) (fun p hp => by simpa using (List.mem_filter.mp hp).2) ?_
  exact SMap.rising_append hl h hb (SMap.rising_from hi hm)

end Sys2Proof.Machine
end

