-- ==== Sys2Proof/Laws/Regs.lean ====
section
/-! SUPPORT. Laws of the register file: a register reads what was last written to it, and no other register changes. -/

namespace Sys2Proof.Machine

/-- Two replicas lie at one place only if they are one. -/
theorem Reg.key_inj {r q : Reg} {i j : Nat} (hi : i < 65536) (hj : j < 65536) (h : r.key i = q.key j) : r = q ∧ i = j := by
  unfold Reg.key at h
  have hc : r.ctorIdx = q.ctorIdx := by omega
  exact ⟨by
    have := congrArg (Reg.ofNat ·) hc
    simpa only [Reg.ofNat_ctorIdx] using this, by omega⟩

/-- Reading after writing. -/
@[simp] theorem State.reg_setReg_self (s : State) (r : Reg) (i : Nat) (w : Word) : (s.setReg r i w).reg r i = w := by
  simp [State.reg, State.setReg]

/-- Another replica or register after a write. -/
theorem State.reg_setReg_other (s : State) {r q : Reg} {i j : Nat} (w : Word) (h : q.key j ≠ r.key i) :
    (s.setReg r i w).reg q j = s.reg q j := by
  simp only [State.reg, State.setReg]
  exact SMap.get_set_other _ _ _ _ h

/-- Another register, or another replica below the 65,536 that an array can have. -/
theorem State.reg_setReg_ne (s : State) {r q : Reg} {i j : Nat} (w : Word) (hi : i < 65536) (hj : j < 65536)
    (h : q ≠ r ∨ j ≠ i) : (s.setReg r i w).reg q j = s.reg q j :=
  State.reg_setReg_other s w (fun e => by
    obtain ⟨h1, h2⟩ := Reg.key_inj hj hi e
    rcases h with h | h <;> contradiction)

/-- A buffered value waits until its boundary: the value in force is as before. -/
@[simp] theorem State.reg_setBnd (s : State) (r q : Reg) (i j : Nat) (w : Word) : (s.setBnd r i w).reg q j = s.reg q j := rfl

/-- A field of the last register written. -/
theorem State.fld_setReg_self (s : State) (f : Field) (i : Nat) (w : Word) : (s.setReg f.reg i w).fld f i = f.get w := by
  simp [State.fld]

/-- The bits of a field. -/
theorem Field.getLsbD_mask (f : Field) (h : f.lo ≤ f.hi) (h2 : f.hi < 32) (k : Nat) :
    f.mask.getLsbD k = decide (f.lo ≤ k ∧ k ≤ f.hi) := by
  unfold Field.mask
  rw [BitVec.getLsbD_shiftLeft, BitVec.getLsbD_ushiftRight, BitVec.getLsbD_allOnes]
  by_cases hk : k < 32
  · by_cases h1 : f.lo ≤ k
    · by_cases h3 : k ≤ f.hi
      · simp [hk, h1, h3]; omega
      · simp [hk, h1, h3]; omega
    · simp [hk, h1]
  · have : ¬ k ≤ f.hi := by omega
    simp [hk, this]

/-- A field reads what was put, cut to its width. -/
theorem Field.get_put_self (f : Field) (h : f.lo ≤ f.hi) (h2 : f.hi < 32) (w : Word) (v : Nat) :
    f.get (f.put w v) = v % 2 ^ f.width := by
  unfold Field.get Field.put Field.width
  apply Nat.eq_of_testBit_eq
  intro k
  rw [Nat.testBit_mod_two_pow, ← BitVec.getLsbD, BitVec.getLsbD_ushiftRight, BitVec.getLsbD_and,
    BitVec.getLsbD_or, BitVec.getLsbD_and, BitVec.getLsbD_and, BitVec.getLsbD_not, Field.getLsbD_mask f h h2,
    BitVec.getLsbD_shiftLeft, BitVec.getLsbD_ofNat]
  by_cases hk : k < f.hi + 1 - f.lo
  · have h3 : f.lo ≤ f.lo + k ∧ f.lo + k ≤ f.hi := by omega
    have h4 : f.lo + k < 32 := by omega
    have h5 : k < 32 := by omega
    simp [hk, h3, h4, h5]
  · have h3 : ¬ (f.lo ≤ f.lo + k ∧ f.lo + k ≤ f.hi) := by omega
    simp only [h3, decide_false, Bool.and_false, hk, Bool.false_and]

/-- A field that shares no bit is untouched. -/
theorem Field.get_put_other (f g : Field) (h : f.mask &&& g.mask = 0#32) (w : Word) (v : Nat) :
    f.get (g.put w v) = f.get w := by
  unfold Field.get Field.put
  congr 2
  apply BitVec.eq_of_getLsbD_eq
  intro k hk
  have := congrArg (·.getLsbD k) h
  simp only [BitVec.getLsbD_and, BitVec.getLsbD_zero] at this
  simp only [BitVec.getLsbD_and, BitVec.getLsbD_or, BitVec.getLsbD_not, hk]
  cases hf : f.mask.getLsbD k <;> cases hg : g.mask.getLsbD k <;> simp_all
/-- A field after it was set. -/
theorem State.fld_setFld_self (s : State) (f : Field) (i v : Nat) (h : f.lo ≤ f.hi) (h2 : f.hi < 32) :
    (s.setFld f i v).fld f i = v % 2 ^ f.width := by
  rw [State.setFld, State.fld_setReg_self, Field.get_put_self f h h2]

/-- A field of another register or replica, after one was set. -/
theorem State.fld_setFld_ne (s : State) (f g : Field) (i j v : Nat) (h : g.reg.key j ≠ f.reg.key i) :
    (s.setFld f i v).fld g j = s.fld g j := by
  rw [State.setFld, State.fld, State.reg_setReg_other _ _ h, State.fld]

/-- Another field of the same register and replica. -/
theorem State.fld_setFld_other (s : State) (f g : Field) (i v : Nat) (hr : g.reg = f.reg) (h : g.mask &&& f.mask = 0#32) :
    (s.setFld f i v).fld g i = s.fld g i := by
  rw [State.setFld, State.fld, State.fld, hr, State.reg_setReg_self, Field.get_put_other g f h]

end Sys2Proof.Machine
end

