-- ==== Sys2Proof/Laws/Access.lean ====
section
/-! SUPPORT. The access path as one lemma: a write that the register interface serves now stores, mirrors, runs the
register's command and completes; and the fields of a command word. -/

namespace Sys2Proof.Machine

/-! ### The completion status of the register target path is read by nothing that a write depends on -/

theorem State.setUr_eq (s : State) (p : Port) (v : Bool) : ∃ io, s.setUr p v = { s with io := io } := by
  unfold State.setUr; split
  · exact ⟨_, rfl⟩
  · exact ⟨s.io, rfl⟩

@[simp] theorem State.answered_inReset (s : State) (p : Port) : (s.answered p).inReset = s.inReset := by
  obtain ⟨io, h⟩ := s.setUr_eq p false; unfold State.answered; rw [h]; rfl
@[simp] theorem State.answered_portOf (s : State) (p q : Port) : (s.answered p).portOf q = s.portOf q := by
  obtain ⟨io, h⟩ := s.setUr_eq p false; unfold State.answered; rw [h]; rfl
@[simp] theorem State.answered_bit (s : State) (p : Port) (f : Field) (i : Nat) : (s.answered p).bit f i = s.bit f i := by
  obtain ⟨io, h⟩ := s.setUr_eq p false; unfold State.answered; rw [h]; rfl
@[simp] theorem State.answered_fld (s : State) (p : Port) (f : Field) (i : Nat) : (s.answered p).fld f i = s.fld f i := by
  obtain ⟨io, h⟩ := s.setUr_eq p false; unfold State.answered; rw [h]; rfl
@[simp] theorem State.answered_reg (s : State) (p : Port) (r : Reg) (i : Nat) : (s.answered p).reg r i = s.reg r i := by
  obtain ⟨io, h⟩ := s.setUr_eq p false; unfold State.answered; rw [h]; rfl
@[simp] theorem State.answered_waybill (s : State) (p : Port) (i : Nat) : (s.answered p).waybill i = s.waybill i := by
  obtain ⟨io, h⟩ := s.setUr_eq p false; unfold State.answered; rw [h]; rfl
@[simp] theorem State.answered_replaying (s : State) (p : Port) (i : Nat) : (s.answered p).replaying i = s.replaying i := by
  obtain ⟨io, h⟩ := s.setUr_eq p false; unfold State.answered; rw [h]; rfl
@[simp] theorem State.answered_writes (s : State) (p : Port) (r : Reg) (i : Nat) (w : Word) :
    (s.answered p).writes r i w = s.writes r i w := by
  obtain ⟨io, h⟩ := s.setUr_eq p false; unfold State.answered; rw [h]; rfl
@[simp] theorem State.answered_meets (s : State) (p : Port) (r : Reg) (i : Nat) (w : Word) (f : Field → Bool) :
    (s.answered p).meets r i w f = s.meets r i w f := by
  obtain ⟨io, h⟩ := s.setUr_eq p false; unfold State.answered; rw [h]; rfl
@[simp] theorem State.answered_domEn (s : State) (p : Port) (i : Nat) : (s.answered p).domEn i = s.domEn i := by
  obtain ⟨io, h⟩ := s.setUr_eq p false; unfold State.answered; rw [h]; rfl
@[simp] theorem State.answered_present (s : State) (p : Port) (r : Reg) (i : Nat) :
    (s.answered p).present r i = s.present r i := by
  obtain ⟨io, h⟩ := s.setUr_eq p false; unfold State.answered; rw [h]; rfl

/-! ### Accesses that are carried out -/

/-- A request that is carried out: what its way does, the completion, and the wake of a switched domain. -/
theorem State.serve_carried {s : State} {a : RegAcc} (h : s.Carries a) :
    s.serve a = s.ended ((s.begun a).accEnd (s.goal a) ((s.begun a).accWay (s.goal a))).2 a
      ((s.begun a).accWay (s.goal a)) ((s.begun a).accEnd (s.goal a) ((s.begun a).accWay (s.goal a))).1 := by
  obtain ⟨_, hu, hq, hm, hc, hp⟩ := h
  unfold State.serve
  simp only [hq, hm, Bool.false_eq_true, if_false]
  unfold State.perform
  simp only [hu, hc, Bool.false_eq_true, if_false]
  unfold State.performReg
  simp only [hp, Bool.false_eq_true, if_false, Bool.false_and]
  rfl

/-- A write that is served. -/
theorem State.serve_write {s : State} {a : RegAcc} {x : Spot} (h : s.Serves a x) (hw : a.wr = true) :
    s.serve a = s.written a x := by
  rw [State.serve_carried h.1, h.2]
  have hg : (s.goal a).wr = true ∧ (s.goal a).data = a.data ∧ (s.goal a).port = a.port ∧ (s.goal a).ecc = a.ecc := by
    unfold State.goal State.aimed; split <;> exact ⟨hw, rfl, rfl, rfl⟩
  unfold State.accEnd State.written
  simp only [hg.1, hg.2.1, hg.2.2.1, hg.2.2.2, if_true]

/-- A read that is served. -/
theorem State.serve_read {s : State} {a : RegAcc} {x : Spot} (h : s.Serves a x) (hw : a.wr = false) :
    s.serve a = s.readDone a x := by
  rw [State.serve_carried h.1, h.2]
  have hg : (s.goal a).wr = false ∧ (s.goal a).port = a.port := by
    unfold State.goal State.aimed; split <;> exact ⟨hw, rfl⟩
  unfold State.accEnd State.readDone
  simp only [hg.1, hg.2, Bool.false_eq_true, if_false]

/-- What a write that is served does to the state, COMMIT of a gate list apart. -/
theorem State.written_stored {s : State} {a : RegAcc} {x : Spot} (hx : x.pl.reg ≠ .OAS_GCMD) (hw : x.pl.reg ≠ .WIN_ADDR) :
    s.written a x = s.ended
      (if x.pl.reg = .VFM_DOM_CMD && F.VFM_DOM_CMD_GO.get a.data != 0 then
        ((s.stored a x).effect (s.begun a) x a.data (portCode ((s.begun a).portOf a.port)) a.ecc).domGo x.i
       else (s.stored a x).effect (s.begun a) x a.data (portCode ((s.begun a).portOf a.port)) a.ecc) a (.ok x) 0 := by
  have hd : portData ((s.begun a).portOf a.port) x.pl.reg a.data = a.data := by
    unfold portData; split
    · rename_i h; exact absurd h hw
    · rfl
  unfold State.written
  simp only [hd, State.acceptWrite, State.accept, hx, if_false]
  rfl

/-- A field given alone is set. -/
theorem getPulse_one (f : Field) (h : f.lo ≤ f.hi) (h2 : f.hi < 32) (w : Word) (v : Nat) (hv : v % 2 ^ f.width ≠ 0) :
    (f.get (putAll w [(f, v)]) != 0) = true := by
  rw [show f.get (putAll w [(f, v)]) = _ from Field.get_put_self f h h2 w v]; simpa using hv

/-- The first of two fields given is set. -/
theorem getPulse_two (f g : Field) (h : f.lo ≤ f.hi) (h2 : f.hi < 32) (hm : f.mask &&& g.mask = 0#32) (w : Word) (v a : Nat) (hv : v % 2 ^ f.width ≠ 0) :
    (f.get (putAll w [(f, v), (g, a)]) != 0) = true := by
  rw [show f.get (putAll w [(f, v), (g, a)]) = _ from Field.get_put_other f g hm _ _, Field.get_put_self f h h2]; simpa using hv

/-- The first of three fields given is set. -/
theorem getPulse_three (f g k : Field) (h : f.lo ≤ f.hi) (h2 : f.hi < 32) (hm : f.mask &&& g.mask = 0#32) (hk : f.mask &&& k.mask = 0#32) (w : Word) (v a b : Nat) (hv : v % 2 ^ f.width ≠ 0) :
    (f.get (putAll w [(f, v), (g, a), (k, b)]) != 0) = true := by
  rw [show f.get (putAll w [(f, v), (g, a), (k, b)]) = _ from Field.get_put_other f k hk _ _]; exact getPulse_two f g h h2 hm w v a hv

/-- The first of four fields given is set. -/
theorem getPulse_four (f g k m : Field) (h : f.lo ≤ f.hi) (h2 : f.hi < 32) (hm : f.mask &&& g.mask = 0#32) (hk : f.mask &&& k.mask = 0#32) (hn : f.mask &&& m.mask = 0#32) (w : Word) (v a b c : Nat) (hv : v % 2 ^ f.width ≠ 0) :
    (f.get (putAll w [(f, v), (g, a), (k, b), (m, c)]) != 0) = true := by
  rw [show f.get (putAll w [(f, v), (g, a), (k, b), (m, c)]) = _ from Field.get_put_other f m hn _ _]; exact getPulse_three f g k h h2 hm hk w v a b hv

/-! ### Memory (R45, R156) -/

/-- The depot and the state backing are in canonical form after a byte is written. -/
theorem State.setDepByte_wf (s : State) (a : Nat) (b : Byte) (h : Memory.wf s.dep.mem = true) :
    Memory.wf (s.setDepByte a b).dep.mem = true := SMap.wf_set _ _ h

/-- Memory is in canonical form after reset. -/
theorem Memory.wf_reset : Memory.wf State.reset.dep.mem = true := rfl

/-- The invariant says that memory is in canonical form. -/
theorem State.Sound_mem {floor : Nat} {queue : List Instr} {s : State} (h : s.Sound floor queue) :
    Memory.wf s.dep.mem = true := h.2.1

end Sys2Proof.Machine
end

