-- ==== Sys2Proof/Laws/Sound.lean ====
section
/-! SUPPORT. `State.Sound` of a state built from parts, and through the control structures of a definition. -/

namespace Sys2Proof.Machine

variable {floor : Nat} {queue : List Instr}

/-- A state given by its components. -/
theorem State.sound_mk (regs bnd img tim tel intk src sst dep cvn rnk wwl oas dlv way rpl vfm chl tdm pwr imgl cfg sav
    boot errs io pending) :
    State.Sound floor queue ⟨regs, bnd, img, tim, tel, intk, src, sst, dep, cvn, rnk, wwl, oas, dlv, way, rpl, vfm, chl, tdm,
      pwr, imgl, cfg, sav, boot, errs, io, pending⟩ = SoundParts floor queue regs dep.mem dep.backing tim pending := propext Iff.rfl

/-- The components of one state. -/
theorem State.sound_fold (s : State) :
    SoundParts floor queue s.regs s.dep.mem s.dep.backing s.tim s.pending = s.Sound floor queue := propext Iff.rfl

/-- The state of a pair that a function answered. -/
theorem State.sound_snd {α : Type} {p : α × State} {a : α} {s : State} (e : p = (a, s)) (h : p.2.Sound floor queue) :
    s.Sound floor queue := by
  subst e; exact h

theorem State.sound_snd2 {α β : Type} {p : α × β × State} {a : α} {b : β} {s : State} (e : p = (a, b, s))
    (h : p.2.2.Sound floor queue) : s.Sound floor queue := by
  subst e; exact h

theorem State.sound_fst {α : Type} {p : State × α} {a : α} {s : State} (e : p = (s, a)) (h : p.1.Sound floor queue) :
    s.Sound floor queue := by
  subst e; exact h

theorem State.sound_ite {c : Prop} [Decidable c] {a b : State} (ha : a.Sound floor queue) (hb : b.Sound floor queue) :
    (if c then a else b).Sound floor queue := by
  split <;> assumption

theorem State.sound_ite_snd {α : Type} {c : Prop} [Decidable c] {a b : α × State} (ha : a.2.Sound floor queue)
    (hb : b.2.Sound floor queue) : (if c then a else b).2.Sound floor queue := by
  split <;> assumption

theorem State.sound_ite_snd2 {α β : Type} {c : Prop} [Decidable c] {a b : α × β × State} (ha : a.2.2.Sound floor queue)
    (hb : b.2.2.Sound floor queue) : (if c then a else b).2.2.Sound floor queue := by
  split <;> assumption

theorem State.sound_foldl {α : Type} {f : State → α → State} (hf : ∀ t x, t.Sound floor queue → (f t x).Sound floor queue)
    (l : List α) : ∀ {s : State}, s.Sound floor queue → (l.foldl f s).Sound floor queue := by
  induction l with
  | nil => exact fun h => h
  | cons x r ih => exact fun h => ih (hf _ x h)

theorem State.sound_foldl_snd {α β : Type} {f : β × State → α → β × State}
    (hf : ∀ t x, t.2.Sound floor queue → (f t x).2.Sound floor queue)
    (l : List α) : ∀ {p : β × State}, p.2.Sound floor queue → (l.foldl f p).2.Sound floor queue := by
  induction l with
  | nil => exact fun h => h
  | cons x r ih => exact fun h => ih (hf _ x h)

theorem State.sound_foldl_snd2 {α β γ : Type} {f : β × γ × State → α → β × γ × State}
    (hf : ∀ t x, t.2.2.Sound floor queue → (f t x).2.2.Sound floor queue)
    (l : List α) : ∀ {p : β × γ × State}, p.2.2.Sound floor queue → (l.foldl f p).2.2.Sound floor queue := by
  induction l with
  | nil => exact fun h => h
  | cons x r ih => exact fun h => ih (hf _ x h)

/-- An operation that may decline. -/
theorem State.sound_getD {o : Option State} {s : State} (ho : ∀ t, o = some t → t.Sound floor queue)
    (hs : s.Sound floor queue) : (o.getD s).Sound floor queue := by
  cases o with
  | none => exact hs
  | some t => exact ho t rfl

/-- The state of an operation that maps the answer of another. -/
theorem State.sound_map {α : Type} {o : Option α} {f : α → State} {t : State} (h : o.map f = some t)
    (hf : ∀ a, o = some a → (f a).Sound floor queue) : t.Sound floor queue := by
  cases o with
  | none => cases h
  | some a => cases h; exact hf a rfl

/-- The same with an answer beside the state. -/
theorem State.sound_map_pair {α β : Type} {o : Option α} {f : α → β × State} {b : β} {t : State} (h : o.map f = some (b, t))
    (hf : ∀ a, o = some a → (f a).2.Sound floor queue) : t.Sound floor queue := by
  cases o with
  | none => cases h
  | some a =>
    have h : f a = (b, t) := Option.some.inj h
    have := hf a rfl
    rw [h] at this; exact this

/-- A register word written. -/
theorem State.setReg_sound {s : State} (h : s.Sound floor queue) (r : Reg) (i : Nat) (w : Word) :
    (s.setReg r i w).Sound floor queue :=
  ⟨SMap.rising_set _ _ _ h.1, h.2⟩

/-- A byte of the depot written. -/
theorem State.setDepByte_sound {s : State} (h : s.Sound floor queue) (a : Nat) (b : Byte) :
    (s.setDepByte a b).Sound floor queue :=
  ⟨h.1, SMap.wf_set _ _ h.2.1, h.2.2⟩

end Sys2Proof.Machine
end

