-- ==== Sys2Proof/Laws/SoundRows.lean ====
section
/-! SUPPORT. Registers, depot, ring, journal, containment, ranks, stores, caravan and delivery keep `State.Sound`. -/

set_option linter.all false
set_option linter.unreachableTactic false
set_option linter.unusedTactic false

namespace Sys2Proof.Machine

variable {floor : Nat} {queue : List Instr}

theorem State.setFld_sound {s : State} (f : Field) (i : Nat) (v : Nat) (hs : s.Sound floor queue) :
    (State.setFld s f i v).Sound floor queue := by
  unfold State.setFld
  (try dsimp -iota only)
  repeat' (first
    | with_reducible assumption
    | with_unfolding_none apply State.setReg_sound)

theorem State.raise_sound {s : State} (f : Field) (i : Nat) (hs : s.Sound floor queue) :
    (State.raise s f i).Sound floor queue := by
  unfold State.raise
  (try dsimp -iota only)
  repeat' (first
    | with_reducible assumption
    | with_unfolding_none apply State.setFld_sound)

theorem State.lower_sound {s : State} (f : Field) (i : Nat) (hs : s.Sound floor queue) :
    (State.lower s f i).Sound floor queue := by
  unfold State.lower
  (try dsimp -iota only)
  repeat' (first
    | with_reducible assumption
    | with_unfolding_none apply State.setFld_sound)

theorem State.bump_sound {s : State} (f : Field) (i : Nat) (n : Nat) (hs : s.Sound floor queue) :
    (State.bump s f i n).Sound floor queue := by
  unfold State.bump
  (try dsimp -iota only)
  repeat' (first
    | with_reducible assumption
    | with_unfolding_none apply State.setFld_sound)

theorem State.setBnd_sound {s : State} (r : Reg) (i : Nat) (w : Word) (hs : s.Sound floor queue) :
    (State.setBnd s r i w).Sound floor queue := by
  unfold State.setBnd
  (try dsimp -iota only)
  repeat' (first
    | with_reducible assumption
    | simp -iota only [State.sound_mk, State.sound_fold])

theorem State.dropBnd_sound {s : State} (r : Reg) (i : Nat) (hs : s.Sound floor queue) :
    (State.dropBnd s r i).Sound floor queue := by
  unfold State.dropBnd
  (try dsimp -iota only)
  repeat' (first
    | with_reducible assumption
    | simp -iota only [State.sound_mk, State.sound_fold])

theorem State.applyBnd_sound {s : State} (r : Reg) (i : Nat) (hs : s.Sound floor queue) :
    (State.applyBnd s r i).Sound floor queue := by
  unfold State.applyBnd
  (try dsimp -iota only)
  repeat' (first
    | with_reducible assumption
    | with_unfolding_none apply State.setReg_sound
    | with_unfolding_none apply State.dropBnd_sound
    | with_unfolding_none apply State.sound_ite)

theorem State.applyBndAll_sound {s : State} (r : Reg) (hs : s.Sound floor queue) :
    (State.applyBndAll s r).Sound floor queue := by
  unfold State.applyBndAll
  (try dsimp -iota only)
  repeat' (first
    | with_reducible assumption
    | with_unfolding_none apply State.applyBnd_sound
    | with_unfolding_none apply State.sound_foldl
    | (intro _ _ _; (try dsimp -iota only)))

theorem State.setReg64_sound {s : State} (lo : Reg) (hi : Reg) (i : Nat) (v : Nat) (hs : s.Sound floor queue) :
    (State.setReg64 s lo hi i v).Sound floor queue := by
  unfold State.setReg64
  (try dsimp -iota only)
  repeat' (first
    | with_reducible assumption
    | with_unfolding_none apply State.setReg_sound)

theorem State.resetReg_sound {s : State} (r : Reg) (i : Nat) (letter : Nat) (hs : s.Sound floor queue) :
    (State.resetReg s r i letter).Sound floor queue := by
  unfold State.resetReg
  (try dsimp -iota only)
  repeat' (first
    | with_reducible assumption
    | with_unfolding_none apply State.setFld_sound
    | with_unfolding_none apply State.dropBnd_sound
    | with_unfolding_none apply State.sound_ite
    | with_unfolding_none apply State.sound_foldl
    | simp -iota only [State.sound_mk, State.sound_fold]
    | (intro _ _ _; (try dsimp -iota only))
    | (split <;> (try dsimp -iota only)))

theorem State.onPathClock_sound {s : State} {f : State → State} (hs : s.Sound floor queue) (hf : ∀ t : State, t.Sound floor queue → (f t).Sound floor queue) :
    (State.onPathClock s f).Sound floor queue := by
  unfold State.onPathClock
  (try dsimp -iota only)
  repeat' (first
    | with_reducible assumption
    | with_unfolding_none apply hf
    | with_unfolding_none apply State.sound_ite)

theorem State.onCoreClock_sound {s : State} {f : State → State} (hs : s.Sound floor queue) (hf : ∀ t : State, t.Sound floor queue → (f t).Sound floor queue) :
    (State.onCoreClock s f).Sound floor queue := by
  unfold State.onCoreClock
  (try dsimp -iota only)
  repeat' (first
    | with_reducible assumption
    | with_unfolding_none apply hf
    | with_unfolding_none apply State.sound_ite)

theorem State.wakeReq_sound {s : State} (code : Nat) (detail : Nat) (hs : s.Sound floor queue) :
    (State.wakeReq s code detail).Sound floor queue := by
  unfold State.wakeReq
  (try dsimp -iota only)
  repeat' (first
    | with_reducible assumption
    | with_unfolding_none apply State.sound_ite
    | simp -iota only [State.sound_mk, State.sound_fold])

theorem State.count_sound {s : State} (idx : Nat) (n : Nat) (hs : s.Sound floor queue) :
    (State.count s idx n).Sound floor queue := by
  unfold State.count
  (try dsimp -iota only)
  repeat' (first
    | with_reducible assumption
    | with_unfolding_none apply State.sound_ite
    | simp -iota only [State.sound_mk, State.sound_fold])

theorem State.countG_sound {s : State} (c : Nat) (n : Nat) (hs : s.Sound floor queue) :
    (State.countG s c n).Sound floor queue := by
  unfold State.countG
  (try dsimp -iota only)
  repeat' (first
    | with_reducible assumption
    | with_unfolding_none apply State.count_sound)

theorem State.countD_sound {s : State} (d : Nat) (c : Nat) (n : Nat) (hs : s.Sound floor queue) :
    (State.countD s d c n).Sound floor queue := by
  unfold State.countD
  (try dsimp -iota only)
  repeat' (first
    | with_reducible assumption
    | with_unfolding_none apply State.count_sound)

theorem State.countGrp_sound {s : State} (g : Nat) (c : Nat) (n : Nat) (hs : s.Sound floor queue) :
    (State.countGrp s g c n).Sound floor queue := by
  unfold State.countGrp
  (try dsimp -iota only)
  repeat' (first
    | with_reducible assumption
    | with_unfolding_none apply State.count_sound)

theorem State.probe_sound {s : State} (p : Nat) (v : Nat) (dom : (Option Nat)) (grp : (Option Nat)) (hp : (Option Nat)) (hs : s.Sound floor queue) :
    (State.probe s p v dom grp hp).Sound floor queue := by
  unfold State.probe
  (try dsimp -iota only)
  repeat' (first
    | with_reducible assumption
    | with_unfolding_none apply State.count_sound
    | with_unfolding_none apply State.setFld_sound
    | with_unfolding_none apply State.sound_ite
    | simp -iota only [State.sound_mk, State.sound_fold])

theorem State.traffic_sound {s : State} (i : Nat) (out : Bool) (n : Nat) (hs : s.Sound floor queue) :
    (State.traffic s i out n).Sound floor queue := by
  unfold State.traffic
  (try dsimp -iota only)
  repeat' (first
    | with_reducible assumption
    | with_unfolding_none apply State.sound_ite
    | simp -iota only [State.sound_mk, State.sound_fold])

theorem State.noteStart_sound {s : State} (eid : Nat) (t : Nat) (hs : s.Sound floor queue) :
    (State.noteStart s eid t).Sound floor queue := by
  unfold State.noteStart
  (try dsimp -iota only)
  repeat' (first
    | with_reducible assumption
    | simp -iota only [State.sound_mk, State.sound_fold])

theorem State.onSamples_sound {s : State} (p : Sample → Bool) (f : Sample → Sample) (hs : s.Sound floor queue) :
    (State.onSamples s p f).Sound floor queue := by
  unfold State.onSamples
  (try dsimp -iota only)
  repeat' (first
    | with_reducible assumption
    | simp -iota only [State.sound_mk, State.sound_fold])

theorem State.onSample_sound {s : State} (eid : Nat) (f : Sample → Sample) (hs : s.Sound floor queue) :
    (State.onSample s eid f).Sound floor queue := by
  unfold State.onSample
  (try dsimp -iota only)
  repeat' (first
    | with_reducible assumption
    | with_unfolding_none apply State.onSamples_sound)

theorem State.logFirst_sound {s : State} (valid : Field) (cnt : Field) (i : Nat) (fill : List (Field × Nat)) (hs : s.Sound floor queue) :
    (State.logFirst s valid cnt i fill).Sound floor queue := by
  unfold State.logFirst
  (try dsimp -iota only)
  repeat' (first
    | with_reducible assumption
    | with_unfolding_none apply State.bump_sound
    | with_unfolding_none apply State.setFld_sound
    | with_unfolding_none apply State.raise_sound
    | with_unfolding_none apply State.sound_ite
    | with_unfolding_none apply State.sound_foldl
    | (intro _ _ _; (try dsimp -iota only)))

theorem State.logOne_sound {s : State} (valid : Field) (i : Nat) (fill : List (Field × Nat)) (hs : s.Sound floor queue) :
    (State.logOne s valid i fill).Sound floor queue := by
  unfold State.logOne
  (try dsimp -iota only)
  repeat' (first
    | with_reducible assumption
    | with_unfolding_none apply State.setFld_sound
    | with_unfolding_none apply State.raise_sound
    | with_unfolding_none apply State.sound_ite
    | with_unfolding_none apply State.sound_foldl
    | (intro _ _ _; (try dsimp -iota only)))

theorem State.issueWrite_sound {s : State} (w : EgrWrite) (hs : s.Sound floor queue) :
    (State.issueWrite s w).Sound floor queue := by
  unfold State.issueWrite
  (try dsimp -iota only)
  repeat' (first
    | with_reducible assumption
    | simp -iota only [State.sound_mk, State.sound_fold])

theorem State.sendWrite_sound {s : State} (w : EgrWrite) (hs : s.Sound floor queue) :
    (State.sendWrite s w).Sound floor queue := by
  unfold State.sendWrite
  (try dsimp -iota only)
  repeat' (first
    | with_reducible assumption
    | with_unfolding_none apply State.countG_sound
    | with_unfolding_none apply State.issueWrite_sound
    | with_unfolding_none apply State.sound_ite
    | simp -iota only [State.sound_mk, State.sound_fold])

theorem State.pumpWrites_sound (x0 : Nat) {x1 : State} (hx1 : x1.Sound floor queue) :
    (State.pumpWrites x0 x1).Sound floor queue := by
  induction x0 generalizing x1 with
  | zero =>
    unfold State.pumpWrites
    (try dsimp -iota only)
    repeat' (with_reducible assumption)
  | succ m ih =>
    unfold State.pumpWrites
    (try dsimp -iota only)
    repeat' (first
      | with_reducible assumption
      | with_unfolding_none apply ih
      | with_unfolding_none apply State.issueWrite_sound
      | with_unfolding_none apply State.sound_ite
      | simp -iota only [State.sound_mk, State.sound_fold]
      | (split <;> (try dsimp -iota only)))

theorem State.irqSend_sound {s : State} (d : Nat) (hs : s.Sound floor queue) :
    (State.irqSend s d).Sound floor queue := by
  unfold State.irqSend
  (try dsimp -iota only)
  repeat' (first
    | with_reducible assumption
    | with_unfolding_none apply State.sendWrite_sound
    | simp -iota only [State.sound_mk, State.sound_fold])

theorem State.vfStatus_sound {s : State} (d : Nat) (b : Nat) (hs : s.Sound floor queue) :
    (State.vfStatus s d b).Sound floor queue := by
  unfold State.vfStatus
  (try dsimp -iota only)
  repeat' (first
    | with_reducible assumption
    | with_unfolding_none apply State.setReg_sound
    | with_unfolding_none apply State.irqSend_sound
    | with_unfolding_none apply State.sound_ite)

theorem State.irqRearm_sound {s : State} (d : Nat) (hs : s.Sound floor queue) :
    (State.irqRearm s d).Sound floor queue := by
  unfold State.irqRearm
  (try dsimp -iota only)
  repeat' (first
    | with_reducible assumption
    | with_unfolding_none apply State.irqSend_sound
    | with_unfolding_none apply State.sound_ite
    | simp -iota only [State.sound_mk, State.sound_fold])

theorem State.breach_sound {s : State} (d : Nat) (n : Nat) (hs : s.Sound floor queue) :
    (State.breach s d n).Sound floor queue := by
  unfold State.breach
  (try dsimp -iota only)
  repeat' (first
    | with_reducible assumption
    | with_unfolding_none apply State.setFld_sound
    | with_unfolding_none apply State.vfStatus_sound
    | with_unfolding_none apply State.sound_ite
    | simp -iota only [State.sound_mk, State.sound_fold])

theorem State.breachAll_sound {s : State} (n : Nat) (hs : s.Sound floor queue) :
    (State.breachAll s n).Sound floor queue := by
  unfold State.breachAll
  (try dsimp -iota only)
  repeat' (first
    | with_reducible assumption
    | with_unfolding_none apply State.breach_sound
    | with_unfolding_none apply State.sound_foldl
    | (intro _ _ _; (try dsimp -iota only)))

theorem State.cfgStale_sound {s : State} (hs : s.Sound floor queue) :
    (State.cfgStale s).Sound floor queue := by
  unfold State.cfgStale
  (try dsimp -iota only)
  repeat' (first
    | with_reducible assumption
    | with_unfolding_none apply State.lower_sound
    | simp -iota only [State.sound_mk, State.sound_fold])

theorem State.cfgChanged_sound {s : State} (dom : Option Nat) (hs : s.Sound floor queue) :
    (State.cfgChanged s dom).Sound floor queue := by
  unfold State.cfgChanged
  (try dsimp -iota only)
  repeat' (first
    | with_reducible assumption
    | with_unfolding_none apply State.cfgStale_sound
    | with_unfolding_none apply State.breach_sound
    | with_unfolding_none apply State.breachAll_sound
    | (split <;> (try dsimp -iota only)))

theorem State.setDepBytes_sound {s : State} (a : Nat) (x2 : List Byte) (hs : s.Sound floor queue) :
    (State.setDepBytes s a x2).Sound floor queue := by
  induction x2 generalizing s a with
  | nil =>
    unfold State.setDepBytes
    (try dsimp -iota only)
    repeat' (with_reducible assumption)
  | cons y l ih =>
    unfold State.setDepBytes
    (try dsimp -iota only)
    repeat' (first
      | with_reducible assumption
      | with_unfolding_none apply ih
      | with_unfolding_none apply State.setDepByte_sound)

theorem SMap.wf_foldl {α : Type} [DecidableEq α] {d : α} (f : Nat → Nat) (g : Nat → α) (l : List Nat) :
    ∀ {m : SMap α}, SMap.wf d m = true → SMap.wf d (l.foldl (fun m k => SMap.set d m (f k) (g k)) m) = true := by
  induction l with
  | nil => exact fun h => h
  | cons x r ih => exact fun h => ih (SMap.wf_set _ _ h)

theorem State.setBackingLine_sound {s : State} (line : Nat) (es : List Entry) (hs : s.Sound floor queue) :
    (State.setBackingLine s line es).Sound floor queue :=
  ⟨hs.1, hs.2.1, SMap.wf_foldl _ _ _ hs.2.2.1, hs.2.2.2⟩

theorem State.depReq_sound {s : State} (u : TagUse) (write : Bool) (line : Nat) (data : BitVec 512) (hs : s.Sound floor queue) {rv : Nat} {rt : State} (ht : (State.depReq s u write line data) = some (rv, rt)) :
    rt.Sound floor queue := by
  unfold State.depReq at ht
  (try dsimp -iota only at ht)
  (repeat' split at ht) <;> (try cases ht)
  all_goals repeat' (first
    | with_reducible assumption
    | with_unfolding_none apply State.traffic_sound
    | simp -iota only [State.sound_mk, State.sound_fold])

theorem State.depRead_sound {s : State} (u : TagUse) (line : Nat) (hs : s.Sound floor queue) {rv : Nat} {rt : State} (ht : (State.depRead s u line) = some (rv, rt)) :
    rt.Sound floor queue := by
  unfold State.depRead at ht
  (try dsimp -iota only at ht)
  (repeat' split at ht) <;> (try cases ht)
  all_goals repeat' (first
    | with_reducible assumption
    | apply State.depReq_sound (ht := by assumption))

theorem State.depWrite_sound {s : State} (u : TagUse) (line : Nat) (bytes : List Byte) (hs : s.Sound floor queue) {rv : Nat}
    {rt : State} (ht : State.depWrite s u line bytes = some (rv, rt)) : rt.Sound floor queue := by
  unfold State.depWrite at ht
  exact State.sound_map_pair ht (fun r h => State.setDepBytes_sound _ _ (State.depReq_sound _ _ _ _ hs h))

theorem State.freeDepTag_sound {s : State} (t : Nat) (hs : s.Sound floor queue) :
    (State.freeDepTag s t).Sound floor queue := by
  unfold State.freeDepTag
  (try dsimp -iota only)
  repeat' (first
    | with_reducible assumption
    | simp -iota only [State.sound_mk, State.sound_fold])

theorem State.depPort_sound {s : State} (hs : s.Sound floor queue) :
    (State.depPort s).Sound floor queue := by
  unfold State.depPort
  (try dsimp -iota only)
  repeat' (first
    | with_reducible assumption
    | with_unfolding_none apply State.sound_ite
    | simp -iota only [State.sound_mk, State.sound_fold]
    | (split <;> (try dsimp -iota only)))

theorem State.startJob_sound {s : State} (k : JobKind) (write : Bool) (base : Nat) (count : Nat) (hs : s.Sound floor queue) :
    (State.startJob s k write base count).Sound floor queue := by
  unfold State.startJob
  (try dsimp -iota only)
  repeat' (first
    | with_reducible assumption
    | simp -iota only [State.sound_mk, State.sound_fold])

theorem State.dropJobs_sound {s : State} (p : JobKind → Bool) (hs : s.Sound floor queue) :
    (State.dropJobs s p).Sound floor queue := by
  unfold State.dropJobs
  (try dsimp -iota only)
  repeat' (first
    | with_reducible assumption
    | simp -iota only [State.sound_mk, State.sound_fold])

theorem State.setSide_sound {s : State} (p : ChlPort) (x : ChlSide) (hs : s.Sound floor queue) :
    (State.setSide s p x).Sound floor queue := by
  unfold State.setSide
  (try dsimp -iota only)
  repeat' (first
    | with_reducible assumption
    | simp -iota only [State.sound_mk, State.sound_fold]
    | (split <;> (try dsimp -iota only)))

theorem State.originate_sound {s : State} (p : ChlPort) (r : Rec) (hs : s.Sound floor queue) :
    (State.originate s p r).Sound floor queue := by
  unfold State.originate
  (try dsimp -iota only)
  repeat' (first
    | with_reducible assumption
    | with_unfolding_none apply State.setSide_sound
    | with_unfolding_none apply State.sound_ite)

theorem State.sendCtrl_sound {s : State} (p : ChlPort) (sub : Nat) (body : Nat) (hs : s.Sound floor queue) :
    (State.sendCtrl s p sub body).Sound floor queue := by
  unfold State.sendCtrl
  (try dsimp -iota only)
  repeat' (first
    | with_reducible assumption
    | with_unfolding_none apply State.setSide_sound
    | with_unfolding_none apply State.sound_ite)

theorem State.ringStop_sound {s : State} (hs : s.Sound floor queue) :
    (State.ringStop s).Sound floor queue := by
  unfold State.ringStop
  (try dsimp -iota only)
  repeat' (first
    | with_reducible assumption
    | with_unfolding_none apply State.setFld_sound
    | simp -iota only [State.sound_mk, State.sound_fold])

theorem State.mirror_sound {s : State} (sub : Nat) (body : Nat) (hs : s.Sound floor queue) :
    (State.mirror s sub body).Sound floor queue := by
  unfold State.mirror
  (try dsimp -iota only)
  repeat' (first
    | with_reducible assumption
    | with_unfolding_none apply State.originate_sound
    | with_unfolding_none apply State.sound_ite
    | simp -iota only [State.sound_mk, State.sound_fold])

theorem State.toPartner_sound {s : State} (sub : Nat) (body : Nat) (hs : s.Sound floor queue) :
    (State.toPartner s sub body).Sound floor queue := by
  unfold State.toPartner
  (try dsimp -iota only)
  repeat' (first
    | with_reducible assumption
    | with_unfolding_none apply State.originate_sound)

theorem State.mirrorEntry_sound {s : State} (eid : Nat) (e : Entry) (hs : s.Sound floor queue) :
    (State.mirrorEntry s eid e).Sound floor queue := by
  unfold State.mirrorEntry
  (try dsimp -iota only)
  repeat' (first
    | with_reducible assumption
    | with_unfolding_none apply State.mirror_sound
    | with_unfolding_none apply State.sound_ite)

theorem State.mirrorDeliv_sound {s : State} (eid : Nat) (tgt : Nat) (hport : Nat) (alloc : Bool) (pi : Nat) (fault : Bool) (hs : s.Sound floor queue) :
    (State.mirrorDeliv s eid tgt hport alloc pi fault).Sound floor queue := by
  unfold State.mirrorDeliv
  (try dsimp -iota only)
  repeat' (first
    | with_reducible assumption
    | with_unfolding_none apply State.mirror_sound)

theorem State.mirrorCfg_sound {s : State} (off : Nat) (data : Word) (k : Nat) (hs : s.Sound floor queue) :
    (State.mirrorCfg s off data k).Sound floor queue := by
  unfold State.mirrorCfg
  (try dsimp -iota only)
  repeat' (first
    | with_reducible assumption
    | with_unfolding_none apply State.mirror_sound)

theorem State.caravanLost_sound {s : State} (hs : s.Sound floor queue) :
    (State.caravanLost s).Sound floor queue := by
  unfold State.caravanLost
  (try dsimp -iota only)
  repeat' (first
    | with_reducible assumption
    | with_unfolding_none apply State.breachAll_sound)

theorem State.setJrnl_sound {s : State} (d : Nat) (j : Jrnl) (hs : s.Sound floor queue) :
    (State.setJrnl s d j).Sound floor queue := by
  unfold State.setJrnl
  (try dsimp -iota only)
  repeat' (first
    | with_reducible assumption
    | simp -iota only [State.sound_mk, State.sound_fold])

theorem State.wayStatus_sound {s : State} (f : Field) (d : Nat) (hs : s.Sound floor queue) :
    (State.wayStatus s f d).Sound floor queue := by
  unfold State.wayStatus
  (try dsimp -iota only)
  repeat' (first
    | with_reducible assumption
    | with_unfolding_none apply State.raise_sound
    | with_unfolding_none apply State.vfStatus_sound)

theorem State.jMarks_sound {s : State} (hs : s.Sound floor queue) :
    (State.jMarks s).Sound floor queue := by
  unfold State.jMarks
  (try dsimp -iota only)
  repeat' (first
    | with_reducible assumption
    | simp -iota only [State.sound_mk, State.sound_fold])

theorem State.jPut_sound {s : State} (d : Nat) (r : Rec) (hs : s.Sound floor queue) :
    (State.jPut s d r).Sound floor queue := by
  unfold State.jPut
  (try dsimp -iota only)
  repeat' (first
    | with_reducible assumption
    | with_unfolding_none apply State.wayStatus_sound
    | with_unfolding_none apply State.setJrnl_sound
    | with_unfolding_none apply State.jMarks_sound
    | with_unfolding_none apply State.sound_ite
    | simp -iota only [State.sound_mk, State.sound_fold])

theorem State.jPutFull_sound {s : State} (d : Nat) (r : Rec) (hs : s.Sound floor queue) :
    (State.jPutFull s d r).Sound floor queue := by
  unfold State.jPutFull
  (try dsimp -iota only)
  repeat' (first
    | with_reducible assumption
    | with_unfolding_none apply State.jPut_sound
    | with_unfolding_none apply State.setJrnl_sound)

theorem State.jSegment_sound {s : State} (d : Nat) (hs : s.Sound floor queue) :
    (State.jSegment s d).2.Sound floor queue := by
  unfold State.jSegment
  (try dsimp -iota only)
  repeat' (first
    | with_reducible assumption
    | with_unfolding_none apply State.applyBnd_sound
    | with_unfolding_none apply State.setJrnl_sound
    | with_unfolding_none apply State.jPutFull_sound
    | with_unfolding_none apply State.sound_ite_snd
    | simp -iota only [State.sound_mk, State.sound_fold])

theorem State.jEmit_sound {s : State} (d : Nat) (r : Rec) (full : Bool) (hs : s.Sound floor queue) :
    (State.jEmit s d r full).2.Sound floor queue := by
  unfold State.jEmit
  (try dsimp -iota only)
  repeat' (first
    | with_reducible assumption
    | with_unfolding_none apply State.jSegment_sound
    | with_unfolding_none apply State.jPutFull_sound
    | with_unfolding_none apply State.jPut_sound
    | with_unfolding_none apply State.sound_ite
    | with_unfolding_none apply State.sound_ite_snd
    | simp -iota only [State.sound_mk, State.sound_fold])

theorem State.jGap_sound {s : State} (d : Nat) (hs : s.Sound floor queue) :
    (State.jGap s d).2.Sound floor queue := by
  unfold State.jGap
  (try dsimp -iota only)
  repeat' (first
    | with_reducible assumption
    | with_unfolding_none apply State.jEmit_sound
    | with_unfolding_none apply State.lower_sound
    | with_unfolding_none apply State.wayStatus_sound
    | with_unfolding_none apply State.sound_ite_snd
    | simp -iota only [State.sound_mk, State.sound_fold])

theorem State.jOffer_sound {s : State} (d : Nat) (r : Rec) (hs : s.Sound floor queue) :
    (State.jOffer s d r).2.Sound floor queue := by
  unfold State.jOffer
  refine State.sound_ite_snd hs ?_
  split
  rename_i h1
  have s1 := State.sound_snd h1 (State.jGap_sound d hs)
  refine State.sound_ite_snd s1 ?_
  split
  rename_i h2
  have s2 := State.sound_snd h2 (State.jSegment_sound d s1)
  refine State.sound_ite_snd s2 ?_
  split
  rename_i h3
  have s3 := State.sound_snd h3 (State.sound_ite_snd (State.jEmit_sound _ _ _ s2) s2)
  refine State.sound_ite_snd s3 ?_
  split
  rename_i h4
  have s4 := State.sound_snd h4 (State.jSegment_sound d s3)
  exact State.sound_ite_snd s4 (State.jPut_sound _ _ s4)

theorem State.jLose_sound {s : State} (d : Nat) (hs : s.Sound floor queue) :
    (State.jLose s d).Sound floor queue := by
  unfold State.jLose
  (try dsimp -iota only)
  repeat' (first
    | with_reducible assumption
    | with_unfolding_none apply State.countG_sound
    | with_unfolding_none apply State.setJrnl_sound
    | with_unfolding_none apply State.bump_sound
    | with_unfolding_none apply State.sound_ite)

theorem State.jWait_sound {s : State} (d : Nat) (r : Rec) (hs : s.Sound floor queue) :
    (State.jWait s d r).Sound floor queue := by
  unfold State.jWait
  (try dsimp -iota only)
  repeat' (first
    | with_reducible assumption
    | with_unfolding_none apply State.setJrnl_sound)

theorem State.jSpecial_sound {s : State} (d : Nat) (r : Rec) (hs : s.Sound floor queue) :
    (State.jSpecial s d r).Sound floor queue := by
  unfold State.jSpecial
  (try dsimp -iota only)
  repeat' (first
    | with_reducible assumption
    | with_unfolding_none apply State.jWait_sound
    | with_unfolding_none apply State.jGap_sound
    | with_unfolding_none apply State.jEmit_sound
    | with_unfolding_none apply State.sound_ite)

theorem State.jCut_sound {s : State} (d : Nat) (hs : s.Sound floor queue) :
    (State.jCut s d).2.Sound floor queue := by
  unfold State.jCut
  (try dsimp -iota only)
  repeat' (first
    | with_reducible assumption
    | with_unfolding_none apply State.jPutFull_sound
    | with_unfolding_none apply State.setJrnl_sound
    | with_unfolding_none apply State.applyBnd_sound
    | with_unfolding_none apply State.sound_ite_snd
    | simp -iota only [State.sound_mk, State.sound_fold])

theorem State.newseg_sound {s : State} (d : Nat) (hs : s.Sound floor queue) :
    (State.newseg s d).Sound floor queue := by
  unfold State.newseg
  (try dsimp -iota only)
  repeat' (first
    | with_reducible assumption
    | with_unfolding_none apply State.jWait_sound
    | with_unfolding_none apply State.jGap_sound
    | with_unfolding_none apply State.jCut_sound
    | with_unfolding_none apply State.sound_ite)

theorem State.jWaited_sound {s : State} (d : Nat) (r : Rec) (hs : s.Sound floor queue) :
    (State.jWaited s d r).2.Sound floor queue := by
  unfold State.jWaited
  (try dsimp -iota only)
  repeat' (first
    | with_reducible assumption
    | with_unfolding_none apply State.jGap_sound
    | with_unfolding_none apply State.jCut_sound
    | with_unfolding_none apply State.jEmit_sound
    | with_unfolding_none apply State.sound_ite_snd
    | simp -iota only [State.sound_mk, State.sound_fold])

theorem State.jWaitOver_sound {s : State} (d : Nat) (rest : List Rec) (hs : s.Sound floor queue) :
    (State.jWaitOver s d rest).Sound floor queue := by
  unfold State.jWaitOver
  (try dsimp -iota only)
  repeat' (first
    | with_reducible assumption
    | with_unfolding_none apply State.setJrnl_sound)

theorem State.jDrain_sound (x0 : Nat) {x1 : State} (x2 : Nat) (hx1 : x1.Sound floor queue) :
    (State.jDrain x0 x1 x2).Sound floor queue := by
  induction x0 generalizing x1 x2 with
  | zero =>
    unfold State.jDrain
    (try dsimp -iota only)
    repeat' (with_reducible assumption)
  | succ m ih =>
    unfold State.jDrain
    (try dsimp -iota only)
    repeat' (first
      | with_reducible assumption
      | with_unfolding_none apply ih
      | with_unfolding_none apply State.jWaited_sound
      | with_unfolding_none apply State.jWaitOver_sound
      | with_unfolding_none apply State.sound_ite
      | (split <;> (try dsimp -iota only)))

theorem State.jFence_sound {s : State} (d : Nat) (cause : Nat) (hs : s.Sound floor queue) :
    (State.jFence s d cause).Sound floor queue := by
  unfold State.jFence
  (try dsimp -iota only)
  repeat' (first
    | with_reducible assumption
    | with_unfolding_none apply State.jSpecial_sound
    | with_unfolding_none apply State.wayStatus_sound
    | with_unfolding_none apply State.sound_ite)

theorem State.jStart_sound {s : State} (d : Nat) (hs : s.Sound floor queue) :
    (State.jStart s d).Sound floor queue := by
  unfold State.jStart
  (try dsimp -iota only)
  repeat' (first
    | with_reducible assumption
    | with_unfolding_none apply State.setJrnl_sound
    | with_unfolding_none apply State.setReg64_sound)

theorem State.jWriteLine_sound {s : State} (d : Nat) (recs : List JRec) (hs : s.Sound floor queue) {rt : State}
    (ht : State.jWriteLine s d recs = some rt) : rt.Sound floor queue := by
  unfold State.jWriteLine at ht
  split at ht
  · cases ht; exact hs
  · dsimp only at ht
    split at ht
    · cases ht; exact hs
    · exact State.sound_map ht (fun r h => State.setJrnl_sound _ _ (State.countG_sound _ _ (State.depWrite_sound _ _ _ hs h)))

theorem State.setPart_sound {s : State} (d : Nat) (part : List JRec) (done : Nat) (hs : s.Sound floor queue) :
    (State.setPart s d part done).Sound floor queue := by
  unfold State.setPart
  (try dsimp -iota only)
  repeat' (first
    | with_reducible assumption
    | with_unfolding_none apply State.setJrnl_sound)

theorem State.jLeave_sound {s : State} (hs : s.Sound floor queue) {rv : Bool} {rt : State}
    (ht : State.jLeave s = some (rv, rt)) : rt.Sound floor queue := by
  unfold State.jLeave at ht
  split at ht
  · cases ht
  dsimp only at ht
  (repeat' split at ht) <;> (try cases ht)
  · refine State.sound_map_pair ht (fun t h => ?_)
    exact State.setPart_sound _ _ _ (State.jWriteLine_sound _ _ hs h)
  · refine State.sound_map_pair ht (fun t h => ?_)
    apply State.jMarks_sound
    simp only [State.sound_mk, State.sound_fold]
    exact State.setPart_sound _ _ _ (State.jWriteLine_sound _ _ hs h)
  · apply State.jMarks_sound
    simp only [State.sound_mk, State.sound_fold]
    exact State.setPart_sound _ _ _ hs

theorem State.jLineWrite_sound (x0 : Nat) {x1 : State} (hx1 : x1.Sound floor queue) :
    (State.jLineWrite x0 x1).Sound floor queue := by
  induction x0 generalizing x1 with
  | zero =>
    unfold State.jLineWrite
    (try dsimp -iota only)
    repeat' (with_reducible assumption)
  | succ m ih =>
    unfold State.jLineWrite
    (try dsimp -iota only)
    repeat' (first
      | with_reducible assumption
      | with_unfolding_none apply ih
      | apply State.jLeave_sound (ht := by assumption)
      | (split <;> (try dsimp -iota only)))

theorem State.jLeaveAll_sound (x0 : Nat) {x1 : State} (x2 : Nat) (x3 : Nat) (hx1 : x1.Sound floor queue) :
    (State.jLeaveAll x0 x1 x2 x3).Sound floor queue := by
  induction x0 generalizing x1 x2 x3 with
  | zero =>
    unfold State.jLeaveAll
    (try dsimp -iota only)
    repeat' (with_reducible assumption)
  | succ m ih =>
    unfold State.jLeaveAll
    (try dsimp -iota only)
    repeat' (first
      | with_reducible assumption
      | with_unfolding_none apply ih
      | with_unfolding_none apply State.sound_ite
      | apply State.jLeave_sound (ht := by assumption)
      | (split <;> (try dsimp -iota only)))

theorem State.jReset_sound {s : State} (d : Nat) (hs : s.Sound floor queue) :
    (State.jReset s d).Sound floor queue := by
  unfold State.jReset
  (try dsimp -iota only)
  repeat' (first
    | with_reducible assumption
    | with_unfolding_none apply State.setJrnl_sound
    | with_unfolding_none apply State.resetReg_sound
    | with_unfolding_none apply State.cfgStale_sound
    | with_unfolding_none apply State.jStart_sound
    | with_unfolding_none apply State.sound_ite
    | with_unfolding_none apply State.sound_foldl
    | (intro _ _ _; (try dsimp -iota only)))

theorem State.jPush_sound {s : State} (d : Nat) (p : Nat) (hs : s.Sound floor queue) :
    (State.jPush s d p).2.Sound floor queue := by
  unfold State.jPush
  (try dsimp -iota only)
  repeat' (first
    | with_reducible assumption
    | with_unfolding_none apply State.jLeaveAll_sound
    | with_unfolding_none apply State.sound_ite_snd
    | simp -iota only [State.sound_mk, State.sound_fold]
    | apply State.jWriteLine_sound (ht := by assumption)
    | (split <;> (try dsimp -iota only)))

theorem State.jFlushEnd_sound {s : State} (d : Nat) (hs : s.Sound floor queue) :
    (State.jFlushEnd s d).Sound floor queue := by
  unfold State.jFlushEnd
  (try dsimp -iota only)
  repeat' (first
    | with_reducible assumption
    | with_unfolding_none apply State.setJrnl_sound
    | with_unfolding_none apply State.raise_sound
    | with_unfolding_none apply State.jReset_sound
    | (split <;> (try dsimp -iota only)))

theorem State.jFlushRun_sound {s : State} (d : Nat) (hs : s.Sound floor queue) :
    (State.jFlushRun s d).Sound floor queue := by
  unfold State.jFlushRun
  (try dsimp -iota only)
  repeat' (first
    | with_reducible assumption
    | with_unfolding_none apply State.jPush_sound
    | with_unfolding_none apply State.setJrnl_sound
    | with_unfolding_none apply State.jFlushEnd_sound
    | with_unfolding_none apply State.sound_ite
    | (split <;> (try dsimp -iota only)))

theorem State.jAck_sound {s : State} (d : Nat) (t : Nat) (hs : s.Sound floor queue) :
    (State.jAck s d t).Sound floor queue := by
  unfold State.jAck
  (try dsimp -iota only)
  repeat' (first
    | with_reducible assumption
    | with_unfolding_none apply State.freeDepTag_sound
    | with_unfolding_none apply State.setJrnl_sound
    | with_unfolding_none apply State.jFlushEnd_sound)

theorem State.jArchive_sound {s : State} (d : Nat) (lo : Word) (hi : Word) (hs : s.Sound floor queue) :
    (State.jArchive s d lo hi).Sound floor queue := by
  unfold State.jArchive
  (try dsimp -iota only)
  repeat' (first
    | with_reducible assumption
    | with_unfolding_none apply State.setReg_sound
    | with_unfolding_none apply State.setJrnl_sound)

theorem State.jFlush_sound {s : State} (d : Nat) (hs : s.Sound floor queue) :
    (State.jFlush s d).Sound floor queue := by
  unfold State.jFlush
  (try dsimp -iota only)
  repeat' (first
    | with_reducible assumption
    | with_unfolding_none apply State.setJrnl_sound
    | with_unfolding_none apply State.jFlushRun_sound)

theorem State.jFlushCmd_sound {s : State} (d : Nat) (hs : s.Sound floor queue) :
    (State.jFlushCmd s d).Sound floor queue := by
  unfold State.jFlushCmd
  (try dsimp -iota only)
  repeat' (first
    | with_reducible assumption
    | with_unfolding_none apply State.setJrnl_sound)

theorem State.jFlushDue_sound {s : State} (d : Nat) (hs : s.Sound floor queue) :
    (State.jFlushDue s d).Sound floor queue := by
  unfold State.jFlushDue
  (try dsimp -iota only)
  repeat' (first
    | with_reducible assumption
    | with_unfolding_none apply State.setJrnl_sound
    | with_unfolding_none apply State.sound_ite)

theorem State.jCycle_sound {s : State} (d : Nat) (hs : s.Sound floor queue) :
    (State.jCycle s d).Sound floor queue := by
  unfold State.jCycle
  (try dsimp -iota only)
  repeat' (first
    | with_reducible assumption
    | with_unfolding_none apply State.jFlushDue_sound
    | with_unfolding_none apply State.setJrnl_sound
    | with_unfolding_none apply State.jDrain_sound
    | with_unfolding_none apply State.jFlushRun_sound
    | with_unfolding_none apply State.sound_ite)

theorem State.jCycles_sound {s : State} (hs : s.Sound floor queue) :
    (State.jCycles s).Sound floor queue := by
  unfold State.jCycles
  (try dsimp -iota only)
  repeat' (first
    | with_reducible assumption
    | with_unfolding_none apply State.jCycle_sound
    | with_unfolding_none apply State.sound_foldl)

theorem State.jLineTimeout_sound {s : State} (d : Nat) (hs : s.Sound floor queue) :
    (State.jLineTimeout s d).Sound floor queue := by
  unfold State.jLineTimeout
  dsimp only
  exact State.sound_ite (State.sound_getD (fun t h => State.jWriteLine_sound _ _ hs h) hs) hs

theorem State.capDirty_sound {s : State} (hs : s.Sound floor queue) :
    (State.capDirty s).Sound floor queue := by
  unfold State.capDirty
  (try dsimp -iota only)
  repeat' (first
    | with_reducible assumption
    | with_unfolding_none apply State.sound_ite
    | simp -iota only [State.sound_mk, State.sound_fold]
    | (split <;> (try dsimp -iota only)))

theorem State.setCached_sound {s : State} (eid : Nat) (e : Entry) (hs : s.Sound floor queue) :
    (State.setCached s eid e).Sound floor queue := by
  unfold State.setCached
  (try dsimp -iota only)
  repeat' (first
    | with_reducible assumption
    | with_unfolding_none apply State.capDirty_sound
    | with_unfolding_none apply State.sound_ite
    | simp -iota only [State.sound_mk, State.sound_fold]
    | (split <;> (try dsimp -iota only)))

theorem State.setEntryNow_sound {s : State} (eid : Nat) (e : Entry) (hs : s.Sound floor queue) :
    (State.setEntryNow s eid e).Sound floor queue := by
  unfold State.setEntryNow
  split
  · exact State.setCached_sound eid e hs
  · exact ⟨hs.1, hs.2.1, SMap.wf_set _ _ hs.2.2.1, hs.2.2.2⟩

theorem State.walkEntries_sound {s : State} (d : Nat) (f : Entry → Entry) (hs : s.Sound floor queue) :
    (State.walkEntries s d f).Sound floor queue := by
  unfold State.walkEntries
  (try dsimp -iota only)
  repeat' (first
    | with_reducible assumption
    | with_unfolding_none apply State.setEntryNow_sound
    | with_unfolding_none apply State.mirrorEntry_sound
    | with_unfolding_none apply State.sound_ite
    | with_unfolding_none apply State.sound_foldl
    | (intro _ _ _; (try dsimp -iota only)))

theorem State.psnFree_sound {s : State} (eid : Nat) (hs : s.Sound floor queue) :
    (State.psnFree s eid).Sound floor queue := by
  unfold State.psnFree
  (try dsimp -iota only)
  repeat' (first
    | with_reducible assumption
    | with_unfolding_none apply State.setReg_sound
    | with_unfolding_none apply State.sound_ite
    | with_unfolding_none apply State.sound_foldl
    | (intro _ _ _; (try dsimp -iota only)))

theorem State.psnEnter_sound {s : State} (eid : Nat) (hs : s.Sound floor queue) {t : State}
    (ht : State.psnEnter s eid = some t) : t.Sound floor queue := by
  unfold State.psnEnter at ht
  rw [Option.map_eq_some_iff] at ht
  obtain ⟨k, -, rfl⟩ := ht
  exact State.raise_sound _ _ (State.setFld_sound _ _ _ hs)

theorem State.withdraw_sound {s : State} (eid : Nat) (hs : s.Sound floor queue) :
    (State.withdraw s eid).Sound floor queue := by
  unfold State.withdraw
  (try dsimp -iota only)
  repeat' (first
    | with_reducible assumption
    | simp -iota only [State.sound_mk, State.sound_fold])

theorem State.dropSample_sound {s : State} (d : Nat) (hs : s.Sound floor queue) :
    (State.dropSample s d).Sound floor queue := by
  unfold State.dropSample
  (try dsimp -iota only)
  repeat' (first
    | with_reducible assumption
    | with_unfolding_none apply State.onSamples_sound)

theorem State.purge_sound {s : State} (d : Nat) (hs : s.Sound floor queue) :
    (State.purge s d).2.Sound floor queue := by
  unfold State.purge
  (try dsimp -iota only)
  repeat' (first
    | with_reducible assumption
    | with_unfolding_none apply State.dropSample_sound
    | simp -iota only [State.sound_mk, State.sound_fold])

theorem State.freeActive_sound {s : State} (d : Nat) (hs : s.Sound floor queue) :
    (State.freeActive s d).Sound floor queue := by
  unfold State.freeActive
  (try dsimp -iota only)
  repeat' (first
    | with_reducible assumption
    | with_unfolding_none apply State.mirrorDeliv_sound
    | with_unfolding_none apply State.sound_foldl
    | simp -iota only [State.sound_mk, State.sound_fold]
    | (intro _ _ _; (try dsimp -iota only)))

theorem State.freeUnsent_sound {s : State} (d : Nat) (hs : s.Sound floor queue) :
    (State.freeUnsent s d).Sound floor queue := by
  unfold State.freeUnsent
  (try dsimp -iota only)
  repeat' (first
    | with_reducible assumption
    | simp -iota only [State.sound_mk, State.sound_fold])

theorem State.beginWalk_sound {s : State} (d : Nat) (w : Walk) (hs : s.Sound floor queue) :
    (State.beginWalk s d w).Sound floor queue := by
  unfold State.beginWalk
  (try dsimp -iota only)
  repeat' (first
    | with_reducible assumption
    | simp -iota only [State.sound_mk, State.sound_fold])

theorem State.dropWindow_sound {s : State} (d : Nat) (hs : s.Sound floor queue) :
    (State.dropWindow s d).Sound floor queue := by
  unfold State.dropWindow
  (try dsimp -iota only)
  repeat' (first
    | with_reducible assumption
    | simp -iota only [State.sound_mk, State.sound_fold])

theorem State.fence_sound {s : State} (d : Nat) (cause : Nat) (hs : s.Sound floor queue) :
    (State.fence s d cause).Sound floor queue := by
  unfold State.fence
  (try dsimp -iota only)
  repeat' (first
    | with_reducible assumption
    | with_unfolding_none apply State.purge_sound
    | with_unfolding_none apply State.freeActive_sound
    | with_unfolding_none apply State.dropWindow_sound
    | with_unfolding_none apply State.walkEntries_sound
    | with_unfolding_none apply State.beginWalk_sound
    | with_unfolding_none apply State.jFence_sound
    | with_unfolding_none apply State.breach_sound
    | with_unfolding_none apply State.raise_sound
    | with_unfolding_none apply State.setFld_sound
    | with_unfolding_none apply State.lower_sound
    | with_unfolding_none apply State.vfStatus_sound
    | with_unfolding_none apply State.sound_ite)

theorem State.saveStop_sound {s : State} (hs : s.Sound floor queue) :
    (State.saveStop s).Sound floor queue := by
  unfold State.saveStop
  (try dsimp -iota only)
  repeat' (first
    | with_reducible assumption
    | with_unfolding_none apply State.dropJobs_sound
    | with_unfolding_none apply State.lower_sound
    | with_unfolding_none apply State.sound_ite
    | simp -iota only [State.sound_mk, State.sound_fold]
    | (split <;> (try dsimp -iota only)))

theorem State.halt_sound {s : State} (code : Nat) (hs : s.Sound floor queue) :
    (State.halt s code).Sound floor queue := by
  unfold State.halt
  (try dsimp -iota only)
  repeat' (first
    | with_reducible assumption
    | with_unfolding_none apply State.raise_sound
    | with_unfolding_none apply State.setFld_sound
    | with_unfolding_none apply State.breachAll_sound
    | with_unfolding_none apply State.ringStop_sound
    | with_unfolding_none apply State.saveStop_sound
    | with_unfolding_none apply State.sound_ite)

theorem State.logError_sound {s : State} (code : Nat) (unit : Nat) (dom : Option Nat) (index : Nat) (hs : s.Sound floor queue) :
    (State.logError s code unit dom index).Sound floor queue := by
  unfold State.logError
  (try dsimp -iota only)
  repeat' (first
    | with_reducible assumption
    | with_unfolding_none apply State.logFirst_sound
    | with_unfolding_none apply State.setFld_sound
    | with_unfolding_none apply State.sound_ite
    | with_unfolding_none apply State.sound_foldl
    | simp -iota only [State.sound_mk, State.sound_fold]
    | (intro _ _ _; (try dsimp -iota only)))

theorem State.contain_sound {s : State} (d : Nat) (hs : s.Sound floor queue) :
    (State.contain s d).Sound floor queue := by
  unfold State.contain
  (try dsimp -iota only)
  repeat' (first
    | with_reducible assumption
    | with_unfolding_none apply State.fence_sound
    | with_unfolding_none apply State.sound_ite
    | simp -iota only [State.sound_mk, State.sound_fold])

theorem State.error_sound {s : State} (code : Nat) (unit : Nat) (dom : Option Nat) (index : Nat) (v : ErrVerdict) (hs : s.Sound floor queue) :
    (State.error s code unit dom index v).Sound floor queue := by
  unfold State.error
  (try dsimp -iota only)
  repeat' (first
    | with_reducible assumption
    | with_unfolding_none apply State.setReg_sound
    | with_unfolding_none apply State.bump_sound
    | with_unfolding_none apply State.logError_sound
    | with_unfolding_none apply State.breach_sound
    | with_unfolding_none apply State.breachAll_sound
    | with_unfolding_none apply State.irqSend_sound
    | with_unfolding_none apply State.contain_sound
    | with_unfolding_none apply State.halt_sound
    | with_unfolding_none apply State.sound_ite
    | simp -iota only [State.sound_mk, State.sound_fold]
    | (split <;> (try dsimp -iota only)))

theorem State.psnList_sound {s : State} (eid : Nat) (hs : s.Sound floor queue) :
    (State.psnList s eid).Sound floor queue := by
  unfold State.psnList
  (try dsimp -iota only)
  repeat' (first
    | with_reducible assumption
    | with_unfolding_none apply State.raise_sound
    | with_unfolding_none apply State.error_sound
    | apply State.psnEnter_sound (ht := by assumption)
    | (split <;> (try dsimp -iota only)))

theorem State.psnSync_sound {s : State} (eid : Nat) (e : Entry) (hs : s.Sound floor queue) :
    (State.psnSync s eid e).Sound floor queue := by
  unfold State.psnSync
  (try dsimp -iota only)
  repeat' (first
    | with_reducible assumption
    | with_unfolding_none apply State.psnList_sound
    | with_unfolding_none apply State.psnFree_sound
    | with_unfolding_none apply State.sound_ite)

theorem State.depProto_sound {s : State} (tag : Nat) (hs : s.Sound floor queue) :
    (State.depProto s tag).Sound floor queue := by
  unfold State.depProto
  (try dsimp -iota only)
  repeat' (first
    | with_reducible assumption
    | with_unfolding_none apply State.raise_sound
    | with_unfolding_none apply State.error_sound)

theorem State.spinRotor_sound {s : State} (e : Entry) (pos : Option (Nat × Nat)) (r : Route) (hs : s.Sound floor queue) :
    (State.spinRotor s e pos r).Sound floor queue := by
  unfold State.spinRotor
  (try dsimp -iota only)
  repeat' (first
    | with_reducible assumption
    | with_unfolding_none apply State.setFld_sound
    | with_unfolding_none apply State.sound_ite
    | (split <;> (try dsimp -iota only)))

theorem State.enterWaiting_sound {s : State} (eid : Nat) (hs : s.Sound floor queue) :
    (State.enterWaiting s eid).Sound floor queue := by
  unfold State.enterWaiting
  (try dsimp -iota only)
  repeat' (first
    | with_reducible assumption
    | with_unfolding_none apply State.raise_sound
    | simp -iota only [State.sound_mk, State.sound_fold])

theorem State.placeOffer_sound {s : State} (slot : Nat) (eid : Nat) (d : Nat) (t : Nat) (p : Nat) (ro : Option Nat) (ready : Bool) (hs : s.Sound floor queue) :
    (State.placeOffer s slot eid d t p ro ready).Sound floor queue := by
  unfold State.placeOffer
  (try dsimp -iota only)
  repeat' (first
    | with_reducible assumption
    | simp -iota only [State.sound_mk, State.sound_fold])

theorem State.faultLog_sound {s : State} (eid : Nat) (d : Nat) (code : Nat) (hs : s.Sound floor queue) :
    (State.faultLog s eid d code).Sound floor queue := by
  unfold State.faultLog
  (try dsimp -iota only)
  repeat' (first
    | with_reducible assumption
    | with_unfolding_none apply State.logFirst_sound
    | with_unfolding_none apply State.countD_sound
    | with_unfolding_none apply State.vfStatus_sound
    | with_unfolding_none apply State.breachAll_sound
    | with_unfolding_none apply State.sound_ite)

theorem State.faultPut_sound {s : State} (x : FaultItem) (hs : s.Sound floor queue) :
    (State.faultPut s x).Sound floor queue := by
  unfold State.faultPut
  (try dsimp -iota only)
  repeat' (first
    | with_reducible assumption
    | simp -iota only [State.sound_mk, State.sound_fold])

theorem State.noRoom_sound {s : State} (slot : Nat) (eid : Nat) (d : Nat) (t : Nat) (p : Nat) (x6 : Option Nat) (hs : s.Sound floor queue) :
    (State.noRoom s slot eid d t p x6).Sound floor queue := by
  unfold State.noRoom
  (try dsimp -iota only)
  repeat' (first
    | with_reducible assumption
    | with_unfolding_none apply State.enterWaiting_sound
    | simp -iota only [State.sound_mk, State.sound_fold]
    | (split <;> (try dsimp -iota only)))

theorem State.offerTo_sound {s : State} (slot : Nat) (eid : Nat) (d : Nat) (t : Nat) (p : Nat) (ro : Option Nat) (hs : s.Sound floor queue) :
    (State.offerTo s slot eid d t p ro).Sound floor queue := by
  unfold State.offerTo
  (try dsimp -iota only)
  repeat' (first
    | with_reducible assumption
    | with_unfolding_none apply State.raise_sound
    | with_unfolding_none apply State.noRoom_sound
    | with_unfolding_none apply State.placeOffer_sound
    | with_unfolding_none apply State.sound_ite)

theorem State.offer_sound {s : State} (slot : Nat) (eid : Nat) (keep : (Option (Nat × Nat))) (hs : s.Sound floor queue) :
    (State.offer s slot eid keep).Sound floor queue := by
  unfold State.offer
  (try dsimp -iota only)
  repeat' (first
    | with_reducible assumption
    | with_unfolding_none apply State.spinRotor_sound
    | with_unfolding_none apply State.faultLog_sound
    | with_unfolding_none apply State.faultPut_sound
    | with_unfolding_none apply State.raise_sound
    | with_unfolding_none apply State.enterWaiting_sound
    | with_unfolding_none apply State.offerTo_sound
    | with_unfolding_none apply State.sound_ite
    | simp -iota only [State.sound_mk, State.sound_fold]
    | (split <;> (try dsimp -iota only)))

theorem State.queueOffer_sound {s : State} (w : OfferWait) (hs : s.Sound floor queue) :
    (State.queueOffer s w).Sound floor queue := by
  unfold State.queueOffer
  (try dsimp -iota only)
  repeat' (first
    | with_reducible assumption
    | with_unfolding_none apply State.sound_ite
    | simp -iota only [State.sound_mk, State.sound_fold])

theorem State.useSlot_sound {s : State} (w : OfferWait) (hs : s.Sound floor queue) :
    (State.useSlot s w).Sound floor queue := by
  unfold State.useSlot
  (try dsimp -iota only)
  repeat' (first
    | with_reducible assumption
    | with_unfolding_none apply State.offer_sound
    | simp -iota only [State.sound_mk, State.sound_fold])

theorem State.unplace_sound {s : State} (w : OfferWait) (o : Offer) (hs : s.Sound floor queue) :
    (State.unplace s w o).Sound floor queue := by
  unfold State.unplace
  (try dsimp -iota only)
  repeat' (first
    | with_reducible assumption
    | simp -iota only [State.sound_mk, State.sound_fold])

theorem State.offerFrom_sound {s : State} (slot : Nat) (kind : Nat) (eid : Nat) (hs : s.Sound floor queue) :
    (State.offerFrom s slot kind eid).Sound floor queue := by
  unfold State.offerFrom
  (try dsimp -iota only)
  repeat' (first
    | with_reducible assumption
    | with_unfolding_none apply State.queueOffer_sound
    | with_unfolding_none apply State.useSlot_sound
    | with_unfolding_none apply State.unplace_sound
    | with_unfolding_none apply State.sound_ite
    | (split <;> (try dsimp -iota only)))

theorem State.serveOffers_sound {s : State} (hs : s.Sound floor queue) :
    (State.serveOffers s).Sound floor queue := by
  unfold State.serveOffers
  (try dsimp -iota only)
  repeat' (first
    | with_reducible assumption
    | with_unfolding_none apply State.useSlot_sound
    | with_unfolding_none apply State.sound_ite
    | with_unfolding_none apply State.sound_foldl
    | simp -iota only [State.sound_mk, State.sound_fold]
    | (intro _ _ _; (try dsimp -iota only)))

theorem State.placeHeld_sound {s : State} (hs : s.Sound floor queue) :
    (State.placeHeld s).Sound floor queue := by
  unfold State.placeHeld
  (try dsimp -iota only)
  repeat' (first
    | with_reducible assumption
    | with_unfolding_none apply State.placeOffer_sound
    | with_unfolding_none apply State.sound_ite
    | with_unfolding_none apply State.sound_foldl
    | simp -iota only [State.sound_mk, State.sound_fold]
    | (intro _ _ _; (try dsimp -iota only)))

theorem State.offerDomain_sound {s : State} (d : Nat) (hs : s.Sound floor queue) :
    (State.offerDomain s d).Sound floor queue := by
  unfold State.offerDomain
  (try dsimp -iota only)
  repeat' (first
    | with_reducible assumption
    | with_unfolding_none apply State.offerFrom_sound
    | with_unfolding_none apply State.sound_ite
    | with_unfolding_none apply State.sound_foldl
    | (intro _ _ _; (try dsimp -iota only)))

theorem State.chooseTake_sound {s : State} (taken : List Nat) (hs : s.Sound floor queue) {rv : Nat} {rt : State}
    (ht : State.chooseTake s taken = some (rv, rt)) : rt.Sound floor queue := by
  unfold State.chooseTake at ht
  rw [Option.map_eq_some_iff] at ht
  obtain ⟨k, -, hk⟩ := ht
  cases hk
  exact hs

theorem State.launch_sound {s : State} (t : Nat) (hs : s.Sound floor queue) {rv : Head} {rt : State}
    (ht : State.launch s t = some (rv, rt)) : rt.Sound floor queue := by
  unfold State.launch at ht
  rw [Option.map_eq_some_iff] at ht
  obtain ⟨k, -, hk⟩ := ht
  cases hk
  exact State.onSample_sound _ _ hs

theorem State.scanAdmit_sound {s : State} (d : Nat) (eid : Nat) (hs : s.Sound floor queue) :
    (State.scanAdmit s d eid).Sound floor queue := by
  unfold State.scanAdmit
  (try dsimp -iota only)
  repeat' (first
    | with_reducible assumption
    | with_unfolding_none apply State.useSlot_sound
    | with_unfolding_none apply State.countD_sound
    | with_unfolding_none apply State.sound_ite
    | simp -iota only [State.sound_mk, State.sound_fold])

theorem State.waitEcc_sound {s : State} (d : Nat) (eid : Nat) (ecc : Ecc) (hs : s.Sound floor queue) :
    (State.waitEcc s d eid ecc).2.Sound floor queue := by
  unfold State.waitEcc
  (try dsimp -iota only)
  repeat' (first
    | with_reducible assumption
    | with_unfolding_none apply State.error_sound
    | with_unfolding_none apply State.offerDomain_sound
    | simp -iota only [State.sound_mk, State.sound_fold]
    | (split <;> (try dsimp -iota only)))

theorem State.waitingAdmission_sound {s : State} (ecc : Ecc) (hs : s.Sound floor queue) :
    (State.waitingAdmission s ecc).Sound floor queue := by
  unfold State.waitingAdmission
  (try dsimp -iota only)
  repeat' (first
    | with_reducible assumption
    | with_unfolding_none apply State.waitEcc_sound
    | with_unfolding_none apply State.scanAdmit_sound
    | with_unfolding_none apply State.sound_ite
    | (split <;> (try dsimp -iota only)))

theorem State.dropGroup_sound {s : State} (g : Group) (hs : s.Sound floor queue) :
    (State.dropGroup s g).Sound floor queue := by
  unfold State.dropGroup
  (try dsimp -iota only)
  repeat' (first
    | with_reducible assumption
    | with_unfolding_none apply State.onSamples_sound)

theorem State.discardPairHeld_sound {s : State} (hs : s.Sound floor queue) :
    (State.discardPairHeld s).Sound floor queue := by
  unfold State.discardPairHeld
  (try dsimp -iota only)
  repeat' (first
    | with_reducible assumption
    | with_unfolding_none apply State.dropGroup_sound
    | with_unfolding_none apply State.sound_foldl
    | simp -iota only [State.sound_mk, State.sound_fold])

theorem State.discardPair_sound {s : State} (hs : s.Sound floor queue) :
    (State.discardPair s).Sound floor queue := by
  unfold State.discardPair
  (try dsimp -iota only)
  repeat' (first
    | with_reducible assumption
    | with_unfolding_none apply State.discardPairHeld_sound
    | with_unfolding_none apply State.setFld_sound
    | with_unfolding_none apply State.setEntryNow_sound
    | with_unfolding_none apply State.psnFree_sound
    | with_unfolding_none apply State.sound_ite
    | with_unfolding_none apply State.sound_foldl
    | simp -iota only [State.sound_mk, State.sound_fold]
    | (intro _ _ _; (try dsimp -iota only)))

theorem State.releaseAll_sound {s : State} (hs : s.Sound floor queue) :
    (State.releaseAll s).Sound floor queue := by
  unfold State.releaseAll
  (try dsimp -iota only)
  repeat' (first
    | with_reducible assumption
    | simp -iota only [State.sound_mk, State.sound_fold])

theorem State.resync_sound {s : State} (hs : s.Sound floor queue) :
    (State.resync s).Sound floor queue := by
  unfold State.resync
  (try dsimp -iota only)
  repeat' (first
    | with_reducible assumption
    | with_unfolding_none apply State.setFld_sound
    | with_unfolding_none apply State.discardPair_sound
    | with_unfolding_none apply State.releaseAll_sound
    | with_unfolding_none apply State.sound_ite
    | simp -iota only [State.sound_mk, State.sound_fold])

theorem State.putEntry_sound {s : State} (eid : Nat) (e : Entry) (hs : s.Sound floor queue) :
    (State.putEntry s eid e).Sound floor queue := by
  unfold State.putEntry
  (try dsimp -iota only)
  repeat' (first
    | with_reducible assumption
    | with_unfolding_none apply State.setCached_sound
    | with_unfolding_none apply State.mirrorEntry_sound)

theorem State.illegal_sound {s : State} (cause : Nat) (eid : Nat) (hs : s.Sound floor queue) :
    (State.illegal s cause eid).Sound floor queue := by
  unfold State.illegal
  (try dsimp -iota only)
  repeat' (first
    | with_reducible assumption
    | with_unfolding_none apply State.raise_sound
    | with_unfolding_none apply State.logOne_sound)

theorem State.dropEvent_sound {s : State} (ev : Ev) (hs : s.Sound floor queue) :
    (State.dropEvent s ev).Sound floor queue := by
  unfold State.dropEvent
  (try dsimp -iota only)
  repeat' (first
    | with_reducible assumption
    | with_unfolding_none apply State.onSamples_sound)

theorem State.dropEid_sound {s : State} (eid : Nat) (hs : s.Sound floor queue) :
    (State.dropEid s eid).Sound floor queue := by
  unfold State.dropEid
  (try dsimp -iota only)
  repeat' (first
    | with_reducible assumption
    | with_unfolding_none apply State.onSamples_sound)

theorem State.withdrawCvn_sound {s : State} (eid : Nat) (hs : s.Sound floor queue) :
    (State.withdrawCvn s eid).Sound floor queue := by
  unfold State.withdrawCvn
  (try dsimp -iota only)
  repeat' (first
    | with_reducible assumption
    | simp -iota only [State.sound_mk, State.sound_fold])

theorem State.poisonEntry_sound {s : State} (eid : Nat) (hs : s.Sound floor queue) :
    (State.poisonEntry s eid).Sound floor queue := by
  unfold State.poisonEntry
  (try dsimp -iota only)
  repeat' (first
    | with_reducible assumption
    | with_unfolding_none apply State.setCached_sound
    | with_unfolding_none apply State.mirrorEntry_sound
    | with_unfolding_none apply State.withdraw_sound
    | with_unfolding_none apply State.withdrawCvn_sound
    | with_unfolding_none apply State.dropEid_sound
    | with_unfolding_none apply State.psnList_sound
    | with_unfolding_none apply State.breach_sound
    | with_unfolding_none apply State.sound_ite
    | simp -iota only [State.sound_mk, State.sound_fold]
    | (split <;> (try dsimp -iota only)))

theorem State.install_sound {s : State} (n : Nat) (es : List Entry) (dirty : Bool) (hs : s.Sound floor queue) {rt : State} (ht : (State.install s n es dirty) = some rt) :
    rt.Sound floor queue := by
  unfold State.install at ht
  (try dsimp -iota only at ht)
  (repeat' split at ht) <;> (try cases ht)
  all_goals repeat' (first
    | with_reducible assumption
    | simp -iota only [State.sound_mk, State.sound_fold])

theorem State.access_sound {s : State} (n : Nat) (hs : s.Sound floor queue) :
    (State.access s n).2.Sound floor queue := by
  unfold State.access
  (try dsimp -iota only)
  repeat' (first
    | with_reducible assumption
    | with_unfolding_none apply State.capDirty_sound
    | with_unfolding_none apply State.sound_ite
    | simp -iota only [State.sound_mk, State.sound_fold]
    | apply State.install_sound (ht := by assumption)
    | (split <;> (try dsimp -iota only)))

theorem State.useLine_sound {s : State} (n : Nat) (hs : s.Sound floor queue) :
    (State.useLine s n).2.Sound floor queue := by
  unfold State.useLine
  (try dsimp -iota only)
  repeat' (first
    | with_reducible assumption
    | with_unfolding_none apply State.access_sound
    | with_unfolding_none apply State.sound_ite_snd
    | (with_unfolding_none apply State.sound_snd (by assumption))
    | (split <;> (try dsimp -iota only)))

theorem State.askFill_sound {s : State} (n : Nat) (hs : s.Sound floor queue) :
    (State.askFill s n).Sound floor queue := by
  unfold State.askFill
  (try dsimp -iota only)
  repeat' (first
    | with_reducible assumption
    | with_unfolding_none apply State.countG_sound
    | with_unfolding_none apply State.sound_ite
    | simp -iota only [State.sound_mk, State.sound_fold]
    | apply State.depRead_sound (ht := by assumption)
    | (split <;> (try dsimp -iota only)))

theorem State.askFills_sound {s : State} (hs : s.Sound floor queue) :
    (State.askFills s).Sound floor queue := by
  unfold State.askFills
  (try dsimp -iota only)
  repeat' (first
    | with_reducible assumption
    | with_unfolding_none apply State.askFill_sound
    | with_unfolding_none apply State.sound_foldl)

theorem State.joinAll_sound {s : State} (n : Nat) (l : List MissInput) (hs : s.Sound floor queue) :
    (State.joinAll s n l).Sound floor queue := by
  unfold State.joinAll
  (try dsimp -iota only)
  repeat' (first
    | with_reducible assumption
    | with_unfolding_none apply State.raise_sound
    | with_unfolding_none apply State.askFill_sound
    | with_unfolding_none apply State.sound_ite
    | simp -iota only [State.sound_mk, State.sound_fold])

theorem State.join_sound {s : State} (n : Nat) (i : MissInput) (hs : s.Sound floor queue) :
    (State.join s n i).Sound floor queue := by
  unfold State.join
  (try dsimp -iota only)
  repeat' (first
    | with_reducible assumption
    | with_unfolding_none apply State.joinAll_sound)

theorem State.entryEcc_sound {s : State} (eid : Nat) (ecc : Ecc) (hs : s.Sound floor queue) :
    (State.entryEcc s eid ecc).2.Sound floor queue := by
  unfold State.entryEcc
  (try dsimp -iota only)
  repeat' (first
    | with_reducible assumption
    | with_unfolding_none apply State.raise_sound
    | with_unfolding_none apply State.countG_sound
    | with_unfolding_none apply State.error_sound
    | with_unfolding_none apply State.poisonEntry_sound
    | with_unfolding_none apply State.sound_ite_snd
    | simp -iota only [State.sound_mk, State.sound_fold]
    | (split <;> (try dsimp -iota only)))

theorem State.retract_sound {s : State} (eid : Nat) (hs : s.Sound floor queue) :
    (State.retract s eid).Sound floor queue := by
  unfold State.retract
  (try dsimp -iota only)
  repeat' (first
    | with_reducible assumption
    | with_unfolding_none apply State.withdraw_sound
    | with_unfolding_none apply State.dropEid_sound)

theorem State.reoffer_sound {s : State} (eid : Nat) (hs : s.Sound floor queue) :
    (State.reoffer s eid).Sound floor queue := by
  unfold State.reoffer
  (try dsimp -iota only)
  repeat' (first
    | with_reducible assumption
    | with_unfolding_none apply State.queueOffer_sound
    | with_unfolding_none apply State.sound_ite
    | simp -iota only [State.sound_mk, State.sound_fold])

theorem State.rtEntry_sound {s : State} (d : Nat) (op : Nat) (eid : Nat) (hs : s.Sound floor queue) :
    (State.rtEntry s d op eid).Sound floor queue := by
  unfold State.rtEntry
  (try dsimp -iota only)
  repeat' (first
    | with_reducible assumption
    | with_unfolding_none apply State.setReg_sound
    | with_unfolding_none apply State.putEntry_sound
    | with_unfolding_none apply State.retract_sound
    | with_unfolding_none apply State.withdraw_sound
    | with_unfolding_none apply State.offerFrom_sound
    | with_unfolding_none apply State.sound_ite)

theorem State.cfgEntryOp_sound {s : State} (d : Nat) (op : Nat) (eid : Nat) (hs : s.Sound floor queue) :
    (State.cfgEntryOp s d op eid).Sound floor queue := by
  unfold State.cfgEntryOp
  (try dsimp -iota only)
  repeat' (first
    | with_reducible assumption
    | with_unfolding_none apply State.cfgChanged_sound
    | with_unfolding_none apply State.putEntry_sound
    | with_unfolding_none apply State.reoffer_sound
    | with_unfolding_none apply State.retract_sound
    | with_unfolding_none apply State.withdrawCvn_sound
    | with_unfolding_none apply State.psnFree_sound
    | with_unfolding_none apply State.sound_ite)

theorem State.cmdEntry_sound {s : State} (c : RangeCmd) (hs : s.Sound floor queue) :
    (State.cmdEntry s c).Sound floor queue := by
  unfold State.cmdEntry
  (try dsimp -iota only)
  repeat' (first
    | with_reducible assumption
    | with_unfolding_none apply State.cfgEntryOp_sound
    | with_unfolding_none apply State.rtEntry_sound
    | with_unfolding_none apply State.sound_ite)

theorem State.cmdDone_sound {s : State} (c : RangeCmd) (hs : s.Sound floor queue) :
    (State.cmdDone s c).Sound floor queue := by
  unfold State.cmdDone
  (try dsimp -iota only)
  repeat' (first
    | with_reducible assumption
    | with_unfolding_none apply State.lower_sound
    | with_unfolding_none apply State.setFld_sound
    | with_unfolding_none apply State.sound_ite)

theorem State.runCmd_sound (x0 : Nat) {x1 : State} (x2 : RangeCmd) (hx1 : x1.Sound floor queue) :
    (State.runCmd x0 x1 x2).Sound floor queue := by
  induction x0 generalizing x1 x2 with
  | zero =>
    unfold State.runCmd
    (try dsimp -iota only)
    repeat' (first
      | with_reducible assumption
      | simp -iota only [State.sound_mk, State.sound_fold])
  | succ m ih =>
    unfold State.runCmd
    (try dsimp -iota only)
    repeat' (first
      | with_reducible assumption
      | with_unfolding_none apply ih
      | with_unfolding_none apply State.cmdDone_sound
      | with_unfolding_none apply State.useLine_sound
      | with_unfolding_none apply State.cmdEntry_sound
      | with_unfolding_none apply State.join_sound
      | with_unfolding_none apply State.raise_sound
      | with_unfolding_none apply State.sound_ite
      | simp -iota only [State.sound_mk, State.sound_fold])

theorem State.cmdEcc_sound {s : State} (eid : Nat) (ecc : Ecc) (hs : s.Sound floor queue) :
    (State.cmdEcc s eid ecc).Sound floor queue := by
  unfold State.cmdEcc
  (try dsimp -iota only)
  repeat' (first
    | with_reducible assumption
    | with_unfolding_none apply State.entryEcc_sound
    | with_unfolding_none apply State.sound_ite)

theorem State.resumeCmd_sound {s : State} (cfg : Bool) (d : Nat) (hs : s.Sound floor queue) :
    (State.resumeCmd s cfg d).Sound floor queue := by
  unfold State.resumeCmd
  (try dsimp -iota only)
  repeat' (first
    | with_reducible assumption
    | with_unfolding_none apply State.runCmd_sound
    | simp -iota only [State.sound_mk, State.sound_fold]
    | (split <;> (try dsimp -iota only)))

theorem State.retryCmds_sound {s : State} (hs : s.Sound floor queue) :
    (State.retryCmds s).Sound floor queue := by
  unfold State.retryCmds
  (try dsimp -iota only)
  repeat' (first
    | with_reducible assumption
    | with_unfolding_none apply State.resumeCmd_sound
    | with_unfolding_none apply State.sound_foldl
    | (intro _ _ _; (try dsimp -iota only)))

theorem State.applyWaiting_sound {s : State} (d : Nat) (epoch : Option Nat) (hs : s.Sound floor queue) :
    (State.applyWaiting s d epoch).Sound floor queue := by
  unfold State.applyWaiting
  (try dsimp -iota only)
  repeat' (first
    | with_reducible assumption
    | with_unfolding_none apply State.logFirst_sound
    | with_unfolding_none apply State.runCmd_sound
    | with_unfolding_none apply State.sound_foldl
    | simp -iota only [State.sound_mk, State.sound_fold]
    | (intro _ _ _; (try dsimp -iota only))
    | (split <;> (try dsimp -iota only)))

theorem State.startRt_sound {s : State} (d : Nat) (ecc : Ecc) (hs : s.Sound floor queue) :
    (State.startRt s d ecc).Sound floor queue := by
  unfold State.startRt
  (try dsimp -iota only)
  repeat' (first
    | with_reducible assumption
    | with_unfolding_none apply State.setFld_sound
    | with_unfolding_none apply State.raise_sound
    | with_unfolding_none apply State.runCmd_sound
    | with_unfolding_none apply State.cmdEcc_sound
    | with_unfolding_none apply State.sound_ite
    | simp -iota only [State.sound_mk, State.sound_fold]
    | (split <;> (try dsimp -iota only)))

theorem State.startCfg_sound {s : State} (d : Nat) (ecc : Ecc) (hs : s.Sound floor queue) :
    (State.startCfg s d ecc).Sound floor queue := by
  unfold State.startCfg
  (try dsimp -iota only)
  repeat' (first
    | with_reducible assumption
    | with_unfolding_none apply State.setFld_sound
    | with_unfolding_none apply State.raise_sound
    | with_unfolding_none apply State.cfgChanged_sound
    | with_unfolding_none apply State.runCmd_sound
    | with_unfolding_none apply State.cmdEcc_sound
    | with_unfolding_none apply State.sound_ite)

theorem State.setSrc_sound {s : State} (o : Nat) (x : CvnSrc) (hs : s.Sound floor queue) :
    (State.setSrc s o x).Sound floor queue := by
  unfold State.setSrc
  (try dsimp -iota only)
  repeat' (first
    | with_reducible assumption
    | simp -iota only [State.sound_mk, State.sound_fold])

theorem State.setRun_sound {s : State} (d : Nat) (r : Run) (hs : s.Sound floor queue) :
    (State.setRun s d r).Sound floor queue := by
  unfold State.setRun
  (try dsimp -iota only)
  repeat' (first
    | with_reducible assumption
    | simp -iota only [State.sound_mk, State.sound_fold])

theorem State.holdEvent_sound {s : State} (ev : Ev) (e : Nat) (q : Nat) (hs : s.Sound floor queue) :
    (State.holdEvent s ev e q).2.Sound floor queue := by
  unfold State.holdEvent
  (try dsimp -iota only)
  repeat' (first
    | with_reducible assumption
    | with_unfolding_none apply State.raise_sound
    | with_unfolding_none apply State.sound_ite_snd
    | simp -iota only [State.sound_mk, State.sound_fold])

theorem State.cvnPlace_sound {s : State} (ev : Ev) (hs : s.Sound floor queue) :
    (State.cvnPlace s ev).2.Sound floor queue := by
  unfold State.cvnPlace
  (try dsimp -iota only)
  repeat' (first
    | with_reducible assumption
    | with_unfolding_none apply State.dropEvent_sound
    | with_unfolding_none apply State.raise_sound
    | with_unfolding_none apply State.breach_sound
    | with_unfolding_none apply State.holdEvent_sound
    | with_unfolding_none apply State.setRun_sound
    | with_unfolding_none apply State.sound_ite_snd
    | simp -iota only [State.sound_mk, State.sound_fold]
    | (split <;> (try dsimp -iota only)))

theorem State.digestsMeet_sound {s : State} (hs : s.Sound floor queue) :
    (State.digestsMeet s).Sound floor queue := by
  unfold State.digestsMeet
  (try dsimp -iota only)
  repeat' (first
    | with_reducible assumption
    | with_unfolding_none apply State.raise_sound
    | with_unfolding_none apply State.bump_sound
    | with_unfolding_none apply State.error_sound
    | with_unfolding_none apply State.resync_sound
    | with_unfolding_none apply State.sound_ite
    | with_unfolding_none apply State.sound_foldl
    | simp -iota only [State.sound_mk, State.sound_fold]
    | (intro _ _ _; (try dsimp -iota only))
    | (split <;> (try dsimp -iota only)))

theorem State.sendClose_sound {s : State} (d : Nat) (e : Nat) (gs : List Group) (hs : s.Sound floor queue) :
    (State.sendClose s d e gs).Sound floor queue := by
  unfold State.sendClose
  (try dsimp -iota only)
  repeat' (first
    | with_reducible assumption
    | with_unfolding_none apply State.originate_sound
    | with_unfolding_none apply State.toPartner_sound
    | with_unfolding_none apply State.digestsMeet_sound
    | with_unfolding_none apply State.sound_ite
    | simp -iota only [State.sound_mk, State.sound_fold])

theorem State.closeEpoch_sound {s : State} (d : Nat) (hs : s.Sound floor queue) :
    (State.closeEpoch s d).Sound floor queue := by
  unfold State.closeEpoch
  (try dsimp -iota only)
  repeat' (first
    | with_reducible assumption
    | with_unfolding_none apply State.probe_sound
    | with_unfolding_none apply State.setRun_sound
    | with_unfolding_none apply State.applyBnd_sound
    | with_unfolding_none apply State.applyWaiting_sound
    | with_unfolding_none apply State.sendClose_sound
    | simp -iota only [State.sound_mk, State.sound_fold])

theorem State.tryClose_sound (x0 : Nat) {x1 : State} (x2 : Nat) (hx1 : x1.Sound floor queue) :
    (State.tryClose x0 x1 x2).Sound floor queue := by
  induction x0 generalizing x1 x2 with
  | zero =>
    unfold State.tryClose
    (try dsimp -iota only)
    repeat' (with_reducible assumption)
  | succ m ih =>
    unfold State.tryClose
    (try dsimp -iota only)
    repeat' (first
      | with_reducible assumption
      | with_unfolding_none apply ih
      | with_unfolding_none apply State.closeEpoch_sound
      | with_unfolding_none apply State.sound_ite)

theorem State.closeAll_sound {s : State} (d : Nat) (hs : s.Sound floor queue) :
    (State.closeAll s d).Sound floor queue := by
  unfold State.closeAll
  (try dsimp -iota only)
  repeat' (first
    | with_reducible assumption
    | with_unfolding_none apply State.tryClose_sound)

theorem State.wmApply_sound {s : State} (w : WmWait) (hs : s.Sound floor queue) :
    (State.wmApply s w).Sound floor queue := by
  unfold State.wmApply
  (try dsimp -iota only)
  repeat' (first
    | with_reducible assumption
    | with_unfolding_none apply State.originate_sound
    | with_unfolding_none apply State.raise_sound
    | with_unfolding_none apply State.setSrc_sound
    | with_unfolding_none apply State.setRun_sound
    | with_unfolding_none apply State.closeAll_sound
    | with_unfolding_none apply State.sound_ite)

theorem State.wmPump_sound (x0 : Nat) {x1 : State} (hx1 : x1.Sound floor queue) :
    (State.wmPump x0 x1).Sound floor queue := by
  induction x0 generalizing x1 with
  | zero =>
    unfold State.wmPump
    (try dsimp -iota only)
    repeat' (with_reducible assumption)
  | succ m ih =>
    unfold State.wmPump
    (try dsimp -iota only)
    repeat' (first
      | with_reducible assumption
      | with_unfolding_none apply ih
      | with_unfolding_none apply State.wmApply_sound
      | simp -iota only [State.sound_mk, State.sound_fold]
      | (split <;> (try dsimp -iota only)))

theorem State.wmAll_sound {s : State} (hs : s.Sound floor queue) :
    (State.wmAll s).Sound floor queue := by
  unfold State.wmAll
  (try dsimp -iota only)
  repeat' (first
    | with_reducible assumption
    | with_unfolding_none apply State.wmPump_sound)

theorem State.wmAccept_sound {s : State} (d : Nat) (o : Nat) (wk : Nat) (e : Nat) (chk : Bool) (count : Nat) (hs : s.Sound floor queue) :
    (State.wmAccept s d o wk e chk count).Sound floor queue := by
  unfold State.wmAccept
  (try dsimp -iota only)
  repeat' (first
    | with_reducible assumption
    | with_unfolding_none apply State.raise_sound
    | with_unfolding_none apply State.breach_sound
    | with_unfolding_none apply State.setSrc_sound
    | with_unfolding_none apply State.wmAll_sound
    | with_unfolding_none apply State.sound_ite
    | simp -iota only [State.sound_mk, State.sound_fold])

theorem State.waymark_sound {s : State} (d : Nat) (o : Nat) (woff : Nat) (data : Nat) (hs : s.Sound floor queue) :
    (State.waymark s d o woff data).Sound floor queue := by
  unfold State.waymark
  (try dsimp -iota only)
  repeat' (first
    | with_reducible assumption
    | with_unfolding_none apply State.raise_sound
    | with_unfolding_none apply State.wmAccept_sound
    | with_unfolding_none apply State.sound_ite)

theorem State.epochOf_sound {s : State} (o : Nat) (hs : s.Sound floor queue) : (State.epochOf s o).2.Sound floor queue := by
  unfold State.epochOf
  split
  · exact hs
  · dsimp only
    split
    · exact hs
    · exact State.setSrc_sound _ _ hs

theorem State.holdStart_sound {s : State} (d : Nat) (hs : s.Sound floor queue) :
    (State.holdStart s d).Sound floor queue := by
  unfold State.holdStart
  (try dsimp -iota only)
  repeat' (first
    | with_reducible assumption
    | with_unfolding_none apply State.setRun_sound
    | with_unfolding_none apply State.closeAll_sound
    | with_unfolding_none apply State.sound_ite)

theorem State.overdue_sound {s : State} (d : Nat) (hs : s.Sound floor queue) :
    (State.overdue s d).Sound floor queue := by
  unfold State.overdue
  (try dsimp -iota only)
  repeat' (first
    | with_reducible assumption
    | with_unfolding_none apply State.setRun_sound
    | with_unfolding_none apply State.raise_sound
    | with_unfolding_none apply State.countD_sound
    | with_unfolding_none apply State.sound_ite)

theorem State.logStrag_sound {s : State} (d : Nat) (o : Nat) (cause : Nat) (hs : s.Sound floor queue) :
    (State.logStrag s d o cause).Sound floor queue := by
  unfold State.logStrag
  (try dsimp -iota only)
  repeat' (first
    | with_reducible assumption
    | with_unfolding_none apply State.logFirst_sound
    | with_unfolding_none apply State.countD_sound)

theorem State.sendSilent_sound {s : State} (d : Nat) (o : Nat) (e : Nat) (cause : Nat) (hs : s.Sound floor queue) :
    (State.sendSilent s d o e cause).Sound floor queue := by
  unfold State.sendSilent
  (try dsimp -iota only)
  repeat' (first
    | with_reducible assumption
    | with_unfolding_none apply State.originate_sound
    | with_unfolding_none apply State.sound_ite)

theorem State.stragglerSrc_sound {s : State} (o : Nat) (e : Nat) (hs : s.Sound floor queue) :
    (State.stragglerSrc s o e).Sound floor queue := by
  unfold State.stragglerSrc
  (try dsimp -iota only)
  repeat' (first
    | with_reducible assumption
    | with_unfolding_none apply State.setSrc_sound)

theorem State.straggler_sound {s : State} (d : Nat) (hs : s.Sound floor queue) :
    (State.straggler s d).Sound floor queue := by
  unfold State.straggler
  (try dsimp -iota only)
  repeat' (first
    | with_reducible assumption
    | with_unfolding_none apply State.stragglerSrc_sound
    | with_unfolding_none apply State.logStrag_sound
    | with_unfolding_none apply State.sendSilent_sound
    | with_unfolding_none apply State.breach_sound
    | with_unfolding_none apply State.raise_sound
    | with_unfolding_none apply State.closeAll_sound
    | with_unfolding_none apply State.sound_ite
    | with_unfolding_none apply State.sound_foldl
    | (intro _ _ _; (try dsimp -iota only)))

theorem State.silence_sound {s : State} (d : Nat) (o : Nat) (hs : s.Sound floor queue) :
    (State.silence s d o).Sound floor queue := by
  unfold State.silence
  (try dsimp -iota only)
  repeat' (first
    | with_reducible assumption
    | with_unfolding_none apply State.setSrc_sound
    | with_unfolding_none apply State.breach_sound
    | with_unfolding_none apply State.logStrag_sound
    | with_unfolding_none apply State.sendSilent_sound
    | with_unfolding_none apply State.closeAll_sound
    | with_unfolding_none apply State.sound_ite
    | simp -iota only [State.sound_mk, State.sound_fold])

theorem State.startSilence_sound {s : State} (hs : s.Sound floor queue) :
    (State.startSilence s).Sound floor queue := by
  unfold State.startSilence
  (try dsimp -iota only)
  repeat' (first
    | with_reducible assumption
    | with_unfolding_none apply State.setFld_sound
    | with_unfolding_none apply State.silence_sound
    | with_unfolding_none apply State.sound_ite)

theorem State.discardHeld_sound {s : State} (d : Nat) (hs : s.Sound floor queue) :
    (State.discardHeld s d).Sound floor queue := by
  unfold State.discardHeld
  (try dsimp -iota only)
  repeat' (first
    | with_reducible assumption
    | with_unfolding_none apply State.dropGroup_sound
    | with_unfolding_none apply State.countD_sound
    | with_unfolding_none apply State.sound_ite
    | with_unfolding_none apply State.sound_foldl
    | simp -iota only [State.sound_mk, State.sound_fold])

theorem State.runEnd_sound {s : State} (d : Nat) (hs : s.Sound floor queue) :
    (State.runEnd s d).Sound floor queue := by
  unfold State.runEnd
  (try dsimp -iota only)
  repeat' (first
    | with_reducible assumption
    | with_unfolding_none apply State.discardHeld_sound
    | with_unfolding_none apply State.setRun_sound
    | with_unfolding_none apply State.applyBnd_sound
    | with_unfolding_none apply State.lower_sound
    | with_unfolding_none apply State.raise_sound
    | with_unfolding_none apply State.sound_ite
    | simp -iota only [State.sound_mk, State.sound_fold])

theorem State.captureRun_sound {s : State} (d : Nat) (hs : s.Sound floor queue) :
    (State.captureRun s d).Sound floor queue := by
  unfold State.captureRun
  (try dsimp -iota only)
  repeat' (first
    | with_reducible assumption
    | with_unfolding_none apply State.setFld_sound)

theorem State.runNew_sound {s : State} (d : Nat) (hs : s.Sound floor queue) :
    (State.runNew s d).Sound floor queue := by
  unfold State.runNew
  (try dsimp -iota only)
  repeat' (first
    | with_reducible assumption
    | with_unfolding_none apply State.setRun_sound
    | with_unfolding_none apply State.setSrc_sound
    | with_unfolding_none apply State.walkEntries_sound
    | with_unfolding_none apply State.beginWalk_sound
    | with_unfolding_none apply State.setReg_sound
    | with_unfolding_none apply State.raise_sound
    | with_unfolding_none apply State.setFld_sound
    | with_unfolding_none apply State.captureRun_sound
    | with_unfolding_none apply State.breach_sound
    | with_unfolding_none apply State.sound_ite
    | with_unfolding_none apply State.sound_foldl
    | (intro _ _ _; (try dsimp -iota only)))

theorem State.runGoOn_sound {s : State} (d : Nat) (hs : s.Sound floor queue) :
    (State.runGoOn s d).Sound floor queue := by
  unfold State.runGoOn
  (try dsimp -iota only)
  repeat' (first
    | with_reducible assumption
    | with_unfolding_none apply State.raise_sound
    | with_unfolding_none apply State.setRun_sound
    | with_unfolding_none apply State.breach_sound
    | with_unfolding_none apply State.sound_ite)

theorem State.runStart_sound {s : State} (d : Nat) (hs : s.Sound floor queue) :
    (State.runStart s d).Sound floor queue := by
  unfold State.runStart
  (try dsimp -iota only)
  repeat' (first
    | with_reducible assumption
    | with_unfolding_none apply State.runGoOn_sound
    | with_unfolding_none apply State.runNew_sound
    | with_unfolding_none apply State.sound_ite)

theorem State.sampleCand_sound {s : State} (ev : Ev) (hs : s.Sound floor queue) :
    (State.sampleCand s ev).2.Sound floor queue := by
  unfold State.sampleCand
  (try dsimp -iota only)
  repeat' (first
    | with_reducible assumption
    | with_unfolding_none apply State.bump_sound
    | with_unfolding_none apply State.sound_ite_snd
    | simp -iota only [State.sound_mk, State.sound_fold]
    | (split <;> (try dsimp -iota only)))

theorem State.sampleState_sound {s : State} (ev : Ev) (epoch : Nat) (coal : Bool) (hs : s.Sound floor queue) :
    (State.sampleState s ev epoch coal).Sound floor queue := by
  unfold State.sampleState
  (try dsimp -iota only)
  repeat' (first
    | with_reducible assumption
    | with_unfolding_none apply State.onSamples_sound)

theorem State.sampleMiss_sound {s : State} (ev : Ev) (hs : s.Sound floor queue) :
    (State.sampleMiss s ev).Sound floor queue := by
  unfold State.sampleMiss
  (try dsimp -iota only)
  repeat' (first
    | with_reducible assumption
    | with_unfolding_none apply State.onSamples_sound)

theorem State.recordEvent_sound {s : State} (ev : Ev) (hs : s.Sound floor queue) :
    (State.recordEvent s ev).Sound floor queue := by
  unfold State.recordEvent
  (try dsimp -iota only)
  repeat' (first
    | with_reducible assumption
    | with_unfolding_none apply State.putEntry_sound
    | with_unfolding_none apply State.bump_sound
    | with_unfolding_none apply State.countD_sound
    | with_unfolding_none apply State.sampleState_sound
    | with_unfolding_none apply State.noteStart_sound
    | with_unfolding_none apply State.offerFrom_sound
    | with_unfolding_none apply State.withdraw_sound
    | with_unfolding_none apply State.sound_ite)

theorem State.applyHere_sound {s : State} (ev : Ev) (hs : s.Sound floor queue) :
    (State.applyHere s ev).Sound floor queue := by
  unfold State.applyHere
  (try dsimp -iota only)
  repeat' (first
    | with_reducible assumption
    | with_unfolding_none apply State.countD_sound
    | with_unfolding_none apply State.dropEvent_sound
    | with_unfolding_none apply State.illegal_sound
    | with_unfolding_none apply State.cvnPlace_sound
    | with_unfolding_none apply State.sampleState_sound
    | with_unfolding_none apply State.recordEvent_sound
    | with_unfolding_none apply State.sound_ite
    | simp -iota only [State.sound_mk, State.sound_fold])

theorem State.sendEvent_sound {s : State} (pos : Nat) (ev : Ev) (hs : s.Sound floor queue) :
    (State.sendEvent s pos ev).Sound floor queue := by
  unfold State.sendEvent
  (try dsimp -iota only)
  repeat' (first
    | with_reducible assumption
    | with_unfolding_none apply State.originate_sound
    | with_unfolding_none apply State.countG_sound
    | with_unfolding_none apply State.caravanLost_sound
    | with_unfolding_none apply State.sound_ite)

theorem State.applyEvent_sound {s : State} (ev : Ev) (hs : s.Sound floor queue) :
    (State.applyEvent s ev).Sound floor queue := by
  unfold State.applyEvent
  (try dsimp -iota only)
  repeat' (first
    | with_reducible assumption
    | with_unfolding_none apply State.illegal_sound
    | with_unfolding_none apply State.dropEvent_sound
    | with_unfolding_none apply State.applyHere_sound
    | with_unfolding_none apply State.sendEvent_sound
    | with_unfolding_none apply State.sound_ite
    | simp -iota only [State.sound_mk, State.sound_fold]
    | (split <;> (try dsimp -iota only)))

theorem State.applySent_sound {s : State} (ev : Ev) (hs : s.Sound floor queue) :
    (State.applySent s ev).Sound floor queue := by
  unfold State.applySent
  (try dsimp -iota only)
  repeat' (first
    | with_reducible assumption
    | with_unfolding_none apply State.illegal_sound
    | with_unfolding_none apply State.dropEvent_sound
    | with_unfolding_none apply State.applyHere_sound
    | with_unfolding_none apply State.sound_ite)

theorem State.missEvent_sound {s : State} (ev : Ev) (sent : Bool) (hs : s.Sound floor queue) :
    (State.missEvent s ev sent).Sound floor queue := by
  unfold State.missEvent
  (try dsimp -iota only)
  repeat' (first
    | with_reducible assumption
    | with_unfolding_none apply State.sampleMiss_sound
    | with_unfolding_none apply State.join_sound
    | with_unfolding_none apply State.raise_sound
    | with_unfolding_none apply State.sound_ite
    | simp -iota only [State.sound_mk, State.sound_fold])

theorem State.tryEvent_sound {s : State} (ev : Ev) (sent : Bool) (ecc : Ecc) (hs : s.Sound floor queue) :
    (State.tryEvent s ev sent ecc).Sound floor queue := by
  unfold State.tryEvent
  (try dsimp -iota only)
  repeat' (first
    | with_reducible assumption
    | with_unfolding_none apply State.useLine_sound
    | with_unfolding_none apply State.missEvent_sound
    | with_unfolding_none apply State.entryEcc_sound
    | with_unfolding_none apply State.applySent_sound
    | with_unfolding_none apply State.applyEvent_sound
    | with_unfolding_none apply State.sound_ite)

theorem State.stageEvent_sound {s : State} (ev : Ev) (ecc : Ecc) (hs : s.Sound floor queue) :
    (State.stageEvent s ev ecc).Sound floor queue := by
  unfold State.stageEvent
  (try dsimp -iota only)
  repeat' (first
    | with_reducible assumption
    | with_unfolding_none apply State.sampleCand_sound
    | with_unfolding_none apply State.tryEvent_sound
    | with_unfolding_none apply State.sound_ite)

theorem State.retryStalled_sound {s : State} (hs : s.Sound floor queue) :
    (State.retryStalled s).Sound floor queue := by
  unfold State.retryStalled
  (try dsimp -iota only)
  repeat' (first
    | with_reducible assumption
    | with_unfolding_none apply State.tryEvent_sound
    | with_unfolding_none apply State.wmAll_sound
    | with_unfolding_none apply State.sound_foldl
    | simp -iota only [State.sound_mk, State.sound_fold]
    | (intro _ _ _; (try dsimp -iota only)))

theorem State.pumpHeldFaults_sound {s : State} (hs : s.Sound floor queue) :
    (State.pumpHeldFaults s).Sound floor queue := by
  unfold State.pumpHeldFaults
  (try dsimp -iota only)
  repeat' (first
    | with_reducible assumption
    | with_unfolding_none apply State.raise_sound
    | with_unfolding_none apply State.sound_ite
    | with_unfolding_none apply State.sound_foldl
    | simp -iota only [State.sound_mk, State.sound_fold]
    | (intro _ _ _; (try dsimp -iota only)))

theorem State.afterDone_sound {s : State} (eid : Nat) (hs : s.Sound floor queue) :
    (State.afterDone s eid).Sound floor queue := by
  unfold State.afterDone
  (try dsimp -iota only)
  repeat' (first
    | with_reducible assumption
    | with_unfolding_none apply State.offerFrom_sound
    | simp -iota only [State.sound_mk, State.sound_fold])

theorem State.stray_sound {s : State} (eid : Nat) (hs : s.Sound floor queue) :
    (State.stray s eid).Sound floor queue := by
  unfold State.stray
  (try dsimp -iota only)
  repeat' (first
    | with_reducible assumption
    | with_unfolding_none apply State.illegal_sound
    | with_unfolding_none apply State.countD_sound
    | (split <;> (try dsimp -iota only)))

theorem State.completeEntry_sound {s : State} (eid : Nat) (seq : Option Nat) (hs : s.Sound floor queue) :
    (State.completeEntry s eid seq).Sound floor queue := by
  unfold State.completeEntry
  (try dsimp -iota only)
  repeat' (first
    | with_reducible assumption
    | with_unfolding_none apply State.illegal_sound
    | with_unfolding_none apply State.stray_sound
    | with_unfolding_none apply State.putEntry_sound
    | with_unfolding_none apply State.countD_sound
    | with_unfolding_none apply State.onSamples_sound
    | with_unfolding_none apply State.noteStart_sound
    | with_unfolding_none apply State.afterDone_sound
    | with_unfolding_none apply State.sound_ite
    | simp -iota only [State.sound_mk, State.sound_fold]
    | (split <;> (try dsimp -iota only)))

theorem State.completeWait_sound {s : State} (eid : Nat) (seq : Option Nat) (hs : s.Sound floor queue) :
    (State.completeWait s eid seq).Sound floor queue := by
  unfold State.completeWait
  (try dsimp -iota only)
  repeat' (first
    | with_reducible assumption
    | with_unfolding_none apply State.join_sound
    | with_unfolding_none apply State.raise_sound
    | with_unfolding_none apply State.sound_ite
    | simp -iota only [State.sound_mk, State.sound_fold])

theorem State.completeAt_sound {s : State} (eid : Nat) (seq : Option Nat) (ecc : Ecc) (hs : s.Sound floor queue) :
    (State.completeAt s eid seq ecc).Sound floor queue := by
  unfold State.completeAt
  (try dsimp -iota only)
  repeat' (first
    | with_reducible assumption
    | with_unfolding_none apply State.useLine_sound
    | with_unfolding_none apply State.completeWait_sound
    | with_unfolding_none apply State.entryEcc_sound
    | with_unfolding_none apply State.completeEntry_sound
    | with_unfolding_none apply State.sound_ite)

theorem State.retryComps_sound {s : State} (hs : s.Sound floor queue) :
    (State.retryComps s).Sound floor queue := by
  unfold State.retryComps
  (try dsimp -iota only)
  repeat' (first
    | with_reducible assumption
    | with_unfolding_none apply State.completeAt_sound
    | with_unfolding_none apply State.sound_foldl
    | simp -iota only [State.sound_mk, State.sound_fold]
    | (intro _ _ _; (try dsimp -iota only)))

theorem State.holdBack_sound {s : State} (r : Release) (hs : s.Sound floor queue) :
    (State.holdBack s r).Sound floor queue := by
  unfold State.holdBack
  (try dsimp -iota only)
  repeat' (first
    | with_reducible assumption
    | simp -iota only [State.sound_mk, State.sound_fold])

theorem State.refuse_sound {s : State} (r : Release) (hs : s.Sound floor queue) :
    (State.refuse s r).Sound floor queue := by
  unfold State.refuse
  (try dsimp -iota only)
  repeat' (first
    | with_reducible assumption
    | with_unfolding_none apply State.countD_sound
    | with_unfolding_none apply State.holdBack_sound
    | with_unfolding_none apply State.sound_ite
    | simp -iota only [State.sound_mk, State.sound_fold])

theorem State.sampleRel_sound {s : State} (g : Group) (hs : s.Sound floor queue) :
    (State.sampleRel s g).Sound floor queue := by
  unfold State.sampleRel
  (try dsimp -iota only)
  repeat' (first
    | with_reducible assumption
    | with_unfolding_none apply State.onSamples_sound)

theorem State.sampleRelMiss_sound {s : State} (g : Group) (hs : s.Sound floor queue) :
    (State.sampleRelMiss s g).Sound floor queue := by
  unfold State.sampleRelMiss
  (try dsimp -iota only)
  repeat' (first
    | with_reducible assumption
    | with_unfolding_none apply State.onSamples_sound)

theorem State.relWrite_sound {s : State} (g : Group) (hs : s.Sound floor queue) :
    (State.relWrite s g).Sound floor queue := by
  unfold State.relWrite
  (try dsimp -iota only)
  repeat' (first
    | with_reducible assumption
    | with_unfolding_none apply State.setCached_sound
    | with_unfolding_none apply State.countD_sound
    | with_unfolding_none apply State.noteStart_sound
    | with_unfolding_none apply State.sampleRel_sound
    | with_unfolding_none apply State.sound_ite
    | simp -iota only [State.sound_mk, State.sound_fold])

theorem State.relEnter_sound {s : State} (r : Release) (hs : s.Sound floor queue) :
    (State.relEnter s r).2.Sound floor queue := by
  unfold State.relEnter
  (try dsimp -iota only)
  repeat' (first
    | with_reducible assumption
    | with_unfolding_none apply State.illegal_sound
    | with_unfolding_none apply State.dropGroup_sound
    | with_unfolding_none apply State.countD_sound
    | with_unfolding_none apply State.setCached_sound
    | with_unfolding_none apply State.relWrite_sound
    | with_unfolding_none apply State.raise_sound
    | with_unfolding_none apply State.placeOffer_sound
    | with_unfolding_none apply State.faultLog_sound
    | with_unfolding_none apply State.faultPut_sound
    | with_unfolding_none apply State.sound_ite
    | with_unfolding_none apply State.sound_ite_snd
    | simp -iota only [State.sound_mk, State.sound_fold]
    | (split <;> (try dsimp -iota only)))

theorem State.relTry_sound {s : State} (r : Release) (ecc : Ecc) (hs : s.Sound floor queue) :
    (State.relTry s r ecc).Sound floor queue := by
  unfold State.relTry
  (try dsimp -iota only)
  repeat' (first
    | with_reducible assumption
    | with_unfolding_none apply State.holdBack_sound
    | with_unfolding_none apply State.useLine_sound
    | with_unfolding_none apply State.sampleRelMiss_sound
    | with_unfolding_none apply State.join_sound
    | with_unfolding_none apply State.raise_sound
    | with_unfolding_none apply State.entryEcc_sound
    | with_unfolding_none apply State.relEnter_sound
    | with_unfolding_none apply State.refuse_sound
    | with_unfolding_none apply State.sound_ite)

theorem State.holdEcc_sound {s : State} (g : Group) (ecc : Ecc) (hs : s.Sound floor queue) :
    (State.holdEcc s g ecc).2.Sound floor queue := by
  unfold State.holdEcc
  (try dsimp -iota only)
  repeat' (first
    | with_reducible assumption
    | with_unfolding_none apply State.error_sound
    | with_unfolding_none apply State.dropGroup_sound
    | simp -iota only [State.sound_mk, State.sound_fold]
    | (split <;> (try dsimp -iota only)))

theorem State.releaseOne_sound {s : State} (ecc : Ecc) (hs : s.Sound floor queue) :
    (State.releaseOne s ecc).Sound floor queue := by
  unfold State.releaseOne
  (try dsimp -iota only)
  repeat' (first
    | with_reducible assumption
    | with_unfolding_none apply State.holdEcc_sound
    | with_unfolding_none apply State.relTry_sound
    | with_unfolding_none apply State.sound_ite
    | simp -iota only [State.sound_mk, State.sound_fold]
    | (split <;> (try dsimp -iota only)))

theorem State.releaseTwo_sound {s : State} (ecc : Ecc) (hs : s.Sound floor queue) :
    (State.releaseTwo s ecc).Sound floor queue := by
  unfold State.releaseTwo
  (try dsimp -iota only)
  repeat' (first
    | with_reducible assumption
    | with_unfolding_none apply State.releaseOne_sound
    | with_unfolding_none apply State.sound_ite
    | simp -iota only [State.sound_mk, State.sound_fold])

theorem State.releaseRetry_sound {s : State} (ecc : Ecc) (hs : s.Sound floor queue) :
    (State.releaseRetry s ecc).Sound floor queue := by
  unfold State.releaseRetry
  (try dsimp -iota only)
  repeat' (first
    | with_reducible assumption
    | with_unfolding_none apply State.relTry_sound
    | with_unfolding_none apply State.sound_ite
    | with_unfolding_none apply State.sound_foldl
    | simp -iota only [State.sound_mk, State.sound_fold]
    | (intro _ _ _; (try dsimp -iota only))
    | (split <;> (try dsimp -iota only)))

theorem State.applyInput_sound {s : State} (i : MissInput) (hs : s.Sound floor queue) :
    (State.applyInput s i).Sound floor queue := by
  unfold State.applyInput
  (try dsimp -iota only)
  repeat' (first
    | with_reducible assumption
    | with_unfolding_none apply State.applySent_sound
    | with_unfolding_none apply State.applyEvent_sound
    | with_unfolding_none apply State.completeEntry_sound
    | with_unfolding_none apply State.relEnter_sound
    | with_unfolding_none apply State.refuse_sound
    | with_unfolding_none apply State.resumeCmd_sound
    | with_unfolding_none apply State.sound_ite
    | simp -iota only [State.sound_mk, State.sound_fold]
    | (split <;> (try dsimp -iota only)))

theorem State.poisonLine_sound {s : State} (n : Nat) (hs : s.Sound floor queue) :
    (State.poisonLine s n).Sound floor queue := by
  unfold State.poisonLine
  (try dsimp -iota only)
  repeat' (first
    | with_reducible assumption
    | with_unfolding_none apply State.poisonEntry_sound
    | with_unfolding_none apply State.error_sound
    | with_unfolding_none apply State.sound_foldl
    | (intro _ _ _; (try dsimp -iota only)))

theorem State.applyInputs_sound {s : State} (n : Nat) (l : List MissInput) (ecc : Ecc) (hs : s.Sound floor queue) :
    (State.applyInputs s n l ecc).Sound floor queue := by
  unfold State.applyInputs
  (try dsimp -iota only)
  repeat' (first
    | with_reducible assumption
    | with_unfolding_none apply State.entryEcc_sound
    | with_unfolding_none apply State.applyInput_sound
    | with_unfolding_none apply State.join_sound
    | with_unfolding_none apply State.wmAll_sound
    | with_unfolding_none apply State.joinAll_sound
    | with_unfolding_none apply State.sound_ite
    | with_unfolding_none apply State.sound_foldl
    | (intro _ _ _; (try dsimp -iota only)))

theorem State.landMiss_sound {s : State} (n : Nat) (ecc : Ecc) (hs : s.Sound floor queue) :
    (State.landMiss s n ecc).Sound floor queue := by
  unfold State.landMiss
  split
  · exact hs
  · split
    · exact hs
    · rename_i h
      have h1 := State.install_sound _ _ _ hs (Option.eq_some_of_filter_eq_some h)
      have h2 := State.sound_mk (floor := floor) (queue := queue)
      apply State.applyInputs_sound
      split
      · exact State.poisonLine_sound _ (by simp only [State.sound_mk, State.sound_fold]; exact h1)
      · simp only [State.sound_mk, State.sound_fold]; exact h1

theorem State.serveMiss_sound {s : State} (n : Nat) (hs : s.Sound floor queue) :
    (State.serveMiss s n).Sound floor queue := by
  unfold State.serveMiss
  (try dsimp -iota only)
  repeat' (first
    | with_reducible assumption
    | with_unfolding_none apply State.access_sound
    | with_unfolding_none apply State.applyInputs_sound
    | with_unfolding_none apply State.sound_ite
    | simp -iota only [State.sound_mk, State.sound_fold]
    | (split <;> (try dsimp -iota only)))

theorem State.pumpMisses_sound {s : State} (hs : s.Sound floor queue) :
    (State.pumpMisses s).Sound floor queue := by
  unfold State.pumpMisses
  (try dsimp -iota only)
  repeat' (first
    | with_reducible assumption
    | with_unfolding_none apply State.landMiss_sound
    | with_unfolding_none apply State.serveMiss_sound
    | with_unfolding_none apply State.askFills_sound
    | with_unfolding_none apply State.sound_foldl
    | (intro _ _ _; (try dsimp -iota only)))

theorem State.fill_sound {s : State} (n : Nat) (poison : Bool) (ecc : Ecc) (hs : s.Sound floor queue) :
    (State.fill s n poison ecc).Sound floor queue := by
  unfold State.fill
  (try dsimp -iota only)
  repeat' (first
    | with_reducible assumption
    | with_unfolding_none apply State.freeDepTag_sound
    | with_unfolding_none apply State.probe_sound
    | with_unfolding_none apply State.landMiss_sound
    | with_unfolding_none apply State.askFills_sound
    | simp -iota only [State.sound_mk, State.sound_fold]
    | (split <;> (try dsimp -iota only)))

theorem State.markSave_sound {s : State} (hs : s.Sound floor queue) {rt : State}
    (ht : State.markSave s = some rt) : rt.Sound floor queue := by
  unfold State.markSave at ht
  split at ht
  · cases ht; exact hs
  · refine State.sound_map ht (fun r h => ?_)
    simp only [State.sound_mk, State.sound_fold]
    exact State.depWrite_sound _ _ _ hs h

theorem State.writeBack_sound {s : State} (n : Nat) (es : List Entry) (hs : s.Sound floor queue) {v : Nat} {t : State}
    (ht : State.writeBack s n es = some (v, t)) : t.Sound floor queue := by
  unfold State.writeBack at ht
  rw [Option.bind_eq_some_iff] at ht
  obtain ⟨u, hu, hq⟩ := ht
  rw [Option.map_eq_some_iff] at hq
  obtain ⟨p, h, hq⟩ := hq
  cases hq
  exact State.countG_sound _ _ (State.setBackingLine_sound _ _ (State.depReq_sound _ _ _ _ (State.markSave_sound hs hu) h))

theorem State.writeVictim_sound {s : State} (hs : s.Sound floor queue) :
    (State.writeVictim s).Sound floor queue := by
  unfold State.writeVictim
  (try dsimp -iota only)
  repeat' (first
    | with_reducible assumption
    | with_unfolding_none apply State.sound_ite
    | simp -iota only [State.sound_mk, State.sound_fold]
    | apply State.writeBack_sound (ht := by assumption)
    | (split <;> (try dsimp -iota only)))

theorem State.pumpFlush_sound (x0 : Nat) {x1 : State} (hx1 : x1.Sound floor queue) :
    (State.pumpFlush x0 x1).Sound floor queue := by
  induction x0 generalizing x1 with
  | zero =>
    unfold State.pumpFlush
    (try dsimp -iota only)
    repeat' (with_reducible assumption)
  | succ m ih =>
    unfold State.pumpFlush
    (try dsimp -iota only)
    repeat' (first
      | with_reducible assumption
      | with_unfolding_none apply ih
      | with_unfolding_none apply State.raise_sound
      | with_unfolding_none apply State.sound_ite
      | simp -iota only [State.sound_mk, State.sound_fold]
      | apply State.writeBack_sound (ht := by assumption)
      | (split <;> (try dsimp -iota only)))

theorem State.runFlush_sound {s : State} (hs : s.Sound floor queue) :
    (State.runFlush s).Sound floor queue := by
  unfold State.runFlush
  (try dsimp -iota only)
  repeat' (first
    | with_reducible assumption
    | with_unfolding_none apply State.pumpFlush_sound)

theorem State.flushCache_sound {s : State} (hs : s.Sound floor queue) :
    (State.flushCache s).Sound floor queue := by
  unfold State.flushCache
  (try dsimp -iota only)
  repeat' (first
    | with_reducible assumption
    | with_unfolding_none apply State.runFlush_sound
    | simp -iota only [State.sound_mk, State.sound_fold])

theorem State.wbAck_sound {s : State} (t : Nat) (hs : s.Sound floor queue) :
    (State.wbAck s t).Sound floor queue := by
  unfold State.wbAck
  (try dsimp -iota only)
  repeat' (first
    | with_reducible assumption
    | with_unfolding_none apply State.freeDepTag_sound
    | with_unfolding_none apply State.runFlush_sound
    | with_unfolding_none apply State.pumpMisses_sound
    | simp -iota only [State.sound_mk, State.sound_fold])

theorem State.scrubLine_sound {s : State} (ecc : Ecc) (hs : s.Sound floor queue) :
    (State.scrubLine s ecc).Sound floor queue := by
  unfold State.scrubLine
  (try dsimp -iota only)
  repeat' (first
    | with_reducible assumption
    | with_unfolding_none apply State.entryEcc_sound
    | with_unfolding_none apply State.joinAll_sound
    | with_unfolding_none apply State.raise_sound
    | with_unfolding_none apply State.sound_ite
    | simp -iota only [State.sound_mk, State.sound_fold]
    | (split <;> (try dsimp -iota only)))

theorem State.initDone_sound {s : State} (hs : s.Sound floor queue) : (State.initDone s).Sound floor queue := by
  unfold State.initDone
  split
  · exact hs
  · exact State.askFills_sound (State.raise_sound (s := { s with dep := { s.dep with backing := [] } }) _ _
      ⟨hs.1, hs.2.1, rfl, hs.2.2.2⟩)

theorem State.dropHead_sound {s : State} (h : Head) (hs : s.Sound floor queue) :
    (State.dropHead s h).Sound floor queue := by
  unfold State.dropHead
  (try dsimp -iota only)
  repeat' (first
    | with_reducible assumption
    | simp -iota only [State.sound_mk, State.sound_fold])

theorem State.putHead_sound {s : State} (h : Head) (hs : s.Sound floor queue) :
    (State.putHead s h).Sound floor queue := by
  unfold State.putHead
  (try dsimp -iota only)
  repeat' (first
    | with_reducible assumption
    | with_unfolding_none apply State.sound_ite
    | simp -iota only [State.sound_mk, State.sound_fold])

theorem State.tailHead_sound {s : State} (h : Head) (hs : s.Sound floor queue) :
    (State.tailHead s h).Sound floor queue := by
  unfold State.tailHead
  (try dsimp -iota only)
  repeat' (first
    | with_reducible assumption
    | simp -iota only [State.sound_mk, State.sound_fold])

theorem State.enterStage_sound {s : State} (h : Head) (st : Stage) (hs : s.Sound floor queue) :
    (State.enterStage s h st).Sound floor queue := by
  unfold State.enterStage
  (try dsimp -iota only)
  repeat' (first
    | with_reducible assumption
    | with_unfolding_none apply State.tailHead_sound)

theorem State.rerouteHead_sound {s : State} (h : Head) (hs : s.Sound floor queue) :
    (State.rerouteHead s h).Sound floor queue := by
  unfold State.rerouteHead
  (try dsimp -iota only)
  repeat' (first
    | with_reducible assumption
    | with_unfolding_none apply State.dropHead_sound
    | with_unfolding_none apply State.queueOffer_sound)

theorem State.faultHead_sound {s : State} (h : Head) (code : Nat) (hs : s.Sound floor queue) :
    (State.faultHead s h code).Sound floor queue := by
  unfold State.faultHead
  (try dsimp -iota only)
  repeat' (first
    | with_reducible assumption
    | with_unfolding_none apply State.dropHead_sound
    | with_unfolding_none apply State.faultLog_sound
    | with_unfolding_none apply State.raise_sound
    | with_unfolding_none apply State.enterStage_sound
    | with_unfolding_none apply State.sound_ite
    | simp -iota only [State.sound_mk, State.sound_fold])

theorem State.pumpRte_sound {s : State} (hs : s.Sound floor queue) :
    (State.pumpRte s).Sound floor queue := by
  unfold State.pumpRte
  (try dsimp -iota only)
  repeat' (first
    | with_reducible assumption
    | with_unfolding_none apply State.faultHead_sound
    | with_unfolding_none apply State.sound_ite
    | with_unfolding_none apply State.sound_foldl
    | (intro _ _ _; (try dsimp -iota only))
    | (split <;> (try dsimp -iota only)))

theorem State.routeHead_sound {s : State} (h : Head) (hs : s.Sound floor queue) :
    (State.routeHead s h).2.Sound floor queue := by
  unfold State.routeHead
  (try dsimp -iota only)
  repeat' (first
    | with_reducible assumption
    | with_unfolding_none apply State.rerouteHead_sound
    | with_unfolding_none apply State.faultHead_sound
    | with_unfolding_none apply State.sound_ite_snd
    | simp -iota only [State.sound_mk, State.sound_fold]
    | (split <;> (try dsimp -iota only)))

theorem State.dropTarget_sound {s : State} (t : Nat) (hs : s.Sound floor queue) :
    (State.dropTarget s t).Sound floor queue := by
  unfold State.dropTarget
  (try dsimp -iota only)
  repeat' (first
    | with_reducible assumption
    | with_unfolding_none apply State.routeHead_sound
    | with_unfolding_none apply State.sound_foldl
    | (intro _ _ _; (try dsimp -iota only))
    | (split <;> (try dsimp -iota only)))

theorem State.setPi_sound {s : State} (v : Nat) (x2 : Option Nat) (hs : s.Sound floor queue) :
    (State.setPi s v x2).Sound floor queue := by
  unfold State.setPi
  (try dsimp -iota only)
  repeat' (first
    | with_reducible assumption
    | with_unfolding_none apply State.setFld_sound
    | (split <;> (try dsimp -iota only)))

theorem State.setCi_sound {s : State} (v : Nat) (x2 : Option Nat) (hs : s.Sound floor queue) :
    (State.setCi s v x2).Sound floor queue := by
  unfold State.setCi
  (try dsimp -iota only)
  repeat' (first
    | with_reducible assumption
    | with_unfolding_none apply State.setFld_sound
    | (split <;> (try dsimp -iota only)))

theorem State.setArm_sound {s : State} (v : Bool) (x2 : Option Nat) (hs : s.Sound floor queue) :
    (State.setArm s v x2).Sound floor queue := by
  unfold State.setArm
  (try dsimp -iota only)
  repeat' (first
    | with_reducible assumption
    | with_unfolding_none apply State.setFld_sound
    | (split <;> (try dsimp -iota only)))

theorem State.clearPtrs_sound {s : State} (r : Option Nat) (hs : s.Sound floor queue) :
    (State.clearPtrs s r).Sound floor queue := by
  unfold State.clearPtrs
  (try dsimp -iota only)
  repeat' (first
    | with_reducible assumption
    | with_unfolding_none apply State.setPi_sound
    | with_unfolding_none apply State.setCi_sound
    | with_unfolding_none apply State.setArm_sound)

theorem State.writeEntry_sound {s : State} (r : Option Nat) (dom : Nat) (data : Rec) (hs : s.Sound floor queue) :
    (State.writeEntry s r dom data).Sound floor queue := by
  unfold State.writeEntry
  (try dsimp -iota only)
  repeat' (first
    | with_reducible assumption
    | with_unfolding_none apply State.issueWrite_sound
    | with_unfolding_none apply State.countG_sound
    | with_unfolding_none apply State.setPi_sound
    | with_unfolding_none apply State.setArm_sound
    | with_unfolding_none apply State.sound_ite)

theorem State.issueProbes_sound {s : State} (h : Head) (hs : s.Sound floor queue) :
    (State.issueProbes s h).Sound floor queue := by
  unfold State.issueProbes
  (try dsimp -iota only)
  repeat' (first
    | with_reducible assumption
    | with_unfolding_none apply State.probe_sound)

theorem State.countEntry_sound {s : State} (t : Nat) (hs : s.Sound floor queue) :
    (State.countEntry s t).Sound floor queue := by
  unfold State.countEntry
  (try dsimp -iota only)
  repeat' (first
    | with_reducible assumption
    | with_unfolding_none apply State.countGrp_sound
    | (split <;> (try dsimp -iota only)))

theorem State.countIssue_sound {s : State} (h : Head) (hs : s.Sound floor queue) :
    (State.countIssue s h).Sound floor queue := by
  unfold State.countIssue
  (try dsimp -iota only)
  repeat' (first
    | with_reducible assumption
    | with_unfolding_none apply State.countD_sound
    | with_unfolding_none apply State.countEntry_sound)

theorem State.sampleIssue_sound {s : State} (eid : Nat) (tag : Nat) (dest : Option (Nat × Nat)) (hs : s.Sound floor queue) :
    (State.sampleIssue s eid tag dest).Sound floor queue := by
  unfold State.sampleIssue
  (try dsimp -iota only)
  repeat' (first
    | with_reducible assumption
    | with_unfolding_none apply State.onSample_sound)

theorem State.journalAfter_sound {s : State} (h : Head) (data : Rec) (hs : s.Sound floor queue) :
    (State.journalAfter s h data).Sound floor queue := by
  unfold State.journalAfter
  (try dsimp -iota only)
  repeat' (first
    | with_reducible assumption
    | with_unfolding_none apply State.jOffer_sound
    | with_unfolding_none apply State.jLose_sound
    | with_unfolding_none apply State.sound_ite)

theorem State.issueLive_sound {s : State} (h : Head) (hs : s.Sound floor queue) :
    (State.issueLive s h).Sound floor queue := by
  unfold State.issueLive
  (try dsimp -iota only)
  repeat' (first
    | with_reducible assumption
    | with_unfolding_none apply State.dropHead_sound
    | with_unfolding_none apply State.putEntry_sound
    | with_unfolding_none apply State.sampleIssue_sound
    | with_unfolding_none apply State.writeEntry_sound
    | with_unfolding_none apply State.mirrorDeliv_sound
    | with_unfolding_none apply State.countIssue_sound
    | with_unfolding_none apply State.issueProbes_sound
    | with_unfolding_none apply State.journalAfter_sound
    | simp -iota only [State.sound_mk, State.sound_fold])

theorem State.issueReplay_sound {s : State} (h : Head) (r : Rec) (hs : s.Sound floor queue) :
    (State.issueReplay s h r).Sound floor queue := by
  unfold State.issueReplay
  (try dsimp -iota only)
  repeat' (first
    | with_reducible assumption
    | with_unfolding_none apply State.dropHead_sound
    | with_unfolding_none apply State.writeEntry_sound
    | with_unfolding_none apply State.mirrorDeliv_sound
    | with_unfolding_none apply State.countIssue_sound
    | with_unfolding_none apply State.issueProbes_sound
    | simp -iota only [State.sound_mk, State.sound_fold])

theorem State.issueRedeliv_sound {s : State} (h : Head) (r : Rec) (hs : s.Sound floor queue) :
    (State.issueRedeliv s h r).Sound floor queue := by
  unfold State.issueRedeliv
  (try dsimp -iota only)
  repeat' (first
    | with_reducible assumption
    | with_unfolding_none apply State.dropHead_sound
    | with_unfolding_none apply State.writeEntry_sound
    | with_unfolding_none apply State.raise_sound
    | with_unfolding_none apply State.countD_sound
    | with_unfolding_none apply State.countEntry_sound
    | simp -iota only [State.sound_mk, State.sound_fold])

theorem State.park_sound {s : State} (h : Head) (c : ParkCause) (hs : s.Sound floor queue) :
    (State.park s h c).Sound floor queue := by
  unfold State.park
  (try dsimp -iota only)
  repeat' (first
    | with_reducible assumption
    | with_unfolding_none apply State.raise_sound
    | with_unfolding_none apply State.countD_sound
    | with_unfolding_none apply State.enterStage_sound
    | (split <;> (try dsimp -iota only)))

theorem State.journalFirst_sound {s : State} (h : Head) (hs : s.Sound floor queue) :
    (State.journalFirst s h).2.2.Sound floor queue := by
  unfold State.journalFirst
  (try dsimp -iota only)
  repeat' (first
    | with_reducible assumption
    | with_unfolding_none apply State.jOffer_sound
    | with_unfolding_none apply State.sound_ite_snd2
    | (with_unfolding_none apply State.sound_snd (by assumption))
    | (split <;> (try dsimp -iota only)))

theorem State.issueIllegal_sound {s : State} (h : Head) (hs : s.Sound floor queue) :
    (State.issueIllegal s h).Sound floor queue := by
  unfold State.issueIllegal
  (try dsimp -iota only)
  repeat' (first
    | with_reducible assumption
    | with_unfolding_none apply State.dropHead_sound
    | with_unfolding_none apply State.illegal_sound
    | with_unfolding_none apply State.error_sound)

theorem State.missHead_sound {s : State} (h : Head) (hs : s.Sound floor queue) :
    (State.missHead s h).Sound floor queue := by
  unfold State.missHead
  (try dsimp -iota only)
  repeat' (first
    | with_reducible assumption
    | with_unfolding_none apply State.park_sound
    | with_unfolding_none apply State.join_sound
    | with_unfolding_none apply State.raise_sound
    | with_unfolding_none apply State.sound_ite)

theorem State.askHeads_sound {s : State} (hs : s.Sound floor queue) :
    (State.askHeads s).Sound floor queue := by
  unfold State.askHeads
  (try dsimp -iota only)
  repeat' (first
    | with_reducible assumption
    | with_unfolding_none apply State.useLine_sound
    | with_unfolding_none apply State.putHead_sound
    | with_unfolding_none apply State.join_sound
    | with_unfolding_none apply State.sound_ite
    | with_unfolding_none apply State.sound_foldl
    | (intro _ _ _; (try dsimp -iota only)))

theorem State.issueHead_sound {s : State} (h : Head) (ecc : Ecc) (hs : s.Sound floor queue) :
    (State.issueHead s h ecc).Sound floor queue := by
  unfold State.issueHead
  (try dsimp -iota only)
  repeat' (first
    | with_reducible assumption
    | with_unfolding_none apply State.issueReplay_sound
    | with_unfolding_none apply State.issueRedeliv_sound
    | with_unfolding_none apply State.entryEcc_sound
    | with_unfolding_none apply State.missHead_sound
    | with_unfolding_none apply State.issueIllegal_sound
    | with_unfolding_none apply State.issueLive_sound
    | with_unfolding_none apply State.sound_ite
    | (split <;> (try dsimp -iota only)))

theorem State.stallHead_sound {s : State} (h : Head) (first : Bool) (hs : s.Sound floor queue) :
    (State.stallHead s h first).Sound floor queue := by
  unfold State.stallHead
  (try dsimp -iota only)
  repeat' (first
    | with_reducible assumption
    | with_unfolding_none apply State.putHead_sound
    | with_unfolding_none apply State.enterStage_sound
    | with_unfolding_none apply State.sound_ite)

theorem State.engineAt_sound {s : State} (h : Head) (ecc : Ecc) (first : Bool) (hs : s.Sound floor queue) :
    (State.engineAt s h ecc first).Sound floor queue := by
  unfold State.engineAt
  (try dsimp -iota only)
  repeat' (first
    | with_reducible assumption
    | with_unfolding_none apply State.putHead_sound
    | with_unfolding_none apply State.park_sound
    | with_unfolding_none apply State.journalFirst_sound
    | with_unfolding_none apply State.useLine_sound
    | with_unfolding_none apply State.missHead_sound
    | with_unfolding_none apply State.stallHead_sound
    | with_unfolding_none apply State.raise_sound
    | with_unfolding_none apply State.issueHead_sound
    | with_unfolding_none apply State.sound_ite
    | with_unfolding_none apply State.sound_ite_snd
    | simp -iota only [State.sound_mk, State.sound_fold]
    | (split <;> (try dsimp -iota only)))

theorem State.engine_sound {s : State} (h : Head) (ecc : Ecc) (hs : s.Sound floor queue) :
    (State.engine s h ecc).Sound floor queue := by
  unfold State.engine
  (try dsimp -iota only)
  repeat' (first
    | with_reducible assumption
    | with_unfolding_none apply State.engineAt_sound)

theorem State.pumpPlace_sound (x0 : Nat) {x1 : State} (hx1 : x1.Sound floor queue) :
    (State.pumpPlace x0 x1).Sound floor queue := by
  induction x0 generalizing x1 with
  | zero =>
    unfold State.pumpPlace
    (try dsimp -iota only)
    repeat' (with_reducible assumption)
  | succ m ih =>
    unfold State.pumpPlace
    (try dsimp -iota only)
    repeat' (first
      | with_reducible assumption
      | with_unfolding_none apply ih
      | with_unfolding_none apply State.engineAt_sound
      | with_unfolding_none apply State.sound_ite
      | (split <;> (try dsimp -iota only)))

theorem State.pumpHeads_sound {s : State} (hs : s.Sound floor queue) :
    (State.pumpHeads s).Sound floor queue := by
  unfold State.pumpHeads
  (try dsimp -iota only)
  repeat' (first
    | with_reducible assumption
    | with_unfolding_none apply State.pumpPlace_sound)

theorem State.sampleFault_sound {s : State} (eid : Nat) (hs : s.Sound floor queue) :
    (State.sampleFault s eid).Sound floor queue := by
  unfold State.sampleFault
  (try dsimp -iota only)
  repeat' (first
    | with_reducible assumption
    | with_unfolding_none apply State.onSample_sound)

theorem State.issueFault_sound {s : State} (x : FaultItem) (ecc : Ecc) (hs : s.Sound floor queue) :
    (State.issueFault s x ecc).Sound floor queue := by
  unfold State.issueFault
  (try dsimp -iota only)
  repeat' (first
    | with_reducible assumption
    | with_unfolding_none apply State.mirrorDeliv_sound
    | with_unfolding_none apply State.pumpRte_sound
    | with_unfolding_none apply State.writeEntry_sound
    | with_unfolding_none apply State.useLine_sound
    | with_unfolding_none apply State.join_sound
    | with_unfolding_none apply State.entryEcc_sound
    | with_unfolding_none apply State.illegal_sound
    | with_unfolding_none apply State.error_sound
    | with_unfolding_none apply State.sampleFault_sound
    | with_unfolding_none apply State.putEntry_sound
    | with_unfolding_none apply State.sampleIssue_sound
    | with_unfolding_none apply State.sound_ite
    | simp -iota only [State.sound_mk, State.sound_fold]
    | (split <;> (try dsimp -iota only)))

theorem State.faultDelivery_sound {s : State} (ecc : Ecc) (hs : s.Sound floor queue) :
    (State.faultDelivery s ecc).Sound floor queue := by
  unfold State.faultDelivery
  (try dsimp -iota only)
  repeat' (first
    | with_reducible assumption
    | with_unfolding_none apply State.raise_sound
    | with_unfolding_none apply State.writeEntry_sound
    | with_unfolding_none apply State.countD_sound
    | with_unfolding_none apply State.vfStatus_sound
    | with_unfolding_none apply State.issueFault_sound
    | with_unfolding_none apply State.sound_ite
    | simp -iota only [State.sound_mk, State.sound_fold]
    | (split <;> (try dsimp -iota only)))

theorem State.flrAck_sound {s : State} (w : EgrWrite) (hs : s.Sound floor queue) :
    (State.flrAck s w).Sound floor queue := by
  unfold State.flrAck
  (try dsimp -iota only)
  repeat' (first
    | with_reducible assumption
    | with_unfolding_none apply State.bump_sound
    | with_unfolding_none apply State.sound_ite
    | simp -iota only [State.sound_mk, State.sound_fold]
    | (split <;> (try dsimp -iota only)))

theorem State.ackGood_sound {s : State} (w : EgrWrite) (hs : s.Sound floor queue) :
    (State.ackGood s w).Sound floor queue := by
  unfold State.ackGood
  (try dsimp -iota only)
  repeat' (first
    | with_reducible assumption
    | with_unfolding_none apply State.flrAck_sound
    | with_unfolding_none apply State.probe_sound
    | with_unfolding_none apply State.onSamples_sound
    | with_unfolding_none apply State.pumpWrites_sound
    | with_unfolding_none apply State.pumpHeads_sound
    | with_unfolding_none apply State.sound_ite
    | simp -iota only [State.sound_mk, State.sound_fold]
    | (split <;> (try dsimp -iota only)))

theorem State.ackBad_sound {s : State} (w : EgrWrite) (hs : s.Sound floor queue) :
    (State.ackBad s w).Sound floor queue := by
  unfold State.ackBad
  (try dsimp -iota only)
  repeat' (first
    | with_reducible assumption
    | with_unfolding_none apply State.setReg_sound
    | with_unfolding_none apply State.raise_sound
    | with_unfolding_none apply State.error_sound
    | simp -iota only [State.sound_mk, State.sound_fold])

theorem State.egressAck_sound {s : State} (tag : Nat) (st : Nat) (hs : s.Sound floor queue) :
    (State.egressAck s tag st).Sound floor queue := by
  unfold State.egressAck
  (try dsimp -iota only)
  repeat' (first
    | with_reducible assumption
    | with_unfolding_none apply State.raise_sound
    | with_unfolding_none apply State.ackGood_sound
    | with_unfolding_none apply State.ackBad_sound
    | with_unfolding_none apply State.sound_ite
    | (split <;> (try dsimp -iota only)))

theorem State.resumePort_sound {s : State} (p : Nat) (hs : s.Sound floor queue) :
    (State.resumePort s p).Sound floor queue := by
  unfold State.resumePort
  (try dsimp -iota only)
  repeat' (first
    | with_reducible assumption
    | with_unfolding_none apply State.setReg_sound
    | with_unfolding_none apply State.pumpWrites_sound
    | simp -iota only [State.sound_mk, State.sound_fold])

theorem State.beatTaken_sound {s : State} (hs : s.Sound floor queue) :
    (State.beatTaken s).Sound floor queue := by
  unfold State.beatTaken
  (try dsimp -iota only)
  repeat' (first
    | with_reducible assumption
    | with_unfolding_none apply State.traffic_sound
    | with_unfolding_none apply State.pumpWrites_sound
    | with_unfolding_none apply State.pumpHeads_sound
    | with_unfolding_none apply State.sound_ite
    | with_unfolding_none apply State.sound_foldl
    | simp -iota only [State.sound_mk, State.sound_fold]
    | (intro _ _ _; (try dsimp -iota only)))

end Sys2Proof.Machine
end

