-- ==== Sys2Proof/Laws/SoundFlow.lean ====
section
/-! SUPPORT. The gate, the shaper, completion, policing, intake, replay, the virtual functions, the loader and Chetal keep `State.Sound`. -/

set_option linter.all false
set_option linter.unreachableTactic false
set_option linter.unusedTactic false

namespace Sys2Proof.Machine

variable {floor : Nat} {queue : List Instr}

theorem State.atGate_sound {s : State} (h : Head) (st : Stage) (hs : s.Sound floor queue) :
    (State.atGate s h st).Sound floor queue := by
  unfold State.atGate
  (try dsimp -iota only)
  repeat' (first
    | with_reducible assumption
    | with_unfolding_none apply State.putHead_sound
    | with_unfolding_none apply State.enterStage_sound
    | (split <;> (try dsimp -iota only)))

theorem State.waitGate_sound {s : State} (h : Head) (t : Option Nat) (hs : s.Sound floor queue) :
    (State.waitGate s h t).Sound floor queue := by
  unfold State.waitGate
  (try dsimp -iota only)
  repeat' (first
    | with_reducible assumption
    | with_unfolding_none apply State.atGate_sound)

theorem State.gateTest_sound {s : State} (h : Head) (ti : Nat) (hs : s.Sound floor queue) :
    (State.gateTest s h ti).2.Sound floor queue := by
  unfold State.gateTest
  (try dsimp -iota only)
  repeat' (first
    | with_reducible assumption
    | with_unfolding_none apply State.waitGate_sound
    | with_unfolding_none apply State.countGrp_sound
    | with_unfolding_none apply State.raise_sound
    | with_unfolding_none apply State.sound_ite
    | with_unfolding_none apply State.sound_ite_snd
    | simp -iota only [State.sound_mk, State.sound_fold]
    | (split <;> (try dsimp -iota only)))

theorem State.gateEcc_sound {s : State} (h : Head) (ecc : Ecc) (hs : s.Sound floor queue) :
    (State.gateEcc s h ecc).Sound floor queue := by
  unfold State.gateEcc
  (try dsimp -iota only)
  repeat' (first
    | with_reducible assumption
    | with_unfolding_none apply State.error_sound
    | simp -iota only [State.sound_mk, State.sound_fold]
    | (split <;> (try dsimp -iota only)))

theorem State.headEcc_sound {s : State} (h : Head) (ecc : Ecc) (hs : s.Sound floor queue) :
    (State.headEcc s h ecc).2.Sound floor queue := by
  unfold State.headEcc
  (try dsimp -iota only)
  repeat' (first
    | with_reducible assumption
    | with_unfolding_none apply State.error_sound
    | with_unfolding_none apply State.rerouteHead_sound
    | (split <;> (try dsimp -iota only)))

theorem State.readHead_sound {s : State} (h : Head) (ecc : Ecc) {test : State → State} (hs : s.Sound floor queue) (htest : ∀ t : State, t.Sound floor queue → (test t).Sound floor queue) :
    (State.readHead s h ecc test).Sound floor queue := by
  unfold State.readHead
  (try dsimp -iota only)
  repeat' (first
    | with_reducible assumption
    | with_unfolding_none apply htest
    | with_unfolding_none apply State.headEcc_sound
    | with_unfolding_none apply State.sound_ite)

theorem State.sampleGate_sound {s : State} (h : Head) (hs : s.Sound floor queue) :
    (State.sampleGate s h).Sound floor queue := by
  unfold State.sampleGate
  (try dsimp -iota only)
  repeat' (first
    | with_reducible assumption
    | with_unfolding_none apply State.onSample_sound
    | with_unfolding_none apply State.sound_ite)

theorem State.gateHead_sound {s : State} (h : Head) (cls : Nat) (ecc : Ecc) (hs : s.Sound floor queue) :
    (State.gateHead s h cls ecc).Sound floor queue := by
  unfold State.gateHead
  (try dsimp -iota only)
  repeat' (first
    | with_reducible assumption
    | with_unfolding_none apply State.gateEcc_sound
    | with_unfolding_none apply State.gateTest_sound
    | with_unfolding_none apply State.atGate_sound
    | with_unfolding_none apply State.sampleGate_sound
    | with_unfolding_none apply State.engine_sound
    | with_unfolding_none apply State.sound_ite
    | simp -iota only [State.sound_mk, State.sound_fold])

theorem State.gateHeads_sound {s : State} (l : List Head) (cls : Nat) (ecc : Ecc) (hs : s.Sound floor queue) :
    (State.gateHeads s l cls ecc).Sound floor queue := by
  unfold State.gateHeads
  (try dsimp -iota only)
  repeat' (first
    | with_reducible assumption
    | with_unfolding_none apply State.gateHead_sound
    | with_unfolding_none apply State.readHead_sound
    | with_unfolding_none apply State.sound_ite
    | with_unfolding_none apply State.sound_foldl
    | (intro _ _ _; (try dsimp -iota only))
    | (intro _ _; (try dsimp -iota only))
    | (split <;> (try dsimp -iota only)))

theorem State.gateLine_sound {s : State} (c : Nat) (hs : s.Sound floor queue) :
    (State.gateLine s c).Sound floor queue := by
  unfold State.gateLine
  (try dsimp -iota only)
  repeat' (first
    | with_reducible assumption
    | with_unfolding_none apply State.gateHeads_sound)

theorem State.gateOpening_sound {s : State} (g : Nat) (ecc : Ecc) (hs : s.Sound floor queue) :
    (State.gateOpening s g ecc).Sound floor queue := by
  unfold State.gateOpening
  (try dsimp -iota only)
  repeat' (first
    | with_reducible assumption
    | with_unfolding_none apply State.gateHeads_sound)

theorem State.gateRecheck_sound {s : State} (g : Nat) (hs : s.Sound floor queue) :
    (State.gateRecheck s g).Sound floor queue := by
  unfold State.gateRecheck
  (try dsimp -iota only)
  repeat' (first
    | with_reducible assumption
    | with_unfolding_none apply State.gateHead_sound
    | with_unfolding_none apply State.waitGate_sound
    | with_unfolding_none apply State.sound_ite
    | with_unfolding_none apply State.sound_foldl
    | (intro _ _ _; (try dsimp -iota only)))

theorem State.setPending_sound {s : State} (g : Nat) (start : Nat) (hs : s.Sound floor queue) :
    (State.setPending s g start).Sound floor queue := by
  unfold State.setPending
  (try dsimp -iota only)
  repeat' (first
    | with_reducible assumption
    | with_unfolding_none apply State.raise_sound
    | with_unfolding_none apply State.setReg64_sound
    | simp -iota only [State.sound_mk, State.sound_fold])

theorem State.commitList_sound {s : State} (g : Nat) (hs : s.Sound floor queue) :
    (State.commitList s g).2.Sound floor queue := by
  rw [State.commitList]
  refine State.sound_ite_snd ?_ ?_
  · exact State.setFld_sound _ _ _ (State.setPending_sound _ _ hs)
  · apply State.countGrp_sound
    apply State.setFld_sound
    apply State.raise_sound
    exact State.setFld_sound _ _ _ (State.setPending_sound _ _ hs)

theorem State.setOper_sound {s : State} (g : Nat) (l : GateList) (hs : s.Sound floor queue) :
    (State.setOper s g l).Sound floor queue := by
  unfold State.setOper
  (try dsimp -iota only)
  repeat' (first
    | with_reducible assumption
    | with_unfolding_none apply State.setReg64_sound
    | with_unfolding_none apply State.setReg_sound
    | with_unfolding_none apply State.setFld_sound
    | with_unfolding_none apply State.sound_foldl
    | (intro _ _ _; (try dsimp -iota only)))

theorem State.gateBoundary_sound {s : State} (g : Nat) (hs : s.Sound floor queue) :
    (State.gateBoundary s g).Sound floor queue := by
  unfold State.gateBoundary
  (try dsimp -iota only)
  repeat' (first
    | with_reducible assumption
    | with_unfolding_none apply State.applyBnd_sound)

theorem State.noteCycle_sound {s : State} (g : Nat) (hs : s.Sound floor queue) :
    (State.noteCycle s g).Sound floor queue := by
  unfold State.noteCycle
  (try dsimp -iota only)
  repeat' (first
    | with_reducible assumption
    | simp -iota only [State.sound_mk, State.sound_fold])

theorem State.switchList_sound {s : State} (g : Nat) (hs : s.Sound floor queue) :
    (State.switchList s g).Sound floor queue := by
  unfold State.switchList
  (try dsimp -iota only)
  repeat' (first
    | with_reducible assumption
    | with_unfolding_none apply State.setOper_sound
    | with_unfolding_none apply State.lower_sound
    | with_unfolding_none apply State.setReg64_sound
    | with_unfolding_none apply State.noteCycle_sound
    | with_unfolding_none apply State.gateBoundary_sound
    | with_unfolding_none apply State.gateRecheck_sound
    | with_unfolding_none apply State.sound_ite
    | simp -iota only [State.sound_mk, State.sound_fold]
    | (split <;> (try dsimp -iota only)))

theorem State.gateCycle_sound {s : State} (g : Nat) (hs : s.Sound floor queue) :
    (State.gateCycle s g).Sound floor queue := by
  unfold State.gateCycle
  (try dsimp -iota only)
  repeat' (first
    | with_reducible assumption
    | with_unfolding_none apply State.noteCycle_sound
    | with_unfolding_none apply State.gateBoundary_sound
    | with_unfolding_none apply State.gateRecheck_sound
    | with_unfolding_none apply State.sound_ite)

theorem State.setBucket_sound {s : State} (k : Nat) (i : Nat) (b : Bucket) (hs : s.Sound floor queue) :
    (State.setBucket s k i b).Sound floor queue := by
  unfold State.setBucket
  (try dsimp -iota only)
  repeat' (first
    | with_reducible assumption
    | simp -iota only [State.sound_mk, State.sound_fold])

theorem State.fallBack_sound {s : State} (k : Nat) (i : Nat) (cause : Nat) (hs : s.Sound floor queue) :
    (State.fallBack s k i cause).Sound floor queue := by
  unfold State.fallBack
  (try dsimp -iota only)
  repeat' (first
    | with_reducible assumption
    | with_unfolding_none apply State.setBucket_sound
    | with_unfolding_none apply State.raise_sound
    | with_unfolding_none apply State.logFirst_sound
    | with_unfolding_none apply State.error_sound
    | with_unfolding_none apply State.sound_ite)

theorem State.fallKind_sound {s : State} (k : Nat) (hs : s.Sound floor queue) :
    (State.fallKind s k).Sound floor queue := by
  unfold State.fallKind
  (try dsimp -iota only)
  repeat' (first
    | with_reducible assumption
    | simp -iota only [State.sound_mk, State.sound_fold])

theorem State.settleBuckets_sound {s : State} (hs : s.Sound floor queue) :
    (State.settleBuckets s).Sound floor queue := by
  unfold State.settleBuckets
  (try dsimp -iota only)
  repeat' (first
    | with_reducible assumption
    | with_unfolding_none apply State.raise_sound
    | with_unfolding_none apply State.logFirst_sound
    | with_unfolding_none apply State.fallKind_sound
    | with_unfolding_none apply State.setFld_sound
    | with_unfolding_none apply State.sound_ite
    | with_unfolding_none apply State.sound_foldl
    | simp -iota only [State.sound_mk, State.sound_fold])

theorem State.refill_sound {s : State} (m : Nat) (k : Nat) (i : Nat) (hs : s.Sound floor queue) :
    (State.refill s m k i).Sound floor queue := by
  unfold State.refill
  (try dsimp -iota only)
  repeat' (first
    | with_reducible assumption
    | with_unfolding_none apply State.setBucket_sound
    | with_unfolding_none apply State.sound_ite)

theorem State.refillAll_sound {s : State} (m : Nat) (hs : s.Sound floor queue) :
    (State.refillAll s m).Sound floor queue := by
  unfold State.refillAll
  (try dsimp -iota only)
  repeat' (first
    | with_reducible assumption
    | with_unfolding_none apply State.refill_sound
    | with_unfolding_none apply State.sound_ite
    | with_unfolding_none apply State.sound_foldl
    | (intro _ _ _; (try dsimp -iota only)))

theorem State.bucketSet_sound {s : State} (k : Nat) (i : Nat) (was : Bool) (hs : s.Sound floor queue) :
    (State.bucketSet s k i was).Sound floor queue := by
  unfold State.bucketSet
  (try dsimp -iota only)
  repeat' (first
    | with_reducible assumption
    | with_unfolding_none apply State.setBucket_sound
    | with_unfolding_none apply State.sound_ite)

theorem State.applyBucket_sound {s : State} (k : Nat) (i : Nat) (hs : s.Sound floor queue) :
    (State.applyBucket s k i).Sound floor queue := by
  unfold State.applyBucket
  (try dsimp -iota only)
  repeat' (first
    | with_reducible assumption
    | with_unfolding_none apply State.applyBnd_sound
    | with_unfolding_none apply State.bucketSet_sound)

theorem State.debit_sound {s : State} (h : Head) (hs : s.Sound floor queue) :
    (State.debit s h).Sound floor queue := by
  unfold State.debit
  (try dsimp -iota only)
  repeat' (first
    | with_reducible assumption
    | with_unfolding_none apply State.setBucket_sound
    | with_unfolding_none apply State.sound_foldl
    | simp -iota only [State.sound_mk, State.sound_fold]
    | (intro _ _ _; (try dsimp -iota only)))

theorem State.bucketEcc_sound {s : State} (h : Head) (ecc : Ecc) (hs : s.Sound floor queue) :
    (State.bucketEcc s h ecc).Sound floor queue := by
  unfold State.bucketEcc
  (try dsimp -iota only)
  repeat' (first
    | with_reducible assumption
    | with_unfolding_none apply State.fallBack_sound
    | with_unfolding_none apply State.error_sound
    | (split <;> (try dsimp -iota only)))

theorem State.sampleShape_sound {s : State} (h : Head) (hs : s.Sound floor queue) :
    (State.sampleShape s h).Sound floor queue := by
  unfold State.sampleShape
  (try dsimp -iota only)
  repeat' (first
    | with_reducible assumption
    | with_unfolding_none apply State.onSample_sound
    | with_unfolding_none apply State.sound_ite)

theorem State.shapePass_sound {s : State} (h : Head) (ecc : Ecc) (hs : s.Sound floor queue) :
    (State.shapePass s h ecc).Sound floor queue := by
  unfold State.shapePass
  (try dsimp -iota only)
  repeat' (first
    | with_reducible assumption
    | with_unfolding_none apply State.debit_sound
    | with_unfolding_none apply State.sampleShape_sound
    | with_unfolding_none apply State.gateHead_sound)

theorem State.shapeWait_sound {s : State} (h : Head) (r : ShapeRes) (hs : s.Sound floor queue) :
    (State.shapeWait s h r).Sound floor queue := by
  unfold State.shapeWait
  (try dsimp -iota only)
  repeat' (first
    | with_reducible assumption
    | with_unfolding_none apply State.raise_sound
    | with_unfolding_none apply State.enterStage_sound
    | with_unfolding_none apply State.sound_ite
    | (split <;> (try dsimp -iota only)))

theorem State.shapeHead_sound {s : State} (h : Head) (ecc : Ecc) (hs : s.Sound floor queue) :
    (State.shapeHead s h ecc).Sound floor queue := by
  unfold State.shapeHead
  (try dsimp -iota only)
  repeat' (first
    | with_reducible assumption
    | with_unfolding_none apply State.shapePass_sound
    | with_unfolding_none apply State.shapeWait_sound
    | (split <;> (try dsimp -iota only)))

theorem State.testDue_sound {s : State} (h : Head) (ecc : Ecc) (hs : s.Sound floor queue) :
    (State.testDue s h ecc).Sound floor queue := by
  unfold State.testDue
  (try dsimp -iota only)
  repeat' (first
    | with_reducible assumption
    | with_unfolding_none apply State.readHead_sound
    | with_unfolding_none apply State.shapeHead_sound
    | simp -iota only [State.sound_mk, State.sound_fold]
    | (intro _ _; (try dsimp -iota only)))

theorem State.testInput_sound {s : State} (h : Head) (ecc : Ecc) (hs : s.Sound floor queue) :
    (State.testInput s h ecc).Sound floor queue := by
  unfold State.testInput
  (try dsimp -iota only)
  repeat' (first
    | with_reducible assumption
    | with_unfolding_none apply State.shapeHead_sound
    | simp -iota only [State.sound_mk, State.sound_fold])

theorem State.runDue_sound (ecc : Ecc) (x1 : Nat) {x2 : State} (hx2 : x2.Sound floor queue) :
    (State.runDue ecc x1 x2).Sound floor queue := by
  induction x1 generalizing ecc x2 with
  | zero =>
    unfold State.runDue
    (try dsimp -iota only)
    repeat' (with_reducible assumption)
  | succ m ih =>
    unfold State.runDue
    (try dsimp -iota only)
    repeat' (first
      | with_reducible assumption
      | with_unfolding_none apply ih
      | with_unfolding_none apply State.testDue_sound
      | with_unfolding_none apply State.sound_ite
      | (split <;> (try dsimp -iota only)))

theorem State.runInput_sound (seen : Option Nat) (ecc : Ecc) (x2 : Nat) {x3 : State} (hx3 : x3.Sound floor queue) :
    (State.runInput seen ecc x2 x3).Sound floor queue := by
  induction x2 generalizing seen ecc x3 with
  | zero =>
    unfold State.runInput
    (try dsimp -iota only)
    repeat' (with_reducible assumption)
  | succ m ih =>
    unfold State.runInput
    (try dsimp -iota only)
    repeat' (first
      | with_reducible assumption
      | with_unfolding_none apply ih
      | with_unfolding_none apply State.testInput_sound
      | with_unfolding_none apply State.sound_ite
      | (split <;> (try dsimp -iota only)))

theorem State.refillEcc_sound {s : State} (ecc : Ecc) (hs : s.Sound floor queue) :
    (State.refillEcc s ecc).Sound floor queue := by
  unfold State.refillEcc
  (try dsimp -iota only)
  repeat' (first
    | with_reducible assumption
    | with_unfolding_none apply State.fallBack_sound
    | with_unfolding_none apply State.error_sound
    | (split <;> (try dsimp -iota only)))

theorem State.catchUp_sound {s : State} (ecc : Ecc) (hs : s.Sound floor queue) :
    (State.catchUp s ecc).Sound floor queue := by
  unfold State.catchUp
  (try dsimp -iota only)
  repeat' (first
    | with_reducible assumption
    | with_unfolding_none apply State.refillEcc_sound
    | with_unfolding_none apply State.settleBuckets_sound
    | with_unfolding_none apply State.refillAll_sound
    | with_unfolding_none apply State.applyBucket_sound
    | with_unfolding_none apply State.applyBndAll_sound
    | with_unfolding_none apply State.applyBnd_sound
    | with_unfolding_none apply State.enterStage_sound
    | with_unfolding_none apply State.sound_ite
    | with_unfolding_none apply State.sound_foldl
    | simp -iota only [State.sound_mk, State.sound_fold]
    | (intro _ _ _; (try dsimp -iota only)))

theorem State.shapeRun_sound {s : State} (seen : Option Nat) (ecc : Ecc) (due : Ecc) (hs : s.Sound floor queue) :
    (State.shapeRun s seen ecc due).Sound floor queue := by
  unfold State.shapeRun
  (try dsimp -iota only)
  repeat' (first
    | with_reducible assumption
    | with_unfolding_none apply State.runInput_sound
    | with_unfolding_none apply State.runDue_sound
    | with_unfolding_none apply State.catchUp_sound
    | with_unfolding_none apply State.sound_ite)

theorem State.refillTick_sound {s : State} (ecc : Ecc) (hs : s.Sound floor queue) :
    (State.refillTick s ecc).Sound floor queue := by
  unfold State.refillTick
  (try dsimp -iota only)
  repeat' (first
    | with_reducible assumption
    | with_unfolding_none apply State.catchUp_sound
    | with_unfolding_none apply State.shapeRun_sound
    | with_unfolding_none apply State.sound_ite)

theorem State.newCycle_sound {s : State} (hs : s.Sound floor queue) :
    (State.newCycle s).Sound floor queue := by
  unfold State.newCycle
  (try dsimp -iota only)
  repeat' (first
    | with_reducible assumption
    | simp -iota only [State.sound_mk, State.sound_fold])

theorem State.rankEcc_sound {s : State} (o : Offer) (ecc : Ecc) (hs : s.Sound floor queue) :
    (State.rankEcc s o ecc).2.Sound floor queue := by
  unfold State.rankEcc
  (try dsimp -iota only)
  repeat' (first
    | with_reducible assumption
    | with_unfolding_none apply State.error_sound
    | with_unfolding_none apply State.offerDomain_sound
    | simp -iota only [State.sound_mk, State.sound_fold]
    | (split <;> (try dsimp -iota only)))

theorem State.handEcc_sound {s : State} (ecc : Ecc) (hs : s.Sound floor queue) :
    (State.handEcc s ecc).Sound floor queue := by
  unfold State.handEcc
  (try dsimp -iota only)
  repeat' (first
    | with_reducible assumption
    | with_unfolding_none apply State.error_sound
    | (split <;> (try dsimp -iota only)))

theorem State.handOne_sound {s : State} (t : Nat) (ecc : Ecc) (hs : s.Sound floor queue) :
    (State.handOne s t ecc).Sound floor queue := by
  unfold State.handOne
  (try dsimp -iota only)
  repeat' (first
    | with_reducible assumption
    | with_unfolding_none apply State.rankEcc_sound
    | with_unfolding_none apply State.putHead_sound
    | with_unfolding_none apply State.routeHead_sound
    | with_unfolding_none apply State.handEcc_sound
    | with_unfolding_none apply State.readHead_sound
    | with_unfolding_none apply State.bucketEcc_sound
    | with_unfolding_none apply State.enterStage_sound
    | with_unfolding_none apply State.sound_ite
    | (intro _ _; (try dsimp -iota only))
    | apply State.launch_sound (ht := by assumption)
    | (split <;> (try dsimp -iota only)))

theorem State.handOver_sound {s : State} (ecc : Ecc) (hs : s.Sound floor queue) :
    (State.handOver s ecc).Sound floor queue := by
  unfold State.handOver
  (try dsimp -iota only)
  repeat' (first
    | with_reducible assumption
    | with_unfolding_none apply State.handOne_sound
    | with_unfolding_none apply State.shapeRun_sound
    | with_unfolding_none apply State.sound_ite
    | apply State.chooseTake_sound (ht := by assumption)
    | (split <;> (try dsimp -iota only)))

theorem State.parkedReturn_sound {s : State} (ecc : Ecc) (hs : s.Sound floor queue) :
    (State.parkedReturn s ecc).Sound floor queue := by
  unfold State.parkedReturn
  (try dsimp -iota only)
  repeat' (first
    | with_reducible assumption
    | with_unfolding_none apply State.readHead_sound
    | with_unfolding_none apply State.gateHead_sound
    | (intro _ _; (try dsimp -iota only))
    | (split <;> (try dsimp -iota only)))

theorem State.parkedAll_sound {s : State} (hs : s.Sound floor queue) :
    (State.parkedAll s).Sound floor queue := by
  unfold State.parkedAll
  (try dsimp -iota only)
  repeat' (first
    | with_reducible assumption
    | with_unfolding_none apply State.gateHead_sound
    | with_unfolding_none apply State.sound_ite
    | with_unfolding_none apply State.sound_foldl
    | (intro _ _ _; (try dsimp -iota only)))

theorem State.placeHeads_sound {s : State} (hs : s.Sound floor queue) :
    (State.placeHeads s).Sound floor queue := by
  unfold State.placeHeads
  (try dsimp -iota only)
  repeat' (first
    | with_reducible assumption
    | with_unfolding_none apply State.gateHeads_sound
    | with_unfolding_none apply State.gateLine_sound
    | with_unfolding_none apply State.parkedAll_sound
    | with_unfolding_none apply State.shapeRun_sound)

theorem State.freeRec_sound {s : State} (a : ActiveRec) (hs : s.Sound floor queue) :
    (State.freeRec s a).Sound floor queue := by
  unfold State.freeRec
  (try dsimp -iota only)
  repeat' (first
    | with_reducible assumption
    | with_unfolding_none apply State.mirrorDeliv_sound
    | with_unfolding_none apply State.sound_ite
    | simp -iota only [State.sound_mk, State.sound_fold])

theorem State.activeEcc_sound {s : State} (a : ActiveRec) (ecc : Ecc) (hs : s.Sound floor queue) :
    (State.activeEcc s a ecc).2.Sound floor queue := by
  unfold State.activeEcc
  (try dsimp -iota only)
  repeat' (first
    | with_reducible assumption
    | with_unfolding_none apply State.error_sound
    | with_unfolding_none apply State.freeRec_sound
    | (split <;> (try dsimp -iota only)))

theorem State.cplProbe_sound {s : State} (a : ActiveRec) (hs : s.Sound floor queue) :
    (State.cplProbe s a).Sound floor queue := by
  unfold State.cplProbe
  (try dsimp -iota only)
  repeat' (first
    | with_reducible assumption
    | with_unfolding_none apply State.probe_sound
    | with_unfolding_none apply State.sound_ite)

theorem State.finish_sound {s : State} (a : ActiveRec) (ecc : Ecc) (hs : s.Sound floor queue) :
    (State.finish s a ecc).Sound floor queue := by
  unfold State.finish
  (try dsimp -iota only)
  repeat' (first
    | with_reducible assumption
    | with_unfolding_none apply State.cplProbe_sound
    | with_unfolding_none apply State.freeRec_sound
    | with_unfolding_none apply State.pumpHeads_sound
    | with_unfolding_none apply State.completeAt_sound
    | with_unfolding_none apply State.sound_ite
    | simp -iota only [State.sound_mk, State.sound_fold])

theorem State.logDoorbell_sound {s : State} (cause : Nat) (hport : Nat) (woff : Nat) (data : Nat) (hs : s.Sound floor queue) :
    (State.logDoorbell s cause hport woff data).Sound floor queue := by
  unfold State.logDoorbell
  (try dsimp -iota only)
  repeat' (first
    | with_reducible assumption
    | with_unfolding_none apply State.logFirst_sound
    | with_unfolding_none apply State.countD_sound
    | with_unfolding_none apply State.sound_ite)

theorem State.armRing_sound {s : State} (r : Option Nat) (hs : s.Sound floor queue) :
    (State.armRing s r).Sound floor queue := by
  unfold State.armRing
  (try dsimp -iota only)
  repeat' (first
    | with_reducible assumption
    | with_unfolding_none apply State.sendWrite_sound
    | with_unfolding_none apply State.setArm_sound
    | with_unfolding_none apply State.sound_ite)

theorem State.consume_sound {s : State} (r : Option Nat) (ci : Nat) (arm : Bool) (hs : s.Sound floor queue) :
    (State.consume s r ci arm).2.Sound floor queue := by
  unfold State.consume
  (try dsimp -iota only)
  repeat' (first
    | with_reducible assumption
    | with_unfolding_none apply State.setCi_sound
    | with_unfolding_none apply State.mirrorCfg_sound
    | with_unfolding_none apply State.armRing_sound
    | with_unfolding_none apply State.raise_sound
    | with_unfolding_none apply State.sound_ite
    | with_unfolding_none apply State.sound_ite_snd
    | simp -iota only [State.sound_mk, State.sound_fold])

theorem State.doConsume_sound {s : State} (hport : Option Nat) (woff : Nat) (data : Nat) (hs : s.Sound floor queue) :
    (State.doConsume s hport woff data).2.Sound floor queue := by
  unfold State.doConsume
  dsimp -iota only
  refine State.sound_ite_snd (State.logDoorbell_sound _ _ _ _ hs) (State.sound_ite_snd (State.logDoorbell_sound _ _ _ _ hs) ?_)
  split
  rename_i h1
  have h2 := State.sound_snd h1 (State.consume_sound _ _ _ hs)
  exact State.sound_ite_snd h2 (State.logDoorbell_sound _ _ _ _ h2)

theorem State.completeBare_sound {s : State} (any : Bool) (eid : Nat) (ecc : Ecc) (hs : s.Sound floor queue) :
    (State.completeBare s any eid ecc).2.Sound floor queue := by
  unfold State.completeBare
  (try dsimp -iota only)
  repeat' (first
    | with_reducible assumption
    | with_unfolding_none apply State.completeAt_sound
    | with_unfolding_none apply State.pumpHeads_sound
    | with_unfolding_none apply State.stray_sound
    | with_unfolding_none apply State.sound_ite_snd
    | simp -iota only [State.sound_mk, State.sound_fold])

theorem State.doComplete_sound {s : State} (hport : Option Nat) (any : Bool) (woff : Nat) (data : Nat) (ecc : Ecc) (hs : s.Sound floor queue) :
    (State.doComplete s hport any woff data ecc).2.Sound floor queue := by
  unfold State.doComplete
  (try dsimp -iota only)
  repeat' (first
    | with_reducible assumption
    | with_unfolding_none apply State.stray_sound
    | with_unfolding_none apply State.bump_sound
    | with_unfolding_none apply State.completeBare_sound
    | with_unfolding_none apply State.activeEcc_sound
    | with_unfolding_none apply State.logDoorbell_sound
    | with_unfolding_none apply State.finish_sound
    | with_unfolding_none apply State.sound_ite_snd
    | simp -iota only [State.sound_mk, State.sound_fold]
    | (split <;> (try dsimp -iota only)))

theorem State.doorbell_sound {s : State} (hport : Option Nat) (woff : Nat) (data : Nat) (ecc : Ecc) (hs : s.Sound floor queue) :
    (State.doorbell s hport woff data ecc).2.Sound floor queue := by
  unfold State.doorbell
  (try dsimp -iota only)
  repeat' (first
    | with_reducible assumption
    | with_unfolding_none apply State.doComplete_sound
    | with_unfolding_none apply State.doConsume_sound
    | with_unfolding_none apply State.logDoorbell_sound
    | (split <;> (try dsimp -iota only)))

theorem State.dbEnd_sound (d : Nat) {r : Bool × State} (hr : r.2.Sound floor queue) : (State.dbEnd d r).Sound floor queue :=
  State.setFld_sound _ _ _ hr

theorem State.startDb_sound {s : State} (d : Nat) (ecc : Ecc) (hs : s.Sound floor queue) :
    (State.startDb s d ecc).Sound floor queue := by
  unfold State.startDb
  refine State.sound_ite (State.setFld_sound _ _ _ hs) (State.sound_ite (State.setFld_sound _ _ _ hs) ?_)
  exact State.setFld_sound _ _ _ (State.doorbell_sound _ _ _ _ hs)

theorem State.startForce_sound {s : State} (ecc : Ecc) (hs : s.Sound floor queue) :
    (State.startForce s ecc).Sound floor queue := by
  unfold State.startForce
  (try dsimp -iota only)
  repeat' (first
    | with_reducible assumption
    | with_unfolding_none apply State.setFld_sound
    | with_unfolding_none apply State.activeEcc_sound
    | with_unfolding_none apply State.finish_sound
    | with_unfolding_none apply State.completeAt_sound
    | with_unfolding_none apply State.pumpHeads_sound
    | with_unfolding_none apply State.sound_ite
    | (split <;> (try dsimp -iota only)))

theorem State.pushLost_sound {s : State} (r : Rec) (hs : s.Sound floor queue) :
    (State.pushLost s r).Sound floor queue := by
  unfold State.pushLost
  (try dsimp -iota only)
  repeat' (first
    | with_reducible assumption
    | with_unfolding_none apply State.sound_ite
    | simp -iota only [State.sound_mk, State.sound_fold])

theorem State.stopTimer_sound {s : State} (a : ActiveRec) (hs : s.Sound floor queue) :
    (State.stopTimer s a).Sound floor queue := by
  unfold State.stopTimer
  (try dsimp -iota only)
  repeat' (first
    | with_reducible assumption
    | simp -iota only [State.sound_mk, State.sound_fold])

theorem State.expire_sound {s : State} (a : ActiveRec) (hs : s.Sound floor queue) :
    (State.expire s a).Sound floor queue := by
  unfold State.expire
  (try dsimp -iota only)
  repeat' (first
    | with_reducible assumption
    | with_unfolding_none apply State.stopTimer_sound
    | with_unfolding_none apply State.pushLost_sound
    | with_unfolding_none apply State.gateHead_sound
    | with_unfolding_none apply State.sound_ite)

theorem State.redeliveryTimeout_sound {s : State} (eid : Nat) (hs : s.Sound floor queue) :
    (State.redeliveryTimeout s eid).Sound floor queue := by
  unfold State.redeliveryTimeout
  (try dsimp -iota only)
  repeat' (first
    | with_reducible assumption
    | with_unfolding_none apply State.expire_sound
    | (split <;> (try dsimp -iota only)))

theorem State.lostAgain_sound {s : State} (hs : s.Sound floor queue) :
    (State.lostAgain s).Sound floor queue := by
  unfold State.lostAgain
  (try dsimp -iota only)
  repeat' (first
    | with_reducible assumption
    | with_unfolding_none apply State.pushLost_sound
    | with_unfolding_none apply State.sound_foldl
    | simp -iota only [State.sound_mk, State.sound_fold])

theorem State.setMeter_sound {s : State} (dom : Bool) (i : Nat) (m : Meter) (hs : s.Sound floor queue) :
    (State.setMeter s dom i m).Sound floor queue := by
  unfold State.setMeter
  (try dsimp -iota only)
  repeat' (first
    | with_reducible assumption
    | with_unfolding_none apply State.sound_ite
    | simp -iota only [State.sound_mk, State.sound_fold])

theorem State.meterEcc_sound {s : State} (dom : Bool) (i : Nat) (ecc : Ecc) (hs : s.Sound floor queue) :
    (State.meterEcc s dom i ecc).2.Sound floor queue := by
  unfold State.meterEcc
  (try dsimp -iota only)
  repeat' (first
    | with_reducible assumption
    | with_unfolding_none apply State.setMeter_sound
    | with_unfolding_none apply State.error_sound
    | with_unfolding_none apply State.countG_sound
    | with_unfolding_none apply State.sound_ite_snd
    | simp -iota only [State.sound_mk, State.sound_fold]
    | (split <;> (try dsimp -iota only)))

theorem State.meterOne_sound {s : State} (dom : Bool) (i : Nat) (pre : Colour) (first : Bool) (ecc : Ecc) (hs : s.Sound floor queue) :
    (State.meterOne s dom i pre first ecc).2.Sound floor queue := by
  unfold State.meterOne
  (try dsimp -iota only)
  repeat' (first
    | with_reducible assumption
    | with_unfolding_none apply State.meterEcc_sound
    | with_unfolding_none apply State.setMeter_sound
    | with_unfolding_none apply State.sound_ite_snd
    | simp -iota only [State.sound_mk, State.sound_fold])

theorem State.meters_sound {s : State} (msel : Nat) (pre : Nat) (ord : Nat) (d : Nat) (ecc : Ecc) (hs : s.Sound floor queue) :
    (State.meters s msel pre ord d ecc).2.2.Sound floor queue := by
  unfold State.meters
  (try dsimp -iota only)
  repeat' (first
    | with_reducible assumption
    | with_unfolding_none apply State.meterOne_sound
    | (with_unfolding_none apply State.sound_snd (by assumption))
    | (split <;> (try dsimp -iota only)))

theorem State.police_sound {s : State} (msel : Nat) (pre : Nat) (ord : Nat) (d : Nat) (ecc : Ecc) (hs : s.Sound floor queue) :
    (State.police s msel pre ord d ecc).2.Sound floor queue := by
  unfold State.police
  (try dsimp -iota only)
  repeat' (first
    | with_reducible assumption
    | with_unfolding_none apply State.meters_sound
    | with_unfolding_none apply State.countD_sound
    | with_unfolding_none apply State.breach_sound
    | with_unfolding_none apply State.sound_ite_snd
    | simp -iota only [State.sound_mk, State.sound_fold])

theorem State.refillMeters_sound {s : State} (d : Nat) (hs : s.Sound floor queue) :
    (State.refillMeters s d).Sound floor queue := by
  unfold State.refillMeters
  (try dsimp -iota only)
  repeat' (first
    | with_reducible assumption
    | with_unfolding_none apply State.setMeter_sound
    | with_unfolding_none apply State.sound_foldl
    | (intro _ _ _; (try dsimp -iota only)))

theorem State.meterBefore_sound {s : State} (dom : Bool) (i : Nat) (hs : s.Sound floor queue) :
    (State.meterBefore s dom i).Sound floor queue := by
  unfold State.meterBefore
  (try dsimp -iota only)
  repeat' (first
    | with_reducible assumption
    | with_unfolding_none apply State.setMeter_sound
    | with_unfolding_none apply State.sound_ite)

theorem State.meterAfter_sound {s : State} (dom : Bool) (i : Nat) (wasEn : Bool) (hs : s.Sound floor queue) :
    (State.meterAfter s dom i wasEn).Sound floor queue := by
  unfold State.meterAfter
  (try dsimp -iota only)
  repeat' (first
    | with_reducible assumption
    | with_unfolding_none apply State.setMeter_sound
    | with_unfolding_none apply State.sound_ite)

theorem State.setLane_sound {s : State} (k : Nat) (q : List LaneItem) (hs : s.Sound floor queue) :
    (State.setLane s k q).Sound floor queue := by
  unfold State.setLane
  (try dsimp -iota only)
  repeat' (first
    | with_reducible assumption
    | simp -iota only [State.sound_mk, State.sound_fold]
    | (split <;> (try dsimp -iota only)))

theorem State.laneDrop_sound {s : State} (k : Nat) (hs : s.Sound floor queue) :
    (State.laneDrop s k).Sound floor queue := by
  unfold State.laneDrop
  (try dsimp -iota only)
  repeat' (first
    | with_reducible assumption
    | with_unfolding_none apply State.setLane_sound
    | simp -iota only [State.sound_mk, State.sound_fold])

theorem State.discard_sound {s : State} (reason : Nat) (o : Origin) (ord : Option Nat) (dom : Option Nat) (hs : s.Sound floor queue) :
    (State.discard s reason o ord dom).Sound floor queue := by
  unfold State.discard
  (try dsimp -iota only)
  repeat' (first
    | with_reducible assumption
    | with_unfolding_none apply State.countG_sound
    | with_unfolding_none apply State.countD_sound
    | with_unfolding_none apply State.logFirst_sound
    | with_unfolding_none apply State.sound_ite
    | (split <;> (try dsimp -iota only)))

theorem State.discardDesc_sound {s : State} (reason : Nat) (lane : Nat) (r : Rec) (ord : Option Nat) (hs : s.Sound floor queue) :
    (State.discardDesc s reason lane r ord).Sound floor queue := by
  unfold State.discardDesc
  (try dsimp -iota only)
  repeat' (first
    | with_reducible assumption
    | with_unfolding_none apply State.discard_sound
    | with_unfolding_none apply State.error_sound
    | with_unfolding_none apply State.sound_ite)

theorem State.srcLookup_sound {s : State} (seg : Nat) (rid : Nat) (ecc : Ecc) (hs : s.Sound floor queue) :
    (State.srcLookup s seg rid ecc).2.Sound floor queue := by
  unfold State.srcLookup
  (try dsimp -iota only)
  repeat' (first
    | with_reducible assumption
    | with_unfolding_none apply State.error_sound
    | simp -iota only [State.sound_mk, State.sound_fold]
    | (split <;> (try dsimp -iota only)))

theorem State.xlateEcc_sound {s : State} (ord : Nat) (ecc : Ecc) (hs : s.Sound floor queue) :
    (State.xlateEcc s ord ecc).Sound floor queue := by
  unfold State.xlateEcc
  (try dsimp -iota only)
  repeat' (first
    | with_reducible assumption
    | with_unfolding_none apply State.error_sound
    | simp -iota only [State.sound_mk, State.sound_fold]
    | (split <;> (try dsimp -iota only)))

theorem State.policed_sound {s : State} (a : Arrival) (d : Nat) (eid : Nat) (msel : Nat) (pre : Nat) (ecc : Ecc) (hs : s.Sound floor queue) :
    (State.policed s a d eid msel pre ecc).Sound floor queue := by
  unfold State.policed
  (try dsimp -iota only)
  repeat' (first
    | with_reducible assumption
    | with_unfolding_none apply State.discard_sound
    | with_unfolding_none apply State.bump_sound
    | with_unfolding_none apply State.police_sound
    | with_unfolding_none apply State.stageEvent_sound
    | with_unfolding_none apply State.sound_ite
    | (with_unfolding_none apply State.sound_snd (by assumption))
    | (split <;> (try dsimp -iota only)))

theorem State.translate_sound {s : State} (a : Arrival) (key : Nat) (ecc : Ecc) (hs : s.Sound floor queue) :
    (State.translate s a key ecc).Sound floor queue := by
  unfold State.translate
  (try dsimp -iota only)
  repeat' (first
    | with_reducible assumption
    | with_unfolding_none apply State.xlateEcc_sound
    | with_unfolding_none apply State.discard_sound
    | with_unfolding_none apply State.policed_sound
    | with_unfolding_none apply State.sound_ite
    | simp -iota only [State.sound_mk, State.sound_fold]
    | apply State.depRead_sound (ht := by assumption)
    | (split <;> (try dsimp -iota only)))

theorem State.mapReturn_sound {s : State} (tag : Nat) (poison : Bool) (ecc : Ecc) (hs : s.Sound floor queue) :
    (State.mapReturn s tag poison ecc).Sound floor queue := by
  unfold State.mapReturn
  (try dsimp -iota only)
  repeat' (first
    | with_reducible assumption
    | with_unfolding_none apply State.freeDepTag_sound
    | with_unfolding_none apply State.discard_sound
    | with_unfolding_none apply State.error_sound
    | with_unfolding_none apply State.policed_sound
    | with_unfolding_none apply State.wmAll_sound
    | with_unfolding_none apply State.askFills_sound
    | with_unfolding_none apply State.sound_ite
    | simp -iota only [State.sound_mk, State.sound_fold]
    | (split <;> (try dsimp -iota only)))

theorem State.noteFull_sound {s : State} (hs : s.Sound floor queue) :
    (State.noteFull s).Sound floor queue := by
  unfold State.noteFull
  (try dsimp -iota only)
  repeat' (first
    | with_reducible assumption
    | with_unfolding_none apply State.raise_sound
    | with_unfolding_none apply State.sound_ite)

theorem State.lineEvent_sound {s : State} (n : Nat) (k : EvKind) (ecc : Ecc) (hs : s.Sound floor queue) :
    (State.lineEvent s n k ecc).Sound floor queue := by
  unfold State.lineEvent
  (try dsimp -iota only)
  repeat' (first
    | with_reducible assumption
    | with_unfolding_none apply State.laneDrop_sound
    | with_unfolding_none apply State.translate_sound
    | with_unfolding_none apply State.wmAll_sound
    | with_unfolding_none apply State.sound_ite)

theorem State.descLost_sound {s : State} (lane : Nat) (ecc : Ecc) (hs : s.Sound floor queue) {rt : State} (ht : (State.descLost s lane ecc) = some rt) :
    rt.Sound floor queue := by
  unfold State.descLost at ht
  (try dsimp -iota only at ht)
  (repeat' split at ht) <;> (try cases ht)
  all_goals repeat' (first
    | with_reducible assumption
    | with_unfolding_none apply State.laneDrop_sound
    | with_unfolding_none apply State.error_sound)

theorem State.descCor_sound {s : State} (lane : Nat) (ecc : Ecc) (hs : s.Sound floor queue) :
    (State.descCor s lane ecc).Sound floor queue := by
  unfold State.descCor
  (try dsimp -iota only)
  repeat' (first
    | with_reducible assumption
    | with_unfolding_none apply State.error_sound
    | (split <;> (try dsimp -iota only)))

theorem State.nameHead_sound {s : State} (lane : Nat) (r : Rec) (ecc : Ecc) (hs : s.Sound floor queue) :
    (State.nameHead s lane r ecc).2.Sound floor queue := by
  unfold State.nameHead
  split
  · exact hs
  · split
    · rename_i h; exact State.sound_snd h (State.srcLookup_sound _ _ _ hs)
    · rename_i h
      have h1 := State.sound_snd h (State.srcLookup_sound _ _ _ hs)
      dsimp only
      simp only [State.sound_mk, State.sound_fold]
      exact State.epochOf_sound _ h1

theorem State.windowEvent_sound {s : State} (lane : Nat) (r : Rec) (ecc : Ecc) (hs : s.Sound floor queue) :
    (State.windowEvent s lane r ecc).Sound floor queue := by
  unfold State.windowEvent
  (try dsimp -iota only)
  repeat' (first
    | with_reducible assumption
    | with_unfolding_none apply State.nameHead_sound
    | with_unfolding_none apply State.laneDrop_sound
    | with_unfolding_none apply State.discard_sound
    | with_unfolding_none apply State.translate_sound
    | with_unfolding_none apply State.wmAll_sound
    | with_unfolding_none apply State.sound_ite
    | (with_unfolding_none apply State.sound_snd (by assumption))
    | (split <;> (try dsimp -iota only)))

theorem State.laneHead_sound {s : State} (lane : Nat) (ecc : Ecc) (hs : s.Sound floor queue) :
    (State.laneHead s lane ecc).Sound floor queue := by
  unfold State.laneHead
  (try dsimp -iota only)
  repeat' (first
    | with_reducible assumption
    | with_unfolding_none apply State.noteFull_sound
    | with_unfolding_none apply State.lineEvent_sound
    | with_unfolding_none apply State.descCor_sound
    | with_unfolding_none apply State.laneDrop_sound
    | with_unfolding_none apply State.discardDesc_sound
    | with_unfolding_none apply State.windowEvent_sound
    | with_unfolding_none apply State.sound_ite
    | apply State.descLost_sound (ht := by assumption)
    | (split <;> (try dsimp -iota only)))

theorem State.intx_sound {s : State} (assert : Bool) (ecc : Ecc) (hs : s.Sound floor queue) :
    (State.intx s assert ecc).Sound floor queue := by
  unfold State.intx
  (try dsimp -iota only)
  repeat' (first
    | with_reducible assumption
    | with_unfolding_none apply State.noteFull_sound
    | with_unfolding_none apply State.descCor_sound
    | with_unfolding_none apply State.laneDrop_sound
    | with_unfolding_none apply State.discardDesc_sound
    | with_unfolding_none apply State.countG_sound
    | with_unfolding_none apply State.translate_sound
    | with_unfolding_none apply State.wmAll_sound
    | with_unfolding_none apply State.sound_ite
    | with_unfolding_none apply State.sound_getD
    | simp -iota only [State.sound_mk, State.sound_fold]
    | (intro _ _; (try dsimp -iota only))
    | apply State.descLost_sound (ht := by assumption)
    | (split <;> (try dsimp -iota only)))

theorem State.waymarkOf_sound {s : State} (ord : Nat) (r : Rec) (hs : s.Sound floor queue) :
    (State.waymarkOf s ord r).Sound floor queue := by
  unfold State.waymarkOf
  (try dsimp -iota only)
  repeat' (first
    | with_reducible assumption
    | with_unfolding_none apply State.countG_sound
    | with_unfolding_none apply State.countD_sound
    | with_unfolding_none apply State.waymark_sound
    | with_unfolding_none apply State.sound_ite
    | (split <;> (try dsimp -iota only)))

theorem State.waymarkHead_sound {s : State} (lane : Nat) (kinds : List Nat) (ecc : Ecc) (hs : s.Sound floor queue) :
    (State.waymarkHead s lane kinds ecc).Sound floor queue := by
  unfold State.waymarkHead
  (try dsimp -iota only)
  repeat' (first
    | with_reducible assumption
    | with_unfolding_none apply State.noteFull_sound
    | with_unfolding_none apply State.descCor_sound
    | with_unfolding_none apply State.srcLookup_sound
    | with_unfolding_none apply State.laneDrop_sound
    | with_unfolding_none apply State.discard_sound
    | with_unfolding_none apply State.waymarkOf_sound
    | with_unfolding_none apply State.sound_ite
    | with_unfolding_none apply State.sound_getD
    | (with_unfolding_none apply State.sound_snd (by assumption))
    | (intro _ _; (try dsimp -iota only))
    | apply State.descLost_sound (ht := by assumption)
    | (split <;> (try dsimp -iota only)))

theorem State.doorbellHead_sound {s : State} (lane : Nat) (op : Nat) (ecc : Ecc) (hs : s.Sound floor queue) :
    (State.doorbellHead s lane op ecc).Sound floor queue := by
  unfold State.doorbellHead
  (try dsimp -iota only)
  repeat' (first
    | with_reducible assumption
    | with_unfolding_none apply State.noteFull_sound
    | with_unfolding_none apply State.descCor_sound
    | with_unfolding_none apply State.laneDrop_sound
    | with_unfolding_none apply State.toPartner_sound
    | with_unfolding_none apply State.doorbell_sound
    | with_unfolding_none apply State.askFills_sound
    | with_unfolding_none apply State.sound_ite
    | with_unfolding_none apply State.sound_getD
    | (intro _ _; (try dsimp -iota only))
    | apply State.descLost_sound (ht := by assumption)
    | (split <;> (try dsimp -iota only)))

theorem State.setLatch_sound {s : State} (n : Nat) (v : Bool) (hs : s.Sound floor queue) :
    (State.setLatch s n v).Sound floor queue := by
  unfold State.setLatch
  (try dsimp -iota only)
  repeat' (first
    | with_reducible assumption
    | simp -iota only [State.sound_mk, State.sound_fold])

theorem State.lineScan_sound {s : State} (hs : s.Sound floor queue) :
    (State.lineScan s).Sound floor queue := by
  unfold State.lineScan
  (try dsimp -iota only)
  repeat' (first
    | with_reducible assumption
    | with_unfolding_none apply State.setLane_sound
    | with_unfolding_none apply State.setLatch_sound
    | with_unfolding_none apply State.countG_sound
    | with_unfolding_none apply State.sound_ite
    | simp -iota only [State.sound_mk, State.sound_fold]
    | (split <;> (try dsimp -iota only)))

theorem State.linePush_sound {s : State} (n : Nat) (k : EvKind) (hs : s.Sound floor queue) :
    (State.linePush s n k).Sound floor queue := by
  unfold State.linePush
  (try dsimp -iota only)
  repeat' (first
    | with_reducible assumption
    | simp -iota only [State.sound_mk, State.sound_fold])

theorem State.lineCapture_sound {s : State} (n : Nat) (narrow : Bool) (hs : s.Sound floor queue) :
    (State.lineCapture s n narrow).Sound floor queue := by
  unfold State.lineCapture
  (try dsimp -iota only)
  repeat' (first
    | with_reducible assumption
    | with_unfolding_none apply State.setLatch_sound
    | with_unfolding_none apply State.wakeReq_sound
    | with_unfolding_none apply State.sound_ite
    | simp -iota only [State.sound_mk, State.sound_fold])

theorem State.lineChange_sound {s : State} (n : Nat) (v : Bool) (hs : s.Sound floor queue) :
    (State.lineChange s n v).Sound floor queue := by
  unfold State.lineChange
  (try dsimp -iota only)
  repeat' (first
    | with_reducible assumption
    | with_unfolding_none apply State.linePush_sound
    | with_unfolding_none apply State.lineScan_sound
    | with_unfolding_none apply State.sound_ite
    | simp -iota only [State.sound_mk, State.sound_fold]
    | (split <;> (try dsimp -iota only)))

theorem State.lineWake_sound {s : State} (hs : s.Sound floor queue) :
    (State.lineWake s).Sound floor queue := by
  unfold State.lineWake
  (try dsimp -iota only)
  repeat' (first
    | with_reducible assumption
    | with_unfolding_none apply State.setLatch_sound
    | with_unfolding_none apply State.linePush_sound
    | with_unfolding_none apply State.sound_ite
    | with_unfolding_none apply State.sound_foldl
    | simp -iota only [State.sound_mk, State.sound_fold]
    | (intro _ _ _; (try dsimp -iota only)))

theorem State.lineEnable_sound {s : State} (n : Nat) (was : Bool) (hs : s.Sound floor queue) :
    (State.lineEnable s n was).Sound floor queue := by
  unfold State.lineEnable
  (try dsimp -iota only)
  repeat' (first
    | with_reducible assumption
    | with_unfolding_none apply State.setLatch_sound
    | with_unfolding_none apply State.linePush_sound
    | with_unfolding_none apply State.sound_ite
    | simp -iota only [State.sound_mk, State.sound_fold])

theorem State.credDue_sound {s : State} (hs : s.Sound floor queue) :
    (State.credDue s).Sound floor queue := by
  unfold State.credDue
  (try dsimp -iota only)
  repeat' (first
    | with_reducible assumption
    | simp -iota only [State.sound_mk, State.sound_fold])

theorem State.wakeCapture_sound {s : State} (ds : List Rec) (hs : s.Sound floor queue) :
    (State.wakeCapture s ds).Sound floor queue := by
  unfold State.wakeCapture
  (try dsimp -iota only)
  repeat' (first
    | with_reducible assumption
    | with_unfolding_none apply State.wakeReq_sound
    | with_unfolding_none apply State.credDue_sound
    | simp -iota only [State.sound_mk, State.sound_fold])

theorem State.ingressBeat_sound {s : State} (b : BitVec 512) (hs : s.Sound floor queue) :
    (State.ingressBeat s b).Sound floor queue := by
  unfold State.ingressBeat
  (try dsimp -iota only)
  repeat' (first
    | with_reducible assumption
    | with_unfolding_none apply State.raise_sound
    | with_unfolding_none apply State.error_sound
    | with_unfolding_none apply State.traffic_sound
    | with_unfolding_none apply State.wakeCapture_sound
    | with_unfolding_none apply State.sound_ite
    | with_unfolding_none apply State.sound_foldl
    | simp -iota only [State.sound_mk, State.sound_fold]
    | (intro _ _ _; (try dsimp -iota only)))

theorem State.credReturn_sound {s : State} (hs : s.Sound floor queue) :
    (State.credReturn s).Sound floor queue := by
  unfold State.credReturn
  (try dsimp -iota only)
  repeat' (first
    | with_reducible assumption
    | with_unfolding_none apply State.raise_sound
    | with_unfolding_none apply State.sound_ite
    | simp -iota only [State.sound_mk, State.sound_fold])

theorem State.carriageTake_sound {s : State} (hs : s.Sound floor queue) :
    (State.carriageTake s).Sound floor queue := by
  unfold State.carriageTake
  (try dsimp -iota only)
  repeat' (first
    | with_reducible assumption
    | with_unfolding_none apply State.countG_sound
    | with_unfolding_none apply State.credDue_sound
    | simp -iota only [State.sound_mk, State.sound_fold]
    | (split <;> (try dsimp -iota only)))

theorem State.wakeEcc_sound {s : State} (ecc : Ecc) (hs : s.Sound floor queue) :
    (State.wakeEcc s ecc).2.Sound floor queue := by
  unfold State.wakeEcc
  (try dsimp -iota only)
  repeat' (first
    | with_reducible assumption
    | with_unfolding_none apply State.error_sound
    | with_unfolding_none apply State.carriageTake_sound
    | (split <;> (try dsimp -iota only)))

theorem State.laneEntry_sound {s : State} (ecc : Ecc) (hs : s.Sound floor queue) :
    (State.laneEntry s ecc).Sound floor queue := by
  unfold State.laneEntry
  (try dsimp -iota only)
  repeat' (first
    | with_reducible assumption
    | with_unfolding_none apply State.wakeEcc_sound
    | with_unfolding_none apply State.carriageTake_sound
    | with_unfolding_none apply State.setLane_sound
    | with_unfolding_none apply State.countG_sound
    | with_unfolding_none apply State.sound_ite
    | simp -iota only [State.sound_mk, State.sound_fold]
    | (split <;> (try dsimp -iota only)))

theorem State.wakeDrain_sound {s : State} (x1 : Nat) (hs : s.Sound floor queue) :
    (State.wakeDrain s x1).Sound floor queue := by
  induction x1 generalizing s with
  | zero =>
    unfold State.wakeDrain
    (try dsimp -iota only)
    repeat' (with_reducible assumption)
  | succ m ih =>
    unfold State.wakeDrain
    (try dsimp -iota only)
    repeat' (first
      | with_reducible assumption
      | with_unfolding_none apply ih
      | with_unfolding_none apply State.laneEntry_sound
      | with_unfolding_none apply State.sound_ite)

theorem State.setReplay_sound {s : State} (d : Nat) (r : Replay) (hs : s.Sound floor queue) :
    (State.setReplay s d r).Sound floor queue := by
  unfold State.setReplay
  (try dsimp -iota only)
  repeat' (first
    | with_reducible assumption
    | simp -iota only [State.sound_mk, State.sound_fold])

theorem State.rplEnd_sound {s : State} (d : Nat) (code : Nat) (hs : s.Sound floor queue) :
    (State.rplEnd s d code).Sound floor queue := by
  unfold State.rplEnd
  (try dsimp -iota only)
  repeat' (first
    | with_reducible assumption
    | with_unfolding_none apply State.setFld_sound
    | with_unfolding_none apply State.vfStatus_sound)

theorem State.rplDone_sound {s : State} (d : Nat) (hs : s.Sound floor queue) :
    (State.rplDone s d).Sound floor queue := by
  unfold State.rplDone
  (try dsimp -iota only)
  repeat' (first
    | with_reducible assumption
    | with_unfolding_none apply State.rplEnd_sound
    | with_unfolding_none apply State.sound_ite)

theorem State.rplLaunch_sound {s : State} (d : Nat) (r : Rec) (hs : s.Sound floor queue) :
    (State.rplLaunch s d r).Sound floor queue := by
  unfold State.rplLaunch
  (try dsimp -iota only)
  repeat' (first
    | with_reducible assumption
    | with_unfolding_none apply State.raise_sound
    | with_unfolding_none apply State.countD_sound
    | with_unfolding_none apply State.faultHead_sound
    | with_unfolding_none apply State.enterStage_sound
    | with_unfolding_none apply State.shapeRun_sound
    | with_unfolding_none apply State.sound_ite
    | (split <;> (try dsimp -iota only)))

theorem State.rplPass_sound {s : State} (d : Nat) (held : List Nat) (kept : List Rec) (x4 : List Rec) (hs : s.Sound floor queue) :
    (State.rplPass s d held kept x4).2.Sound floor queue := by
  induction x4 generalizing s d held kept with
  | nil =>
    unfold State.rplPass
    (try dsimp -iota only)
    repeat' (with_reducible assumption)
  | cons y l ih =>
    unfold State.rplPass
    (try dsimp -iota only)
    repeat' (first
      | with_reducible assumption
      | with_unfolding_none apply ih
      | with_unfolding_none apply State.rplLaunch_sound
      | with_unfolding_none apply State.sound_ite_snd)

theorem State.rplPump_sound {s : State} (d : Nat) (hs : s.Sound floor queue) :
    (State.rplPump s d).Sound floor queue := by
  unfold State.rplPump
  (try dsimp -iota only)
  repeat' (first
    | with_reducible assumption
    | with_unfolding_none apply State.rplPass_sound
    | with_unfolding_none apply State.setReplay_sound
    | with_unfolding_none apply State.rplDone_sound
    | with_unfolding_none apply State.sound_ite)

theorem State.rplStep_sound {s : State} (d : Nat) (n : Nat) (hs : s.Sound floor queue) :
    (State.rplStep s d n).Sound floor queue := by
  unfold State.rplStep
  (try dsimp -iota only)
  repeat' (first
    | with_reducible assumption
    | with_unfolding_none apply State.setReplay_sound)

theorem State.rplTake_sound {s : State} (d : Nat) (hs : s.Sound floor queue) :
    (State.rplTake s d).Sound floor queue := by
  unfold State.rplTake
  (try dsimp -iota only)
  repeat' (first
    | with_reducible assumption
    | with_unfolding_none apply State.rplStep_sound
    | with_unfolding_none apply State.setReg64_sound
    | with_unfolding_none apply State.setReplay_sound)

theorem State.rplRecord_sound {s : State} (d : Nat) (r : Rec) (hs : s.Sound floor queue) :
    (State.rplRecord s d r).Sound floor queue := by
  unfold State.rplRecord
  (try dsimp -iota only)
  repeat' (first
    | with_reducible assumption
    | with_unfolding_none apply State.rplEnd_sound
    | with_unfolding_none apply State.rplTake_sound
    | with_unfolding_none apply State.setReplay_sound
    | with_unfolding_none apply State.raise_sound
    | with_unfolding_none apply State.rplStep_sound
    | with_unfolding_none apply State.sound_ite)

theorem State.rplAsk_sound {s : State} (d : Nat) (hs : s.Sound floor queue) :
    (State.rplAsk s d).Sound floor queue := by
  unfold State.rplAsk
  (try dsimp -iota only)
  repeat' (first
    | with_reducible assumption
    | with_unfolding_none apply State.setReplay_sound
    | with_unfolding_none apply State.sound_ite
    | apply State.depRead_sound (ht := by assumption)
    | (split <;> (try dsimp -iota only)))

theorem State.rplTook_sound {s : State} (d : Nat) (line : Nat) (poison : Bool) (hs : s.Sound floor queue) :
    (State.rplTook s d line poison).Sound floor queue := by
  unfold State.rplTook
  (try dsimp -iota only)
  repeat' (first
    | with_reducible assumption
    | with_unfolding_none apply State.setReplay_sound
    | with_unfolding_none apply State.sound_ite)

theorem State.replayRecord_sound {s : State} (d : Nat) (hs : s.Sound floor queue) :
    (State.replayRecord s d).Sound floor queue := by
  unfold State.replayRecord
  (try dsimp -iota only)
  repeat' (first
    | with_reducible assumption
    | with_unfolding_none apply State.rplAsk_sound
    | with_unfolding_none apply State.error_sound
    | with_unfolding_none apply State.rplEnd_sound
    | with_unfolding_none apply State.rplRecord_sound
    | with_unfolding_none apply State.rplPump_sound
    | with_unfolding_none apply State.sound_ite
    | (split <;> (try dsimp -iota only)))

theorem State.rplEndsRun_sound {s : State} (d : Nat) (hs : s.Sound floor queue) :
    (State.rplEndsRun s d).Sound floor queue := by
  unfold State.rplEndsRun
  (try dsimp -iota only)
  repeat' (first
    | with_reducible assumption
    | with_unfolding_none apply State.discardHeld_sound
    | with_unfolding_none apply State.lower_sound
    | with_unfolding_none apply State.raise_sound
    | with_unfolding_none apply State.sound_ite)

theorem State.rplStart_sound {s : State} (d : Nat) (hs : s.Sound floor queue) :
    (State.rplStart s d).Sound floor queue := by
  unfold State.rplStart
  (try dsimp -iota only)
  repeat' (first
    | with_reducible assumption
    | with_unfolding_none apply State.rplEndsRun_sound
    | with_unfolding_none apply State.setReplay_sound
    | with_unfolding_none apply State.setReg64_sound
    | with_unfolding_none apply State.setFld_sound
    | with_unfolding_none apply State.rplEnd_sound
    | with_unfolding_none apply State.sound_ite)

theorem State.rplStop_sound {s : State} (d : Nat) (hs : s.Sound floor queue) :
    (State.rplStop s d).Sound floor queue := by
  unfold State.rplStop
  (try dsimp -iota only)
  repeat' (first
    | with_reducible assumption
    | with_unfolding_none apply State.rplEnd_sound
    | with_unfolding_none apply State.sound_ite)

theorem State.rplCut_sound {s : State} (d : Nat) (hs : s.Sound floor queue) :
    (State.rplCut s d).Sound floor queue := by
  unfold State.rplCut
  (try dsimp -iota only)
  repeat' (first
    | with_reducible assumption
    | with_unfolding_none apply State.setReplay_sound
    | with_unfolding_none apply State.freeRec_sound
    | with_unfolding_none apply State.rplEnd_sound
    | with_unfolding_none apply State.sound_ite
    | with_unfolding_none apply State.sound_foldl
    | simp -iota only [State.sound_mk, State.sound_fold])

theorem State.rplTakeover_sound {s : State} (hs : s.Sound floor queue) :
    (State.rplTakeover s).Sound floor queue := by
  unfold State.rplTakeover
  (try dsimp -iota only)
  repeat' (first
    | with_reducible assumption
    | with_unfolding_none apply State.rplEnd_sound
    | with_unfolding_none apply State.sound_foldl
    | (intro _ _ _; (try dsimp -iota only)))

theorem State.unparkLose_sound {s : State} (d : Nat) (eid : Nat) (e : Entry) (hs : s.Sound floor queue) :
    (State.unparkLose s d eid e).Sound floor queue := by
  unfold State.unparkLose
  (try dsimp -iota only)
  repeat' (first
    | with_reducible assumption
    | with_unfolding_none apply State.setEntryNow_sound
    | with_unfolding_none apply State.mirrorEntry_sound
    | with_unfolding_none apply State.setReplay_sound)

theorem State.unpark_sound {s : State} (d : Nat) (discard : Bool) (eid : Nat) (hs : s.Sound floor queue) :
    (State.unpark s d discard eid).Sound floor queue := by
  unfold State.unpark
  (try dsimp -iota only)
  repeat' (first
    | with_reducible assumption
    | with_unfolding_none apply State.unparkLose_sound
    | with_unfolding_none apply State.setEntryNow_sound
    | with_unfolding_none apply State.mirrorEntry_sound
    | with_unfolding_none apply State.sound_ite
    | simp -iota only [State.sound_mk, State.sound_fold])

theorem State.unparkAll_sound {s : State} (d : Nat) (hs : s.Sound floor queue) :
    (State.unparkAll s d).Sound floor queue := by
  unfold State.unparkAll
  (try dsimp -iota only)
  repeat' (first
    | with_reducible assumption
    | with_unfolding_none apply State.unpark_sound
    | with_unfolding_none apply State.sound_foldl
    | (intro _ _ _; (try dsimp -iota only)))

theorem State.parkEnter_sound {s : State} (d : Nat) (hs : s.Sound floor queue) :
    (State.parkEnter s d).Sound floor queue := by
  unfold State.parkEnter
  (try dsimp -iota only)
  repeat' (first
    | with_reducible assumption
    | with_unfolding_none apply State.raise_sound
    | with_unfolding_none apply State.breach_sound
    | with_unfolding_none apply State.sound_ite
    | simp -iota only [State.sound_mk, State.sound_fold])

theorem State.noteDrained_sound {s : State} (d : Nat) (hs : s.Sound floor queue) :
    (State.noteDrained s d).Sound floor queue := by
  unfold State.noteDrained
  (try dsimp -iota only)
  repeat' (first
    | with_reducible assumption
    | with_unfolding_none apply State.vfStatus_sound
    | with_unfolding_none apply State.sound_ite
    | simp -iota only [State.sound_mk, State.sound_fold])

theorem State.domEnable_sound {s : State} (d : Nat) (hs : s.Sound floor queue) :
    (State.domEnable s d).Sound floor queue := by
  unfold State.domEnable
  (try dsimp -iota only)
  repeat' (first
    | with_reducible assumption
    | with_unfolding_none apply State.raise_sound
    | with_unfolding_none apply State.rplStart_sound
    | with_unfolding_none apply State.runStart_sound
    | with_unfolding_none apply State.parkEnter_sound
    | with_unfolding_none apply State.offerDomain_sound
    | with_unfolding_none apply State.rplPump_sound
    | with_unfolding_none apply State.sound_ite
    | simp -iota only [State.sound_mk, State.sound_fold])

theorem State.dropRanked_sound {s : State} (d : Nat) (hs : s.Sound floor queue) :
    (State.dropRanked s d).Sound floor queue := by
  unfold State.dropRanked
  (try dsimp -iota only)
  repeat' (first
    | with_reducible assumption
    | with_unfolding_none apply State.dropSample_sound
    | simp -iota only [State.sound_mk, State.sound_fold])

theorem State.domDisable_sound {s : State} (d : Nat) (hs : s.Sound floor queue) :
    (State.domDisable s d).Sound floor queue := by
  unfold State.domDisable
  (try dsimp -iota only)
  repeat' (first
    | with_reducible assumption
    | with_unfolding_none apply State.lower_sound
    | with_unfolding_none apply State.dropRanked_sound
    | with_unfolding_none apply State.rplCut_sound
    | with_unfolding_none apply State.runEnd_sound
    | with_unfolding_none apply State.applyWaiting_sound
    | with_unfolding_none apply State.applyBnd_sound
    | with_unfolding_none apply State.applyBucket_sound
    | with_unfolding_none apply State.jFlush_sound
    | with_unfolding_none apply State.noteDrained_sound
    | with_unfolding_none apply State.sound_ite)

theorem State.resetDomRegs_sound {s : State} (d : Nat) (letter : Nat) (hs : s.Sound floor queue) :
    (State.resetDomRegs s d letter).Sound floor queue := by
  unfold State.resetDomRegs
  (try dsimp -iota only)
  repeat' (first
    | with_reducible assumption
    | with_unfolding_none apply State.resetReg_sound
    | with_unfolding_none apply State.sound_foldl
    | (intro _ _ _; (try dsimp -iota only)))

theorem State.resetPage_sound {s : State} (d : Nat) (letter : Nat) (hs : s.Sound floor queue) :
    (State.resetPage s d letter).Sound floor queue := by
  unfold State.resetPage
  (try dsimp -iota only)
  repeat' (first
    | with_reducible assumption
    | with_unfolding_none apply State.resetReg_sound
    | with_unfolding_none apply State.sound_ite
    | with_unfolding_none apply State.sound_foldl
    | (intro _ _ _; (try dsimp -iota only)))

theorem State.resetHeader_sound {s : State} (fn : Nat) (hs : s.Sound floor queue) :
    (State.resetHeader s fn).Sound floor queue := by
  unfold State.resetHeader
  (try dsimp -iota only)
  repeat' (first
    | with_reducible assumption
    | simp -iota only [State.sound_mk, State.sound_fold])

theorem State.resetOwned_sound {s : State} (d : Nat) (letter : Nat) (hs : s.Sound floor queue) :
    (State.resetOwned s d letter).Sound floor queue := by
  unfold State.resetOwned
  (try dsimp -iota only)
  repeat' (first
    | with_reducible assumption
    | with_unfolding_none apply State.clearPtrs_sound
    | with_unfolding_none apply State.resetReg_sound
    | with_unfolding_none apply State.sound_foldl
    | (intro _ _ _; (try dsimp -iota only)))

theorem State.abortMove_sound {s : State} (d : Nat) (hs : s.Sound floor queue) :
    (State.abortMove s d).Sound floor queue := by
  unfold State.abortMove
  (try dsimp -iota only)
  repeat' (first
    | with_reducible assumption
    | with_unfolding_none apply State.dropJobs_sound
    | simp -iota only [State.sound_mk, State.sound_fold])

theorem State.resetCvn_sound {s : State} (d : Nat) (hs : s.Sound floor queue) :
    (State.resetCvn s d).Sound floor queue := by
  unfold State.resetCvn
  (try dsimp -iota only)
  repeat' (first
    | with_reducible assumption
    | simp -iota only [State.sound_mk, State.sound_fold])

theorem State.flrEgr_sound {s : State} (d : Nat) (dirty : Bool) (hs : s.Sound floor queue) :
    (State.flrEgr s d dirty).Sound floor queue := by
  unfold State.flrEgr
  (try dsimp -iota only)
  repeat' (first
    | with_reducible assumption
    | simp -iota only [State.sound_mk, State.sound_fold])

theorem State.flrAs_sound {s : State} (d : Nat) (letter : Nat) (dirty : Bool) (hs : s.Sound floor queue) :
    (State.flrAs s d letter dirty).Sound floor queue := by
  unfold State.flrAs
  (try dsimp -iota only)
  repeat' (first
    | with_reducible assumption
    | with_unfolding_none apply State.abortMove_sound
    | with_unfolding_none apply State.flrEgr_sound
    | with_unfolding_none apply State.purge_sound
    | with_unfolding_none apply State.rplCut_sound
    | with_unfolding_none apply State.runEnd_sound
    | with_unfolding_none apply State.freeActive_sound
    | with_unfolding_none apply State.freeUnsent_sound
    | with_unfolding_none apply State.resetCvn_sound
    | with_unfolding_none apply State.fence_sound
    | with_unfolding_none apply State.setFld_sound
    | with_unfolding_none apply State.walkEntries_sound
    | with_unfolding_none apply State.beginWalk_sound
    | with_unfolding_none apply State.setJrnl_sound
    | with_unfolding_none apply State.jFlush_sound
    | with_unfolding_none apply State.refillMeters_sound
    | with_unfolding_none apply State.setBucket_sound
    | with_unfolding_none apply State.resetOwned_sound
    | with_unfolding_none apply State.resetDomRegs_sound
    | with_unfolding_none apply State.resetPage_sound
    | with_unfolding_none apply State.setReg_sound
    | with_unfolding_none apply State.applyBnd_sound
    | with_unfolding_none apply State.applyBucket_sound
    | with_unfolding_none apply State.resetHeader_sound
    | with_unfolding_none apply State.cfgStale_sound
    | with_unfolding_none apply State.wakeReq_sound
    | with_unfolding_none apply State.noteDrained_sound
    | with_unfolding_none apply State.sound_ite)

theorem State.flr_sound {s : State} (d : Nat) (letter : Nat) (hs : s.Sound floor queue) :
    (State.flr s d letter).Sound floor queue := by
  unfold State.flr
  (try dsimp -iota only)
  repeat' (first
    | with_reducible assumption
    | with_unfolding_none apply State.flrAs_sound)

theorem State.flrFn_sound {s : State} (fn : Nat) (hs : s.Sound floor queue) :
    (State.flrFn s fn).Sound floor queue := by
  unfold State.flrFn
  (try dsimp -iota only)
  repeat' (first
    | with_reducible assumption
    | with_unfolding_none apply State.flr_sound
    | with_unfolding_none apply State.sound_ite
    | simp -iota only [State.sound_mk, State.sound_fold])

theorem State.heldFlrs_sound {s : State} (hs : s.Sound floor queue) :
    (State.heldFlrs s).Sound floor queue := by
  unfold State.heldFlrs
  (try dsimp -iota only)
  repeat' (first
    | with_reducible assumption
    | with_unfolding_none apply State.flrAs_sound
    | with_unfolding_none apply State.sound_foldl
    | simp -iota only [State.sound_mk, State.sound_fold]
    | (intro _ _ _; (try dsimp -iota only)))

theorem State.setVfs_sound {s : State} (n : Nat) (hs : s.Sound floor queue) :
    (State.setVfs s n).Sound floor queue := by
  unfold State.setVfs
  (try dsimp -iota only)
  repeat' (first
    | with_reducible assumption
    | with_unfolding_none apply State.flrFn_sound
    | with_unfolding_none apply State.sound_foldl
    | simp -iota only [State.sound_mk, State.sound_fold]
    | (intro _ _ _; (try dsimp -iota only)))

theorem State.setSriov_sound {s : State} (en : Bool) (n : Nat) (hs : s.Sound floor queue) :
    (State.setSriov s en n).Sound floor queue := by
  unfold State.setSriov
  (try dsimp -iota only)
  repeat' (first
    | with_reducible assumption
    | with_unfolding_none apply State.setVfs_sound
    | simp -iota only [State.sound_mk, State.sound_fold])

theorem State.domReset_sound {s : State} (hs : s.Sound floor queue) :
    (State.domReset s).Sound floor queue := by
  unfold State.domReset
  (try dsimp -iota only)
  repeat' (first
    | with_reducible assumption
    | with_unfolding_none apply State.flr_sound
    | with_unfolding_none apply State.raise_sound
    | with_unfolding_none apply State.setFld_sound
    | with_unfolding_none apply State.sound_ite
    | simp -iota only [State.sound_mk, State.sound_fold])

theorem State.flrReport_sound {s : State} (d : Nat) (w : Walk) (hs : s.Sound floor queue) :
    (State.flrReport s d w).Sound floor queue := by
  unfold State.flrReport
  (try dsimp -iota only)
  repeat' (first
    | with_reducible assumption
    | with_unfolding_none apply State.setFld_sound
    | with_unfolding_none apply State.sound_ite)

theorem State.walkDone_sound {s : State} (d : Nat) (hs : s.Sound floor queue) :
    (State.walkDone s d).Sound floor queue := by
  unfold State.walkDone
  (try dsimp -iota only)
  repeat' (first
    | with_reducible assumption
    | with_unfolding_none apply State.setReg_sound
    | with_unfolding_none apply State.flrReport_sound
    | with_unfolding_none apply State.raise_sound
    | with_unfolding_none apply State.lower_sound
    | with_unfolding_none apply State.releaseRetry_sound
    | with_unfolding_none apply State.sound_ite
    | with_unfolding_none apply State.sound_foldl
    | simp -iota only [State.sound_mk, State.sound_fold]
    | (intro _ _ _; (try dsimp -iota only))
    | (split <;> (try dsimp -iota only)))

theorem State.walkEnd_sound {s : State} (d : Nat) (hs : s.Sound floor queue) :
    (State.walkEnd s d).Sound floor queue := by
  unfold State.walkEnd
  (try dsimp -iota only)
  repeat' (first
    | with_reducible assumption
    | with_unfolding_none apply State.walkDone_sound
    | with_unfolding_none apply State.sound_ite)

theorem State.saveStart_sound {s : State} (d : Nat) (hs : s.Sound floor queue) :
    (State.saveStart s d).Sound floor queue := by
  unfold State.saveStart
  (try dsimp -iota only)
  repeat' (first
    | with_reducible assumption
    | with_unfolding_none apply State.runEnd_sound
    | with_unfolding_none apply State.dropGroup_sound
    | with_unfolding_none apply State.startJob_sound
    | with_unfolding_none apply State.raise_sound
    | with_unfolding_none apply State.setFld_sound
    | with_unfolding_none apply State.sound_foldl
    | simp -iota only [State.sound_mk, State.sound_fold])

theorem State.saveRead_sound {s : State} (d : Nat) (hs : s.Sound floor queue) :
    (State.saveRead s d).Sound floor queue := by
  unfold State.saveRead
  (try dsimp -iota only)
  repeat' (first
    | with_reducible assumption
    | with_unfolding_none apply State.access_sound
    | with_unfolding_none apply State.joinAll_sound
    | with_unfolding_none apply State.sound_ite
    | simp -iota only [State.sound_mk, State.sound_fold]
    | (split <;> (try dsimp -iota only)))

theorem State.domCmd_sound {s : State} (d : Nat) (hs : s.Sound floor queue) :
    (State.domCmd s d).Sound floor queue := by
  unfold State.domCmd
  (try dsimp -iota only)
  repeat' (first
    | with_reducible assumption
    | with_unfolding_none apply State.setFld_sound
    | with_unfolding_none apply State.saveStart_sound
    | with_unfolding_none apply State.lower_sound
    | with_unfolding_none apply State.sound_ite
    | (split <;> (try dsimp -iota only)))

theorem State.saveDone_sound {s : State} (d : Nat) (hs : s.Sound floor queue) :
    (State.saveDone s d).Sound floor queue := by
  unfold State.saveDone
  (try dsimp -iota only)
  repeat' (first
    | with_reducible assumption
    | with_unfolding_none apply State.dropJobs_sound
    | with_unfolding_none apply State.raise_sound
    | with_unfolding_none apply State.setFld_sound
    | with_unfolding_none apply State.lower_sound
    | with_unfolding_none apply State.vfStatus_sound
    | simp -iota only [State.sound_mk, State.sound_fold]
    | (split <;> (try dsimp -iota only)))

theorem State.depLine_sound {s : State} (hs : s.Sound floor queue) :
    (State.depLine s).Sound floor queue := by
  unfold State.depLine
  (try dsimp -iota only)
  repeat' (first
    | with_reducible assumption
    | with_unfolding_none apply State.setFld_sound
    | with_unfolding_none apply State.raise_sound
    | with_unfolding_none apply State.startJob_sound
    | with_unfolding_none apply State.sound_ite)

theorem State.depLineDone_sound {s : State} (write : Bool) (poison : Bool) (line : Nat) (hs : s.Sound floor queue) :
    (State.depLineDone s write poison line).Sound floor queue := by
  unfold State.depLineDone
  (try dsimp -iota only)
  repeat' (first
    | with_reducible assumption
    | with_unfolding_none apply State.dropJobs_sound
    | with_unfolding_none apply State.lower_sound
    | with_unfolding_none apply State.setFld_sound
    | with_unfolding_none apply State.setReg_sound
    | with_unfolding_none apply State.sound_ite
    | with_unfolding_none apply State.sound_foldl
    | (intro _ _ _; (try dsimp -iota only)))

theorem State.imgAsk_sound {s : State} (slot : Bool) (o : Nat) (n : Nat) (hs : s.Sound floor queue) :
    (State.imgAsk s slot o n).Sound floor queue := by
  unfold State.imgAsk
  (try dsimp -iota only)
  repeat' (first
    | with_reducible assumption
    | with_unfolding_none apply State.setFld_sound
    | with_unfolding_none apply State.raise_sound
    | simp -iota only [State.sound_mk, State.sound_fold])

theorem State.imgRead_sound {s : State} (ph : LoadPhase) (slot : Bool) (hs : s.Sound floor queue) :
    (State.imgRead s ph slot).Sound floor queue := by
  unfold State.imgRead
  (try dsimp -iota only)
  repeat' (first
    | with_reducible assumption
    | with_unfolding_none apply State.imgAsk_sound
    | simp -iota only [State.sound_mk, State.sound_fold])

theorem State.arbStart_sound {s : State} (reload : Bool) (hs : s.Sound floor queue) :
    (State.arbStart s reload).Sound floor queue := by
  unfold State.arbStart
  (try dsimp -iota only)
  repeat' (first
    | with_reducible assumption
    | with_unfolding_none apply State.setFld_sound
    | with_unfolding_none apply State.imgRead_sound
    | simp -iota only [State.sound_mk, State.sound_fold])

theorem State.imgErr_sound {s : State} (slot : Bool) (code : Nat) (off : Nat) (hs : s.Sound floor queue) :
    (State.imgErr s slot code off).Sound floor queue := by
  unfold State.imgErr
  (try dsimp -iota only)
  repeat' (first
    | with_reducible assumption
    | with_unfolding_none apply State.setFld_sound
    | with_unfolding_none apply State.sound_ite)

theorem State.imgJudge_sound {s : State} (code : Nat) (off : Nat) (hs : s.Sound floor queue) :
    (State.imgJudge s code off).Sound floor queue := by
  unfold State.imgJudge
  (try dsimp -iota only)
  repeat' (first
    | with_reducible assumption
    | with_unfolding_none apply State.imgErr_sound
    | with_unfolding_none apply State.lower_sound
    | with_unfolding_none apply State.imgRead_sound
    | with_unfolding_none apply State.sound_ite
    | simp -iota only [State.sound_mk, State.sound_fold])

theorem State.imgStep_sound {s : State} (hs : s.Sound floor queue) :
    (State.imgStep s).Sound floor queue := by
  unfold State.imgStep
  (try dsimp -iota only)
  repeat' (first
    | with_reducible assumption
    | with_unfolding_none apply State.lower_sound
    | with_unfolding_none apply State.imgJudge_sound
    | with_unfolding_none apply State.imgAsk_sound
    | with_unfolding_none apply State.sound_ite
    | (split <;> (try dsimp -iota only)))

theorem State.imgData_sound {s : State} (mailbox : Bool) (slot : Bool) (off : Nat) (bytes : List Byte) (hs : s.Sound floor queue) :
    (State.imgData s mailbox slot off bytes).2.Sound floor queue := by
  unfold State.imgData
  (try dsimp -iota only)
  repeat' (first
    | with_reducible assumption
    | with_unfolding_none apply State.raise_sound
    | with_unfolding_none apply State.imgStep_sound
    | with_unfolding_none apply State.sound_ite
    | with_unfolding_none apply State.sound_ite_snd
    | simp -iota only [State.sound_mk, State.sound_fold])

theorem State.imgMailbox_sound {s : State} (hs : s.Sound floor queue) :
    (State.imgMailbox s).Sound floor queue := by
  unfold State.imgMailbox
  (try dsimp -iota only)
  repeat' (first
    | with_reducible assumption
    | with_unfolding_none apply State.imgData_sound)

theorem State.imgTimeout_sound {s : State} (hs : s.Sound floor queue) :
    (State.imgTimeout s).Sound floor queue := by
  unfold State.imgTimeout
  (try dsimp -iota only)
  repeat' (first
    | with_reducible assumption
    | with_unfolding_none apply State.imgJudge_sound
    | with_unfolding_none apply State.sound_ite)

theorem State.imgAbsent_sound {s : State} (hs : s.Sound floor queue) :
    (State.imgAbsent s).Sound floor queue := by
  unfold State.imgAbsent
  (try dsimp -iota only)
  repeat' (first
    | with_reducible assumption
    | with_unfolding_none apply State.imgJudge_sound
    | with_unfolding_none apply State.raise_sound
    | with_unfolding_none apply State.sound_ite)

theorem State.imgValues_sound {s : State} (hs : s.Sound floor queue) :
    (State.imgValues s).Sound floor queue := by
  unfold State.imgValues
  (try dsimp -iota only)
  repeat' (first
    | with_reducible assumption
    | with_unfolding_none apply State.setFld_sound
    | with_unfolding_none apply State.raise_sound
    | with_unfolding_none apply State.sound_ite
    | with_unfolding_none apply State.sound_foldl
    | (intro _ _ _; (try dsimp -iota only)))

theorem State.imgApply_sound {s : State} (im : Image) (skipped : Bool) (hs : s.Sound floor queue) :
    (State.imgApply s im skipped).Sound floor queue := by
  unfold State.imgApply
  (try dsimp -iota only)
  repeat' (first
    | with_reducible assumption
    | with_unfolding_none apply State.imgValues_sound
    | with_unfolding_none apply State.setFld_sound
    | with_unfolding_none apply State.setReg_sound
    | with_unfolding_none apply State.raise_sound
    | with_unfolding_none apply State.cfgChanged_sound
    | with_unfolding_none apply State.sound_ite
    | simp -iota only [State.sound_mk, State.sound_fold])

theorem State.imgNone_sound {s : State} (hs : s.Sound floor queue) :
    (State.imgNone s).Sound floor queue := by
  unfold State.imgNone
  (try dsimp -iota only)
  repeat' (first
    | with_reducible assumption
    | with_unfolding_none apply State.imgValues_sound
    | with_unfolding_none apply State.setFld_sound
    | with_unfolding_none apply State.setReg_sound
    | with_unfolding_none apply State.error_sound
    | with_unfolding_none apply State.cfgChanged_sound
    | simp -iota only [State.sound_mk, State.sound_fold])

theorem State.imgLoad_sound {s : State} (slot : Bool) (hs : s.Sound floor queue) :
    (State.imgLoad s slot).Sound floor queue := by
  unfold State.imgLoad
  (try dsimp -iota only)
  repeat' (first
    | with_reducible assumption
    | with_unfolding_none apply State.setFld_sound
    | with_unfolding_none apply State.imgRead_sound)

theorem State.arbDone_sound {s : State} (hs : s.Sound floor queue) :
    (State.arbDone s).Sound floor queue := by
  unfold State.arbDone
  (try dsimp -iota only)
  repeat' (first
    | with_reducible assumption
    | with_unfolding_none apply State.raise_sound
    | with_unfolding_none apply State.flr_sound
    | with_unfolding_none apply State.imgLoad_sound
    | with_unfolding_none apply State.setFld_sound
    | with_unfolding_none apply State.sound_ite
    | with_unfolding_none apply State.sound_foldl
    | simp -iota only [State.sound_mk, State.sound_fold]
    | (intro _ _ _; (try dsimp -iota only))
    | (split <;> (try dsimp -iota only)))

theorem State.imgDone_sound {s : State} (hs : s.Sound floor queue) :
    (State.imgDone s).2.Sound floor queue := by
  unfold State.imgDone
  (try dsimp -iota only)
  repeat' (first
    | with_reducible assumption
    | with_unfolding_none apply State.imgApply_sound
    | with_unfolding_none apply State.imgLoad_sound
    | with_unfolding_none apply State.imgNone_sound
    | with_unfolding_none apply State.sound_ite_snd
    | simp -iota only [State.sound_mk, State.sound_fold]
    | (split <;> (try dsimp -iota only)))

theorem State.rxCount_sound {s : State} (p : ChlPort) (r : Rec) (hs : s.Sound floor queue) :
    (State.rxCount s p r).Sound floor queue := by
  unfold State.rxCount
  (try dsimp -iota only)
  repeat' (first
    | with_reducible assumption
    | with_unfolding_none apply State.traffic_sound
    | with_unfolding_none apply State.setSide_sound
    | with_unfolding_none apply State.sound_ite)

theorem State.forward_sound {s : State} (p : ChlPort) (r : Rec) (hs : s.Sound floor queue) :
    (State.forward s p r).Sound floor queue := by
  unfold State.forward
  (try dsimp -iota only)
  repeat' (first
    | with_reducible assumption
    | with_unfolding_none apply State.setSide_sound
    | with_unfolding_none apply State.countG_sound
    | with_unfolding_none apply State.sound_ite)

theorem State.pass_sound {s : State} (p : ChlPort) (r : Rec) (hs : s.Sound floor queue) :
    (State.pass s p r).Sound floor queue := by
  unfold State.pass
  (try dsimp -iota only)
  repeat' (first
    | with_reducible assumption
    | with_unfolding_none apply State.forward_sound
    | with_unfolding_none apply State.sound_ite)

theorem State.passOn_sound {s : State} (p : ChlPort) (r : Rec) (hs : s.Sound floor queue) :
    (State.passOn s p r).Sound floor queue := by
  unfold State.passOn
  (try dsimp -iota only)
  repeat' (first
    | with_reducible assumption
    | with_unfolding_none apply State.forward_sound
    | with_unfolding_none apply State.countG_sound
    | with_unfolding_none apply State.caravanLost_sound
    | with_unfolding_none apply State.pass_sound
    | with_unfolding_none apply State.sound_ite)

theorem State.ringLost_sound {s : State} (i : Nat) (hs : s.Sound floor queue) :
    (State.ringLost s i).Sound floor queue := by
  unfold State.ringLost
  (try dsimp -iota only)
  repeat' (first
    | with_reducible assumption
    | with_unfolding_none apply State.raise_sound
    | with_unfolding_none apply State.countG_sound
    | with_unfolding_none apply State.error_sound
    | with_unfolding_none apply State.resync_sound
    | with_unfolding_none apply State.sound_ite)

theorem State.hopLoss_sound {s : State} (p : ChlPort) (hs : s.Sound floor queue) :
    (State.hopLoss s p).Sound floor queue := by
  unfold State.hopLoss
  (try dsimp -iota only)
  repeat' (first
    | with_reducible assumption
    | with_unfolding_none apply State.ringLost_sound
    | with_unfolding_none apply State.sendCtrl_sound)

theorem State.rxCheck_sound {s : State} (p : ChlPort) (r : Rec) (hs : s.Sound floor queue) :
    (State.rxCheck s p r).Sound floor queue := by
  unfold State.rxCheck
  (try dsimp -iota only)
  repeat' (first
    | with_reducible assumption
    | with_unfolding_none apply State.setSide_sound
    | with_unfolding_none apply State.hopLoss_sound
    | with_unfolding_none apply State.sound_ite)

theorem State.checkSend_sound {s : State} (p : ChlPort) (hs : s.Sound floor queue) :
    (State.checkSend s p).Sound floor queue := by
  unfold State.checkSend
  (try dsimp -iota only)
  repeat' (first
    | with_reducible assumption
    | with_unfolding_none apply State.setSide_sound
    | with_unfolding_none apply State.sound_ite)

theorem State.rxLoss_sound {s : State} (p : ChlPort) (r : Rec) (hs : s.Sound floor queue) :
    (State.rxLoss s p r).Sound floor queue := by
  unfold State.rxLoss
  (try dsimp -iota only)
  repeat' (first
    | with_reducible assumption
    | with_unfolding_none apply State.ringLost_sound
    | with_unfolding_none apply State.forward_sound
    | with_unfolding_none apply State.sound_ite)

theorem State.lanesTo_sound {s : State} (p : ChlPort) (l : BitVec 4) (hs : s.Sound floor queue) :
    (State.lanesTo s p l).Sound floor queue := by
  unfold State.lanesTo
  (try dsimp -iota only)
  repeat' (first
    | with_reducible assumption
    | with_unfolding_none apply State.setSide_sound
    | with_unfolding_none apply State.hopLoss_sound
    | with_unfolding_none apply State.sound_ite)

theorem State.setPause_sound {s : State} (who : Nat) (dir : Bool) (on : Bool) (hs : s.Sound floor queue) :
    (State.setPause s who dir on).Sound floor queue := by
  unfold State.setPause
  (try dsimp -iota only)
  repeat' (first
    | with_reducible assumption
    | simp -iota only [State.sound_mk, State.sound_fold])

theorem State.txMark_sound {s : State} (p : ChlPort) (hs : s.Sound floor queue) :
    (State.txMark s p).Sound floor queue := by
  unfold State.txMark
  (try dsimp -iota only)
  repeat' (first
    | with_reducible assumption
    | with_unfolding_none apply State.setSide_sound
    | with_unfolding_none apply State.setPause_sound
    | with_unfolding_none apply State.sendCtrl_sound
    | with_unfolding_none apply State.sound_ite)

theorem State.rxPause_sound {s : State} (p : ChlPort) (r : Rec) (hs : s.Sound floor queue) :
    (State.rxPause s p r).Sound floor queue := by
  unfold State.rxPause
  (try dsimp -iota only)
  repeat' (first
    | with_reducible assumption
    | with_unfolding_none apply State.setPause_sound
    | with_unfolding_none apply State.forward_sound
    | with_unfolding_none apply State.sound_ite)

theorem State.windowOver_sound {s : State} (hs : s.Sound floor queue) :
    (State.windowOver s).Sound floor queue := by
  unfold State.windowOver
  (try dsimp -iota only)
  repeat' (first
    | with_reducible assumption
    | simp -iota only [State.sound_mk, State.sound_fold])

theorem State.rxResume_sound {s : State} (p : ChlPort) (r : Rec) (hs : s.Sound floor queue) :
    (State.rxResume s p r).Sound floor queue := by
  unfold State.rxResume
  (try dsimp -iota only)
  repeat' (first
    | with_reducible assumption
    | with_unfolding_none apply State.windowOver_sound
    | with_unfolding_none apply State.setPause_sound
    | with_unfolding_none apply State.forward_sound
    | with_unfolding_none apply State.sound_ite)

theorem State.setJoined_sound {s : State} (l : List Nat) (hs : s.Sound floor queue) :
    (State.setJoined s l).Sound floor queue := by
  unfold State.setJoined
  (try dsimp -iota only)
  repeat' (first
    | with_reducible assumption
    | with_unfolding_none apply State.setFld_sound)

theorem State.takeCoord_sound {s : State} (hs : s.Sound floor queue) :
    (State.takeCoord s).Sound floor queue := by
  unfold State.takeCoord
  (try dsimp -iota only)
  repeat' (first
    | with_reducible assumption
    | with_unfolding_none apply State.setFld_sound
    | simp -iota only [State.sound_mk, State.sound_fold])

theorem State.memberGone_sound {s : State} (p : Nat) (hs : s.Sound floor queue) :
    (State.memberGone s p).Sound floor queue := by
  unfold State.memberGone
  (try dsimp -iota only)
  repeat' (first
    | with_reducible assumption
    | with_unfolding_none apply State.setJoined_sound
    | with_unfolding_none apply State.takeCoord_sound
    | with_unfolding_none apply State.setFld_sound
    | with_unfolding_none apply State.sound_ite
    | (split <;> (try dsimp -iota only)))

theorem State.beaconMiss_sound {s : State} (hs : s.Sound floor queue) :
    (State.beaconMiss s).Sound floor queue := by
  unfold State.beaconMiss
  (try dsimp -iota only)
  repeat' (first
    | with_reducible assumption
    | with_unfolding_none apply State.memberGone_sound
    | with_unfolding_none apply State.sound_ite
    | simp -iota only [State.sound_mk, State.sound_fold])

theorem State.beaconSend_sound {s : State} (hs : s.Sound floor queue) :
    (State.beaconSend s).Sound floor queue := by
  unfold State.beaconSend
  (try dsimp -iota only)
  repeat' (first
    | with_reducible assumption
    | with_unfolding_none apply State.sendCtrl_sound
    | with_unfolding_none apply State.sound_ite
    | simp -iota only [State.sound_mk, State.sound_fold])

theorem State.beaconTake_sound {s : State} (r : Rec) (hs : s.Sound floor queue) :
    (State.beaconTake s r).Sound floor queue := by
  unfold State.beaconTake
  (try dsimp -iota only)
  repeat' (first
    | with_reducible assumption
    | with_unfolding_none apply State.setFld_sound
    | simp -iota only [State.sound_mk, State.sound_fold])

theorem State.rxBeacon_sound {s : State} (p : ChlPort) (r : Rec) (hs : s.Sound floor queue) :
    (State.rxBeacon s p r).Sound floor queue := by
  unfold State.rxBeacon
  (try dsimp -iota only)
  repeat' (first
    | with_reducible assumption
    | with_unfolding_none apply State.beaconTake_sound
    | with_unfolding_none apply State.setFld_sound
    | with_unfolding_none apply State.forward_sound
    | with_unfolding_none apply State.sound_ite
    | simp -iota only [State.sound_mk, State.sound_fold]
    | (split <;> (try dsimp -iota only)))

theorem State.probeOut_sound {s : State} (hs : s.Sound floor queue) :
    (State.probeOut s).Sound floor queue := by
  unfold State.probeOut
  (try dsimp -iota only)
  repeat' (first
    | with_reducible assumption
    | with_unfolding_none apply State.sendCtrl_sound)

theorem State.calibrate_sound {s : State} (hs : s.Sound floor queue) :
    (State.calibrate s).Sound floor queue := by
  unfold State.calibrate
  (try dsimp -iota only)
  repeat' (first
    | with_reducible assumption
    | with_unfolding_none apply State.probeOut_sound
    | with_unfolding_none apply State.sound_foldl
    | simp -iota only [State.sound_mk, State.sound_fold]
    | (intro _ _ _; (try dsimp -iota only)))

theorem State.probeSend_sound {s : State} (hs : s.Sound floor queue) :
    (State.probeSend s).Sound floor queue := by
  unfold State.probeSend
  (try dsimp -iota only)
  repeat' (first
    | with_reducible assumption
    | with_unfolding_none apply State.probeOut_sound
    | with_unfolding_none apply State.sound_ite
    | simp -iota only [State.sound_mk, State.sound_fold])

theorem State.setRtt_sound {s : State} (t : Nat) (hs : s.Sound floor queue) :
    (State.setRtt s t).Sound floor queue := by
  unfold State.setRtt
  (try dsimp -iota only)
  repeat' (first
    | with_reducible assumption
    | with_unfolding_none apply State.setFld_sound
    | with_unfolding_none apply State.raise_sound
    | with_unfolding_none apply State.sound_ite)

theorem State.calibTake_sound {s : State} (at_ : Nat) (n : Nat) (m : Nat) (t : Nat) (hs : s.Sound floor queue) :
    (State.calibTake s at_ n m t).Sound floor queue := by
  unfold State.calibTake
  (try dsimp -iota only)
  repeat' (first
    | with_reducible assumption
    | with_unfolding_none apply State.setRtt_sound
    | with_unfolding_none apply State.sound_ite
    | simp -iota only [State.sound_mk, State.sound_fold])

theorem State.ringExcess_sound {s : State} (t : Nat) (hs : s.Sound floor queue) :
    (State.ringExcess s t).Sound floor queue := by
  unfold State.ringExcess
  (try dsimp -iota only)
  repeat' (first
    | with_reducible assumption
    | with_unfolding_none apply State.probe_sound
    | with_unfolding_none apply State.sound_ite
    | simp -iota only [State.sound_mk, State.sound_fold])

theorem State.rxProbe_sound {s : State} (p : ChlPort) (r : Rec) (hs : s.Sound floor queue) :
    (State.rxProbe s p r).Sound floor queue := by
  unfold State.rxProbe
  (try dsimp -iota only)
  repeat' (first
    | with_reducible assumption
    | with_unfolding_none apply State.forward_sound
    | with_unfolding_none apply State.calibTake_sound
    | with_unfolding_none apply State.ringExcess_sound
    | with_unfolding_none apply State.sound_ite
    | (split <;> (try dsimp -iota only)))

theorem State.windowSend_sound {s : State} (hs : s.Sound floor queue) :
    (State.windowSend s).Sound floor queue := by
  unfold State.windowSend
  (try dsimp -iota only)
  repeat' (first
    | with_reducible assumption
    | with_unfolding_none apply State.sendCtrl_sound
    | with_unfolding_none apply State.sound_ite
    | simp -iota only [State.sound_mk, State.sound_fold])

theorem State.rxWindow_sound {s : State} (p : ChlPort) (r : Rec) (hs : s.Sound floor queue) :
    (State.rxWindow s p r).Sound floor queue := by
  unfold State.rxWindow
  (try dsimp -iota only)
  repeat' (first
    | with_reducible assumption
    | with_unfolding_none apply State.forward_sound
    | with_unfolding_none apply State.sound_ite
    | simp -iota only [State.sound_mk, State.sound_fold])

theorem State.toListen_sound {s : State} (hs : s.Sound floor queue) :
    (State.toListen s).Sound floor queue := by
  unfold State.toListen
  (try dsimp -iota only)
  repeat' (first
    | with_reducible assumption
    | simp -iota only [State.sound_mk, State.sound_fold])

theorem State.wakePort_sound {s : State} (p : ChlPort) (hs : s.Sound floor queue) :
    (State.wakePort s p).Sound floor queue := by
  unfold State.wakePort
  (try dsimp -iota only)
  repeat' (first
    | with_reducible assumption
    | with_unfolding_none apply State.setSide_sound)

theorem State.leaveEnd_sound {s : State} (hs : s.Sound floor queue) :
    (State.leaveEnd s).Sound floor queue := by
  unfold State.leaveEnd
  (try dsimp -iota only)
  repeat' (first
    | with_reducible assumption
    | with_unfolding_none apply State.toListen_sound
    | with_unfolding_none apply State.sound_ite
    | simp -iota only [State.sound_mk, State.sound_fold])

theorem State.windowOpen_sound {s : State} (hs : s.Sound floor queue) :
    (State.windowOpen s).Sound floor queue := by
  unfold State.windowOpen
  (try dsimp -iota only)
  repeat' (first
    | with_reducible assumption
    | with_unfolding_none apply State.sendCtrl_sound
    | with_unfolding_none apply State.wakePort_sound
    | with_unfolding_none apply State.sound_ite
    | simp -iota only [State.sound_mk, State.sound_fold]
    | (split <;> (try dsimp -iota only)))

theorem State.lowestTakes_sound {s : State} (hs : s.Sound floor queue) :
    (State.lowestTakes s).Sound floor queue := by
  unfold State.lowestTakes
  (try dsimp -iota only)
  repeat' (first
    | with_reducible assumption
    | with_unfolding_none apply State.takeCoord_sound
    | with_unfolding_none apply State.sound_ite)

theorem State.laneLock_sound {s : State} (p : ChlPort) (hs : s.Sound floor queue) :
    (State.laneLock s p).Sound floor queue := by
  unfold State.laneLock
  (try dsimp -iota only)
  repeat' (first
    | with_reducible assumption
    | with_unfolding_none apply State.setSide_sound
    | with_unfolding_none apply State.setJoined_sound
    | with_unfolding_none apply State.sendCtrl_sound
    | with_unfolding_none apply State.lowestTakes_sound
    | with_unfolding_none apply State.sound_ite
    | simp -iota only [State.sound_mk, State.sound_fold]
    | (split <;> (try dsimp -iota only)))

theorem State.joinTimeout_sound {s : State} (hs : s.Sound floor queue) :
    (State.joinTimeout s).Sound floor queue := by
  unfold State.joinTimeout
  (try dsimp -iota only)
  repeat' (first
    | with_reducible assumption
    | with_unfolding_none apply State.toListen_sound
    | with_unfolding_none apply State.sound_ite)

theorem State.windowClose_sound {s : State} (hs : s.Sound floor queue) :
    (State.windowClose s).Sound floor queue := by
  unfold State.windowClose
  (try dsimp -iota only)
  repeat' (first
    | with_reducible assumption
    | with_unfolding_none apply State.sendCtrl_sound
    | with_unfolding_none apply State.windowOver_sound)

theorem State.windowEnd_sound {s : State} (hs : s.Sound floor queue) :
    (State.windowEnd s).Sound floor queue := by
  unfold State.windowEnd
  (try dsimp -iota only)
  repeat' (first
    | with_reducible assumption
    | with_unfolding_none apply State.windowClose_sound
    | with_unfolding_none apply State.sound_ite)

theorem State.windowLimit_sound {s : State} (hs : s.Sound floor queue) :
    (State.windowLimit s).Sound floor queue := by
  unfold State.windowLimit
  (try dsimp -iota only)
  repeat' (first
    | with_reducible assumption
    | with_unfolding_none apply State.windowClose_sound
    | with_unfolding_none apply State.sound_ite
    | (split <;> (try dsimp -iota only)))

theorem State.rxJoined_sound {s : State} (p : ChlPort) (r : Rec) (hs : s.Sound floor queue) :
    (State.rxJoined s p r).Sound floor queue := by
  unfold State.rxJoined
  (try dsimp -iota only)
  repeat' (first
    | with_reducible assumption
    | with_unfolding_none apply State.calibrate_sound
    | with_unfolding_none apply State.setJoined_sound
    | with_unfolding_none apply State.setFld_sound
    | with_unfolding_none apply State.forward_sound
    | with_unfolding_none apply State.sound_ite)

theorem State.rxWant_sound {s : State} (p : ChlPort) (r : Rec) (hs : s.Sound floor queue) :
    (State.rxWant s p r).Sound floor queue := by
  unfold State.rxWant
  (try dsimp -iota only)
  repeat' (first
    | with_reducible assumption
    | with_unfolding_none apply State.forward_sound
    | with_unfolding_none apply State.sound_ite
    | simp -iota only [State.sound_mk, State.sound_fold])

theorem State.askWindow_sound {s : State} (sub : Nat) (hs : s.Sound floor queue) :
    (State.askWindow s sub).Sound floor queue := by
  unfold State.askWindow
  (try dsimp -iota only)
  repeat' (first
    | with_reducible assumption
    | with_unfolding_none apply State.sendCtrl_sound
    | with_unfolding_none apply State.sound_ite
    | simp -iota only [State.sound_mk, State.sound_fold])

theorem State.chlLeave_sound {s : State} (hs : s.Sound floor queue) :
    (State.chlLeave s).Sound floor queue := by
  unfold State.chlLeave
  (try dsimp -iota only)
  repeat' (first
    | with_reducible assumption
    | with_unfolding_none apply State.askWindow_sound
    | with_unfolding_none apply State.sound_ite
    | simp -iota only [State.sound_mk, State.sound_fold])

theorem State.wakeDown_sound {s : State} (p : ChlPort) (hs : s.Sound floor queue) :
    (State.wakeDown s p).Sound floor queue := by
  unfold State.wakeDown
  (try dsimp -iota only)
  repeat' (first
    | with_reducible assumption
    | with_unfolding_none apply State.wakePort_sound
    | with_unfolding_none apply State.sound_ite)

theorem State.askWake_sound {s : State} (hs : s.Sound floor queue) :
    (State.askWake s).Sound floor queue := by
  unfold State.askWake
  (try dsimp -iota only)
  repeat' (first
    | with_reducible assumption
    | with_unfolding_none apply State.askWindow_sound
    | with_unfolding_none apply State.wakeDown_sound
    | with_unfolding_none apply State.sound_ite
    | simp -iota only [State.sound_mk, State.sound_fold])

theorem State.rxLeave_sound {s : State} (p : ChlPort) (r : Rec) (hs : s.Sound floor queue) :
    (State.rxLeave s p r).Sound floor queue := by
  unfold State.rxLeave
  (try dsimp -iota only)
  repeat' (first
    | with_reducible assumption
    | with_unfolding_none apply State.memberGone_sound
    | with_unfolding_none apply State.forward_sound
    | with_unfolding_none apply State.sound_ite
    | simp -iota only [State.sound_mk, State.sound_fold])

theorem State.ringStart_sound {s : State} (hs : s.Sound floor queue) :
    (State.ringStart s).Sound floor queue := by
  unfold State.ringStart
  (try dsimp -iota only)
  repeat' (first
    | with_reducible assumption
    | with_unfolding_none apply State.sound_ite
    | simp -iota only [State.sound_mk, State.sound_fold])

theorem State.chlEn_sound {s : State} (was : Bool) (hs : s.Sound floor queue) :
    (State.chlEn s was).Sound floor queue := by
  unfold State.chlEn
  (try dsimp -iota only)
  repeat' (first
    | with_reducible assumption
    | with_unfolding_none apply State.ringStop_sound
    | with_unfolding_none apply State.ringStart_sound
    | with_unfolding_none apply State.sound_ite)

theorem State.ringImage_sound {s : State} (old : Image) (hs : s.Sound floor queue) :
    (State.ringImage s old).Sound floor queue := by
  unfold State.ringImage
  (try dsimp -iota only)
  repeat' (first
    | with_reducible assumption
    | with_unfolding_none apply State.ringStop_sound
    | with_unfolding_none apply State.ringStart_sound
    | with_unfolding_none apply State.sound_ite)

theorem State.founding_sound {s : State} (hs : s.Sound floor queue) :
    (State.founding s).Sound floor queue := by
  unfold State.founding
  (try dsimp -iota only)
  repeat' (first
    | with_reducible assumption
    | with_unfolding_none apply State.sound_ite
    | simp -iota only [State.sound_mk, State.sound_fold])

theorem State.foundingTimeout_sound {s : State} (hs : s.Sound floor queue) :
    (State.foundingTimeout s).Sound floor queue := by
  unfold State.foundingTimeout
  (try dsimp -iota only)
  repeat' (first
    | with_reducible assumption
    | with_unfolding_none apply State.setFld_sound
    | with_unfolding_none apply State.toListen_sound
    | with_unfolding_none apply State.sound_ite)

theorem State.foundingJoined_sound {s : State} (hs : s.Sound floor queue) :
    (State.foundingJoined s).Sound floor queue := by
  unfold State.foundingJoined
  (try dsimp -iota only)
  repeat' (first
    | with_reducible assumption
    | with_unfolding_none apply State.setJoined_sound
    | with_unfolding_none apply State.raise_sound
    | with_unfolding_none apply State.takeCoord_sound
    | with_unfolding_none apply State.calibrate_sound
    | with_unfolding_none apply State.sound_ite
    | simp -iota only [State.sound_mk, State.sound_fold])

theorem State.putOut_sound {s : State} (p : ChlPort) (r : Rec) (x : ChlSide) (hs : s.Sound floor queue) :
    (State.putOut s p r x).Sound floor queue := by
  unfold State.putOut
  (try dsimp -iota only)
  repeat' (first
    | with_reducible assumption
    | with_unfolding_none apply State.traffic_sound
    | with_unfolding_none apply State.setSide_sound)

theorem State.txOne_sound {s : State} (p : ChlPort) (hs : s.Sound floor queue) :
    (State.txOne s p).Sound floor queue := by
  unfold State.txOne
  (try dsimp -iota only)
  repeat' (first
    | with_reducible assumption
    | with_unfolding_none apply State.putOut_sound
    | with_unfolding_none apply State.sound_ite
    | (split <;> (try dsimp -iota only)))

theorem State.origOne_sound {s : State} (p : ChlPort) (hs : s.Sound floor queue) :
    (State.origOne s p).Sound floor queue := by
  unfold State.origOne
  (try dsimp -iota only)
  repeat' (first
    | with_reducible assumption
    | with_unfolding_none apply State.setSide_sound
    | with_unfolding_none apply State.sound_ite
    | (split <;> (try dsimp -iota only)))

theorem State.txBeat_sound {s : State} (p : ChlPort) (hs : s.Sound floor queue) :
    (State.txBeat s p).Sound floor queue := by
  unfold State.txBeat
  (try dsimp -iota only)
  repeat' (first
    | with_reducible assumption
    | with_unfolding_none apply State.origOne_sound
    | with_unfolding_none apply State.txOne_sound
    | with_unfolding_none apply State.setSide_sound
    | with_unfolding_none apply State.sound_ite
    | with_unfolding_none apply State.sound_foldl
    | (intro _ _ _; (try dsimp -iota only)))

theorem State.txPort_sound (n : Nat) {s : State} (p : ChlPort) (hs : s.Sound floor queue) :
    (State.txPort n s p).Sound floor queue := by
  unfold State.txPort
  (try dsimp -iota only)
  repeat' (first
    | with_reducible assumption
    | with_unfolding_none apply State.setSide_sound
    | with_unfolding_none apply State.traffic_sound
    | with_unfolding_none apply State.txBeat_sound
    | with_unfolding_none apply State.sound_ite
    | with_unfolding_none apply State.sound_foldl
    | (intro _ _ _; (try dsimp -iota only))
    | (split <;> (try dsimp -iota only)))

end Sys2Proof.Machine
end

