-- ==== Sys2Proof/Laws/SoundBlock.lean ====
section
/-! SUPPORT. The Tandem, power, saving, start-up, telemetry, the jobs, the register interface, the walker, reception and the tick keep `State.Sound`. -/

set_option linter.all false
set_option linter.unreachableTactic false
set_option linter.unusedTactic false

namespace Sys2Proof.Machine

variable {floor : Nat} {queue : List Instr}

theorem State.whenCore_sound {s : State} (p : ChlPort) (r : Rec) {f : State → State} (hs : s.Sound floor queue) (hf : ∀ t : State, t.Sound floor queue → (f t).Sound floor queue) :
    (State.whenCore s p r f).Sound floor queue := by
  unfold State.whenCore
  (try dsimp -iota only)
  repeat' (first
    | with_reducible assumption
    | with_unfolding_none apply hf
    | with_unfolding_none apply State.wakeReq_sound
    | with_unfolding_none apply State.sound_ite
    | simp -iota only [State.sound_mk, State.sound_fold])

theorem State.takeEvent_sound {s : State} (r : Rec) (hs : s.Sound floor queue) :
    (State.takeEvent s r).Sound floor queue := by
  unfold State.takeEvent
  (try dsimp -iota only)
  repeat' (first
    | with_reducible assumption
    | with_unfolding_none apply State.setSrc_sound
    | with_unfolding_none apply State.stageEvent_sound
    | with_unfolding_none apply State.sound_ite)

theorem State.rxEvent_sound {s : State} (p : ChlPort) (r : Rec) (hs : s.Sound floor queue) :
    (State.rxEvent s p r).Sound floor queue := by
  unfold State.rxEvent
  (try dsimp -iota only)
  repeat' (first
    | with_reducible assumption
    | with_unfolding_none apply State.whenCore_sound
    | with_unfolding_none apply State.takeEvent_sound
    | with_unfolding_none apply State.passOn_sound
    | with_unfolding_none apply State.sound_ite
    | (intro _ _; (try dsimp -iota only)))

theorem State.takeWaymark_sound {s : State} (r : Rec) (hs : s.Sound floor queue) :
    (State.takeWaymark s r).Sound floor queue := by
  unfold State.takeWaymark
  (try dsimp -iota only)
  repeat' (first
    | with_reducible assumption
    | with_unfolding_none apply State.wmAll_sound
    | simp -iota only [State.sound_mk, State.sound_fold])

theorem State.rxWaymark_sound {s : State} (p : ChlPort) (r : Rec) (hs : s.Sound floor queue) :
    (State.rxWaymark s p r).Sound floor queue := by
  unfold State.rxWaymark
  (try dsimp -iota only)
  repeat' (first
    | with_reducible assumption
    | with_unfolding_none apply State.whenCore_sound
    | with_unfolding_none apply State.takeWaymark_sound
    | with_unfolding_none apply State.forward_sound
    | with_unfolding_none apply State.sound_ite
    | (intro _ _; (try dsimp -iota only)))

theorem State.takeSilent_sound {s : State} (r : Rec) (hs : s.Sound floor queue) :
    (State.takeSilent s r).Sound floor queue := by
  unfold State.takeSilent
  (try dsimp -iota only)
  repeat' (first
    | with_reducible assumption
    | with_unfolding_none apply State.setSrc_sound
    | with_unfolding_none apply State.breach_sound
    | with_unfolding_none apply State.logStrag_sound
    | with_unfolding_none apply State.closeAll_sound
    | with_unfolding_none apply State.stragglerSrc_sound
    | with_unfolding_none apply State.raise_sound
    | with_unfolding_none apply State.sound_ite)

theorem State.rxSilent_sound {s : State} (p : ChlPort) (r : Rec) (hs : s.Sound floor queue) :
    (State.rxSilent s p r).Sound floor queue := by
  unfold State.rxSilent
  (try dsimp -iota only)
  repeat' (first
    | with_reducible assumption
    | with_unfolding_none apply State.whenCore_sound
    | with_unfolding_none apply State.takeSilent_sound
    | with_unfolding_none apply State.forward_sound
    | with_unfolding_none apply State.sound_ite
    | (intro _ _; (try dsimp -iota only)))

theorem State.takeClose_sound {s : State} (r : Rec) (hs : s.Sound floor queue) :
    (State.takeClose s r).Sound floor queue := by
  unfold State.takeClose
  (try dsimp -iota only)
  repeat' (first
    | with_reducible assumption
    | with_unfolding_none apply State.sound_ite
    | simp -iota only [State.sound_mk, State.sound_fold])

theorem State.rxClose_sound {s : State} (p : ChlPort) (r : Rec) (hs : s.Sound floor queue) :
    (State.rxClose s p r).Sound floor queue := by
  unfold State.rxClose
  (try dsimp -iota only)
  repeat' (first
    | with_reducible assumption
    | with_unfolding_none apply State.whenCore_sound
    | with_unfolding_none apply State.takeClose_sound
    | with_unfolding_none apply State.passOn_sound
    | with_unfolding_none apply State.sound_ite
    | (intro _ _; (try dsimp -iota only)))

theorem State.heardPartner_sound {s : State} (hs : s.Sound floor queue) :
    (State.heardPartner s).Sound floor queue := by
  unfold State.heardPartner
  (try dsimp -iota only)
  repeat' (first
    | with_reducible assumption
    | simp -iota only [State.sound_mk, State.sound_fold])

theorem State.applied_sound {s : State} (low : Nat) (hs : s.Sound floor queue) :
    (State.applied s low).Sound floor queue := by
  unfold State.applied
  (try dsimp -iota only)
  repeat' (first
    | with_reducible assumption
    | simp -iota only [State.sound_mk, State.sound_fold])

theorem State.bringEntry_sound {s : State} (eid : Nat) (e : Entry) (hs : s.Sound floor queue) :
    (State.bringEntry s eid e).Sound floor queue := by
  unfold State.bringEntry
  (try dsimp -iota only)
  repeat' (first
    | with_reducible assumption
    | with_unfolding_none apply State.setEntryNow_sound
    | with_unfolding_none apply State.psnSync_sound)

theorem State.takeState_sound {s : State} (r : Rec) (hs : s.Sound floor queue) :
    (State.takeState s r).Sound floor queue := by
  unfold State.takeState
  (try dsimp -iota only)
  repeat' (first
    | with_reducible assumption
    | with_unfolding_none apply State.applied_sound
    | with_unfolding_none apply State.bringEntry_sound
    | with_unfolding_none apply State.sound_ite)

theorem State.takeDeliv_sound {s : State} (r : Rec) (hs : s.Sound floor queue) :
    (State.takeDeliv s r).Sound floor queue := by
  unfold State.takeDeliv
  (try dsimp -iota only)
  repeat' (first
    | with_reducible assumption
    | with_unfolding_none apply State.applied_sound
    | with_unfolding_none apply State.setPi_sound
    | with_unfolding_none apply State.sound_ite
    | simp -iota only [State.sound_mk, State.sound_fold])

theorem State.ackNow_sound {s : State} (hs : s.Sound floor queue) :
    (State.ackNow s).Sound floor queue := by
  unfold State.ackNow
  (try dsimp -iota only)
  repeat' (first
    | with_reducible assumption
    | with_unfolding_none apply State.toPartner_sound
    | simp -iota only [State.sound_mk, State.sound_fold])

theorem State.ackSend_sound {s : State} (hs : s.Sound floor queue) :
    (State.ackSend s).Sound floor queue := by
  unfold State.ackSend
  (try dsimp -iota only)
  repeat' (first
    | with_reducible assumption
    | with_unfolding_none apply State.ackNow_sound
    | with_unfolding_none apply State.sound_ite)

theorem State.standDown_sound {s : State} (hs : s.Sound floor queue) :
    (State.standDown s).Sound floor queue := by
  unfold State.standDown
  (try dsimp -iota only)
  repeat' (first
    | with_reducible assumption
    | simp -iota only [State.sound_mk, State.sound_fold])

theorem State.setRole_sound {s : State} (r : Nat) (hs : s.Sound floor queue) :
    (State.setRole s r).Sound floor queue := by
  unfold State.setRole
  (try dsimp -iota only)
  repeat' (first
    | with_reducible assumption
    | with_unfolding_none apply State.setFld_sound
    | with_unfolding_none apply State.breachAll_sound
    | with_unfolding_none apply State.standDown_sound
    | with_unfolding_none apply State.sound_ite)

theorem State.offerPair_sound {s : State} (hs : s.Sound floor queue) :
    (State.offerPair s).Sound floor queue := by
  unfold State.offerPair
  (try dsimp -iota only)
  repeat' (first
    | with_reducible assumption
    | with_unfolding_none apply State.offerFrom_sound
    | with_unfolding_none apply State.sound_foldl
    | (intro _ _ _; (try dsimp -iota only)))

theorem State.freshPrimary_sound {s : State} (hs : s.Sound floor queue) :
    (State.freshPrimary s).Sound floor queue := by
  unfold State.freshPrimary
  (try dsimp -iota only)
  repeat' (first
    | with_reducible assumption
    | with_unfolding_none apply State.setBucket_sound
    | with_unfolding_none apply State.sound_foldl
    | simp -iota only [State.sound_mk, State.sound_fold]
    | (intro _ _ _; (try dsimp -iota only)))

theorem State.becomePrimary_sound {s : State} (hs : s.Sound floor queue) :
    (State.becomePrimary s).Sound floor queue := by
  unfold State.becomePrimary
  (try dsimp -iota only)
  repeat' (first
    | with_reducible assumption
    | with_unfolding_none apply State.setRole_sound
    | with_unfolding_none apply State.freshPrimary_sound
    | with_unfolding_none apply State.offerPair_sound
    | with_unfolding_none apply State.rplTakeover_sound)

theorem State.alone_sound {s : State} (hs : s.Sound floor queue) :
    (State.alone s).Sound floor queue := by
  unfold State.alone
  (try dsimp -iota only)
  repeat' (first
    | with_reducible assumption
    | with_unfolding_none apply State.setFld_sound
    | with_unfolding_none apply State.releaseAll_sound
    | simp -iota only [State.sound_mk, State.sound_fold])

theorem State.tdmOff_sound {s : State} (hs : s.Sound floor queue) :
    (State.tdmOff s).Sound floor queue := by
  unfold State.tdmOff
  (try dsimp -iota only)
  repeat' (first
    | with_reducible assumption
    | with_unfolding_none apply State.setFld_sound
    | with_unfolding_none apply State.lower_sound
    | with_unfolding_none apply State.setRole_sound
    | with_unfolding_none apply State.releaseAll_sound
    | simp -iota only [State.sound_mk, State.sound_fold])

theorem State.tdmSettle_sound {s : State} (hs : s.Sound floor queue) :
    (State.tdmSettle s).Sound floor queue := by
  unfold State.tdmSettle
  (try dsimp -iota only)
  repeat' (first
    | with_reducible assumption
    | with_unfolding_none apply State.setRole_sound
    | with_unfolding_none apply State.alone_sound
    | with_unfolding_none apply State.setFld_sound
    | with_unfolding_none apply State.sound_ite)

theorem State.primaryLost_sound {s : State} (hs : s.Sound floor queue) :
    (State.primaryLost s).Sound floor queue := by
  unfold State.primaryLost
  (try dsimp -iota only)
  repeat' (first
    | with_reducible assumption
    | with_unfolding_none apply State.becomePrimary_sound
    | with_unfolding_none apply State.alone_sound
    | with_unfolding_none apply State.memberGone_sound
    | with_unfolding_none apply State.raise_sound
    | with_unfolding_none apply State.error_sound
    | with_unfolding_none apply State.sound_ite
    | simp -iota only [State.sound_mk, State.sound_fold])

theorem State.standbyLost_sound {s : State} (hs : s.Sound floor queue) :
    (State.standbyLost s).Sound floor queue := by
  unfold State.standbyLost
  (try dsimp -iota only)
  repeat' (first
    | with_reducible assumption
    | with_unfolding_none apply State.alone_sound
    | with_unfolding_none apply State.sound_ite)

theorem State.arbitrate_sound {s : State} (p : Partner) (hs : s.Sound floor queue) :
    (State.arbitrate s p).Sound floor queue := by
  unfold State.arbitrate
  (try dsimp -iota only)
  repeat' (first
    | with_reducible assumption
    | with_unfolding_none apply State.bump_sound
    | with_unfolding_none apply State.becomePrimary_sound
    | with_unfolding_none apply State.resync_sound
    | with_unfolding_none apply State.setRole_sound
    | with_unfolding_none apply State.raise_sound
    | with_unfolding_none apply State.sound_ite
    | simp -iota only [State.sound_mk, State.sound_fold])

theorem State.refusePair_sound {s : State} (herr : Nat) (hs : s.Sound floor queue) :
    (State.refusePair s herr).Sound floor queue := by
  unfold State.refusePair
  (try dsimp -iota only)
  repeat' (first
    | with_reducible assumption
    | with_unfolding_none apply State.setFld_sound
    | with_unfolding_none apply State.setRole_sound
    | simp -iota only [State.sound_mk, State.sound_fold])

theorem State.formPair_sound {s : State} (p : Partner) (hs : s.Sound floor queue) :
    (State.formPair s p).Sound floor queue := by
  unfold State.formPair
  (try dsimp -iota only)
  repeat' (first
    | with_reducible assumption
    | with_unfolding_none apply State.setRole_sound
    | with_unfolding_none apply State.setFld_sound
    | with_unfolding_none apply State.arbitrate_sound
    | with_unfolding_none apply State.refusePair_sound
    | with_unfolding_none apply State.sound_ite
    | simp -iota only [State.sound_mk, State.sound_fold])

theorem State.takeHello_sound {s : State} (r : Rec) (hs : s.Sound floor queue) :
    (State.takeHello s r).Sound floor queue := by
  unfold State.takeHello
  (try dsimp -iota only)
  repeat' (first
    | with_reducible assumption
    | with_unfolding_none apply State.refusePair_sound
    | with_unfolding_none apply State.setFld_sound
    | with_unfolding_none apply State.sound_ite
    | simp -iota only [State.sound_mk, State.sound_fold])

theorem State.takeHeartbeat_sound {s : State} (r : Rec) (hs : s.Sound floor queue) :
    (State.takeHeartbeat s r).Sound floor queue := by
  unfold State.takeHeartbeat
  (try dsimp -iota only)
  repeat' (first
    | with_reducible assumption
    | with_unfolding_none apply State.setFld_sound
    | with_unfolding_none apply State.arbitrate_sound
    | with_unfolding_none apply State.formPair_sound
    | with_unfolding_none apply State.sound_ite
    | simp -iota only [State.sound_mk, State.sound_fold]
    | (split <;> (try dsimp -iota only)))

theorem State.handOverRole_sound {s : State} (hs : s.Sound floor queue) :
    (State.handOverRole s).Sound floor queue := by
  unfold State.handOverRole
  (try dsimp -iota only)
  repeat' (first
    | with_reducible assumption
    | with_unfolding_none apply State.toPartner_sound
    | with_unfolding_none apply State.setRole_sound
    | with_unfolding_none apply State.lower_sound
    | with_unfolding_none apply State.sound_ite
    | simp -iota only [State.sound_mk, State.sound_fold])

theorem State.takeAck_sound {s : State} (r : Rec) (hs : s.Sound floor queue) :
    (State.takeAck s r).Sound floor queue := by
  unfold State.takeAck
  (try dsimp -iota only)
  repeat' (first
    | with_reducible assumption
    | with_unfolding_none apply State.setFld_sound
    | with_unfolding_none apply State.handOverRole_sound
    | with_unfolding_none apply State.sound_ite
    | simp -iota only [State.sound_mk, State.sound_fold])

theorem State.takeHandover_sound {s : State} (hs : s.Sound floor queue) :
    (State.takeHandover s).Sound floor queue := by
  unfold State.takeHandover
  (try dsimp -iota only)
  repeat' (first
    | with_reducible assumption
    | with_unfolding_none apply State.becomePrimary_sound
    | with_unfolding_none apply State.sound_ite
    | simp -iota only [State.sound_mk, State.sound_fold])

theorem State.switchRole_sound {s : State} (hs : s.Sound floor queue) :
    (State.switchRole s).Sound floor queue := by
  unfold State.switchRole
  (try dsimp -iota only)
  repeat' (first
    | with_reducible assumption
    | with_unfolding_none apply State.setFld_sound
    | with_unfolding_none apply State.raise_sound
    | with_unfolding_none apply State.handOverRole_sound
    | with_unfolding_none apply State.sound_ite
    | simp -iota only [State.sound_mk, State.sound_fold])

theorem State.takeDigest_sound {s : State} (r : Rec) (hs : s.Sound floor queue) :
    (State.takeDigest s r).Sound floor queue := by
  unfold State.takeDigest
  (try dsimp -iota only)
  repeat' (first
    | with_reducible assumption
    | with_unfolding_none apply State.digestsMeet_sound
    | simp -iota only [State.sound_mk, State.sound_fold])

theorem State.takeGroup_sound {s : State} (g : Group) (closed : Bool) (hs : s.Sound floor queue) :
    (State.takeGroup s g closed).Sound floor queue := by
  unfold State.takeGroup
  (try dsimp -iota only)
  repeat' (first
    | with_reducible assumption
    | with_unfolding_none apply State.sound_ite
    | simp -iota only [State.sound_mk, State.sound_fold])

theorem State.takePart_sound {s : State} (w : Nat) (v : Nat) (hs : s.Sound floor queue) :
    (State.takePart s w v).Sound floor queue := by
  unfold State.takePart
  (try dsimp -iota only)
  repeat' (first
    | with_reducible assumption
    | with_unfolding_none apply State.takeGroup_sound
    | with_unfolding_none apply State.sound_ite
    | simp -iota only [State.sound_mk, State.sound_fold]
    | (split <;> (try dsimp -iota only)))

theorem State.takeWord_sound {s : State} (w : Nat) (v : Nat) (hs : s.Sound floor queue) :
    (State.takeWord s w v).Sound floor queue := by
  unfold State.takeWord
  (try dsimp -iota only)
  repeat' (first
    | with_reducible assumption
    | with_unfolding_none apply State.bringEntry_sound
    | with_unfolding_none apply State.setPi_sound
    | with_unfolding_none apply State.setCi_sound
    | with_unfolding_none apply State.takePart_sound
    | with_unfolding_none apply State.sound_ite)

theorem State.takeBulk_sound {s : State} (r : Rec) (hs : s.Sound floor queue) :
    (State.takeBulk s r).Sound floor queue := by
  unfold State.takeBulk
  (try dsimp -iota only)
  repeat' (first
    | with_reducible assumption
    | with_unfolding_none apply State.takeWord_sound
    | simp -iota only [State.sound_mk, State.sound_fold]
    | (split <;> (try dsimp -iota only)))

theorem State.takeBulkEnd_sound {s : State} (hs : s.Sound floor queue) :
    (State.takeBulkEnd s).Sound floor queue := by
  unfold State.takeBulkEnd
  (try dsimp -iota only)
  repeat' (first
    | with_reducible assumption
    | with_unfolding_none apply State.setFld_sound
    | with_unfolding_none apply State.ackNow_sound
    | simp -iota only [State.sound_mk, State.sound_fold]
    | (split <;> (try dsimp -iota only)))

theorem State.bulkOne_sound {s : State} (hs : s.Sound floor queue) :
    (State.bulkOne s).Sound floor queue := by
  unfold State.bulkOne
  (try dsimp -iota only)
  repeat' (first
    | with_reducible assumption
    | with_unfolding_none apply State.toPartner_sound
    | with_unfolding_none apply State.sound_ite
    | with_unfolding_none apply State.sound_foldl
    | simp -iota only [State.sound_mk, State.sound_fold]
    | (intro _ _ _; (try dsimp -iota only))
    | (split <;> (try dsimp -iota only)))

theorem State.takeDoorbell_sound {s : State} (r : Rec) (hs : s.Sound floor queue) :
    (State.takeDoorbell s r).Sound floor queue := by
  unfold State.takeDoorbell
  (try dsimp -iota only)
  repeat' (first
    | with_reducible assumption
    | with_unfolding_none apply State.doorbell_sound
    | with_unfolding_none apply State.sound_ite)

theorem State.heartbeatSend_sound {s : State} (hs : s.Sound floor queue) :
    (State.heartbeatSend s).Sound floor queue := by
  unfold State.heartbeatSend
  (try dsimp -iota only)
  repeat' (first
    | with_reducible assumption
    | with_unfolding_none apply State.toPartner_sound
    | with_unfolding_none apply State.sound_ite
    | simp -iota only [State.sound_mk, State.sound_fold])

theorem State.helloSend_sound {s : State} (hs : s.Sound floor queue) :
    (State.helloSend s).Sound floor queue := by
  unfold State.helloSend
  (try dsimp -iota only)
  repeat' (first
    | with_reducible assumption
    | with_unfolding_none apply State.toPartner_sound
    | with_unfolding_none apply State.sound_ite
    | simp -iota only [State.sound_mk, State.sound_fold])

theorem State.peerStart_sound {s : State} (hs : s.Sound floor queue) :
    (State.peerStart s).Sound floor queue := by
  unfold State.peerStart
  (try dsimp -iota only)
  repeat' (first
    | with_reducible assumption
    | with_unfolding_none apply State.setFld_sound
    | with_unfolding_none apply State.originate_sound
    | with_unfolding_none apply State.raise_sound
    | with_unfolding_none apply State.sound_ite
    | simp -iota only [State.sound_mk, State.sound_fold])

theorem State.takeResponse_sound {s : State} (r : Rec) (hs : s.Sound floor queue) :
    (State.takeResponse s r).Sound floor queue := by
  unfold State.takeResponse
  (try dsimp -iota only)
  repeat' (first
    | with_reducible assumption
    | with_unfolding_none apply State.setReg_sound
    | with_unfolding_none apply State.setFld_sound
    | with_unfolding_none apply State.lower_sound
    | with_unfolding_none apply State.sound_ite
    | simp -iota only [State.sound_mk, State.sound_fold]
    | (split <;> (try dsimp -iota only)))

theorem State.peerTimeout_sound {s : State} (hs : s.Sound floor queue) :
    (State.peerTimeout s).Sound floor queue := by
  unfold State.peerTimeout
  (try dsimp -iota only)
  repeat' (first
    | with_reducible assumption
    | with_unfolding_none apply State.setFld_sound
    | with_unfolding_none apply State.lower_sound
    | with_unfolding_none apply State.sound_ite
    | simp -iota only [State.sound_mk, State.sound_fold]
    | (split <;> (try dsimp -iota only)))

theorem State.setPsw_sound {s : State} (d : Nat) (p : Psw) (hs : s.Sound floor queue) :
    (State.setPsw s d p).Sound floor queue := by
  unfold State.setPsw
  (try dsimp -iota only)
  repeat' (first
    | with_reducible assumption
    | simp -iota only [State.sound_mk, State.sound_fold])

theorem State.setPst_sound {s : State} (v : Nat) (hs : s.Sound floor queue) :
    (State.setPst s v).Sound floor queue := by
  unfold State.setPst
  (try dsimp -iota only)
  repeat' (first
    | with_reducible assumption
    | with_unfolding_none apply State.setFld_sound)

theorem State.chooseOff_sound {s : State} (hs : s.Sound floor queue) :
    (State.chooseOff s).2.Sound floor queue := by
  unfold State.chooseOff
  (try dsimp -iota only)
  repeat' (first
    | with_reducible assumption
    | with_unfolding_none apply State.raise_sound
    | with_unfolding_none apply State.sound_ite_snd
    | simp -iota only [State.sound_mk, State.sound_fold])

theorem State.entryStart_sound {s : State} (hs : s.Sound floor queue) :
    (State.entryStart s).Sound floor queue := by
  unfold State.entryStart
  (try dsimp -iota only)
  repeat' (first
    | with_reducible assumption
    | with_unfolding_none apply State.chooseOff_sound
    | with_unfolding_none apply State.setPst_sound
    | with_unfolding_none apply State.raise_sound
    | with_unfolding_none apply State.jFlush_sound
    | with_unfolding_none apply State.flushCache_sound
    | with_unfolding_none apply State.chlLeave_sound
    | with_unfolding_none apply State.sound_ite
    | with_unfolding_none apply State.sound_ite_snd
    | with_unfolding_none apply State.sound_foldl
    | simp -iota only [State.sound_mk, State.sound_fold])

theorem State.entryDecision_sound {s : State} (hs : s.Sound floor queue) :
    (State.entryDecision s).Sound floor queue := by
  unfold State.entryDecision
  (try dsimp -iota only)
  repeat' (first
    | with_reducible assumption
    | with_unfolding_none apply State.entryStart_sound
    | with_unfolding_none apply State.sound_ite)

theorem State.sleepCmd_sound {s : State} (hs : s.Sound floor queue) :
    (State.sleepCmd s).Sound floor queue := by
  unfold State.sleepCmd
  (try dsimp -iota only)
  repeat' (first
    | with_reducible assumption
    | with_unfolding_none apply State.setFld_sound
    | with_unfolding_none apply State.entryStart_sound
    | with_unfolding_none apply State.sound_ite)

theorem State.noteAbort_sound {s : State} (ap : Nat) (cause : Nat) (hs : s.Sound floor queue) :
    (State.noteAbort s ap cause).Sound floor queue := by
  unfold State.noteAbort
  (try dsimp -iota only)
  repeat' (first
    | with_reducible assumption
    | with_unfolding_none apply State.bump_sound
    | with_unfolding_none apply State.raise_sound
    | with_unfolding_none apply State.setFld_sound
    | with_unfolding_none apply State.sound_ite
    | with_unfolding_none apply State.sound_foldl
    | (intro _ _ _; (try dsimp -iota only)))

theorem State.tdmAway_sound {s : State} (hs : s.Sound floor queue) :
    (State.tdmAway s).Sound floor queue := by
  unfold State.tdmAway
  (try dsimp -iota only)
  repeat' (first
    | with_reducible assumption
    | with_unfolding_none apply State.setFld_sound
    | with_unfolding_none apply State.sound_ite
    | simp -iota only [State.sound_mk, State.sound_fold])

theorem State.abandonEnd_sound {s : State} (hs : s.Sound floor queue) :
    (State.abandonEnd s).Sound floor queue := by
  unfold State.abandonEnd
  (try dsimp -iota only)
  repeat' (first
    | with_reducible assumption
    | with_unfolding_none apply State.setPst_sound
    | with_unfolding_none apply State.lower_sound
    | with_unfolding_none apply State.dropJobs_sound
    | with_unfolding_none apply State.tdmAway_sound
    | simp -iota only [State.sound_mk, State.sound_fold]
    | (split <;> (try dsimp -iota only)))

theorem State.abandon_sound {s : State} (ap : Nat) (cause : Nat) (hs : s.Sound floor queue) :
    (State.abandon s ap cause).Sound floor queue := by
  unfold State.abandon
  (try dsimp -iota only)
  repeat' (first
    | with_reducible assumption
    | with_unfolding_none apply State.noteAbort_sound
    | with_unfolding_none apply State.dropJobs_sound
    | with_unfolding_none apply State.abandonEnd_sound
    | with_unfolding_none apply State.sound_ite
    | simp -iota only [State.sound_mk, State.sound_fold])

theorem State.abortPoint_sound {s : State} (ap : Nat) {f : State → State} (hs : s.Sound floor queue) (hf : ∀ t : State, t.Sound floor queue → (f t).Sound floor queue) :
    (State.abortPoint s ap f).Sound floor queue := by
  unfold State.abortPoint
  (try dsimp -iota only)
  repeat' (first
    | with_reducible assumption
    | with_unfolding_none apply hf
    | with_unfolding_none apply State.abandon_sound
    | with_unfolding_none apply State.sound_ite)

theorem State.switchOff_sound {s : State} (d : Nat) (hs : s.Sound floor queue) :
    (State.switchOff s d).Sound floor queue := by
  unfold State.switchOff
  (try dsimp -iota only)
  repeat' (first
    | with_reducible assumption
    | with_unfolding_none apply State.setPsw_sound)

theorem State.switchOn_sound {s : State} (d : Nat) (hs : s.Sound floor queue) :
    (State.switchOn s d).Sound floor queue := by
  unfold State.switchOn
  (try dsimp -iota only)
  repeat' (first
    | with_reducible assumption
    | with_unfolding_none apply State.setPsw_sound)

theorem State.drainFlush_sound {s : State} (hs : s.Sound floor queue) :
    (State.drainFlush s).Sound floor queue := by
  unfold State.drainFlush
  (try dsimp -iota only)
  repeat' (first
    | with_reducible assumption
    | with_unfolding_none apply State.jFlush_sound
    | with_unfolding_none apply State.flushCache_sound
    | with_unfolding_none apply State.startJob_sound
    | with_unfolding_none apply State.sound_ite
    | with_unfolding_none apply State.sound_foldl
    | (intro _ _ _; (try dsimp -iota only)))

theorem State.drainEnd_sound {s : State} (hs : s.Sound floor queue) :
    (State.drainEnd s).Sound floor queue := by
  unfold State.drainEnd
  (try dsimp -iota only)
  repeat' (first
    | with_reducible assumption
    | with_unfolding_none apply State.abortPoint_sound
    | with_unfolding_none apply State.sound_ite
    | simp -iota only [State.sound_mk, State.sound_fold]
    | (intro _ _; (try dsimp -iota only)))

theorem State.entryOff_sound {s : State} (hs : s.Sound floor queue) :
    (State.entryOff s).Sound floor queue := by
  unfold State.entryOff
  (try dsimp -iota only)
  repeat' (first
    | with_reducible assumption
    | with_unfolding_none apply State.switchOff_sound
    | (split <;> (try dsimp -iota only)))

theorem State.entryRow_sound {s : State} (n : Nat) (hs : s.Sound floor queue) :
    (State.entryRow s n).Sound floor queue := by
  unfold State.entryRow
  (try dsimp -iota only)
  repeat' (first
    | with_reducible assumption
    | with_unfolding_none apply State.abortPoint_sound
    | with_unfolding_none apply State.entryOff_sound
    | simp -iota only [State.sound_mk, State.sound_fold]
    | (intro _ _; (try dsimp -iota only))
    | (split <;> (try dsimp -iota only)))

theorem State.entryRows_sound {s : State} (hs : s.Sound floor queue) :
    (State.entryRows s).Sound floor queue := by
  unfold State.entryRows
  (try dsimp -iota only)
  repeat' (first
    | with_reducible assumption
    | with_unfolding_none apply State.entryRow_sound
    | with_unfolding_none apply State.sound_ite
    | simp -iota only [State.sound_mk, State.sound_fold]
    | (split <;> (try dsimp -iota only)))

theorem State.drainTimeout_sound {s : State} (hs : s.Sound floor queue) :
    (State.drainTimeout s).Sound floor queue := by
  unfold State.drainTimeout
  (try dsimp -iota only)
  repeat' (first
    | with_reducible assumption
    | with_unfolding_none apply State.abandon_sound
    | with_unfolding_none apply State.sound_ite
    | (split <;> (try dsimp -iota only)))

theorem State.setAllDoms_sound {s : State} (r : Reg) (w : Word) (hs : s.Sound floor queue) :
    (State.setAllDoms s r w).Sound floor queue := by
  rw [State.setAllDoms]
  have hk : r.key 4096 = r.key 0 + 4096 := by simp only [Reg.key, Nat.add_assoc, Nat.zero_add]
  simp only [hk]
  generalize (4096 : Nat) = n
  refine ⟨SMap.rising_splice hs.1 (Nat.le_add_right _ _) ?_ ?_, hs.2⟩
  · split
    · rfl
    · rw [List.range_eq_range']
      have h := SMap.rising_run (r.key 0) w n 0
      rw [Nat.add_zero] at h
      exact h
  · intro p hp
    split at hp
    · cases hp
    · obtain ⟨d, hd, rfl⟩ := List.mem_map.mp hp
      exact Nat.add_lt_add_left (List.mem_range.mp hd) _

theorem State.noteWake_sound {s : State} (code : Nat) (detail : Nat) (hs : s.Sound floor queue) :
    (State.noteWake s code detail).Sound floor queue := by
  unfold State.noteWake
  (try dsimp -iota only)
  repeat' (first
    | with_reducible assumption
    | with_unfolding_none apply State.setFld_sound
    | with_unfolding_none apply State.setAllDoms_sound
    | simp -iota only [State.sound_mk, State.sound_fold])

theorem State.switchOnAll_sound {s : State} (hs : s.Sound floor queue) :
    (State.switchOnAll s).Sound floor queue := by
  unfold State.switchOnAll
  (try dsimp -iota only)
  repeat' (first
    | with_reducible assumption
    | with_unfolding_none apply State.switchOn_sound
    | with_unfolding_none apply State.sound_ite
    | with_unfolding_none apply State.sound_foldl
    | (intro _ _ _; (try dsimp -iota only)))

theorem State.wakeNow_sound {s : State} (hs : s.Sound floor queue) :
    (State.wakeNow s).Sound floor queue := by
  unfold State.wakeNow
  (try dsimp -iota only)
  repeat' (first
    | with_reducible assumption
    | with_unfolding_none apply State.noteWake_sound
    | with_unfolding_none apply State.setPst_sound
    | with_unfolding_none apply State.switchOnAll_sound
    | with_unfolding_none apply State.sound_ite
    | simp -iota only [State.sound_mk, State.sound_fold]
    | (split <;> (try dsimp -iota only)))

theorem State.wake_sound {s : State} (code : Nat) (detail : Nat) (hs : s.Sound floor queue) :
    (State.wake s code detail).Sound floor queue := by
  unfold State.wake
  (try dsimp -iota only)
  repeat' (first
    | with_reducible assumption
    | with_unfolding_none apply State.wakeReq_sound
    | with_unfolding_none apply State.wakeNow_sound)

theorem State.timerWake_sound {s : State} (hs : s.Sound floor queue) :
    (State.timerWake s).Sound floor queue := by
  unfold State.timerWake
  (try dsimp -iota only)
  repeat' (first
    | with_reducible assumption
    | with_unfolding_none apply State.wake_sound
    | with_unfolding_none apply State.sound_ite)

theorem State.sigdet_sound {s : State} (quiet : Nat) (hs : s.Sound floor queue) :
    (State.sigdet s quiet).Sound floor queue := by
  unfold State.sigdet
  (try dsimp -iota only)
  repeat' (first
    | with_reducible assumption
    | with_unfolding_none apply State.wake_sound
    | with_unfolding_none apply State.sound_ite)

theorem State.tdmVoteWake_sound {s : State} (hs : s.Sound floor queue) :
    (State.tdmVoteWake s).Sound floor queue := by
  unfold State.tdmVoteWake
  (try dsimp -iota only)
  repeat' (first
    | with_reducible assumption
    | with_unfolding_none apply State.wakeReq_sound
    | with_unfolding_none apply State.sound_ite)

theorem State.smbus_sound {s : State} (addr : Nat) (hs : s.Sound floor queue) :
    (State.smbus s addr).Sound floor queue := by
  unfold State.smbus
  (try dsimp -iota only)
  repeat' (first
    | with_reducible assumption
    | with_unfolding_none apply State.wake_sound
    | with_unfolding_none apply State.sound_ite
    | simp -iota only [State.sound_mk, State.sound_fold])

theorem State.sclRun_sound {s : State} (hs : s.Sound floor queue) :
    (State.sclRun s).Sound floor queue := by
  unfold State.sclRun
  (try dsimp -iota only)
  repeat' (first
    | with_reducible assumption
    | with_unfolding_none apply State.sound_ite
    | simp -iota only [State.sound_mk, State.sound_fold]
    | (split <;> (try dsimp -iota only)))

theorem State.toOsc_sound {s : State} (hs : s.Sound floor queue) :
    (State.toOsc s).Sound floor queue := by
  unfold State.toOsc
  (try dsimp -iota only)
  repeat' (first
    | with_reducible assumption
    | with_unfolding_none apply State.lower_sound
    | with_unfolding_none apply State.raise_sound
    | with_unfolding_none apply State.sound_ite)

theorem State.perfPhase_sound {s : State} (c : PerfChange) (p : PerfPhase) (hs : s.Sound floor queue) :
    (State.perfPhase s c p).Sound floor queue := by
  unfold State.perfPhase
  (try dsimp -iota only)
  repeat' (first
    | with_reducible assumption
    | simp -iota only [State.sound_mk, State.sound_fold])

theorem State.perfFrame_sound {s : State} (c : PerfChange) (hs : s.Sound floor queue) :
    (State.perfFrame s c).Sound floor queue := by
  unfold State.perfFrame
  (try dsimp -iota only)
  repeat' (first
    | with_reducible assumption
    | with_unfolding_none apply State.perfPhase_sound)

theorem State.perfStart_sound {s : State} (hs : s.Sound floor queue) :
    (State.perfStart s).Sound floor queue := by
  unfold State.perfStart
  (try dsimp -iota only)
  repeat' (first
    | with_reducible assumption
    | with_unfolding_none apply State.toOsc_sound
    | with_unfolding_none apply State.raise_sound
    | with_unfolding_none apply State.perfFrame_sound
    | with_unfolding_none apply State.perfPhase_sound
    | with_unfolding_none apply State.sound_ite
    | simp -iota only [State.sound_mk, State.sound_fold]
    | (split <;> (try dsimp -iota only)))

theorem State.perfReq_sound {s : State} (hs : s.Sound floor queue) :
    (State.perfReq s).Sound floor queue := by
  unfold State.perfReq
  (try dsimp -iota only)
  repeat' (first
    | with_reducible assumption
    | with_unfolding_none apply State.perfStart_sound
    | with_unfolding_none apply State.sound_ite
    | simp -iota only [State.sound_mk, State.sound_fold])

theorem State.perfEnd_sound {s : State} (hs : s.Sound floor queue) :
    (State.perfEnd s).Sound floor queue := by
  unfold State.perfEnd
  (try dsimp -iota only)
  repeat' (first
    | with_reducible assumption
    | with_unfolding_none apply State.lower_sound
    | with_unfolding_none apply State.perfStart_sound
    | with_unfolding_none apply State.sound_ite
    | simp -iota only [State.sound_mk, State.sound_fold])

theorem State.avsFail_sound {s : State} (c : PerfChange) (hs : s.Sound floor queue) :
    (State.avsFail s c).Sound floor queue := by
  unfold State.avsFail
  (try dsimp -iota only)
  repeat' (first
    | with_reducible assumption
    | with_unfolding_none apply State.raise_sound
    | with_unfolding_none apply State.error_sound
    | with_unfolding_none apply State.perfEnd_sound
    | with_unfolding_none apply State.sound_ite)

theorem State.avsResponse_sound {s : State} (answer : AvsAnswer) (hs : s.Sound floor queue) :
    (State.avsResponse s answer).Sound floor queue := by
  unfold State.avsResponse
  (try dsimp -iota only)
  repeat' (first
    | with_reducible assumption
    | with_unfolding_none apply State.lower_sound
    | with_unfolding_none apply State.perfPhase_sound
    | with_unfolding_none apply State.perfEnd_sound
    | with_unfolding_none apply State.avsFail_sound
    | with_unfolding_none apply State.sound_ite
    | (split <;> (try dsimp -iota only)))

theorem State.avsRetry_sound {s : State} (hs : s.Sound floor queue) :
    (State.avsRetry s).Sound floor queue := by
  unfold State.avsRetry
  (try dsimp -iota only)
  repeat' (first
    | with_reducible assumption
    | with_unfolding_none apply State.perfPhase_sound
    | with_unfolding_none apply State.sound_ite
    | (split <;> (try dsimp -iota only)))

theorem State.settleEnd_sound {s : State} (hs : s.Sound floor queue) :
    (State.settleEnd s).Sound floor queue := by
  unfold State.settleEnd
  (try dsimp -iota only)
  repeat' (first
    | with_reducible assumption
    | with_unfolding_none apply State.perfPhase_sound
    | with_unfolding_none apply State.sound_ite
    | (split <;> (try dsimp -iota only)))

theorem State.retuneRun_sound {s : State} (hs : s.Sound floor queue) :
    (State.retuneRun s).Sound floor queue := by
  unfold State.retuneRun
  (try dsimp -iota only)
  repeat' (first
    | with_reducible assumption
    | with_unfolding_none apply State.setPst_sound
    | with_unfolding_none apply State.perfPhase_sound
    | with_unfolding_none apply State.setFld_sound
    | with_unfolding_none apply State.lineWake_sound
    | with_unfolding_none apply State.perfFrame_sound
    | with_unfolding_none apply State.perfEnd_sound
    | with_unfolding_none apply State.perfStart_sound
    | with_unfolding_none apply State.sound_ite
    | (split <;> (try dsimp -iota only)))

theorem State.clkSwitch_sound {s : State} (pll : Bool) (hs : s.Sound floor queue) :
    (State.clkSwitch s pll).Sound floor queue := by
  unfold State.clkSwitch
  (try dsimp -iota only)
  repeat' (first
    | with_reducible assumption
    | with_unfolding_none apply State.raise_sound
    | with_unfolding_none apply State.setPst_sound
    | with_unfolding_none apply State.sound_ite
    | simp -iota only [State.sound_mk, State.sound_fold])

theorem State.clkRun_sound {s : State} (hs : s.Sound floor queue) :
    (State.clkRun s).Sound floor queue := by
  unfold State.clkRun
  (try dsimp -iota only)
  repeat' (first
    | with_reducible assumption
    | with_unfolding_none apply State.setFld_sound
    | with_unfolding_none apply State.setPst_sound
    | with_unfolding_none apply State.lineWake_sound
    | with_unfolding_none apply State.sound_ite
    | simp -iota only [State.sound_mk, State.sound_fold]
    | (split <;> (try dsimp -iota only)))

theorem State.putRegs_sound {s : State} (home : Bool) (l : SMap Word) (hs : s.Sound floor queue) :
    (State.putRegs s home l).Sound floor queue := by
  unfold State.putRegs
  (try dsimp -iota only)
  repeat' (first
    | with_reducible assumption
    | with_unfolding_none apply State.setReg_sound
    | with_unfolding_none apply State.sound_foldl
    | (intro _ _ _; (try dsimp -iota only))
    | (split <;> (try dsimp -iota only)))

theorem State.homeStart_sound {s : State} (hs : s.Sound floor queue) :
    (State.homeStart s).Sound floor queue := by
  unfold State.homeStart
  (try dsimp -iota only)
  repeat' (first
    | with_reducible assumption
    | with_unfolding_none apply State.lower_sound
    | with_unfolding_none apply State.startJob_sound
    | simp -iota only [State.sound_mk, State.sound_fold]
    | (split <;> (try dsimp -iota only)))

theorem State.homeCommit_sound {s : State} (hs : s.Sound floor queue) :
    (State.homeCommit s).Sound floor queue := by
  unfold State.homeCommit
  (try dsimp -iota only)
  repeat' (first
    | with_reducible assumption
    | with_unfolding_none apply State.homeStart_sound
    | with_unfolding_none apply State.raise_sound
    | with_unfolding_none apply State.sound_ite
    | simp -iota only [State.sound_mk, State.sound_fold])

theorem State.homeLater_sound {s : State} (hs : s.Sound floor queue) :
    (State.homeLater s).Sound floor queue := by
  unfold State.homeLater
  (try dsimp -iota only)
  repeat' (first
    | with_reducible assumption
    | with_unfolding_none apply State.homeStart_sound
    | with_unfolding_none apply State.lower_sound
    | with_unfolding_none apply State.sound_ite
    | simp -iota only [State.sound_mk, State.sound_fold])

theorem State.homeEnd_sound {s : State} (hs : s.Sound floor queue) :
    (State.homeEnd s).Sound floor queue := by
  unfold State.homeEnd
  (try dsimp -iota only)
  repeat' (first
    | with_reducible assumption
    | with_unfolding_none apply State.dropJobs_sound
    | with_unfolding_none apply State.raise_sound
    | simp -iota only [State.sound_mk, State.sound_fold]
    | (split <;> (try dsimp -iota only)))

theorem State.downNext_sound {s : State} (hs : s.Sound floor queue) :
    (State.downNext s).Sound floor queue := by
  unfold State.downNext
  (try dsimp -iota only)
  repeat' (first
    | with_reducible assumption
    | with_unfolding_none apply State.switchOff_sound
    | with_unfolding_none apply State.sound_ite
    | (split <;> (try dsimp -iota only)))

theorem State.savedOff_sound {s : State} (hs : s.Sound floor queue) :
    (State.savedOff s).Sound floor queue := by
  unfold State.savedOff
  (try dsimp -iota only)
  repeat' (first
    | with_reducible assumption
    | with_unfolding_none apply State.ringStop_sound
    | with_unfolding_none apply State.setPst_sound
    | with_unfolding_none apply State.dropJobs_sound
    | with_unfolding_none apply State.downNext_sound
    | simp -iota only [State.sound_mk, State.sound_fold])

theorem State.saveSnap_sound {s : State} (hs : s.Sound floor queue) :
    (State.saveSnap s).Sound floor queue := by
  unfold State.saveSnap
  (try dsimp -iota only)
  repeat' (first
    | with_reducible assumption
    | with_unfolding_none apply State.raise_sound
    | with_unfolding_none apply State.startJob_sound
    | with_unfolding_none apply State.jFlush_sound
    | with_unfolding_none apply State.flushCache_sound
    | with_unfolding_none apply State.sound_ite
    | with_unfolding_none apply State.sound_foldl
    | simp -iota only [State.sound_mk, State.sound_fold]
    | (split <;> (try dsimp -iota only)))

theorem State.saveBegin_sound {s : State} (trig : Nat) (part : Bool) (hs : s.Sound floor queue) :
    (State.saveBegin s trig part).Sound floor queue := by
  unfold State.saveBegin
  (try dsimp -iota only)
  repeat' (first
    | with_reducible assumption
    | with_unfolding_none apply State.raise_sound
    | with_unfolding_none apply State.saveSnap_sound
    | with_unfolding_none apply State.sound_ite
    | simp -iota only [State.sound_mk, State.sound_fold])

theorem State.huNow_sound {s : State} (hs : s.Sound floor queue) :
    (State.huNow s).2.Sound floor queue := by
  unfold State.huNow
  (try dsimp -iota only)
  repeat' (first
    | with_reducible assumption
    | simp -iota only [State.sound_mk, State.sound_fold]
    | (split <;> (try dsimp -iota only)))

theorem State.holdupCheck_sound {s : State} (hs : s.Sound floor queue) :
    (State.holdupCheck s).2.Sound floor queue := by
  unfold State.holdupCheck
  (try dsimp -iota only)
  repeat' (first
    | with_reducible assumption
    | with_unfolding_none apply State.huNow_sound
    | with_unfolding_none apply State.setFld_sound
    | with_unfolding_none apply State.raise_sound
    | with_unfolding_none apply State.error_sound
    | with_unfolding_none apply State.sound_ite_snd
    | simp -iota only [State.sound_mk, State.sound_fold])

theorem State.saveAct_sound {s : State} (trig : Nat) (verdict : Nat) (hs : s.Sound floor queue) :
    (State.saveAct s trig verdict).Sound floor queue := by
  unfold State.saveAct
  (try dsimp -iota only)
  repeat' (first
    | with_reducible assumption
    | with_unfolding_none apply State.saveBegin_sound
    | with_unfolding_none apply State.savedOff_sound
    | with_unfolding_none apply State.sound_ite)

theorem State.saveWait_sound {s : State} (trig : Nat) (verdict : Nat) (hs : s.Sound floor queue) :
    (State.saveWait s trig verdict).Sound floor queue := by
  unfold State.saveWait
  (try dsimp -iota only)
  repeat' (first
    | with_reducible assumption
    | simp -iota only [State.sound_mk, State.sound_fold])

theorem State.saveWake_sound {s : State} (trig : Nat) (verdict : Nat) (detail : Nat) (hs : s.Sound floor queue) :
    (State.saveWake s trig verdict detail).Sound floor queue := by
  unfold State.saveWake
  (try dsimp -iota only)
  repeat' (first
    | with_reducible assumption
    | with_unfolding_none apply State.saveWait_sound
    | with_unfolding_none apply State.wake_sound)

theorem State.pfail_sound {s : State} (hs : s.Sound floor queue) :
    (State.pfail s).Sound floor queue := by
  unfold State.pfail
  (try dsimp -iota only)
  repeat' (first
    | with_reducible assumption
    | with_unfolding_none apply State.saveWait_sound
    | with_unfolding_none apply State.savedOff_sound
    | with_unfolding_none apply State.saveWake_sound
    | with_unfolding_none apply State.holdupCheck_sound
    | with_unfolding_none apply State.saveAct_sound
    | with_unfolding_none apply State.sound_ite)

theorem State.saveCmd_sound {s : State} (code : Nat) (hs : s.Sound floor queue) :
    (State.saveCmd s code).Sound floor queue := by
  unfold State.saveCmd
  (try dsimp -iota only)
  repeat' (first
    | with_reducible assumption
    | with_unfolding_none apply State.setFld_sound
    | with_unfolding_none apply State.holdupCheck_sound
    | with_unfolding_none apply State.saveWake_sound
    | with_unfolding_none apply State.saveAct_sound
    | with_unfolding_none apply State.sound_ite)

theorem State.periodic_sound {s : State} (hs : s.Sound floor queue) :
    (State.periodic s).Sound floor queue := by
  unfold State.periodic
  (try dsimp -iota only)
  repeat' (first
    | with_reducible assumption
    | with_unfolding_none apply State.bump_sound
    | with_unfolding_none apply State.holdupCheck_sound
    | with_unfolding_none apply State.saveWake_sound
    | with_unfolding_none apply State.saveAct_sound
    | with_unfolding_none apply State.sound_ite
    | simp -iota only [State.sound_mk, State.sound_fold]
    | (split <;> (try dsimp -iota only)))

theorem State.saveWaiting_sound {s : State} (hs : s.Sound floor queue) :
    (State.saveWaiting s).Sound floor queue := by
  unfold State.saveWaiting
  (try dsimp -iota only)
  repeat' (first
    | with_reducible assumption
    | with_unfolding_none apply State.saveAct_sound
    | with_unfolding_none apply State.sound_ite
    | simp -iota only [State.sound_mk, State.sound_fold]
    | (split <;> (try dsimp -iota only)))

theorem State.saveRun_sound {s : State} (hs : s.Sound floor queue) :
    (State.saveRun s).Sound floor queue := by
  unfold State.saveRun
  (try dsimp -iota only)
  repeat' (first
    | with_reducible assumption
    | with_unfolding_none apply State.saveWaiting_sound
    | with_unfolding_none apply State.sound_ite)

theorem State.showSave_sound {s : State} (slot : Nat) (r : SaveRec) (hs : s.Sound floor queue) :
    (State.showSave s slot r).Sound floor queue := by
  unfold State.showSave
  (try dsimp -iota only)
  repeat' (first
    | with_reducible assumption
    | with_unfolding_none apply State.setFld_sound
    | with_unfolding_none apply State.setReg64_sound)

theorem State.persistDone_sound {s : State} (hs : s.Sound floor queue) :
    (State.persistDone s).Sound floor queue := by
  unfold State.persistDone
  (try dsimp -iota only)
  repeat' (first
    | with_reducible assumption
    | with_unfolding_none apply State.dropJobs_sound
    | with_unfolding_none apply State.showSave_sound
    | with_unfolding_none apply State.raise_sound
    | with_unfolding_none apply State.lower_sound
    | with_unfolding_none apply State.vfStatus_sound
    | with_unfolding_none apply State.savedOff_sound
    | with_unfolding_none apply State.sound_ite
    | simp -iota only [State.sound_mk, State.sound_fold]
    | (split <;> (try dsimp -iota only)))

theorem State.restoreResult_sound {s : State} (res : Nat) (part : Bool) (stale : Bool) (cl : Nat) (hs : s.Sound floor queue) :
    (State.restoreResult s res part stale cl).Sound floor queue := by
  unfold State.restoreResult
  (try dsimp -iota only)
  repeat' (first
    | with_reducible assumption
    | with_unfolding_none apply State.setFld_sound)

theorem State.restoreRec_sound {s : State} (slot : Nat) (r : SaveRec) (home : Option Home) (hs : s.Sound floor queue) :
    (State.restoreRec s slot r home).2.Sound floor queue := by
  unfold State.restoreRec
  (try dsimp -iota only)
  repeat' (first
    | with_reducible assumption
    | with_unfolding_none apply State.putRegs_sound
    | with_unfolding_none apply State.restoreResult_sound
    | with_unfolding_none apply State.showSave_sound
    | with_unfolding_none apply State.sound_ite
    | simp -iota only [State.sound_mk, State.sound_fold]
    | (split <;> (try dsimp -iota only)))

theorem State.restoreEndWith_sound {s : State} (r : Option (Nat × SaveRec × Option Home)) (hs : s.Sound floor queue) :
    (State.restoreEndWith s r).Sound floor queue := by
  unfold State.restoreEndWith
  (try dsimp -iota only)
  repeat' (first
    | with_reducible assumption
    | with_unfolding_none apply State.restoreResult_sound
    | with_unfolding_none apply State.restoreRec_sound
    | with_unfolding_none apply State.raise_sound
    | with_unfolding_none apply State.walkEntries_sound
    | with_unfolding_none apply State.beginWalk_sound
    | with_unfolding_none apply State.sound_ite
    | with_unfolding_none apply State.sound_foldl
    | simp -iota only [State.sound_mk, State.sound_fold]
    | (intro _ _ _; (try dsimp -iota only))
    | (split <;> (try dsimp -iota only)))

theorem State.slotNext_sound {s : State} (hs : s.Sound floor queue) :
    (State.slotNext s).Sound floor queue := by
  unfold State.slotNext
  (try dsimp -iota only)
  repeat' (first
    | with_reducible assumption
    | with_unfolding_none apply State.restoreEndWith_sound
    | with_unfolding_none apply State.startJob_sound
    | (split <;> (try dsimp -iota only)))

theorem State.slotFail_sound {s : State} (slot : Nat) (hs : s.Sound floor queue) :
    (State.slotFail s slot).Sound floor queue := by
  unfold State.slotFail
  (try dsimp -iota only)
  repeat' (first
    | with_reducible assumption
    | with_unfolding_none apply State.slotNext_sound
    | simp -iota only [State.sound_mk, State.sound_fold])

theorem State.slotTake_sound {s : State} (slot : Nat) (home : Option Home) (hs : s.Sound floor queue) :
    (State.slotTake s slot home).Sound floor queue := by
  unfold State.slotTake
  (try dsimp -iota only)
  repeat' (first
    | with_reducible assumption
    | with_unfolding_none apply State.slotFail_sound
    | with_unfolding_none apply State.restoreEndWith_sound
    | (split <;> (try dsimp -iota only)))

theorem State.slotBody_sound {s : State} (slot : Nat) (bad : Bool) (hs : s.Sound floor queue) :
    (State.slotBody s slot bad).Sound floor queue := by
  unfold State.slotBody
  (try dsimp -iota only)
  repeat' (first
    | with_reducible assumption
    | with_unfolding_none apply State.slotFail_sound
    | with_unfolding_none apply State.slotTake_sound
    | with_unfolding_none apply State.startJob_sound
    | with_unfolding_none apply State.sound_ite
    | (split <;> (try dsimp -iota only)))

theorem State.slotHome_sound {s : State} (slot : Nat) (base : Nat) (bad : Bool) (hs : s.Sound floor queue) :
    (State.slotHome s slot base bad).Sound floor queue := by
  unfold State.slotHome
  (try dsimp -iota only)
  repeat' (first
    | with_reducible assumption
    | with_unfolding_none apply State.slotFail_sound
    | with_unfolding_none apply State.slotTake_sound
    | (split <;> (try dsimp -iota only)))

theorem State.restore_sound {s : State} (hs : s.Sound floor queue) :
    (State.restore s).Sound floor queue := by
  unfold State.restore
  (try dsimp -iota only)
  repeat' (first
    | with_reducible assumption
    | with_unfolding_none apply State.restoreResult_sound
    | with_unfolding_none apply State.startJob_sound
    | with_unfolding_none apply State.sound_ite
    | simp -iota only [State.sound_mk, State.sound_fold])

theorem State.setStage_sound {s : State} (n : Nat) (hs : s.Sound floor queue) :
    (State.setStage s n).Sound floor queue := by
  unfold State.setStage
  (try dsimp -iota only)
  repeat' (first
    | with_reducible assumption
    | with_unfolding_none apply State.setFld_sound)

theorem State.live_sound {s : State} {f : State → State} (hs : s.Sound floor queue) (hf : ∀ t : State, t.Sound floor queue → (f t).Sound floor queue) :
    (State.live s f).Sound floor queue := by
  unfold State.live
  (try dsimp -iota only)
  repeat' (first
    | with_reducible assumption
    | with_unfolding_none apply hf
    | with_unfolding_none apply State.sound_ite)

theorem State.ringGo_sound {s : State} (hs : s.Sound floor queue) :
    (State.ringGo s).Sound floor queue := by
  unfold State.ringGo
  (try dsimp -iota only)
  repeat' (first
    | with_reducible assumption
    | with_unfolding_none apply State.ringStart_sound
    | with_unfolding_none apply State.sound_ite)

theorem State.fabricReg_sound {s : State} (r : Reg) (i : Nat) (hs : s.Sound floor queue) :
    (State.fabricReg s r i).Sound floor queue := by
  unfold State.fabricReg
  (try dsimp -iota only)
  repeat' (first
    | with_reducible assumption
    | with_unfolding_none apply State.resetReg_sound
    | with_unfolding_none apply State.setFld_sound
    | with_unfolding_none apply State.sound_foldl
    | (intro _ _ _; (try dsimp -iota only)))

theorem State.imgReset_sound {s : State} (letter : Nat) (hs : s.Sound floor queue) :
    (State.imgReset s letter).Sound floor queue := by
  unfold State.imgReset
  (try dsimp -iota only)
  repeat' (first
    | with_reducible assumption
    | with_unfolding_none apply State.setFld_sound
    | with_unfolding_none apply State.sound_ite
    | with_unfolding_none apply State.sound_foldl
    | (intro _ _ _; (try dsimp -iota only)))

theorem State.coldState_sound {s : State} (hs : s.Sound floor queue) : (State.coldState s).Sound 0 queue :=
  ⟨rfl, hs.2.1, hs.2.2.1, Nat.le_refl _, Nat.le_refl _, hs.2.2.2.2.2⟩

theorem State.coldAssert_sound {s : State} (hs : s.Sound floor queue) : (State.coldAssert s).Sound 0 queue :=
  State.coldState_sound hs

theorem State.cold_sound {s : State} (straps : Word) (hs : s.Sound floor queue) : (State.cold s straps).Sound 0 queue :=
  State.setReg_sound (State.coldState_sound hs) _ _ _

theorem State.unsendAll_sound {s : State} (hs : s.Sound floor queue) :
    (State.unsendAll s).Sound floor queue := by
  unfold State.unsendAll
  (try dsimp -iota only)
  repeat' (first
    | with_reducible assumption
    | with_unfolding_none apply State.setReg_sound
    | with_unfolding_none apply State.sound_foldl
    | simp -iota only [State.sound_mk, State.sound_fold]
    | (intro _ _ _; (try dsimp -iota only)))

theorem State.dropIntake_sound {s : State} (hs : s.Sound floor queue) :
    (State.dropIntake s).Sound floor queue := by
  unfold State.dropIntake
  (try dsimp -iota only)
  repeat' (first
    | with_reducible assumption
    | with_unfolding_none apply State.holdBack_sound
    | with_unfolding_none apply State.sound_foldl
    | simp -iota only [State.sound_mk, State.sound_fold])

theorem State.warmRegs_sound {s : State} (hs : s.Sound floor queue) :
    (State.warmRegs s).Sound floor queue := by
  unfold State.warmRegs
  (try dsimp -iota only)
  repeat' (first
    | with_reducible assumption
    | with_unfolding_none apply State.resetReg_sound
    | with_unfolding_none apply State.imgReset_sound
    | with_unfolding_none apply State.setFld_sound
    | with_unfolding_none apply State.sound_foldl
    | (intro _ _ _; (try dsimp -iota only)))

theorem State.finishWalks_sound {s : State} (hs : s.Sound floor queue) :
    (State.finishWalks s).Sound floor queue := by
  unfold State.finishWalks
  (try dsimp -iota only)
  repeat' (first
    | with_reducible assumption
    | with_unfolding_none apply State.walkDone_sound
    | with_unfolding_none apply State.sound_foldl
    | (intro _ _ _; (try dsimp -iota only)))

theorem State.warmApply_sound {s : State} (hs : s.Sound floor queue) :
    (State.warmApply s).Sound floor queue := by
  unfold State.warmApply
  (try dsimp -iota only)
  repeat' (first
    | with_reducible assumption
    | with_unfolding_none apply State.finishWalks_sound
    | with_unfolding_none apply State.saveStop_sound
    | with_unfolding_none apply State.dropJobs_sound
    | with_unfolding_none apply State.breachAll_sound
    | with_unfolding_none apply State.dropIntake_sound
    | with_unfolding_none apply State.ringStop_sound
    | with_unfolding_none apply State.warmRegs_sound
    | with_unfolding_none apply State.setFld_sound
    | with_unfolding_none apply State.bump_sound
    | with_unfolding_none apply State.unsendAll_sound
    | simp -iota only [State.sound_mk, State.sound_fold])

theorem State.warmGo_sound {s : State} (hs : s.Sound floor queue) :
    (State.warmGo s).Sound floor queue := by
  unfold State.warmGo
  (try dsimp -iota only)
  repeat' (first
    | with_reducible assumption
    | with_unfolding_none apply State.lineWake_sound
    | with_unfolding_none apply State.setStage_sound
    | with_unfolding_none apply State.raise_sound
    | with_unfolding_none apply State.arbStart_sound
    | with_unfolding_none apply State.perfReq_sound
    | with_unfolding_none apply State.sound_ite
    | simp -iota only [State.sound_mk, State.sound_fold]
    | (split <;> (try dsimp -iota only)))

theorem State.warmRise_sound {s : State} (hs : s.Sound floor queue) :
    (State.warmRise s).Sound floor queue := by
  unfold State.warmRise
  (try dsimp -iota only)
  repeat' (first
    | with_reducible assumption
    | with_unfolding_none apply State.warmGo_sound
    | simp -iota only [State.sound_mk, State.sound_fold]
    | (split <;> (try dsimp -iota only)))

theorem State.warmNow_sound {s : State} (hs : s.Sound floor queue) :
    (State.warmNow s).Sound floor queue := by
  unfold State.warmNow
  (try dsimp -iota only)
  repeat' (first
    | with_reducible assumption
    | with_unfolding_none apply State.warmApply_sound
    | with_unfolding_none apply State.warmRise_sound
    | with_unfolding_none apply State.sound_ite)

theorem State.warm_sound {s : State} (hs : s.Sound floor queue) :
    (State.warm s).Sound floor queue := by
  unfold State.warm
  (try dsimp -iota only)
  repeat' (first
    | with_reducible assumption
    | with_unfolding_none apply State.raise_sound
    | with_unfolding_none apply State.wake_sound
    | with_unfolding_none apply State.warmNow_sound
    | with_unfolding_none apply State.sound_ite
    | simp -iota only [State.sound_mk, State.sound_fold]
    | (split <;> (try dsimp -iota only)))

theorem State.warmEnd_sound {s : State} (hs : s.Sound floor queue) :
    (State.warmEnd s).Sound floor queue := by
  unfold State.warmEnd
  (try dsimp -iota only)
  repeat' (first
    | with_reducible assumption
    | with_unfolding_none apply State.warmRise_sound
    | simp -iota only [State.sound_mk, State.sound_fold]
    | (split <;> (try dsimp -iota only)))

theorem State.tagsLost_sound {s : State} (l : List Nat) (hs : s.Sound floor queue) :
    (State.tagsLost s l).Sound floor queue := by
  unfold State.tagsLost
  (try dsimp -iota only)
  repeat' (first
    | with_reducible assumption
    | with_unfolding_none apply State.setJrnl_sound
    | with_unfolding_none apply State.jFlushEnd_sound
    | with_unfolding_none apply State.sound_foldl
    | simp -iota only [State.sound_mk, State.sound_fold]
    | (intro _ _ _; (try dsimp -iota only)))

theorem State.depWaitEnd_sound {s : State} (hs : s.Sound floor queue) :
    (State.depWaitEnd s).Sound floor queue := by
  unfold State.depWaitEnd
  (try dsimp -iota only)
  repeat' (first
    | with_reducible assumption
    | with_unfolding_none apply State.warmGo_sound
    | with_unfolding_none apply State.depProto_sound
    | with_unfolding_none apply State.tagsLost_sound
    | with_unfolding_none apply State.sound_ite
    | with_unfolding_none apply State.sound_foldl
    | simp -iota only [State.sound_mk, State.sound_fold]
    | (split <;> (try dsimp -iota only)))

theorem State.fabricNow_sound {s : State} (hs : s.Sound floor queue) :
    (State.fabricNow s).Sound floor queue := by
  unfold State.fabricNow
  (try dsimp -iota only)
  repeat' (first
    | with_reducible assumption
    | with_unfolding_none apply State.fabricReg_sound
    | with_unfolding_none apply State.bump_sound
    | with_unfolding_none apply State.setFld_sound
    | with_unfolding_none apply State.resetHeader_sound
    | with_unfolding_none apply State.cfgStale_sound
    | with_unfolding_none apply State.sound_ite
    | with_unfolding_none apply State.sound_foldl
    | simp -iota only [State.sound_mk, State.sound_fold]
    | (intro _ _ _; (try dsimp -iota only)))

theorem State.bootOn_sound {s : State} (d : Nat) (hs : s.Sound floor queue) :
    (State.bootOn s d).Sound floor queue := by
  unfold State.bootOn
  (try dsimp -iota only)
  repeat' (first
    | with_reducible assumption
    | with_unfolding_none apply State.lineWake_sound
    | with_unfolding_none apply State.setStage_sound
    | with_unfolding_none apply State.arbStart_sound
    | with_unfolding_none apply State.switchOn_sound
    | with_unfolding_none apply State.ringGo_sound
    | with_unfolding_none apply State.sound_ite
    | simp -iota only [State.sound_mk, State.sound_fold]
    | (split <;> (try dsimp -iota only)))

theorem State.bootImage_sound {s : State} (hs : s.Sound floor queue) :
    (State.bootImage s).Sound floor queue := by
  unfold State.bootImage
  (try dsimp -iota only)
  repeat' (first
    | with_reducible assumption
    | with_unfolding_none apply State.setStage_sound
    | with_unfolding_none apply State.switchOn_sound
    | with_unfolding_none apply State.setPsw_sound
    | with_unfolding_none apply State.perfReq_sound
    | with_unfolding_none apply State.restore_sound
    | with_unfolding_none apply State.sound_ite)

theorem State.imageDone_sound {s : State} (hs : s.Sound floor queue) :
    (State.imageDone s).Sound floor queue := by
  unfold State.imageDone
  (try dsimp -iota only)
  repeat' (first
    | with_reducible assumption
    | with_unfolding_none apply State.imgDone_sound
    | with_unfolding_none apply State.ringImage_sound
    | with_unfolding_none apply State.bootImage_sound
    | with_unfolding_none apply State.sound_ite)

theorem State.ready_sound {s : State} (hs : s.Sound floor queue) :
    (State.ready s).Sound floor queue := by
  unfold State.ready
  (try dsimp -iota only)
  repeat' (first
    | with_reducible assumption
    | with_unfolding_none apply State.setStage_sound
    | with_unfolding_none apply State.heldFlrs_sound
    | with_unfolding_none apply State.ringGo_sound
    | with_unfolding_none apply State.saveWaiting_sound
    | with_unfolding_none apply State.sound_ite
    | simp -iota only [State.sound_mk, State.sound_fold])

theorem State.passBounds_sound {s : State} (hs : s.Sound floor queue) :
    (State.passBounds s).Sound floor queue := by
  unfold State.passBounds
  (try dsimp -iota only)
  repeat' (first
    | with_reducible assumption
    | with_unfolding_none apply State.switchList_sound
    | with_unfolding_none apply State.gateCycle_sound
    | with_unfolding_none apply State.catchUp_sound
    | with_unfolding_none apply State.sound_foldl
    | (intro _ _ _; (try dsimp -iota only)))

theorem State.exitEnd_sound {s : State} (hs : s.Sound floor queue) :
    (State.exitEnd s).Sound floor queue := by
  unfold State.exitEnd
  (try dsimp -iota only)
  repeat' (first
    | with_reducible assumption
    | with_unfolding_none apply State.setPst_sound
    | with_unfolding_none apply State.lineWake_sound
    | with_unfolding_none apply State.passBounds_sound
    | with_unfolding_none apply State.toOsc_sound
    | with_unfolding_none apply State.toListen_sound
    | with_unfolding_none apply State.tdmAway_sound
    | with_unfolding_none apply State.askWake_sound
    | with_unfolding_none apply State.perfStart_sound
    | with_unfolding_none apply State.warmNow_sound
    | with_unfolding_none apply State.saveWaiting_sound
    | with_unfolding_none apply State.sound_ite
    | simp -iota only [State.sound_mk, State.sound_fold])

theorem State.exitOn_sound {s : State} (hs : s.Sound floor queue) :
    (State.exitOn s).Sound floor queue := by
  unfold State.exitOn
  (try dsimp -iota only)
  repeat' (first
    | with_reducible assumption
    | with_unfolding_none apply State.startJob_sound
    | with_unfolding_none apply State.exitEnd_sound
    | with_unfolding_none apply State.sound_ite
    | simp -iota only [State.sound_mk, State.sound_fold])

theorem State.offRestored_sound {s : State} (hs : s.Sound floor queue) :
    (State.offRestored s).Sound floor queue := by
  unfold State.offRestored
  (try dsimp -iota only)
  repeat' (first
    | with_reducible assumption
    | with_unfolding_none apply State.dropJobs_sound
    | with_unfolding_none apply State.exitEnd_sound
    | with_unfolding_none apply State.sound_ite)

theorem State.entryEnd_sound {s : State} (hs : s.Sound floor queue) :
    (State.entryEnd s).Sound floor queue := by
  unfold State.entryEnd
  (try dsimp -iota only)
  repeat' (first
    | with_reducible assumption
    | with_unfolding_none apply State.setPst_sound
    | with_unfolding_none apply State.bump_sound
    | with_unfolding_none apply State.lower_sound
    | with_unfolding_none apply State.dropJobs_sound
    | with_unfolding_none apply State.wakeNow_sound
    | simp -iota only [State.sound_mk, State.sound_fold])

theorem State.backRun_sound {s : State} (hs : s.Sound floor queue) :
    (State.backRun s).Sound floor queue := by
  unfold State.backRun
  (try dsimp -iota only)
  repeat' (first
    | with_reducible assumption
    | with_unfolding_none apply State.abandonEnd_sound
    | with_unfolding_none apply State.lineWake_sound
    | with_unfolding_none apply State.warmNow_sound
    | with_unfolding_none apply State.saveWaiting_sound
    | with_unfolding_none apply State.sound_ite
    | (split <;> (try dsimp -iota only)))

theorem State.pswOn_sound {s : State} (d : Nat) (hs : s.Sound floor queue) :
    (State.pswOn s d).Sound floor queue := by
  unfold State.pswOn
  (try dsimp -iota only)
  repeat' (first
    | with_reducible assumption
    | with_unfolding_none apply State.backRun_sound
    | with_unfolding_none apply State.downNext_sound
    | with_unfolding_none apply State.bootOn_sound
    | with_unfolding_none apply State.sound_ite)

theorem State.pswOff_sound {s : State} (d : Nat) (hs : s.Sound floor queue) :
    (State.pswOff s d).Sound floor queue := by
  unfold State.pswOff
  (try dsimp -iota only)
  repeat' (first
    | with_reducible assumption
    | with_unfolding_none apply State.setPsw_sound
    | with_unfolding_none apply State.downNext_sound
    | with_unfolding_none apply State.switchOff_sound
    | with_unfolding_none apply State.entryEnd_sound
    | with_unfolding_none apply State.sound_ite
    | (split <;> (try dsimp -iota only)))

theorem State.pswAck_sound {s : State} (d : Nat) (v : Bool) (hs : s.Sound floor queue) :
    (State.pswAck s d v).Sound floor queue := by
  unfold State.pswAck
  (try dsimp -iota only)
  repeat' (first
    | with_reducible assumption
    | with_unfolding_none apply State.setPsw_sound
    | with_unfolding_none apply State.pswOff_sound
    | with_unfolding_none apply State.sound_ite)

theorem State.pswRow_sound {s : State} (d : Nat) (hs : s.Sound floor queue) :
    (State.pswRow s d).Sound floor queue := by
  unfold State.pswRow
  (try dsimp -iota only)
  repeat' (first
    | with_reducible assumption
    | with_unfolding_none apply State.setPsw_sound
    | with_unfolding_none apply State.pswOn_sound
    | with_unfolding_none apply State.sound_ite
    | (split <;> (try dsimp -iota only)))

theorem State.pswRun_sound {s : State} (hs : s.Sound floor queue) :
    (State.pswRun s).Sound floor queue := by
  unfold State.pswRun
  (try dsimp -iota only)
  repeat' (first
    | with_reducible assumption
    | with_unfolding_none apply State.pswRow_sound
    | with_unfolding_none apply State.entryRows_sound
    | with_unfolding_none apply State.backRun_sound
    | with_unfolding_none apply State.exitOn_sound
    | with_unfolding_none apply State.sound_foldl)

theorem State.switchBack_sound {s : State} (hs : s.Sound floor queue) :
    (State.switchBack s).Sound floor queue := by
  unfold State.switchBack
  (try dsimp -iota only)
  repeat' (first
    | with_reducible assumption
    | with_unfolding_none apply State.switchOn_sound
    | with_unfolding_none apply State.sound_ite
    | with_unfolding_none apply State.sound_foldl
    | (intro _ _ _; (try dsimp -iota only)))

theorem State.switchDead_sound {s : State} (d : Nat) (hs : s.Sound floor queue) :
    (State.switchDead s d).Sound floor queue := by
  unfold State.switchDead
  (try dsimp -iota only)
  repeat' (first
    | with_reducible assumption
    | with_unfolding_none apply State.setPsw_sound
    | with_unfolding_none apply State.error_sound
    | with_unfolding_none apply State.downNext_sound
    | with_unfolding_none apply State.sound_ite
    | simp -iota only [State.sound_mk, State.sound_fold])

theorem State.switchUndo_sound {s : State} (d : Nat) (hs : s.Sound floor queue) :
    (State.switchUndo s d).Sound floor queue := by
  unfold State.switchUndo
  (try dsimp -iota only)
  repeat' (first
    | with_reducible assumption
    | with_unfolding_none apply State.setPsw_sound
    | with_unfolding_none apply State.error_sound
    | with_unfolding_none apply State.switchBack_sound
    | with_unfolding_none apply State.abandon_sound
    | with_unfolding_none apply State.sound_ite)

theorem State.pswTimeout_sound {s : State} (d : Nat) (hs : s.Sound floor queue) :
    (State.pswTimeout s d).Sound floor queue := by
  unfold State.pswTimeout
  (try dsimp -iota only)
  repeat' (first
    | with_reducible assumption
    | with_unfolding_none apply State.logOne_sound
    | with_unfolding_none apply State.switchDead_sound
    | with_unfolding_none apply State.switchUndo_sound
    | with_unfolding_none apply State.sound_ite)

theorem State.cntCmd_sound {s : State} (hs : s.Sound floor queue) :
    (State.cntCmd s).Sound floor queue := by
  unfold State.cntCmd
  (try dsimp -iota only)
  repeat' (first
    | with_reducible assumption
    | with_unfolding_none apply State.setFld_sound
    | with_unfolding_none apply State.sound_ite
    | simp -iota only [State.sound_mk, State.sound_fold])

theorem State.clearExtrema_sound {s : State} (p : Nat) (hs : s.Sound floor queue) :
    (State.clearExtrema s p).Sound floor queue := by
  unfold State.clearExtrema
  (try dsimp -iota only)
  repeat' (first
    | with_reducible assumption
    | with_unfolding_none apply State.setReg_sound)

theorem State.telClear_sound {s : State} (hs : s.Sound floor queue) :
    (State.telClear s).Sound floor queue := by
  unfold State.telClear
  (try dsimp -iota only)
  repeat' (first
    | with_reducible assumption
    | with_unfolding_none apply State.clearExtrema_sound
    | with_unfolding_none apply State.sound_foldl
    | simp -iota only [State.sound_mk, State.sound_fold])

theorem State.snap_sound {s : State} (hs : s.Sound floor queue) :
    (State.snap s).Sound floor queue := by
  unfold State.snap
  (try dsimp -iota only)
  repeat' (first
    | with_reducible assumption
    | with_unfolding_none apply State.setReg64_sound
    | simp -iota only [State.sound_mk, State.sound_fold])

theorem State.snapClr_sound {s : State} (hs : s.Sound floor queue) :
    (State.snapClr s).Sound floor queue := by
  unfold State.snapClr
  (try dsimp -iota only)
  repeat' (first
    | with_reducible assumption
    | with_unfolding_none apply State.snap_sound
    | with_unfolding_none apply State.telClear_sound)

theorem State.clrAll_sound {s : State} (hs : s.Sound floor queue) :
    (State.clrAll s).Sound floor queue := by
  unfold State.clrAll
  (try dsimp -iota only)
  repeat' (first
    | with_reducible assumption
    | with_unfolding_none apply State.setReg_sound
    | with_unfolding_none apply State.telClear_sound
    | with_unfolding_none apply State.sound_foldl
    | (intro _ _ _; (try dsimp -iota only)))

theorem State.bwClr_sound {s : State} (hs : s.Sound floor queue) :
    (State.bwClr s).Sound floor queue := by
  unfold State.bwClr
  (try dsimp -iota only)
  repeat' (first
    | with_reducible assumption
    | with_unfolding_none apply State.setReg_sound
    | with_unfolding_none apply State.sound_foldl
    | (intro _ _ _; (try dsimp -iota only)))

theorem State.telCtrl_sound {s : State} (w : Word) (hs : s.Sound floor queue) :
    (State.telCtrl s w).Sound floor queue := by
  unfold State.telCtrl
  (try dsimp -iota only)
  repeat' (first
    | with_reducible assumption
    | with_unfolding_none apply State.snap_sound
    | with_unfolding_none apply State.bwClr_sound
    | with_unfolding_none apply State.snapClr_sound
    | with_unfolding_none apply State.clrAll_sound
    | with_unfolding_none apply State.sound_ite)

theorem State.bwEnd_sound {s : State} (i : Nat) (last : Reg) (max_ : Reg) (k : Nat) (hs : s.Sound floor queue) :
    (State.bwEnd s i last max_ k).Sound floor queue := by
  unfold State.bwEnd
  (try dsimp -iota only)
  repeat' (first
    | with_reducible assumption
    | with_unfolding_none apply State.setReg_sound
    | with_unfolding_none apply State.sound_ite)

theorem State.bwEnds_sound {s : State} (hs : s.Sound floor queue) :
    (State.bwEnds s).Sound floor queue := by
  unfold State.bwEnds
  (try dsimp -iota only)
  repeat' (first
    | with_reducible assumption
    | with_unfolding_none apply State.bwEnd_sound
    | with_unfolding_none apply State.sound_ite
    | with_unfolding_none apply State.sound_foldl
    | simp -iota only [State.sound_mk, State.sound_fold]
    | (intro _ _ _; (try dsimp -iota only)))

theorem State.winClose_sound {s : State} (hs : s.Sound floor queue) :
    (State.winClose s).Sound floor queue := by
  unfold State.winClose
  (try dsimp -iota only)
  repeat' (first
    | with_reducible assumption
    | with_unfolding_none apply State.setReg_sound
    | with_unfolding_none apply State.bwEnds_sound
    | with_unfolding_none apply State.raise_sound
    | with_unfolding_none apply State.sound_ite
    | with_unfolding_none apply State.sound_foldl
    | simp -iota only [State.sound_mk, State.sound_fold]
    | (intro _ _ _; (try dsimp -iota only)))

theorem State.levelSample_sound {s : State} (hs : s.Sound floor queue) :
    (State.levelSample s).Sound floor queue := by
  unfold State.levelSample
  (try dsimp -iota only)
  repeat' (first
    | with_reducible assumption
    | with_unfolding_none apply State.probe_sound
    | with_unfolding_none apply State.sound_ite
    | with_unfolding_none apply State.sound_foldl
    | simp -iota only [State.sound_mk, State.sound_fold]
    | (intro _ _ _; (try dsimp -iota only)))

theorem State.probeReset_sound {s : State} (p : Nat) (hs : s.Sound floor queue) :
    (State.probeReset s p).Sound floor queue := by
  unfold State.probeReset
  (try dsimp -iota only)
  repeat' (first
    | with_reducible assumption
    | with_unfolding_none apply State.clearExtrema_sound
    | with_unfolding_none apply State.setReg_sound
    | simp -iota only [State.sound_mk, State.sound_fold])

theorem State.smpWrite_sound {s : State} (hs : s.Sound floor queue) :
    (State.smpWrite s).Sound floor queue := by
  unfold State.smpWrite
  (try dsimp -iota only)
  repeat' (first
    | with_reducible assumption
    | with_unfolding_none apply State.setFld_sound
    | with_unfolding_none apply State.sound_ite
    | simp -iota only [State.sound_mk, State.sound_fold]
    | apply State.depWrite_sound (ht := by assumption)
    | (split <;> (try dsimp -iota only)))

theorem State.samplerRecord_sound {s : State} (hs : s.Sound floor queue) :
    (State.samplerRecord s).Sound floor queue := by
  unfold State.samplerRecord
  (try dsimp -iota only)
  repeat' (first
    | with_reducible assumption
    | with_unfolding_none apply State.smpWrite_sound
    | with_unfolding_none apply State.bump_sound
    | simp -iota only [State.sound_mk, State.sound_fold]
    | (split <;> (try dsimp -iota only)))

theorem State.ftToggle_sound {s : State} (t : Nat) (hs : s.Sound floor queue) :
    (State.ftToggle s t).Sound floor queue := by
  rw [State.ftToggle]
  have h : ∀ v w : Nat, State.Sound floor queue { s with tim := { s.tim with ref := v, ft := max s.tim.ft v, tog := w, seen := true } } := by
    intro v w
    exact ⟨hs.1, hs.2.1, hs.2.2.1, Nat.le_max_right _ _, Nat.le_trans hs.2.2.2.2.1 (Nat.le_max_left _ _), hs.2.2.2.2.2⟩
  refine State.sound_ite ?_ (State.sound_ite ?_ ?_)
  · exact State.raise_sound _ _ (State.lower_sound _ _ (h _ _))
  · apply State.error_sound
    simp only [State.sound_mk, State.sound_fold]
    exact State.raise_sound _ _ (State.lower_sound _ _ (h _ _))
  · exact State.lower_sound _ _ (h _ _)

theorem State.holdover_sound {s : State} (hs : s.Sound floor queue) :
    (State.holdover s).Sound floor queue := by
  unfold State.holdover
  (try dsimp -iota only)
  repeat' (first
    | with_reducible assumption
    | with_unfolding_none apply State.raise_sound
    | with_unfolding_none apply State.sound_ite)

theorem State.deny_sound {s : State} (p : PortId) (sp : Space) (off : Nat) (wr : Bool) (c : Nat) (hs : s.Sound floor queue) :
    (State.deny s p sp off wr c).Sound floor queue := by
  unfold State.deny
  (try dsimp -iota only)
  repeat' (first
    | with_reducible assumption
    | with_unfolding_none apply State.logFirst_sound)

theorem State.lockedWr_sound {s : State} (p : PortId) (sp : Space) (off : Nat) (hs : s.Sound floor queue) :
    (State.lockedWr s p sp off).Sound floor queue := by
  unfold State.lockedWr
  (try dsimp -iota only)
  repeat' (first
    | with_reducible assumption
    | with_unfolding_none apply State.logFirst_sound)

theorem State.rejected_sound {s : State} (p : PortId) (sp : Space) (off : Nat) (reason : Nat) (hs : s.Sound floor queue) :
    (State.rejected s p sp off reason).Sound floor queue := by
  unfold State.rejected
  (try dsimp -iota only)
  repeat' (first
    | with_reducible assumption
    | with_unfolding_none apply State.logFirst_sound)

theorem State.partialWr_sound {s : State} (p : PortId) (hs : s.Sound floor queue) :
    (State.partialWr s p).Sound floor queue := by
  unfold State.partialWr
  (try dsimp -iota only)
  repeat' (first
    | with_reducible assumption
    | with_unfolding_none apply State.logFirst_sound)

theorem State.offAccess_sound {s : State} (p : PortId) (hs : s.Sound floor queue) :
    (State.offAccess s p).Sound floor queue := by
  unfold State.offAccess
  (try dsimp -iota only)
  repeat' (first
    | with_reducible assumption
    | with_unfolding_none apply State.raise_sound
    | with_unfolding_none apply State.setFld_sound
    | (split <;> (try dsimp -iota only)))

theorem State.clearRead_sound {s : State} (r : Reg) (i : Nat) (w : Word) (hs : s.Sound floor queue) :
    (State.clearRead s r i w).Sound floor queue := by
  unfold State.clearRead
  (try dsimp -iota only)
  repeat' (first
    | with_reducible assumption
    | with_unfolding_none apply State.setReg_sound)

theorem State.readEffect_sound {s : State} (p : PortId) (r : Reg) (i : Nat) (w : Word) (hs : s.Sound floor queue) :
    (State.readEffect s p r i w).Sound floor queue := by
  unfold State.readEffect
  (try dsimp -iota only)
  repeat' (first
    | with_reducible assumption
    | with_unfolding_none apply State.clearRead_sound
    | with_unfolding_none apply State.irqRearm_sound
    | with_unfolding_none apply State.sound_ite
    | with_unfolding_none apply State.sound_foldl
    | (intro _ _ _; (try dsimp -iota only))
    | (split <;> (try dsimp -iota only)))

theorem State.storeWord_sound {s : State} (x : Spot) (data : Word) (hs : s.Sound floor queue) :
    (State.storeWord s x data).Sound floor queue := by
  unfold State.storeWord
  (try dsimp -iota only)
  repeat' (first
    | with_reducible assumption
    | with_unfolding_none apply State.setJrnl_sound
    | with_unfolding_none apply State.jArchive_sound
    | with_unfolding_none apply State.setReg_sound
    | with_unfolding_none apply State.setBnd_sound
    | with_unfolding_none apply State.dropBnd_sound
    | with_unfolding_none apply State.sound_ite
    | (split <;> (try dsimp -iota only)))

theorem State.noteCovered_sound {s : State} (x : Spot) (data : Word) (hs : s.Sound floor queue) :
    (State.noteCovered s x data).Sound floor queue := by
  unfold State.noteCovered
  (try dsimp -iota only)
  repeat' (first
    | with_reducible assumption
    | with_unfolding_none apply State.cfgChanged_sound
    | with_unfolding_none apply State.cfgStale_sound
    | with_unfolding_none apply State.sound_ite)

theorem State.store_sound {s : State} (x : Spot) (data : Word) (hs : s.Sound floor queue) :
    (State.store s x data).Sound floor queue := by
  unfold State.store
  (try dsimp -iota only)
  repeat' (first
    | with_reducible assumption
    | with_unfolding_none apply State.meterBefore_sound
    | with_unfolding_none apply State.noteCovered_sound
    | with_unfolding_none apply State.storeWord_sound
    | with_unfolding_none apply State.meterAfter_sound
    | with_unfolding_none apply State.setBucket_sound
    | with_unfolding_none apply State.bucketSet_sound
    | with_unfolding_none apply State.noteCycle_sound
    | with_unfolding_none apply State.sound_ite
    | (split <;> (try dsimp -iota only)))

theorem State.setSrcData_sound {s : State} (n : Nat) (v : Nat) (hs : s.Sound floor queue) :
    (State.setSrcData s n v).Sound floor queue := by
  unfold State.setSrcData
  (try dsimp -iota only)
  repeat' (first
    | with_reducible assumption
    | with_unfolding_none apply State.setReg_sound
    | with_unfolding_none apply State.sound_foldl
    | (intro _ _ _; (try dsimp -iota only)))

theorem State.setSource_sound {s : State} (i : Nat) (e : BitVec 64) (hs : s.Sound floor queue) :
    (State.setSource s i e).Sound floor queue := by
  unfold State.setSource
  (try dsimp -iota only)
  repeat' (first
    | with_reducible assumption
    | with_unfolding_none apply State.cfgStale_sound
    | with_unfolding_none apply State.cfgChanged_sound
    | with_unfolding_none apply State.sound_ite
    | simp -iota only [State.sound_mk, State.sound_fold])

theorem State.setXlate_sound {s : State} (o : Nat) (e : BitVec 128) (hs : s.Sound floor queue) :
    (State.setXlate s o e).Sound floor queue := by
  unfold State.setXlate
  (try dsimp -iota only)
  repeat' (first
    | with_reducible assumption
    | with_unfolding_none apply State.cfgStale_sound
    | with_unfolding_none apply State.cfgChanged_sound
    | with_unfolding_none apply State.sound_ite
    | simp -iota only [State.sound_mk, State.sound_fold])

theorem State.srcEnd_sound {s : State} (n : Nat) (hs : s.Sound floor queue) :
    (State.srcEnd s n).Sound floor queue := by
  unfold State.srcEnd
  (try dsimp -iota only)
  repeat' (first
    | with_reducible assumption
    | with_unfolding_none apply State.setFld_sound)

theorem State.sourceCmd_sound {s : State} (i : Nat) (e : BitVec 64) (hs : s.Sound floor queue) :
    (State.sourceCmd s i e).Sound floor queue := by
  unfold State.sourceCmd
  (try dsimp -iota only)
  repeat' (first
    | with_reducible assumption
    | with_unfolding_none apply State.setSource_sound
    | with_unfolding_none apply State.srcEnd_sound
    | (split <;> (try dsimp -iota only)))

theorem State.xlateCmd_sound {s : State} (i : Nat) (e : BitVec 128) (hs : s.Sound floor queue) :
    (State.xlateCmd s i e).Sound floor queue := by
  unfold State.xlateCmd
  (try dsimp -iota only)
  repeat' (first
    | with_reducible assumption
    | with_unfolding_none apply State.setXlate_sound
    | with_unfolding_none apply State.srcEnd_sound
    | (split <;> (try dsimp -iota only)))

theorem State.srcCmd_sound {s : State} (hs : s.Sound floor queue) :
    (State.srcCmd s).Sound floor queue := by
  unfold State.srcCmd
  (try dsimp -iota only)
  repeat' (first
    | with_reducible assumption
    | with_unfolding_none apply State.setSrcData_sound
    | with_unfolding_none apply State.srcEnd_sound
    | with_unfolding_none apply State.sourceCmd_sound
    | with_unfolding_none apply State.xlateCmd_sound
    | (split <;> (try dsimp -iota only)))

theorem State.tgtCmd_sound {s : State} (d : Nat) (hs : s.Sound floor queue) :
    (State.tgtCmd s d).Sound floor queue := by
  unfold State.tgtCmd
  (try dsimp -iota only)
  repeat' (first
    | with_reducible assumption
    | with_unfolding_none apply State.setFld_sound
    | with_unfolding_none apply State.setReg_sound
    | with_unfolding_none apply State.sound_ite
    | (split <;> (try dsimp -iota only)))

theorem State.cfgCommit_sound {s : State} (hs : s.Sound floor queue) :
    (State.cfgCommit s).Sound floor queue := by
  unfold State.cfgCommit
  (try dsimp -iota only)
  repeat' (first
    | with_reducible assumption
    | with_unfolding_none apply State.setReg_sound
    | with_unfolding_none apply State.raise_sound
    | with_unfolding_none apply State.breach_sound
    | with_unfolding_none apply State.homeCommit_sound
    | with_unfolding_none apply State.sound_ite
    | with_unfolding_none apply State.sound_foldl
    | simp -iota only [State.sound_mk, State.sound_fold]
    | (intro _ _ _; (try dsimp -iota only)))

theorem State.wideEnd_sound {s : State} (page : Nat) (err : Nat) (v : Nat) (hs : s.Sound floor queue) :
    (State.wideEnd s page err v).Sound floor queue := by
  unfold State.wideEnd
  (try dsimp -iota only)
  repeat' (first
    | with_reducible assumption
    | with_unfolding_none apply State.setReg_sound
    | with_unfolding_none apply State.sound_foldl
    | (intro _ _ _; (try dsimp -iota only)))

theorem State.wideCapture_sound {s : State} (page : Nat) (code : Nat) (hs : s.Sound floor queue) :
    (State.wideCapture s page code).Sound floor queue := by
  unfold State.wideCapture
  (try dsimp -iota only)
  repeat' (first
    | with_reducible assumption
    | with_unfolding_none apply State.wideEnd_sound
    | with_unfolding_none apply State.raise_sound
    | with_unfolding_none apply State.wakeReq_sound
    | with_unfolding_none apply State.sound_ite
    | (split <;> (try dsimp -iota only)))

theorem State.wideWrite_sound {s : State} (page : Nat) (code : Nat) (data : Word) (hs : s.Sound floor queue) :
    (State.wideWrite s page code data).Sound floor queue := by
  unfold State.wideWrite
  (try dsimp -iota only)
  repeat' (first
    | with_reducible assumption
    | with_unfolding_none apply State.lower_sound
    | with_unfolding_none apply State.wideCapture_sound
    | with_unfolding_none apply State.sound_ite)

theorem State.voteWritten_sound {s : State} (counts : Bool) (was : Bool) (now : Bool) (hs : s.Sound floor queue) :
    (State.voteWritten s counts was now).Sound floor queue := by
  unfold State.voteWritten
  (try dsimp -iota only)
  repeat' (first
    | with_reducible assumption
    | with_unfolding_none apply State.wakeReq_sound
    | with_unfolding_none apply State.sound_ite)

theorem State.domCtrlWritten_sound {s : State} {o : State} (d : Nat) (hs : s.Sound floor queue) (ho : o.Sound floor queue) :
    (State.domCtrlWritten s o d).Sound floor queue := by
  unfold State.domCtrlWritten
  (try dsimp -iota only)
  repeat' (first
    | with_reducible assumption
    | with_unfolding_none apply State.domEnable_sound
    | with_unfolding_none apply State.domDisable_sound
    | with_unfolding_none apply State.noteDrained_sound
    | with_unfolding_none apply State.sound_ite)

theorem State.effect_sound {s : State} {o : State} (x : Spot) (data : Word) (code : Nat) (ecc : Ecc) (hs : s.Sound floor queue) (ho : o.Sound floor queue) :
    (State.effect s o x data code ecc).Sound floor queue := by
  unfold State.effect
  (try dsimp -iota only)
  repeat' (first
    | with_reducible assumption
    | with_unfolding_none apply State.wideWrite_sound
    | with_unfolding_none apply State.lineEnable_sound
    | with_unfolding_none apply State.jStart_sound
    | with_unfolding_none apply State.applyBnd_sound
    | with_unfolding_none apply State.unparkAll_sound
    | with_unfolding_none apply State.dropTarget_sound
    | with_unfolding_none apply State.noteDrained_sound
    | with_unfolding_none apply State.domCtrlWritten_sound
    | with_unfolding_none apply State.probeReset_sound
    | with_unfolding_none apply State.chlEn_sound
    | with_unfolding_none apply State.chlLeave_sound
    | with_unfolding_none apply State.sleepCmd_sound
    | with_unfolding_none apply State.perfReq_sound
    | with_unfolding_none apply State.clkSwitch_sound
    | with_unfolding_none apply State.voteWritten_sound
    | with_unfolding_none apply State.srcCmd_sound
    | with_unfolding_none apply State.flushCache_sound
    | with_unfolding_none apply State.startSilence_sound
    | with_unfolding_none apply State.clearPtrs_sound
    | with_unfolding_none apply State.resumePort_sound
    | with_unfolding_none apply State.startForce_sound
    | with_unfolding_none apply State.tdmOff_sound
    | with_unfolding_none apply State.tdmSettle_sound
    | with_unfolding_none apply State.switchRole_sound
    | with_unfolding_none apply State.peerStart_sound
    | with_unfolding_none apply State.domReset_sound
    | with_unfolding_none apply State.depLine_sound
    | with_unfolding_none apply State.imgAbsent_sound
    | with_unfolding_none apply State.arbStart_sound
    | with_unfolding_none apply State.imgMailbox_sound
    | with_unfolding_none apply State.cfgCommit_sound
    | with_unfolding_none apply State.lower_sound
    | with_unfolding_none apply State.saveCmd_sound
    | with_unfolding_none apply State.telCtrl_sound
    | with_unfolding_none apply State.cntCmd_sound
    | with_unfolding_none apply State.startRt_sound
    | with_unfolding_none apply State.startCfg_sound
    | with_unfolding_none apply State.tgtCmd_sound
    | with_unfolding_none apply State.startDb_sound
    | with_unfolding_none apply State.jFlushCmd_sound
    | with_unfolding_none apply State.newseg_sound
    | with_unfolding_none apply State.rplStop_sound
    | with_unfolding_none apply State.sound_ite
    | simp -iota only [State.sound_mk, State.sound_fold]
    | (split <;> (try dsimp -iota only)))

theorem State.mirrorWrite_sound {s : State} {o : State} (x : Spot) (data : Word) (k : Nat) (hs : s.Sound floor queue) (ho : o.Sound floor queue) :
    (State.mirrorWrite s o x data k).Sound floor queue := by
  unfold State.mirrorWrite
  (try dsimp -iota only)
  repeat' (first
    | with_reducible assumption
    | with_unfolding_none apply State.mirrorCfg_sound
    | with_unfolding_none apply State.sound_ite)

theorem State.accept_sound {s : State} (x : Spot) (data : Word) (code : Nat) (ecc : Ecc) (hs : s.Sound floor queue) :
    (State.accept s x data code ecc).Sound floor queue := by
  unfold State.accept
  (try dsimp -iota only)
  repeat' (first
    | with_reducible assumption
    | with_unfolding_none apply State.store_sound
    | with_unfolding_none apply State.commitList_sound
    | with_unfolding_none apply State.mirrorWrite_sound
    | with_unfolding_none apply State.effect_sound
    | with_unfolding_none apply State.sound_ite)

theorem State.putSaved_sound {s : State} (d : Nat) (eid : Nat) (e : Entry) (hs : s.Sound floor queue) :
    (State.putSaved s d eid e).Sound floor queue := by
  unfold State.putSaved
  (try dsimp -iota only)
  repeat' (first
    | with_reducible assumption
    | with_unfolding_none apply State.cfgChanged_sound
    | with_unfolding_none apply State.setEntryNow_sound
    | with_unfolding_none apply State.mirrorEntry_sound
    | with_unfolding_none apply State.psnSync_sound
    | with_unfolding_none apply State.freeRec_sound
    | with_unfolding_none apply State.sound_ite
    | with_unfolding_none apply State.sound_foldl)

theorem State.putSavedLine_sound {s : State} (d : Nat) (n : Nat) (bytes : List Byte) (hs : s.Sound floor queue) :
    (State.putSavedLine s d n bytes).Sound floor queue := by
  unfold State.putSavedLine
  (try dsimp -iota only)
  repeat' (first
    | with_reducible assumption
    | with_unfolding_none apply State.putSaved_sound
    | with_unfolding_none apply State.sound_foldl
    | (intro _ _ _; (try dsimp -iota only)))

theorem State.clearSaved_sound {s : State} (d : Nat) (n : Nat) (hs : s.Sound floor queue) :
    (State.clearSaved s d n).Sound floor queue := by
  unfold State.clearSaved
  (try dsimp -iota only)
  repeat' (first
    | with_reducible assumption
    | with_unfolding_none apply State.putSaved_sound
    | with_unfolding_none apply State.sound_foldl
    | (intro _ _ _; (try dsimp -iota only)))

theorem State.restoreWord_sound {s : State} (d : Nat) (o : Nat) (w : Word) (hs : s.Sound floor queue) :
    (State.restoreWord s d o w).Sound floor queue := by
  unfold State.restoreWord
  (try dsimp -iota only)
  repeat' (first
    | with_reducible assumption
    | with_unfolding_none apply State.accept_sound
    | with_unfolding_none apply State.bump_sound
    | (split <;> (try dsimp -iota only)))

theorem State.restoreWords_sound {s : State} (d : Nat) (n : Nat) (body : List Byte) (hs : s.Sound floor queue) :
    (State.restoreWords s d n body).Sound floor queue := by
  unfold State.restoreWords
  (try dsimp -iota only)
  repeat' (first
    | with_reducible assumption
    | with_unfolding_none apply State.restoreWord_sound
    | with_unfolding_none apply State.sound_foldl
    | (intro _ _ _; (try dsimp -iota only)))

theorem State.domRestore_sound {s : State} (d : Nat) (hs : s.Sound floor queue) :
    (State.domRestore s d).Sound floor queue := by
  unfold State.domRestore
  (try dsimp -iota only)
  repeat' (first
    | with_reducible assumption
    | with_unfolding_none apply State.setFld_sound
    | with_unfolding_none apply State.startJob_sound
    | with_unfolding_none apply State.raise_sound
    | with_unfolding_none apply State.sound_ite
    | simp -iota only [State.sound_mk, State.sound_fold])

theorem State.restoreEnd_sound {s : State} (d : Nat) (err : Nat) (hs : s.Sound floor queue) :
    (State.restoreEnd s d err).Sound floor queue := by
  unfold State.restoreEnd
  (try dsimp -iota only)
  repeat' (first
    | with_reducible assumption
    | with_unfolding_none apply State.dropJobs_sound
    | with_unfolding_none apply State.lower_sound
    | with_unfolding_none apply State.setFld_sound
    | simp -iota only [State.sound_mk, State.sound_fold])

theorem State.restoreFinish_sound {s : State} (d : Nat) (x : VfMove) (hs : s.Sound floor queue) :
    (State.restoreFinish s d x).Sound floor queue := by
  unfold State.restoreFinish
  (try dsimp -iota only)
  repeat' (first
    | with_reducible assumption
    | with_unfolding_none apply State.setFld_sound
    | with_unfolding_none apply State.restoreWords_sound
    | with_unfolding_none apply State.lower_sound
    | with_unfolding_none apply State.restoreEnd_sound
    | simp -iota only [State.sound_mk, State.sound_fold])

theorem State.restoreTook_sound {s : State} (d : Nat) (n : Nat) (line : Nat) (poison : Bool) (hs : s.Sound floor queue) :
    (State.restoreTook s d n line poison).Sound floor queue := by
  unfold State.restoreTook
  (try dsimp -iota only)
  repeat' (first
    | with_reducible assumption
    | with_unfolding_none apply State.error_sound
    | with_unfolding_none apply State.clearSaved_sound
    | with_unfolding_none apply State.restoreEnd_sound
    | with_unfolding_none apply State.putSavedLine_sound
    | with_unfolding_none apply State.restoreFinish_sound
    | with_unfolding_none apply State.sound_ite
    | simp -iota only [State.sound_mk, State.sound_fold]
    | (split <;> (try dsimp -iota only)))

theorem State.domGo_sound {s : State} (d : Nat) (hs : s.Sound floor queue) :
    (State.domGo s d).Sound floor queue := by
  unfold State.domGo
  (try dsimp -iota only)
  repeat' (first
    | with_reducible assumption
    | with_unfolding_none apply State.domRestore_sound
    | with_unfolding_none apply State.domCmd_sound
    | with_unfolding_none apply State.sound_ite)

theorem State.acceptWrite_sound {s : State} (x : Spot) (data : Word) (code : Nat) (ecc : Ecc) (hs : s.Sound floor queue) :
    (State.acceptWrite s x data code ecc).Sound floor queue := by
  unfold State.acceptWrite
  (try dsimp -iota only)
  repeat' (first
    | with_reducible assumption
    | with_unfolding_none apply State.accept_sound
    | with_unfolding_none apply State.domGo_sound
    | with_unfolding_none apply State.sound_ite)

theorem State.accEnd_sound {s : State} (a : RegAcc) (w : AccessEnd) (hs : s.Sound floor queue) :
    (State.accEnd s a w).2.Sound floor queue := by
  unfold State.accEnd
  (try dsimp -iota only)
  repeat' (first
    | with_reducible assumption
    | with_unfolding_none apply State.raise_sound
    | with_unfolding_none apply State.deny_sound
    | with_unfolding_none apply State.offAccess_sound
    | with_unfolding_none apply State.lockedWr_sound
    | with_unfolding_none apply State.rejected_sound
    | with_unfolding_none apply State.setFld_sound
    | with_unfolding_none apply State.acceptWrite_sound
    | with_unfolding_none apply State.readEffect_sound
    | with_unfolding_none apply State.sound_ite
    | with_unfolding_none apply State.sound_ite_snd
    | simp -iota only [State.sound_mk, State.sound_fold]
    | (split <;> (try dsimp -iota only)))

theorem State.sbEnd_sound {s : State} (cmd : Nat) (result : Nat) (hs : s.Sound floor queue) :
    (State.sbEnd s cmd result).Sound floor queue := by
  unfold State.sbEnd
  (try dsimp -iota only)
  repeat' (first
    | with_reducible assumption
    | with_unfolding_none apply State.setFld_sound)

theorem State.sbReturn_sound {s : State} (w : Word) (hs : s.Sound floor queue) :
    (State.sbReturn s w).Sound floor queue := by
  unfold State.sbReturn
  (try dsimp -iota only)
  repeat' (first
    | with_reducible assumption
    | simp -iota only [State.sound_mk, State.sound_fold])

theorem State.complete_sound {s : State} (a : RegAcc) (w : AccessEnd) (v : Word) (waited : Bool) (hs : s.Sound floor queue) :
    (State.complete s a w v waited).Sound floor queue := by
  unfold State.complete
  (try dsimp -iota only)
  repeat' (first
    | with_reducible assumption
    | with_unfolding_none apply State.sbReturn_sound
    | with_unfolding_none apply State.sbEnd_sound
    | with_unfolding_none apply State.originate_sound
    | with_unfolding_none apply State.raise_sound
    | with_unfolding_none apply State.sound_ite
    | simp -iota only [State.sound_mk, State.sound_fold]
    | (split <;> (try dsimp -iota only)))

theorem State.winNext_sound {s : State} (p : Port) (hs : s.Sound floor queue) :
    (State.winNext s p).Sound floor queue := by
  unfold State.winNext
  (try dsimp -iota only)
  repeat' (first
    | with_reducible assumption
    | with_unfolding_none apply State.setReg_sound)

theorem State.headerWrite_sound {s : State} (k : Nat) (data : Word) (be : Nat) (hs : s.Sound floor queue) :
    (State.headerWrite s k data be).Sound floor queue := by
  unfold State.headerWrite
  (try dsimp -iota only)
  repeat' (first
    | with_reducible assumption
    | simp -iota only [State.sound_mk, State.sound_fold])

theorem State.sriovWrite_sound {s : State} (off : Nat) (data : Word) (be : Nat) (hs : s.Sound floor queue) :
    (State.sriovWrite s off data be).Sound floor queue := by
  unfold State.sriovWrite
  (try dsimp -iota only)
  repeat' (first
    | with_reducible assumption
    | with_unfolding_none apply State.headerWrite_sound
    | with_unfolding_none apply State.setSriov_sound
    | with_unfolding_none apply State.sound_ite)

theorem State.configAccess_sound {s : State} (a : RegAcc) (hs : s.Sound floor queue) :
    (State.configAccess s a).Sound floor queue := by
  unfold State.configAccess
  (try dsimp -iota only)
  repeat' (first
    | with_reducible assumption
    | with_unfolding_none apply State.sriovWrite_sound
    | with_unfolding_none apply State.headerWrite_sound
    | with_unfolding_none apply State.sound_ite
    | simp -iota only [State.sound_mk, State.sound_fold])

theorem State.setUr_sound {s : State} (p : Port) (v : Bool) (hs : s.Sound floor queue) :
    (State.setUr s p v).Sound floor queue := by
  unfold State.setUr
  (try dsimp -iota only)
  repeat' (first
    | with_reducible assumption
    | with_unfolding_none apply State.sound_ite
    | simp -iota only [State.sound_mk, State.sound_fold])

theorem State.performReg_sound {s : State} (a : RegAcc) (waited : Bool) (hs : s.Sound floor queue) :
    (State.performReg s a waited).Sound floor queue := by
  unfold State.performReg
  (try dsimp -iota only)
  repeat' (first
    | with_reducible assumption
    | with_unfolding_none apply State.winNext_sound
    | with_unfolding_none apply State.partialWr_sound
    | with_unfolding_none apply State.accEnd_sound
    | with_unfolding_none apply State.complete_sound
    | with_unfolding_none apply State.wakeReq_sound
    | with_unfolding_none apply State.sound_ite)

theorem State.perform_sound {s : State} (a : RegAcc) (waited : Bool) (hs : s.Sound floor queue) :
    (State.perform s a waited).Sound floor queue := by
  unfold State.perform
  (try dsimp -iota only)
  repeat' (first
    | with_reducible assumption
    | with_unfolding_none apply State.setUr_sound
    | with_unfolding_none apply State.configAccess_sound
    | with_unfolding_none apply State.performReg_sound
    | with_unfolding_none apply State.sound_ite)

theorem State.queueAcc_sound {s : State} (a : RegAcc) (hs : s.Sound floor queue) :
    (State.queueAcc s a).Sound floor queue := by
  unfold State.queueAcc
  (try dsimp -iota only)
  repeat' (first
    | with_reducible assumption
    | simp -iota only [State.sound_mk, State.sound_fold])

theorem State.serve_sound {s : State} (a : RegAcc) (hs : s.Sound floor queue) :
    (State.serve s a).Sound floor queue := by
  unfold State.serve
  (try dsimp -iota only)
  repeat' (first
    | with_reducible assumption
    | with_unfolding_none apply State.queueAcc_sound
    | with_unfolding_none apply State.wakeReq_sound
    | with_unfolding_none apply State.perform_sound
    | with_unfolding_none apply State.sound_ite)

theorem State.serveList_sound (x0 : List RegAcc) {x1 : State} (hx1 : x1.Sound floor queue) :
    (State.serveList x0 x1).Sound floor queue := by
  induction x0 generalizing x1 with
  | nil =>
    unfold State.serveList
    (try dsimp -iota only)
    repeat' (with_reducible assumption)
  | cons y l ih =>
    unfold State.serveList
    (try dsimp -iota only)
    repeat' (first
      | with_reducible assumption
      | with_unfolding_none apply ih
      | with_unfolding_none apply State.queueAcc_sound
      | with_unfolding_none apply State.perform_sound
      | with_unfolding_none apply State.sound_ite)

theorem State.serveAccs_sound {s : State} (hs : s.Sound floor queue) :
    (State.serveAccs s).Sound floor queue := by
  unfold State.serveAccs
  (try dsimp -iota only)
  repeat' (first
    | with_reducible assumption
    | with_unfolding_none apply State.serveList_sound
    | with_unfolding_none apply State.wideCapture_sound
    | with_unfolding_none apply State.sound_foldl
    | simp -iota only [State.sound_mk, State.sound_fold]
    | (intro _ _ _; (try dsimp -iota only)))

theorem State.request_sound {s : State} (p : Port) (sp : Space) (off : Nat) (wr : Bool) (data : Word) (be : Nat) (ecc : Ecc) (hs : s.Sound floor queue) :
    (State.request s p sp off wr data be ecc).Sound floor queue := by
  unfold State.request
  (try dsimp -iota only)
  repeat' (first
    | with_reducible assumption
    | with_unfolding_none apply State.serve_sound)

theorem State.regWrite_sound {s : State} (p : Port) (sp : Space) (off : Nat) (data : Word) (hs : s.Sound floor queue) :
    (State.regWrite s p sp off data).Sound floor queue := by
  unfold State.regWrite
  (try dsimp -iota only)
  repeat' (first
    | with_reducible assumption
    | with_unfolding_none apply State.request_sound)

theorem State.writeGlob_sound {s : State} (p : Port) (r : Reg) (i : Nat) (data : Word) (hs : s.Sound floor queue) :
    (State.writeGlob s p r i data).Sound floor queue := by
  unfold State.writeGlob
  (try dsimp -iota only)
  repeat' (first
    | with_reducible assumption
    | with_unfolding_none apply State.regWrite_sound
    | with_unfolding_none apply State.sound_ite)

theorem State.writeDom_sound {s : State} (p : Port) (r : Reg) (d : Nat) (data : Word) (hs : s.Sound floor queue) :
    (State.writeDom s p r d data).Sound floor queue := by
  unfold State.writeDom
  (try dsimp -iota only)
  repeat' (first
    | with_reducible assumption
    | with_unfolding_none apply State.regWrite_sound
    | with_unfolding_none apply State.sound_ite)

theorem State.readDom_sound {s : State} (p : Port) (r : Reg) (d : Nat) (hs : s.Sound floor queue) :
    (State.readDom s p r d).Sound floor queue := by
  unfold State.readDom
  (try dsimp -iota only)
  repeat' (first
    | with_reducible assumption
    | with_unfolding_none apply State.request_sound
    | with_unfolding_none apply State.sound_ite)

theorem State.sbFault_sound {s : State} (f : SbFrame) (cmd : Nat) (hs : s.Sound floor queue) :
    (State.sbFault s f cmd).Sound floor queue := by
  unfold State.sbFault
  (try dsimp -iota only)
  repeat' (first
    | with_reducible assumption
    | with_unfolding_none apply State.sbEnd_sound
    | with_unfolding_none apply State.raise_sound
    | with_unfolding_none apply State.setFld_sound
    | (split <;> (try dsimp -iota only)))

theorem State.sbRegister_sound {s : State} (f : SbFrame) (off : Word) (wr : Bool) (data : Word) (hs : s.Sound floor queue) :
    (State.sbRegister s f off wr data).Sound floor queue := by
  unfold State.sbRegister
  (try dsimp -iota only)
  repeat' (first
    | with_reducible assumption
    | with_unfolding_none apply State.sbFault_sound
    | with_unfolding_none apply State.serve_sound
    | with_unfolding_none apply State.sound_ite)

theorem State.sbStatus_sound {s : State} (f : SbFrame) (hs : s.Sound floor queue) :
    (State.sbStatus s f).Sound floor queue := by
  unfold State.sbStatus
  (try dsimp -iota only)
  repeat' (first
    | with_reducible assumption
    | with_unfolding_none apply State.sbFault_sound
    | with_unfolding_none apply State.accEnd_sound
    | with_unfolding_none apply State.sbEnd_sound
    | with_unfolding_none apply State.sbReturn_sound
    | with_unfolding_none apply State.sound_ite)

theorem State.sbImage_sound {s : State} (f : SbFrame) (bytes : List Byte) (hs : s.Sound floor queue) :
    (State.sbImage s f bytes).Sound floor queue := by
  unfold State.sbImage
  (try dsimp -iota only)
  repeat' (first
    | with_reducible assumption
    | with_unfolding_none apply State.sbFault_sound
    | with_unfolding_none apply State.sbEnd_sound
    | with_unfolding_none apply State.imgData_sound
    | with_unfolding_none apply State.sound_ite)

theorem State.sbDo_sound {s : State} (x1 : SbCmd) (hs : s.Sound floor queue) :
    (State.sbDo s x1).Sound floor queue := by
  unfold State.sbDo
  (try dsimp -iota only)
  repeat' (first
    | with_reducible assumption
    | with_unfolding_none apply State.sbRegister_sound
    | with_unfolding_none apply State.sbStatus_sound
    | with_unfolding_none apply State.sbImage_sound
    | (split <;> (try dsimp -iota only)))

theorem State.sbServe_sound (x0 : List SbCmd) {x1 : State} (hx1 : x1.Sound floor queue) :
    (State.sbServe x0 x1).Sound floor queue := by
  induction x0 generalizing x1 with
  | nil =>
    unfold State.sbServe
    (try dsimp -iota only)
    repeat' (with_reducible assumption)
  | cons y l ih =>
    unfold State.sbServe
    (try dsimp -iota only)
    repeat' (first
      | with_reducible assumption
      | with_unfolding_none apply ih
      | with_unfolding_none apply State.sbDo_sound
      | with_unfolding_none apply State.sound_ite
      | simp -iota only [State.sound_mk, State.sound_fold])

theorem State.sbCommand_sound {s : State} (c : SbCmd) (hs : s.Sound floor queue) :
    (State.sbCommand s c).Sound floor queue := by
  unfold State.sbCommand
  (try dsimp -iota only)
  repeat' (first
    | with_reducible assumption
    | with_unfolding_none apply State.sbServe_sound)

theorem State.sbPump_sound {s : State} (hs : s.Sound floor queue) :
    (State.sbPump s).Sound floor queue := by
  unfold State.sbPump
  (try dsimp -iota only)
  repeat' (first
    | with_reducible assumption
    | with_unfolding_none apply State.sbServe_sound
    | simp -iota only [State.sound_mk, State.sound_fold])

theorem State.takeRequest_sound {s : State} (r : Rec) (hs : s.Sound floor queue) :
    (State.takeRequest s r).Sound floor queue := by
  unfold State.takeRequest
  (try dsimp -iota only)
  repeat' (first
    | with_reducible assumption
    | with_unfolding_none apply State.countG_sound
    | with_unfolding_none apply State.serve_sound
    | with_unfolding_none apply State.sound_ite)

theorem State.mirrorCommit_sound {s : State} (x : Spot) (data : Word) (k : Nat) (hs : s.Sound floor queue) :
    (State.mirrorCommit s x data k).Sound floor queue := by
  unfold State.mirrorCommit
  (try dsimp -iota only)
  repeat' (first
    | with_reducible assumption
    | with_unfolding_none apply State.store_sound
    | with_unfolding_none apply State.commitList_sound
    | with_unfolding_none apply State.setPending_sound
    | with_unfolding_none apply State.sound_ite)

theorem State.takeCfg_sound {s : State} (r : Rec) (hs : s.Sound floor queue) :
    (State.takeCfg s r).Sound floor queue := by
  unfold State.takeCfg
  (try dsimp -iota only)
  repeat' (first
    | with_reducible assumption
    | with_unfolding_none apply State.applied_sound
    | with_unfolding_none apply State.setCi_sound
    | with_unfolding_none apply State.mirrorCommit_sound
    | with_unfolding_none apply State.acceptWrite_sound
    | with_unfolding_none apply State.sound_ite
    | (split <;> (try dsimp -iota only)))

theorem State.readRegion_sound {s : State} (hs : s.Sound floor queue) :
    (State.readRegion s).Sound floor queue := by
  unfold State.readRegion
  (try dsimp -iota only)
  repeat' (first
    | with_reducible assumption
    | simp -iota only [State.sound_mk, State.sound_fold])

theorem State.runWalker_sound {s : State} (dt : Nat) (hs : s.Sound floor queue) :
    (State.runWalker s dt).Sound floor queue := by
  unfold State.runWalker
  (try dsimp -iota only)
  repeat' (first
    | with_reducible assumption
    | with_unfolding_none apply State.readRegion_sound
    | with_unfolding_none apply State.sound_ite
    | simp -iota only [State.sound_mk, State.sound_fold]
    | (split <;> (try dsimp -iota only)))

theorem State.readRest_sound {s : State} (hs : s.Sound floor queue) :
    (State.readRest s).Sound floor queue := by
  unfold State.readRest
  (try dsimp -iota only)
  repeat' (first
    | with_reducible assumption
    | with_unfolding_none apply State.readRegion_sound
    | with_unfolding_none apply State.sound_foldl
    | (intro _ _ _; (try dsimp -iota only)))

theorem State.mismatch_sound {s : State} (hs : s.Sound floor queue) :
    (State.mismatch s).Sound floor queue := by
  unfold State.mismatch
  (try dsimp -iota only)
  repeat' (first
    | with_reducible assumption
    | with_unfolding_none apply State.raise_sound
    | with_unfolding_none apply State.setFld_sound
    | with_unfolding_none apply State.error_sound
    | with_unfolding_none apply State.fence_sound
    | with_unfolding_none apply State.sound_ite
    | with_unfolding_none apply State.sound_foldl
    | (intro _ _ _; (try dsimp -iota only))
    | (split <;> (try dsimp -iota only)))

theorem State.nextPass_sound {s : State} (hs : s.Sound floor queue) :
    (State.nextPass s).Sound floor queue := by
  unfold State.nextPass
  (try dsimp -iota only)
  repeat' (first
    | with_reducible assumption
    | simp -iota only [State.sound_mk, State.sound_fold])

theorem State.passEnd_sound {s : State} (bad : List Nat) (hs : s.Sound floor queue) :
    (State.passEnd s bad).Sound floor queue := by
  unfold State.passEnd
  (try dsimp -iota only)
  repeat' (first
    | with_reducible assumption
    | with_unfolding_none apply State.readRest_sound
    | with_unfolding_none apply State.raise_sound
    | with_unfolding_none apply State.nextPass_sound
    | with_unfolding_none apply State.setReg_sound
    | with_unfolding_none apply State.mismatch_sound
    | with_unfolding_none apply State.sound_ite
    | simp -iota only [State.sound_mk, State.sound_fold])

theorem State.receive_sound {s : State} (p : ChlPort) (r : Rec) {f : State → State} (hs : s.Sound floor queue) (hf : ∀ t : State, t.Sound floor queue → (f t).Sound floor queue) :
    (State.receive s p r f).Sound floor queue := by
  unfold State.receive
  (try dsimp -iota only)
  repeat' (first
    | with_reducible assumption
    | with_unfolding_none apply hf
    | with_unfolding_none apply State.rxCount_sound
    | with_unfolding_none apply State.sound_ite)

theorem State.listenTo_sound {s : State} (p : ChlPort) (r : Rec) {f : State → State} (hs : s.Sound floor queue) (hf : ∀ t : State, t.Sound floor queue → (f t).Sound floor queue) :
    (State.listenTo s p r f).Sound floor queue := by
  unfold State.listenTo
  (try dsimp -iota only)
  repeat' (first
    | with_reducible assumption
    | with_unfolding_none apply hf
    | with_unfolding_none apply State.receive_sound
    | with_unfolding_none apply State.sound_ite)

theorem State.takeTandem_sound {s : State} (r : Rec) (hs : s.Sound floor queue) :
    (State.takeTandem s r).Sound floor queue := by
  unfold State.takeTandem
  (try dsimp -iota only)
  repeat' (first
    | with_reducible assumption
    | with_unfolding_none apply State.heardPartner_sound
    | with_unfolding_none apply State.takeState_sound
    | with_unfolding_none apply State.takeDeliv_sound
    | with_unfolding_none apply State.takeCfg_sound
    | with_unfolding_none apply State.takeDoorbell_sound
    | with_unfolding_none apply State.takeAck_sound
    | with_unfolding_none apply State.takeHeartbeat_sound
    | with_unfolding_none apply State.takeHello_sound
    | with_unfolding_none apply State.takeDigest_sound
    | with_unfolding_none apply State.takeBulk_sound
    | with_unfolding_none apply State.takeBulkEnd_sound
    | with_unfolding_none apply State.takeHandover_sound
    | (split <;> (try dsimp -iota only)))

theorem State.rxTandem_sound {s : State} (sub : Nat) (r : Rec) (hs : s.Sound floor queue) :
    (State.rxTandem s sub r).Sound floor queue := by
  unfold State.rxTandem
  (try dsimp -iota only)
  repeat' (first
    | with_reducible assumption
    | with_unfolding_none apply State.receive_sound
    | with_unfolding_none apply State.passOn_sound
    | with_unfolding_none apply State.takeTandem_sound
    | with_unfolding_none apply State.whenCore_sound
    | with_unfolding_none apply State.sound_ite
    | (intro _ _; (try dsimp -iota only)))

theorem State.takePeer_sound {s : State} (r : Rec) (hs : s.Sound floor queue) :
    (State.takePeer s r).Sound floor queue := by
  unfold State.takePeer
  (try dsimp -iota only)
  repeat' (first
    | with_reducible assumption
    | with_unfolding_none apply State.takeResponse_sound
    | with_unfolding_none apply State.takeRequest_sound
    | with_unfolding_none apply State.sound_ite)

theorem State.rxPeer_sound {s : State} (resp : Bool) (r : Rec) (hs : s.Sound floor queue) :
    (State.rxPeer s resp r).Sound floor queue := by
  unfold State.rxPeer
  (try dsimp -iota only)
  repeat' (first
    | with_reducible assumption
    | with_unfolding_none apply State.receive_sound
    | with_unfolding_none apply State.passOn_sound
    | with_unfolding_none apply State.whenCore_sound
    | with_unfolding_none apply State.takePeer_sound
    | with_unfolding_none apply State.sound_ite
    | (intro _ _; (try dsimp -iota only)))

theorem State.rxCaravan_sound {s : State} (ty : Nat) (r : Rec) {f : State → State} (hs : s.Sound floor queue) (hf : ∀ t : State, t.Sound floor queue → (f t).Sound floor queue) :
    (State.rxCaravan s ty r f).Sound floor queue := by
  unfold State.rxCaravan
  (try dsimp -iota only)
  repeat' (first
    | with_reducible assumption
    | with_unfolding_none apply State.receive_sound
    | with_unfolding_none apply State.sound_ite)

theorem State.rxCtrl_sound {s : State} (sub : Nat) (p : ChlPort) (r : Rec) {f : State → State} (hs : s.Sound floor queue) (hf : ∀ t : State, t.Sound floor queue → (f t).Sound floor queue) :
    (State.rxCtrl s sub p r f).Sound floor queue := by
  unfold State.rxCtrl
  (try dsimp -iota only)
  repeat' (first
    | with_reducible assumption
    | with_unfolding_none apply State.receive_sound
    | with_unfolding_none apply State.sound_ite)

theorem State.rxReserved_sound {s : State} (p : ChlPort) (r : Rec) (hs : s.Sound floor queue) :
    (State.rxReserved s p r).Sound floor queue := by
  unfold State.rxReserved
  (try dsimp -iota only)
  repeat' (first
    | with_reducible assumption
    | with_unfolding_none apply State.receive_sound
    | with_unfolding_none apply State.countG_sound
    | with_unfolding_none apply State.sound_ite
    | (intro _ _; (try dsimp -iota only)))

theorem State.rxPass_sound {s : State} (p : ChlPort) (r : Rec) (hs : s.Sound floor queue) :
    (State.rxPass s p r).Sound floor queue := by
  unfold State.rxPass
  (try dsimp -iota only)
  repeat' (first
    | with_reducible assumption
    | with_unfolding_none apply State.receive_sound
    | with_unfolding_none apply State.passOn_sound
    | with_unfolding_none apply State.sound_ite
    | (intro _ _; (try dsimp -iota only)))

theorem State.takeRec_sound {s : State} (r : Rec) (hs : s.Sound floor queue) :
    (State.takeRec s r).Sound floor queue := by
  unfold State.takeRec
  (try dsimp -iota only)
  repeat' (first
    | with_reducible assumption
    | with_unfolding_none apply State.takeEvent_sound
    | with_unfolding_none apply State.takeWaymark_sound
    | with_unfolding_none apply State.takeSilent_sound
    | with_unfolding_none apply State.takeClose_sound
    | with_unfolding_none apply State.takeTandem_sound
    | with_unfolding_none apply State.takePeer_sound
    | with_unfolding_none apply State.sound_ite)

theorem State.takeWaiting_sound {s : State} (hs : s.Sound floor queue) :
    (State.takeWaiting s).Sound floor queue := by
  unfold State.takeWaiting
  (try dsimp -iota only)
  repeat' (first
    | with_reducible assumption
    | with_unfolding_none apply State.takeRec_sound
    | with_unfolding_none apply State.sound_ite
    | with_unfolding_none apply State.sound_foldl
    | simp -iota only [State.sound_mk, State.sound_fold]
    | (intro _ _ _; (try dsimp -iota only)))

theorem State.jobBegun_sound {s : State} (j : Job) (hs : s.Sound floor queue) :
    (State.jobBegun s j).Sound floor queue := by
  unfold State.jobBegun
  (try dsimp -iota only)
  repeat' (first
    | with_reducible assumption
    | simp -iota only [State.sound_mk, State.sound_fold]
    | (split <;> (try dsimp -iota only)))

theorem State.jobRequest_sound {s : State} (j : Job) (hs : s.Sound floor queue) {rt : State} (ht : State.jobRequest s j = some rt) :
    rt.Sound floor queue := by
  unfold State.jobRequest at ht
  refine State.sound_map ht (fun r h => State.jobBegun_sound _ ?_)
  simp only [State.sound_mk, State.sound_fold]
  split at h
  · rw [Option.bind_eq_some_iff] at h
    obtain ⟨b, -, h⟩ := h
    exact State.depWrite_sound _ _ _ hs h
  · exact State.depRead_sound _ _ hs h

theorem State.jobFirst_sound {s : State} (l : List Job) (hs : s.Sound floor queue) : (State.jobFirst s l).Sound floor queue := by
  induction l with
  | nil => exact hs
  | cons j rest ih =>
    unfold State.jobFirst
    split
    · rename_i h
      split at h
      · exact State.jobRequest_sound _ hs h
      · cases h
    · exact ih

theorem State.jobStep_sound {s : State} (hs : s.Sound floor queue) :
    (State.jobStep s).Sound floor queue := by
  unfold State.jobStep
  (try dsimp -iota only)
  repeat' (first
    | with_reducible assumption
    | with_unfolding_none apply State.jobFirst_sound
    | with_unfolding_none apply State.sound_ite)

theorem State.slotRead_sound {s : State} (j : Job) (hs : s.Sound floor queue) :
    (State.slotRead s j).Sound floor queue := by
  unfold State.slotRead
  (try dsimp -iota only)
  repeat' (first
    | with_reducible assumption
    | with_unfolding_none apply State.dropJobs_sound
    | with_unfolding_none apply State.slotNext_sound
    | with_unfolding_none apply State.slotBody_sound
    | with_unfolding_none apply State.slotHome_sound
    | (split <;> (try dsimp -iota only)))

theorem State.slotLine_sound {s : State} (j : Job) (n : Nat) (poison : Bool) (hs : s.Sound floor queue) :
    (State.slotLine s j n poison).Sound floor queue := by
  unfold State.slotLine
  (try dsimp -iota only)
  repeat' (first
    | with_reducible assumption
    | with_unfolding_none apply State.slotRead_sound
    | with_unfolding_none apply State.sound_ite
    | simp -iota only [State.sound_mk, State.sound_fold]
    | (split <;> (try dsimp -iota only)))

theorem State.jobAnswer_sound {s : State} (id n line : Nat) (poison : Bool) (hs : s.Sound floor queue) :
    (State.jobAnswer s id n line poison).Sound floor queue := by
  unfold State.jobAnswer
  split
  · exact hs
  · rename_i j _
    generalize j.kind = k
    cases k <;> first
      | exact hs
      | exact State.restoreTook_sound _ _ _ _ hs
      | exact State.depLineDone_sound _ _ _ hs
      | exact State.homeEnd_sound hs
      | exact State.slotLine_sound _ _ _ hs

theorem State.jobRun_sound {s : State} (hs : s.Sound floor queue) :
    (State.jobRun s).Sound floor queue := by
  unfold State.jobRun
  (try dsimp -iota only)
  repeat' (first
    | with_reducible assumption
    | with_unfolding_none apply State.saveRead_sound
    | with_unfolding_none apply State.jobStep_sound
    | with_unfolding_none apply State.depPort_sound
    | with_unfolding_none apply State.sound_ite
    | with_unfolding_none apply State.sound_foldl)

theorem State.advance_sound {s : State} (hs : s.Sound floor queue) : (State.advance s).Sound floor queue := by
  rw [State.advance]
  exact ⟨hs.1, hs.2.1, hs.2.2.1, Nat.le_max_right _ _, Nat.le_trans hs.2.2.2.2.1 (Nat.le_max_left _ _), hs.2.2.2.2.2⟩

theorem State.runHolds_sound {s : State} (n : Nat) (hs : s.Sound floor queue) :
    (State.runHolds s n).Sound floor queue := by
  unfold State.runHolds
  (try dsimp -iota only)
  repeat' (first
    | with_reducible assumption
    | with_unfolding_none apply State.sound_ite
    | simp -iota only [State.sound_mk, State.sound_fold])

theorem State.runTimers_sound {s : State} (n : Nat) (hs : s.Sound floor queue) :
    (State.runTimers s n).Sound floor queue := by
  unfold State.runTimers
  (try dsimp -iota only)
  repeat' (first
    | with_reducible assumption
    | simp -iota only [State.sound_mk, State.sound_fold])

theorem State.runFreeze_sound {s : State} (n : Nat) (hs : s.Sound floor queue) :
    (State.runFreeze s n).Sound floor queue := by
  unfold State.runFreeze
  (try dsimp -iota only)
  repeat' (first
    | with_reducible assumption
    | with_unfolding_none apply State.sound_ite
    | simp -iota only [State.sound_mk, State.sound_fold])

theorem State.ftToggleRun_sound {s : State} (t : Nat) (hs : s.Sound floor queue) :
    (State.ftToggleRun s t).Sound floor queue := by
  unfold State.ftToggleRun
  (try dsimp -iota only)
  repeat' (first
    | with_reducible assumption
    | with_unfolding_none apply State.ftToggle_sound
    | with_unfolding_none apply State.runHolds_sound
    | with_unfolding_none apply State.runTimers_sound
    | with_unfolding_none apply State.runFreeze_sound)

theorem State.skipTicks_sound {s : State} (hs : s.Sound floor queue) :
    (State.skipTicks s).Sound floor queue := by
  unfold State.skipTicks
  (try dsimp -iota only)
  repeat' (first
    | with_reducible assumption
    | with_unfolding_none apply State.sound_ite
    | simp -iota only [State.sound_mk, State.sound_fold])

theorem State.cycleStart_sound {s : State} (hs : s.Sound floor queue) :
    (State.cycleStart s).Sound floor queue := by
  unfold State.cycleStart
  (try dsimp -iota only)
  repeat' (first
    | with_reducible assumption
    | simp -iota only [State.sound_mk, State.sound_fold])

theorem State.mainTick_sound {s : State} (hs : s.Sound floor queue) :
    (State.mainTick s).Sound floor queue := by
  unfold State.mainTick
  (try dsimp -iota only)
  repeat' (first
    | with_reducible assumption
    | with_unfolding_none apply State.takeWaiting_sound
    | with_unfolding_none apply State.wakeDrain_sound
    | with_unfolding_none apply State.closeAll_sound
    | with_unfolding_none apply State.newCycle_sound
    | with_unfolding_none apply State.placeHeld_sound
    | with_unfolding_none apply State.serveOffers_sound
    | with_unfolding_none apply State.pumpHeldFaults_sound
    | with_unfolding_none apply State.pumpRte_sound
    | with_unfolding_none apply State.retryComps_sound
    | with_unfolding_none apply State.retryStalled_sound
    | with_unfolding_none apply State.retryCmds_sound
    | with_unfolding_none apply State.askHeads_sound
    | with_unfolding_none apply State.pumpHeads_sound
    | with_unfolding_none apply State.placeHeads_sound
    | with_unfolding_none apply State.pumpWrites_sound
    | with_unfolding_none apply State.runFlush_sound
    | with_unfolding_none apply State.pumpMisses_sound
    | with_unfolding_none apply State.rplAsk_sound
    | with_unfolding_none apply State.rplPump_sound
    | with_unfolding_none apply State.sound_ite
    | with_unfolding_none apply State.sound_foldl
    | (intro _ _ _; (try dsimp -iota only)))

theorem State.ringTick_sound {s : State} (n : Nat) (hs : s.Sound floor queue) :
    (State.ringTick s n).Sound floor queue := by
  unfold State.ringTick
  (try dsimp -iota only)
  repeat' (first
    | with_reducible assumption
    | with_unfolding_none apply State.standbyLost_sound
    | with_unfolding_none apply State.bulkOne_sound
    | with_unfolding_none apply State.txPort_sound
    | with_unfolding_none apply State.txMark_sound
    | with_unfolding_none apply State.windowLimit_sound
    | with_unfolding_none apply State.leaveEnd_sound
    | with_unfolding_none apply State.sound_ite)

theorem State.fabric_sound {s : State} (hs : s.Sound floor queue) :
    (State.fabric s).Sound floor queue := by
  unfold State.fabric
  (try dsimp -iota only)
  repeat' (first
    | with_reducible assumption
    | with_unfolding_none apply State.fabricNow_sound
    | with_unfolding_none apply State.sound_ite
    | simp -iota only [State.sound_mk, State.sound_fold])

theorem State.fabricLate_sound {s : State} (hs : s.Sound floor queue) :
    (State.fabricLate s).Sound floor queue := by
  unfold State.fabricLate
  (try dsimp -iota only)
  repeat' (first
    | with_reducible assumption
    | with_unfolding_none apply State.fabricNow_sound
    | with_unfolding_none apply State.sound_ite
    | with_unfolding_none apply State.sound_foldl
    | simp -iota only [State.sound_mk, State.sound_fold]
    | (intro _ _ _; (try dsimp -iota only)))

theorem State.serveWaiting_sound {s : State} (hs : s.Sound floor queue) :
    (State.serveWaiting s).Sound floor queue := by
  unfold State.serveWaiting
  (try dsimp -iota only)
  repeat' (first
    | with_reducible assumption
    | with_unfolding_none apply State.serveAccs_sound
    | with_unfolding_none apply State.sbPump_sound
    | with_unfolding_none apply State.fabricLate_sound
    | with_unfolding_none apply State.sound_ite)

theorem State.coreTick_sound {s : State} (hs : s.Sound floor queue) :
    (State.coreTick s).Sound floor queue := by
  unfold State.coreTick
  (try dsimp -iota only)
  repeat' (first
    | with_reducible assumption
    | with_unfolding_none apply State.jCycles_sound
    | with_unfolding_none apply State.drainFlush_sound
    | with_unfolding_none apply State.mainTick_sound
    | with_unfolding_none apply State.saveSnap_sound
    | with_unfolding_none apply State.saveRun_sound
    | with_unfolding_none apply State.smpWrite_sound
    | with_unfolding_none apply State.jobRun_sound
    | with_unfolding_none apply State.sound_ite)

theorem State.timeTick_sound {s : State} {s0 : State} (hs : s.Sound floor queue) (hs0 : s0.Sound floor queue) :
    (State.timeTick s s0).Sound floor queue := by
  unfold State.timeTick
  (try dsimp -iota only)
  repeat' (first
    | with_reducible assumption
    | with_unfolding_none apply State.runHolds_sound
    | with_unfolding_none apply State.runTimers_sound
    | with_unfolding_none apply State.skipTicks_sound
    | with_unfolding_none apply State.runFreeze_sound
    | with_unfolding_none apply State.runWalker_sound
    | with_unfolding_none apply State.retuneRun_sound
    | with_unfolding_none apply State.clkRun_sound
    | with_unfolding_none apply State.tdmVoteWake_sound
    | with_unfolding_none apply State.wakeNow_sound
    | with_unfolding_none apply State.pswRun_sound
    | with_unfolding_none apply State.sclRun_sound
    | with_unfolding_none apply State.depWaitEnd_sound
    | with_unfolding_none apply State.warmNow_sound
    | with_unfolding_none apply State.sound_ite)

theorem State.clockTick_sound {s : State} (hs : s.Sound floor queue) :
    (State.clockTick s).Sound floor queue := by
  unfold State.clockTick
  (try dsimp -iota only)
  repeat' (first
    | with_reducible assumption
    | with_unfolding_none apply State.cycleStart_sound
    | with_unfolding_none apply State.advance_sound
    | with_unfolding_none apply State.pswRun_sound
    | with_unfolding_none apply State.sclRun_sound
    | with_unfolding_none apply State.timeTick_sound
    | with_unfolding_none apply State.coreTick_sound
    | with_unfolding_none apply State.tdmSettle_sound
    | with_unfolding_none apply State.ringTick_sound
    | with_unfolding_none apply State.noteDrained_sound
    | with_unfolding_none apply State.serveWaiting_sound
    | with_unfolding_none apply State.sound_ite
    | with_unfolding_none apply State.sound_foldl)

theorem State.onRingClk_sound {s : State} {f : State → State} (hs : s.Sound floor queue) (hf : ∀ t : State, t.Sound floor queue → (f t).Sound floor queue) :
    (State.onRingClk s f).Sound floor queue := by
  unfold State.onRingClk
  (try dsimp -iota only)
  repeat' (first
    | with_reducible assumption
    | with_unfolding_none apply hf
    | with_unfolding_none apply State.sound_ite)

theorem State.mapResponse_sound {s : State} (tag : Nat) (poison : Bool) (ecc : Ecc) (hs : s.Sound floor queue) :
    (State.mapResponse s tag poison ecc).Sound floor queue := by
  unfold State.mapResponse
  (try dsimp -iota only)
  repeat' (first
    | with_reducible assumption
    | with_unfolding_none apply State.mapReturn_sound
    | with_unfolding_none apply State.freeDepTag_sound
    | with_unfolding_none apply State.askFills_sound
    | with_unfolding_none apply State.depProto_sound
    | with_unfolding_none apply State.sound_ite)

theorem State.depAnswer_sound {s : State} (data : Bool) (tag : Nat) (poison : Bool) (ecc : Ecc) (hs : s.Sound floor queue) :
    (State.depAnswer s data tag poison ecc).Sound floor queue := by
  unfold State.depAnswer
  (try dsimp -iota only)
  repeat' (first
    | with_reducible assumption
    | with_unfolding_none apply State.depProto_sound
    | with_unfolding_none apply State.fill_sound
    | with_unfolding_none apply State.mapResponse_sound
    | with_unfolding_none apply State.wbAck_sound
    | with_unfolding_none apply State.freeDepTag_sound
    | with_unfolding_none apply State.askFills_sound
    | with_unfolding_none apply State.jAck_sound
    | with_unfolding_none apply State.rplTook_sound
    | with_unfolding_none apply State.jobAnswer_sound
    | with_unfolding_none apply State.sound_ite
    | (split <;> (try dsimp -iota only)))

theorem State.backingInit_sound {s : State} (hs : s.Sound floor queue) :
    (State.backingInit s).Sound floor queue := by
  unfold State.backingInit
  (try dsimp -iota only)
  repeat' (first
    | with_reducible assumption
    | with_unfolding_none apply State.initDone_sound
    | with_unfolding_none apply State.sound_ite)

theorem State.journalEcc_sound {s : State} (ecc : Ecc) (hs : s.Sound floor queue) :
    (State.journalEcc s ecc).Sound floor queue := by
  unfold State.journalEcc
  (try dsimp -iota only)
  repeat' (first
    | with_reducible assumption
    | with_unfolding_none apply State.error_sound
    | with_unfolding_none apply State.jMarks_sound
    | with_unfolding_none apply State.jLose_sound
    | with_unfolding_none apply State.contain_sound
    | with_unfolding_none apply State.sound_ite
    | simp -iota only [State.sound_mk, State.sound_fold]
    | (split <;> (try dsimp -iota only)))

theorem State.ringQueueEcc_sound {s : State} (p : ChlPort) (before : Nat) (ecc : Ecc) (hs : s.Sound floor queue) :
    (State.ringQueueEcc s p before ecc).Sound floor queue := by
  unfold State.ringQueueEcc
  (try dsimp -iota only)
  repeat' (first
    | with_reducible assumption
    | with_unfolding_none apply State.setSide_sound
    | with_unfolding_none apply State.hopLoss_sound
    | with_unfolding_none apply State.error_sound
    | with_unfolding_none apply State.sound_ite
    | (split <;> (try dsimp -iota only)))

theorem State.originEcc_sound {s : State} (p : ChlPort) (ecc : Ecc) (hs : s.Sound floor queue) :
    (State.originEcc s p ecc).Sound floor queue := by
  unfold State.originEcc
  (try dsimp -iota only)
  repeat' (first
    | with_reducible assumption
    | with_unfolding_none apply State.setSide_sound
    | with_unfolding_none apply State.hopLoss_sound
    | with_unfolding_none apply State.error_sound
    | with_unfolding_none apply State.sound_ite
    | (split <;> (try dsimp -iota only)))

theorem State.passEcc_sound {s : State} (p : ChlPort) (r : Rec) (ecc : Ecc) (hs : s.Sound floor queue) :
    (State.passEcc s p r ecc).Sound floor queue := by
  unfold State.passEcc
  (try dsimp -iota only)
  repeat' (first
    | with_reducible assumption
    | with_unfolding_none apply State.rxPass_sound
    | with_unfolding_none apply State.ringQueueEcc_sound
    | with_unfolding_none apply State.originEcc_sound)

theorem State.counterEcc_sound {s : State} (ecc : Ecc) (hs : s.Sound floor queue) :
    (State.counterEcc s ecc).Sound floor queue := by
  unfold State.counterEcc
  (try dsimp -iota only)
  repeat' (first
    | with_reducible assumption
    | with_unfolding_none apply State.error_sound
    | simp -iota only [State.sound_mk, State.sound_fold]
    | (split <;> (try dsimp -iota only)))

theorem State.lineRaw_sound {s : State} (n : Nat) (v : Bool) (hs : s.Sound floor queue) :
    (State.lineRaw s n v).Sound floor queue := by
  unfold State.lineRaw
  (try dsimp -iota only)
  repeat' (first
    | with_reducible assumption
    | with_unfolding_none apply State.lineChange_sound
    | with_unfolding_none apply State.sound_ite
    | simp -iota only [State.sound_mk, State.sound_fold])

theorem State.lanesRaw_sound {s : State} (p : ChlPort) (l : BitVec 4) (hs : s.Sound floor queue) :
    (State.lanesRaw s p l).Sound floor queue := by
  unfold State.lanesRaw
  (try dsimp -iota only)
  repeat' (first
    | with_reducible assumption
    | with_unfolding_none apply State.setSide_sound)

theorem State.withHu_sound {s : State} (hu : Hu) {f : State → State} (hs : s.Sound floor queue) (hf : ∀ t : State, t.Sound floor queue → (f t).Sound floor queue) :
    (State.withHu s hu f).Sound floor queue := by
  unfold State.withHu
  (try dsimp -iota only)
  repeat' (first
    | with_reducible assumption
    | with_unfolding_none apply hf
    | simp -iota only [State.sound_mk, State.sound_fold])

theorem State.pfailPin_sound {s : State} (hu : Hu) (hs : s.Sound floor queue) :
    (State.pfailPin s hu).Sound floor queue := by
  unfold State.pfailPin
  (try dsimp -iota only)
  repeat' (first
    | with_reducible assumption
    | with_unfolding_none apply State.withHu_sound
    | with_unfolding_none apply State.pfail_sound
    | with_unfolding_none apply State.saveWait_sound
    | with_unfolding_none apply State.holdupCheck_sound
    | with_unfolding_none apply State.sound_ite
    | (intro _ _; (try dsimp -iota only)))

theorem State.tdo_sound {s : State} (w : Word) (hs : s.Sound floor queue) :
    (State.tdo s w).Sound floor queue := by
  unfold State.tdo
  (try dsimp -iota only)
  repeat' (first
    | with_reducible assumption
    | simp -iota only [State.sound_mk, State.sound_fold])

theorem State.tap_sound {s : State} (t : Tap) (hs : s.Sound floor queue) :
    (State.tap s t).Sound floor queue := by
  unfold State.tap
  (try dsimp -iota only)
  repeat' (first
    | with_reducible assumption
    | with_unfolding_none apply State.tdo_sound
    | with_unfolding_none apply State.live_sound
    | with_unfolding_none apply State.serve_sound
    | with_unfolding_none apply State.sound_ite
    | simp -iota only [State.sound_mk, State.sound_fold]
    | (intro _ _; (try dsimp -iota only))
    | (split <;> (try dsimp -iota only)))

theorem State.alertRead_sound {s : State} (hs : s.Sound floor queue) :
    (State.alertRead s).Sound floor queue := by
  unfold State.alertRead
  (try dsimp -iota only)
  repeat' (first
    | with_reducible assumption
    | with_unfolding_none apply State.sound_ite
    | simp -iota only [State.sound_mk, State.sound_fold])

theorem State.readGlob_sound {s : State} (p : Port) (r : Reg) (i : Nat) (hs : s.Sound floor queue) :
    (State.readGlob s p r i).Sound floor queue := by
  unfold State.readGlob
  (try dsimp -iota only)
  repeat' (first
    | with_reducible assumption
    | with_unfolding_none apply State.request_sound
    | with_unfolding_none apply State.sound_ite)

theorem State.cmdGlob_sound {s : State} (p : Port) (r : Reg) (i : Nat) (l : List (Field × Nat)) (hs : s.Sound floor queue) :
    (State.cmdGlob s p r i l).Sound floor queue := by
  unfold State.cmdGlob
  (try dsimp -iota only)
  repeat' (first
    | with_reducible assumption
    | with_unfolding_none apply State.writeGlob_sound)

theorem State.cmdDom_sound {s : State} (p : Port) (r : Reg) (d : Nat) (l : List (Field × Nat)) (hs : s.Sound floor queue) :
    (State.cmdDom s p r d l).Sound floor queue := by
  unfold State.cmdDom
  (try dsimp -iota only)
  repeat' (first
    | with_reducible assumption
    | with_unfolding_none apply State.writeDom_sound)

theorem State.cmdDomEcc_sound {s : State} (p : Port) (r : Reg) (d : Nat) (l : List (Field × Nat)) (ecc : Ecc) (hs : s.Sound floor queue) :
    (State.cmdDomEcc s p r d l ecc).Sound floor queue := by
  unfold State.cmdDomEcc
  (try dsimp -iota only)
  repeat' (first
    | with_reducible assumption
    | with_unfolding_none apply State.request_sound
    | with_unfolding_none apply State.sound_ite)

theorem State.cmdGlobEcc_sound {s : State} (p : Port) (r : Reg) (i : Nat) (l : List (Field × Nat)) (ecc : Ecc) (hs : s.Sound floor queue) :
    (State.cmdGlobEcc s p r i l ecc).Sound floor queue := by
  unfold State.cmdGlobEcc
  (try dsimp -iota only)
  repeat' (first
    | with_reducible assumption
    | with_unfolding_none apply State.request_sound
    | with_unfolding_none apply State.sound_ite)

theorem State.changeGlob_sound {s : State} (p : Port) (r : Reg) (i : Nat) (l : List (Field × Nat)) (hs : s.Sound floor queue) :
    (State.changeGlob s p r i l).Sound floor queue := by
  unfold State.changeGlob
  (try dsimp -iota only)
  repeat' (first
    | with_reducible assumption
    | with_unfolding_none apply State.writeGlob_sound)

theorem State.changeDom_sound {s : State} (p : Port) (r : Reg) (d : Nat) (l : List (Field × Nat)) (hs : s.Sound floor queue) :
    (State.changeDom s p r d l).Sound floor queue := by
  unfold State.changeDom
  (try dsimp -iota only)
  repeat' (first
    | with_reducible assumption
    | with_unfolding_none apply State.writeDom_sound)

theorem State.writeMeter_sound {s : State} (p : Port) (m : MeterId) (r : MeterReg) (data : Word) (hs : s.Sound floor queue) :
    (State.writeMeter s p m r data).Sound floor queue := by
  unfold State.writeMeter
  (try dsimp -iota only)
  repeat' (first
    | with_reducible assumption
    | with_unfolding_none apply State.writeGlob_sound
    | with_unfolding_none apply State.writeDom_sound
    | (split <;> (try dsimp -iota only)))

end Sys2Proof.Machine
end

