-- ==== Sys2Proof/Laws/SoundCmds.lean ====
section
/-! SUPPORT. Every command answers a next state and keeps `State.Sound`; only COLD lets fabric time run back. -/

set_option linter.all false
set_option linter.unreachableTactic false
set_option linter.unusedTactic false

namespace Sys2Proof.Machine

variable {floor : Nat} {queue : List Instr}

/-- execWaymarkMark answers a next state and keeps the invariant. -/
theorem execWaymarkMark_sound {s : State} (lane : Fin 4) (ecc : Ecc) (hs : s.Sound floor queue) :
    ∃ t, execWaymarkMark lane ecc s = .next t ∧ t.Sound floor queue := by
  unfold execWaymarkMark
  (try dsimp -iota only)
  refine ⟨_, rfl, ?_⟩
  repeat' (first
  | with_reducible assumption
  | with_unfolding_none apply State.live_sound
  | with_unfolding_none apply State.onPathClock_sound
  | with_unfolding_none apply State.waymarkHead_sound
  | (intro _ _; (try dsimp -iota only)))

/-- execWaymarkQuiet answers a next state and keeps the invariant. -/
theorem execWaymarkQuiet_sound {s : State} (lane : Fin 4) (ecc : Ecc) (hs : s.Sound floor queue) :
    ∃ t, execWaymarkQuiet lane ecc s = .next t ∧ t.Sound floor queue := by
  unfold execWaymarkQuiet
  (try dsimp -iota only)
  refine ⟨_, rfl, ?_⟩
  repeat' (first
  | with_reducible assumption
  | with_unfolding_none apply State.live_sound
  | with_unfolding_none apply State.onPathClock_sound
  | with_unfolding_none apply State.waymarkHead_sound
  | (intro _ _; (try dsimp -iota only)))

/-- execWaymarkResume answers a next state and keeps the invariant. -/
theorem execWaymarkResume_sound {s : State} (lane : Fin 4) (ecc : Ecc) (hs : s.Sound floor queue) :
    ∃ t, execWaymarkResume lane ecc s = .next t ∧ t.Sound floor queue := by
  unfold execWaymarkResume
  (try dsimp -iota only)
  refine ⟨_, rfl, ?_⟩
  repeat' (first
  | with_reducible assumption
  | with_unfolding_none apply State.live_sound
  | with_unfolding_none apply State.onPathClock_sound
  | with_unfolding_none apply State.waymarkHead_sound
  | (intro _ _; (try dsimp -iota only)))

/-- execSilence answers a next state and keeps the invariant. -/
theorem execSilence_sound {s : State} (p : Port) (ord : BitVec 16) (hs : s.Sound floor queue) :
    ∃ t, execSilence p ord s = .next t ∧ t.Sound floor queue := by
  unfold execSilence
  (try dsimp -iota only)
  refine ⟨_, rfl, ?_⟩
  repeat' (first
  | with_reducible assumption
  | with_unfolding_none apply State.live_sound
  | with_unfolding_none apply State.cmdGlob_sound
  | (intro _ _; (try dsimp -iota only)))

/-- execHoldClockStart answers a next state and keeps the invariant. -/
theorem execHoldClockStart_sound {s : State} (d : BitVec 12) (hs : s.Sound floor queue) :
    ∃ t, execHoldClockStart d s = .next t ∧ t.Sound floor queue := by
  unfold execHoldClockStart
  (try dsimp -iota only)
  refine ⟨_, rfl, ?_⟩
  repeat' (first
  | with_reducible assumption
  | with_unfolding_none apply State.live_sound
  | with_unfolding_none apply State.onPathClock_sound
  | with_unfolding_none apply State.holdStart_sound
  | (intro _ _; (try dsimp -iota only)))

/-- execOverdue answers a next state and keeps the invariant. -/
theorem execOverdue_sound {s : State} (d : BitVec 12) (hs : s.Sound floor queue) :
    ∃ t, execOverdue d s = .next t ∧ t.Sound floor queue := by
  unfold execOverdue
  (try dsimp -iota only)
  refine ⟨_, rfl, ?_⟩
  repeat' (first
  | with_reducible assumption
  | with_unfolding_none apply State.live_sound
  | with_unfolding_none apply State.onPathClock_sound
  | with_unfolding_none apply State.overdue_sound
  | (intro _ _; (try dsimp -iota only)))

/-- execStraggler answers a next state and keeps the invariant. -/
theorem execStraggler_sound {s : State} (d : BitVec 12) (hs : s.Sound floor queue) :
    ∃ t, execStraggler d s = .next t ∧ t.Sound floor queue := by
  unfold execStraggler
  (try dsimp -iota only)
  refine ⟨_, rfl, ?_⟩
  repeat' (first
  | with_reducible assumption
  | with_unfolding_none apply State.live_sound
  | with_unfolding_none apply State.onPathClock_sound
  | with_unfolding_none apply State.straggler_sound
  | (intro _ _; (try dsimp -iota only)))

/-- execRelease answers a next state and keeps the invariant. -/
theorem execRelease_sound {s : State} (ecc : Ecc) (hs : s.Sound floor queue) :
    ∃ t, execRelease ecc s = .next t ∧ t.Sound floor queue := by
  unfold execRelease
  (try dsimp -iota only)
  refine ⟨_, rfl, ?_⟩
  repeat' (first
  | with_reducible assumption
  | with_unfolding_none apply State.live_sound
  | with_unfolding_none apply State.onPathClock_sound
  | with_unfolding_none apply State.releaseTwo_sound
  | (intro _ _; (try dsimp -iota only)))

/-- execReleaseRetry answers a next state and keeps the invariant. -/
theorem execReleaseRetry_sound {s : State} (ecc : Ecc) (hs : s.Sound floor queue) :
    ∃ t, execReleaseRetry ecc s = .next t ∧ t.Sound floor queue := by
  unfold execReleaseRetry
  (try dsimp -iota only)
  refine ⟨_, rfl, ?_⟩
  repeat' (first
  | with_reducible assumption
  | with_unfolding_none apply State.live_sound
  | with_unfolding_none apply State.onPathClock_sound
  | with_unfolding_none apply State.releaseRetry_sound
  | (intro _ _; (try dsimp -iota only)))

/-- execEgressAck answers a next state and keeps the invariant. -/
theorem execEgressAck_sound {s : State} (tag : BitVec 12) (st : BitVec 2) (hs : s.Sound floor queue) :
    ∃ t, execEgressAck tag st s = .next t ∧ t.Sound floor queue := by
  unfold execEgressAck
  (try dsimp -iota only)
  refine ⟨_, rfl, ?_⟩
  repeat' (first
  | with_reducible assumption
  | with_unfolding_none apply State.egressAck_sound
  | with_unfolding_none apply State.sound_ite)

/-- execEgressBeatTaken answers a next state and keeps the invariant. -/
theorem execEgressBeatTaken_sound {s : State} (hs : s.Sound floor queue) :
    ∃ t, execEgressBeatTaken s = .next t ∧ t.Sound floor queue := by
  unfold execEgressBeatTaken
  (try dsimp -iota only)
  refine ⟨_, rfl, ?_⟩
  repeat' (first
  | with_reducible assumption
  | with_unfolding_none apply State.live_sound
  | with_unfolding_none apply State.beatTaken_sound)

/-- execResume answers a next state and keeps the invariant. -/
theorem execResume_sound {s : State} (p : Port) (hport : BitVec 7) (hs : s.Sound floor queue) :
    ∃ t, execResume p hport s = .next t ∧ t.Sound floor queue := by
  unfold execResume
  (try dsimp -iota only)
  refine ⟨_, rfl, ?_⟩
  repeat' (first
  | with_reducible assumption
  | with_unfolding_none apply State.live_sound
  | with_unfolding_none apply State.cmdGlob_sound
  | (intro _ _; (try dsimp -iota only)))

/-- execRstptr answers a next state and keeps the invariant. -/
theorem execRstptr_sound {s : State} (p : Port) (target : BitVec 16) (hs : s.Sound floor queue) :
    ∃ t, execRstptr p target s = .next t ∧ t.Sound floor queue := by
  unfold execRstptr
  (try dsimp -iota only)
  refine ⟨_, rfl, ?_⟩
  repeat' (first
  | with_reducible assumption
  | with_unfolding_none apply State.live_sound
  | with_unfolding_none apply State.changeGlob_sound
  | (intro _ _; (try dsimp -iota only)))

/-- execComplete answers a next state and keeps the invariant. -/
theorem execComplete_sound {s : State} (lane : Fin 4) (ecc : Ecc) (hs : s.Sound floor queue) :
    ∃ t, execComplete lane ecc s = .next t ∧ t.Sound floor queue := by
  unfold execComplete
  (try dsimp -iota only)
  refine ⟨_, rfl, ?_⟩
  repeat' (first
  | with_reducible assumption
  | with_unfolding_none apply State.live_sound
  | with_unfolding_none apply State.onPathClock_sound
  | with_unfolding_none apply State.doorbellHead_sound
  | (intro _ _; (try dsimp -iota only)))

/-- execCompleteAny answers a next state and keeps the invariant. -/
theorem execCompleteAny_sound {s : State} (lane : Fin 4) (ecc : Ecc) (hs : s.Sound floor queue) :
    ∃ t, execCompleteAny lane ecc s = .next t ∧ t.Sound floor queue := by
  unfold execCompleteAny
  (try dsimp -iota only)
  refine ⟨_, rfl, ?_⟩
  repeat' (first
  | with_reducible assumption
  | with_unfolding_none apply State.live_sound
  | with_unfolding_none apply State.onPathClock_sound
  | with_unfolding_none apply State.doorbellHead_sound
  | (intro _ _; (try dsimp -iota only)))

/-- execConsume answers a next state and keeps the invariant. -/
theorem execConsume_sound {s : State} (lane : Fin 4) (ecc : Ecc) (hs : s.Sound floor queue) :
    ∃ t, execConsume lane ecc s = .next t ∧ t.Sound floor queue := by
  unfold execConsume
  (try dsimp -iota only)
  refine ⟨_, rfl, ?_⟩
  repeat' (first
  | with_reducible assumption
  | with_unfolding_none apply State.live_sound
  | with_unfolding_none apply State.onPathClock_sound
  | with_unfolding_none apply State.doorbellHead_sound
  | (intro _ _; (try dsimp -iota only)))

/-- execDoorbellReservedOp answers a next state and keeps the invariant. -/
theorem execDoorbellReservedOp_sound {s : State} (lane : Fin 4) (ecc : Ecc) (hs : s.Sound floor queue) :
    ∃ t, execDoorbellReservedOp lane ecc s = .next t ∧ t.Sound floor queue := by
  unfold execDoorbellReservedOp
  (try dsimp -iota only)
  refine ⟨_, rfl, ?_⟩
  repeat' (first
  | with_reducible assumption
  | with_unfolding_none apply State.live_sound
  | with_unfolding_none apply State.onPathClock_sound
  | with_unfolding_none apply State.doorbellHead_sound
  | (intro _ _; (try dsimp -iota only)))

/-- execCmpDbcmdComplete answers a next state and keeps the invariant. -/
theorem execCmpDbcmdComplete_sound {s : State} (p : Port) (d : BitVec 12) (ecc : Ecc) (hs : s.Sound floor queue) :
    ∃ t, execCmpDbcmdComplete p d ecc s = .next t ∧ t.Sound floor queue := by
  unfold execCmpDbcmdComplete
  (try dsimp -iota only)
  refine ⟨_, rfl, ?_⟩
  repeat' (first
  | with_reducible assumption
  | with_unfolding_none apply State.live_sound
  | with_unfolding_none apply State.cmdDomEcc_sound
  | (intro _ _; (try dsimp -iota only)))

/-- execCmpDbcmdCompleteAny answers a next state and keeps the invariant. -/
theorem execCmpDbcmdCompleteAny_sound {s : State} (p : Port) (d : BitVec 12) (ecc : Ecc) (hs : s.Sound floor queue) :
    ∃ t, execCmpDbcmdCompleteAny p d ecc s = .next t ∧ t.Sound floor queue := by
  unfold execCmpDbcmdCompleteAny
  (try dsimp -iota only)
  refine ⟨_, rfl, ?_⟩
  repeat' (first
  | with_reducible assumption
  | with_unfolding_none apply State.live_sound
  | with_unfolding_none apply State.cmdDomEcc_sound
  | (intro _ _; (try dsimp -iota only)))

/-- execCmpDbcmdConsume answers a next state and keeps the invariant. -/
theorem execCmpDbcmdConsume_sound {s : State} (p : Port) (d : BitVec 12) (fring : Bool) (target : BitVec 16) (hs : s.Sound floor queue) :
    ∃ t, execCmpDbcmdConsume p d fring target s = .next t ∧ t.Sound floor queue := by
  unfold execCmpDbcmdConsume
  (try dsimp -iota only)
  refine ⟨_, rfl, ?_⟩
  repeat' (first
  | with_reducible assumption
  | with_unfolding_none apply State.live_sound
  | with_unfolding_none apply State.cmdDom_sound
  | (intro _ _; (try dsimp -iota only)))

/-- execCmpForce answers a next state and keeps the invariant. -/
theorem execCmpForce_sound {s : State} (p : Port) (eid : BitVec 24) (ecc : Ecc) (hs : s.Sound floor queue) :
    ∃ t, execCmpForce p eid ecc s = .next t ∧ t.Sound floor queue := by
  unfold execCmpForce
  (try dsimp -iota only)
  refine ⟨_, rfl, ?_⟩
  repeat' (first
  | with_reducible assumption
  | with_unfolding_none apply State.live_sound
  | with_unfolding_none apply State.cmdGlobEcc_sound
  | (intro _ _; (try dsimp -iota only)))

/-- execRedeliveryTimeout answers a next state and keeps the invariant. -/
theorem execRedeliveryTimeout_sound {s : State} (eid : BitVec 24) (hs : s.Sound floor queue) :
    ∃ t, execRedeliveryTimeout eid s = .next t ∧ t.Sound floor queue := by
  unfold execRedeliveryTimeout
  (try dsimp -iota only)
  refine ⟨_, rfl, ?_⟩
  repeat' (first
  | with_reducible assumption
  | with_unfolding_none apply State.live_sound
  | with_unfolding_none apply State.onPathClock_sound
  | with_unfolding_none apply State.redeliveryTimeout_sound
  | with_unfolding_none apply State.pumpHeads_sound
  | (intro _ _; (try dsimp -iota only)))

/-- execLostRetry answers a next state and keeps the invariant. -/
theorem execLostRetry_sound {s : State} (hs : s.Sound floor queue) :
    ∃ t, execLostRetry s = .next t ∧ t.Sound floor queue := by
  unfold execLostRetry
  (try dsimp -iota only)
  refine ⟨_, rfl, ?_⟩
  repeat' (first
  | with_reducible assumption
  | with_unfolding_none apply State.live_sound
  | with_unfolding_none apply State.onCoreClock_sound
  | with_unfolding_none apply State.lostAgain_sound
  | (intro _ _; (try dsimp -iota only)))

/-- execFaultDelivery answers a next state and keeps the invariant. -/
theorem execFaultDelivery_sound {s : State} (hs : s.Sound floor queue) :
    ∃ t, execFaultDelivery s = .next t ∧ t.Sound floor queue := by
  unfold execFaultDelivery
  (try dsimp -iota only)
  refine ⟨_, rfl, ?_⟩
  repeat' (first
  | with_reducible assumption
  | with_unfolding_none apply State.live_sound
  | with_unfolding_none apply State.onPathClock_sound
  | with_unfolding_none apply State.faultDelivery_sound
  | (intro _ _; (try dsimp -iota only)))

/-- execVfmVfStatusRead answers a next state and keeps the invariant. -/
theorem execVfmVfStatusRead_sound {s : State} (p : Port) (d : BitVec 12) (hs : s.Sound floor queue) :
    ∃ t, execVfmVfStatusRead p d s = .next t ∧ t.Sound floor queue := by
  unfold execVfmVfStatusRead
  (try dsimp -iota only)
  refine ⟨_, rfl, ?_⟩
  repeat' (first
  | with_reducible assumption
  | with_unfolding_none apply State.live_sound
  | with_unfolding_none apply State.readDom_sound
  | (intro _ _; (try dsimp -iota only)))

/-- execDomainEnable answers a next state and keeps the invariant. -/
theorem execDomainEnable_sound {s : State} (p : Port) (d : BitVec 12) (hs : s.Sound floor queue) :
    ∃ t, execDomainEnable p d s = .next t ∧ t.Sound floor queue := by
  unfold execDomainEnable
  (try dsimp -iota only)
  refine ⟨_, rfl, ?_⟩
  repeat' (first
  | with_reducible assumption
  | with_unfolding_none apply State.live_sound
  | with_unfolding_none apply State.changeDom_sound
  | (intro _ _; (try dsimp -iota only)))

/-- execDomainDisable answers a next state and keeps the invariant. -/
theorem execDomainDisable_sound {s : State} (p : Port) (d : BitVec 12) (hs : s.Sound floor queue) :
    ∃ t, execDomainDisable p d s = .next t ∧ t.Sound floor queue := by
  unfold execDomainDisable
  (try dsimp -iota only)
  refine ⟨_, rfl, ?_⟩
  repeat' (first
  | with_reducible assumption
  | with_unfolding_none apply State.live_sound
  | with_unfolding_none apply State.changeDom_sound
  | (intro _ _; (try dsimp -iota only)))

/-- execMhold answers a next state and keeps the invariant. -/
theorem execMhold_sound {s : State} (p : Port) (d : BitVec 12) (v : Bool) (hs : s.Sound floor queue) :
    ∃ t, execMhold p d v s = .next t ∧ t.Sound floor queue := by
  unfold execMhold
  (try dsimp -iota only)
  refine ⟨_, rfl, ?_⟩
  repeat' (first
  | with_reducible assumption
  | with_unfolding_none apply State.live_sound
  | with_unfolding_none apply State.changeDom_sound
  | (intro _ _; (try dsimp -iota only)))

/-- execThold answers a next state and keeps the invariant. -/
theorem execThold_sound {s : State} (p : Port) (d : BitVec 12) (v : Bool) (hs : s.Sound floor queue) :
    ∃ t, execThold p d v s = .next t ∧ t.Sound floor queue := by
  unfold execThold
  (try dsimp -iota only)
  refine ⟨_, rfl, ?_⟩
  repeat' (first
  | with_reducible assumption
  | with_unfolding_none apply State.live_sound
  | with_unfolding_none apply State.changeDom_sound
  | (intro _ _; (try dsimp -iota only)))

/-- execFreeze answers a next state and keeps the invariant. -/
theorem execFreeze_sound {s : State} (p : Port) (d : BitVec 12) (v : Bool) (hs : s.Sound floor queue) :
    ∃ t, execFreeze p d v s = .next t ∧ t.Sound floor queue := by
  unfold execFreeze
  (try dsimp -iota only)
  refine ⟨_, rfl, ?_⟩
  repeat' (first
  | with_reducible assumption
  | with_unfolding_none apply State.live_sound
  | with_unfolding_none apply State.changeDom_sound
  | (intro _ _; (try dsimp -iota only)))

/-- execFlr answers a next state and keeps the invariant. -/
theorem execFlr_sound {s : State} (fn : BitVec 12) (hs : s.Sound floor queue) :
    ∃ t, execFlr fn s = .next t ∧ t.Sound floor queue := by
  unfold execFlr
  (try dsimp -iota only)
  refine ⟨_, rfl, ?_⟩
  repeat' (first
  | with_reducible assumption
  | with_unfolding_none apply State.live_sound
  | with_unfolding_none apply State.flrFn_sound
  | (intro _ _; (try dsimp -iota only)))

/-- execDomainReset answers a next state and keeps the invariant. -/
theorem execDomainReset_sound {s : State} (p : Port) (d : BitVec 12) (hs : s.Sound floor queue) :
    ∃ t, execDomainReset p d s = .next t ∧ t.Sound floor queue := by
  unfold execDomainReset
  (try dsimp -iota only)
  refine ⟨_, rfl, ?_⟩
  repeat' (first
  | with_reducible assumption
  | with_unfolding_none apply State.live_sound
  | with_unfolding_none apply State.cmdGlob_sound
  | (intro _ _; (try dsimp -iota only)))

/-- execResetWalkEnd answers a next state and keeps the invariant. -/
theorem execResetWalkEnd_sound {s : State} (d : BitVec 12) (hs : s.Sound floor queue) :
    ∃ t, execResetWalkEnd d s = .next t ∧ t.Sound floor queue := by
  unfold execResetWalkEnd
  (try dsimp -iota only)
  refine ⟨_, rfl, ?_⟩
  repeat' (first
  | with_reducible assumption
  | with_unfolding_none apply State.live_sound
  | with_unfolding_none apply State.onCoreClock_sound
  | with_unfolding_none apply State.walkEnd_sound
  | (intro _ _; (try dsimp -iota only)))

/-- execSave answers a next state and keeps the invariant. -/
theorem execSave_sound {s : State} (p : Port) (d : BitVec 12) (hs : s.Sound floor queue) :
    ∃ t, execSave p d s = .next t ∧ t.Sound floor queue := by
  unfold execSave
  (try dsimp -iota only)
  refine ⟨_, rfl, ?_⟩
  repeat' (first
  | with_reducible assumption
  | with_unfolding_none apply State.live_sound
  | with_unfolding_none apply State.cmdDom_sound
  | (intro _ _; (try dsimp -iota only)))

/-- execSaveDone answers a next state and keeps the invariant. -/
theorem execSaveDone_sound {s : State} (d : BitVec 12) (hs : s.Sound floor queue) :
    ∃ t, execSaveDone d s = .next t ∧ t.Sound floor queue := by
  unfold execSaveDone
  (try dsimp -iota only)
  refine ⟨_, rfl, ?_⟩
  repeat' (first
  | with_reducible assumption
  | with_unfolding_none apply State.live_sound
  | with_unfolding_none apply State.onCoreClock_sound
  | with_unfolding_none apply State.saveDone_sound
  | (intro _ _; (try dsimp -iota only)))

/-- execRestore answers a next state and keeps the invariant. -/
theorem execRestore_sound {s : State} (p : Port) (d : BitVec 12) (hs : s.Sound floor queue) :
    ∃ t, execRestore p d s = .next t ∧ t.Sound floor queue := by
  unfold execRestore
  (try dsimp -iota only)
  refine ⟨_, rfl, ?_⟩
  repeat' (first
  | with_reducible assumption
  | with_unfolding_none apply State.live_sound
  | with_unfolding_none apply State.cmdDom_sound
  | (intro _ _; (try dsimp -iota only)))

/-- execUnfence answers a next state and keeps the invariant. -/
theorem execUnfence_sound {s : State} (p : Port) (d : BitVec 12) (hs : s.Sound floor queue) :
    ∃ t, execUnfence p d s = .next t ∧ t.Sound floor queue := by
  unfold execUnfence
  (try dsimp -iota only)
  refine ⟨_, rfl, ?_⟩
  repeat' (first
  | with_reducible assumption
  | with_unfolding_none apply State.live_sound
  | with_unfolding_none apply State.cmdDom_sound
  | (intro _ _; (try dsimp -iota only)))

/-- execUnsave answers a next state and keeps the invariant. -/
theorem execUnsave_sound {s : State} (p : Port) (d : BitVec 12) (hs : s.Sound floor queue) :
    ∃ t, execUnsave p d s = .next t ∧ t.Sound floor queue := by
  unfold execUnsave
  (try dsimp -iota only)
  refine ⟨_, rfl, ?_⟩
  repeat' (first
  | with_reducible assumption
  | with_unfolding_none apply State.live_sound
  | with_unfolding_none apply State.cmdDom_sound
  | (intro _ _; (try dsimp -iota only)))

/-- execDepotReadLine answers a next state and keeps the invariant. -/
theorem execDepotReadLine_sound {s : State} (p : Port) (hs : s.Sound floor queue) :
    ∃ t, execDepotReadLine p s = .next t ∧ t.Sound floor queue := by
  unfold execDepotReadLine
  (try dsimp -iota only)
  refine ⟨_, rfl, ?_⟩
  repeat' (first
  | with_reducible assumption
  | with_unfolding_none apply State.live_sound
  | with_unfolding_none apply State.cmdGlob_sound
  | (intro _ _; (try dsimp -iota only)))

/-- execDepotWriteLine answers a next state and keeps the invariant. -/
theorem execDepotWriteLine_sound {s : State} (p : Port) (hs : s.Sound floor queue) :
    ∃ t, execDepotWriteLine p s = .next t ∧ t.Sound floor queue := by
  unfold execDepotWriteLine
  (try dsimp -iota only)
  refine ⟨_, rfl, ?_⟩
  repeat' (first
  | with_reducible assumption
  | with_unfolding_none apply State.live_sound
  | with_unfolding_none apply State.cmdGlob_sound
  | (intro _ _; (try dsimp -iota only)))

/-- execShareWrite answers a next state and keeps the invariant. -/
theorem execShareWrite_sound {s : State} (p : Port) (d : BitVec 12) (rank : BitVec 13) (hs : s.Sound floor queue) :
    ∃ t, execShareWrite p d rank s = .next t ∧ t.Sound floor queue := by
  unfold execShareWrite
  (try dsimp -iota only)
  refine ⟨_, rfl, ?_⟩
  repeat' (first
  | with_reducible assumption
  | with_unfolding_none apply State.live_sound
  | with_unfolding_none apply State.changeDom_sound
  | (intro _ _; (try dsimp -iota only)))

/-- execImageChunkSideband answers a next state and keeps the invariant. -/
theorem execImageChunkSideband_sound {s : State} (frame : SbFrame) (bytes : List Byte) (hs : s.Sound floor queue) :
    ∃ t, execImageChunkSideband frame bytes s = .next t ∧ t.Sound floor queue := by
  unfold execImageChunkSideband
  (try dsimp -iota only)
  refine ⟨_, rfl, ?_⟩
  repeat' (first
  | with_reducible assumption
  | with_unfolding_none apply State.live_sound
  | with_unfolding_none apply State.sbCommand_sound
  | (intro _ _; (try dsimp -iota only)))

/-- execImageChunkMailbox answers a next state and keeps the invariant. -/
theorem execImageChunkMailbox_sound {s : State} (p : Port) (data : Word) (hs : s.Sound floor queue) :
    ∃ t, execImageChunkMailbox p data s = .next t ∧ t.Sound floor queue := by
  unfold execImageChunkMailbox
  (try dsimp -iota only)
  refine ⟨_, rfl, ?_⟩
  repeat' (first
  | with_reducible assumption
  | with_unfolding_none apply State.live_sound
  | with_unfolding_none apply State.writeGlob_sound
  | (intro _ _; (try dsimp -iota only)))

/-- execTimeout answers a next state and keeps the invariant. -/
theorem execTimeout_sound {s : State} (hs : s.Sound floor queue) :
    ∃ t, execTimeout s = .next t ∧ t.Sound floor queue := by
  unfold execTimeout
  (try dsimp -iota only)
  refine ⟨_, rfl, ?_⟩
  repeat' (first
  | with_reducible assumption
  | with_unfolding_none apply State.live_sound
  | with_unfolding_none apply State.imgTimeout_sound)

/-- execAbsent answers a next state and keeps the invariant. -/
theorem execAbsent_sound {s : State} (p : Port) (hs : s.Sound floor queue) :
    ∃ t, execAbsent p s = .next t ∧ t.Sound floor queue := by
  unfold execAbsent
  (try dsimp -iota only)
  refine ⟨_, rfl, ?_⟩
  repeat' (first
  | with_reducible assumption
  | with_unfolding_none apply State.live_sound
  | with_unfolding_none apply State.changeGlob_sound
  | (intro _ _; (try dsimp -iota only)))

/-- execArbitrationDone answers a next state and keeps the invariant. -/
theorem execArbitrationDone_sound {s : State} (hs : s.Sound floor queue) :
    ∃ t, execArbitrationDone s = .next t ∧ t.Sound floor queue := by
  unfold execArbitrationDone
  (try dsimp -iota only)
  refine ⟨_, rfl, ?_⟩
  repeat' (first
  | with_reducible assumption
  | with_unfolding_none apply State.live_sound
  | with_unfolding_none apply State.arbDone_sound)

/-- execImageApplyDone answers a next state and keeps the invariant. -/
theorem execImageApplyDone_sound {s : State} (hs : s.Sound floor queue) :
    ∃ t, execImageApplyDone s = .next t ∧ t.Sound floor queue := by
  unfold execImageApplyDone
  (try dsimp -iota only)
  refine ⟨_, rfl, ?_⟩
  repeat' (first
  | with_reducible assumption
  | with_unfolding_none apply State.live_sound
  | with_unfolding_none apply State.imageDone_sound)

/-- execReload answers a next state and keeps the invariant. -/
theorem execReload_sound {s : State} (p : Port) (hs : s.Sound floor queue) :
    ∃ t, execReload p s = .next t ∧ t.Sound floor queue := by
  unfold execReload
  (try dsimp -iota only)
  refine ⟨_, rfl, ?_⟩
  repeat' (first
  | with_reducible assumption
  | with_unfolding_none apply State.live_sound
  | with_unfolding_none apply State.changeGlob_sound
  | (intro _ _; (try dsimp -iota only)))

/-- execAlertResponse answers a next state and keeps the invariant. -/
theorem execAlertResponse_sound {s : State} (hs : s.Sound floor queue) :
    ∃ t, execAlertResponse s = .next t ∧ t.Sound floor queue := by
  unfold execAlertResponse
  (try dsimp -iota only)
  refine ⟨_, rfl, ?_⟩
  repeat' (first
  | with_reducible assumption
  | with_unfolding_none apply State.live_sound
  | with_unfolding_none apply State.alertRead_sound)

/-- execSbRegisterRead answers a next state and keeps the invariant. -/
theorem execSbRegisterRead_sound {s : State} (frame : SbFrame) (off : Word) (hs : s.Sound floor queue) :
    ∃ t, execSbRegisterRead frame off s = .next t ∧ t.Sound floor queue := by
  unfold execSbRegisterRead
  (try dsimp -iota only)
  refine ⟨_, rfl, ?_⟩
  repeat' (first
  | with_reducible assumption
  | with_unfolding_none apply State.live_sound
  | with_unfolding_none apply State.sbCommand_sound
  | (intro _ _; (try dsimp -iota only)))

/-- execSbRegisterWrite answers a next state and keeps the invariant. -/
theorem execSbRegisterWrite_sound {s : State} (frame : SbFrame) (off : Word) (data : Word) (hs : s.Sound floor queue) :
    ∃ t, execSbRegisterWrite frame off data s = .next t ∧ t.Sound floor queue := by
  unfold execSbRegisterWrite
  (try dsimp -iota only)
  refine ⟨_, rfl, ?_⟩
  repeat' (first
  | with_reducible assumption
  | with_unfolding_none apply State.live_sound
  | with_unfolding_none apply State.sbCommand_sound
  | (intro _ _; (try dsimp -iota only)))

/-- execSbStatusRead answers a next state and keeps the invariant. -/
theorem execSbStatusRead_sound {s : State} (frame : SbFrame) (hs : s.Sound floor queue) :
    ∃ t, execSbStatusRead frame s = .next t ∧ t.Sound floor queue := by
  unfold execSbStatusRead
  (try dsimp -iota only)
  refine ⟨_, rfl, ?_⟩
  repeat' (first
  | with_reducible assumption
  | with_unfolding_none apply State.live_sound
  | with_unfolding_none apply State.sbCommand_sound
  | (intro _ _; (try dsimp -iota only)))

/-- execIngressBeat answers a next state and keeps the invariant. -/
theorem execIngressBeat_sound {s : State} (data : BitVec 512) (hs : s.Sound floor queue) :
    ∃ t, execIngressBeat data s = .next t ∧ t.Sound floor queue := by
  unfold execIngressBeat
  (try dsimp -iota only)
  refine ⟨_, rfl, ?_⟩
  repeat' (first
  | with_reducible assumption
  | with_unfolding_none apply State.live_sound
  | with_unfolding_none apply State.ingressBeat_sound
  | (intro _ _; (try dsimp -iota only)))

/-- execLaneEntry answers a next state and keeps the invariant. -/
theorem execLaneEntry_sound {s : State} (ecc : Ecc) (hs : s.Sound floor queue) :
    ∃ t, execLaneEntry ecc s = .next t ∧ t.Sound floor queue := by
  unfold execLaneEntry
  (try dsimp -iota only)
  refine ⟨_, rfl, ?_⟩
  repeat' (first
  | with_reducible assumption
  | with_unfolding_none apply State.live_sound
  | with_unfolding_none apply State.laneEntry_sound
  | (intro _ _; (try dsimp -iota only)))

/-- execIngrCredRet answers a next state and keeps the invariant. -/
theorem execIngrCredRet_sound {s : State} (hs : s.Sound floor queue) :
    ∃ t, execIngrCredRet s = .next t ∧ t.Sound floor queue := by
  unfold execIngrCredRet
  (try dsimp -iota only)
  refine ⟨_, rfl, ?_⟩
  repeat' (first
  | with_reducible assumption
  | with_unfolding_none apply State.live_sound
  | with_unfolding_none apply State.credReturn_sound)

/-- execEventWindowWrite answers a next state and keeps the invariant. -/
theorem execEventWindowWrite_sound {s : State} (lane : Fin 4) (ecc : Ecc) (hs : s.Sound floor queue) :
    ∃ t, execEventWindowWrite lane ecc s = .next t ∧ t.Sound floor queue := by
  unfold execEventWindowWrite
  (try dsimp -iota only)
  refine ⟨_, rfl, ?_⟩
  repeat' (first
  | with_reducible assumption
  | with_unfolding_none apply State.live_sound
  | with_unfolding_none apply State.onPathClock_sound
  | with_unfolding_none apply State.laneHead_sound
  | (intro _ _; (try dsimp -iota only)))

/-- execMapReadReturn answers a next state and keeps the invariant. -/
theorem execMapReadReturn_sound {s : State} (tag : BitVec 10) (poison : Bool) (ecc : Ecc) (hs : s.Sound floor queue) :
    ∃ t, execMapReadReturn tag poison ecc s = .next t ∧ t.Sound floor queue := by
  unfold execMapReadReturn
  (try dsimp -iota only)
  refine ⟨_, rfl, ?_⟩
  repeat' (first
  | with_reducible assumption
  | with_unfolding_none apply State.live_sound
  | with_unfolding_none apply State.onCoreClock_sound
  | with_unfolding_none apply State.mapResponse_sound
  | (intro _ _; (try dsimp -iota only)))

/-- execIntxAssert answers a next state and keeps the invariant. -/
theorem execIntxAssert_sound {s : State} (ecc : Ecc) (hs : s.Sound floor queue) :
    ∃ t, execIntxAssert ecc s = .next t ∧ t.Sound floor queue := by
  unfold execIntxAssert
  (try dsimp -iota only)
  refine ⟨_, rfl, ?_⟩
  repeat' (first
  | with_reducible assumption
  | with_unfolding_none apply State.live_sound
  | with_unfolding_none apply State.onPathClock_sound
  | with_unfolding_none apply State.intx_sound
  | (intro _ _; (try dsimp -iota only)))

/-- execIntxDeassert answers a next state and keeps the invariant. -/
theorem execIntxDeassert_sound {s : State} (ecc : Ecc) (hs : s.Sound floor queue) :
    ∃ t, execIntxDeassert ecc s = .next t ∧ t.Sound floor queue := by
  unfold execIntxDeassert
  (try dsimp -iota only)
  refine ⟨_, rfl, ?_⟩
  repeat' (first
  | with_reducible assumption
  | with_unfolding_none apply State.live_sound
  | with_unfolding_none apply State.onPathClock_sound
  | with_unfolding_none apply State.intx_sound
  | (intro _ _; (try dsimp -iota only)))

/-- execLineCapture answers a next state and keeps the invariant. -/
theorem execLineCapture_sound {s : State} (line : BitVec 10) (narrow : Bool) (hs : s.Sound floor queue) :
    ∃ t, execLineCapture line narrow s = .next t ∧ t.Sound floor queue := by
  unfold execLineCapture
  (try dsimp -iota only)
  refine ⟨_, rfl, ?_⟩
  repeat' (first
  | with_reducible assumption
  | with_unfolding_none apply State.live_sound
  | with_unfolding_none apply State.lineCapture_sound
  | (intro _ _; (try dsimp -iota only)))

/-- execLineLevelChange answers a next state and keeps the invariant. -/
theorem execLineLevelChange_sound {s : State} (line : BitVec 10) (level : Bool) (hs : s.Sound floor queue) :
    ∃ t, execLineLevelChange line level s = .next t ∧ t.Sound floor queue := by
  unfold execLineLevelChange
  (try dsimp -iota only)
  refine ⟨_, rfl, ?_⟩
  repeat' (first
  | with_reducible assumption
  | with_unfolding_none apply State.lineRaw_sound)

/-- execLineScan answers a next state and keeps the invariant. -/
theorem execLineScan_sound {s : State} (hs : s.Sound floor queue) :
    ∃ t, execLineScan s = .next t ∧ t.Sound floor queue := by
  unfold execLineScan
  (try dsimp -iota only)
  refine ⟨_, rfl, ?_⟩
  repeat' (first
  | with_reducible assumption
  | with_unfolding_none apply State.live_sound
  | with_unfolding_none apply State.lineScan_sound)

/-- execJournalLineTimeout answers a next state and keeps the invariant. -/
theorem execJournalLineTimeout_sound {s : State} (d : BitVec 12) (hs : s.Sound floor queue) :
    ∃ t, execJournalLineTimeout d s = .next t ∧ t.Sound floor queue := by
  unfold execJournalLineTimeout
  (try dsimp -iota only)
  refine ⟨_, rfl, ?_⟩
  repeat' (first
  | with_reducible assumption
  | with_unfolding_none apply State.live_sound
  | with_unfolding_none apply State.onCoreClock_sound
  | with_unfolding_none apply State.jLineTimeout_sound
  | (intro _ _; (try dsimp -iota only)))

/-- execJournalLineWrite answers a next state and keeps the invariant. -/
theorem execJournalLineWrite_sound {s : State} (ecc : Ecc) (hs : s.Sound floor queue) :
    ∃ t, execJournalLineWrite ecc s = .next t ∧ t.Sound floor queue := by
  unfold execJournalLineWrite
  (try dsimp -iota only)
  refine ⟨_, rfl, ?_⟩
  repeat' (first
  | with_reducible assumption
  | with_unfolding_none apply State.live_sound
  | with_unfolding_none apply State.onCoreClock_sound
  | with_unfolding_none apply State.jLineWrite_sound
  | with_unfolding_none apply State.journalEcc_sound
  | (intro _ _; (try dsimp -iota only)))

/-- execWayFlush answers a next state and keeps the invariant. -/
theorem execWayFlush_sound {s : State} (p : Port) (d : BitVec 12) (hs : s.Sound floor queue) :
    ∃ t, execWayFlush p d s = .next t ∧ t.Sound floor queue := by
  unfold execWayFlush
  (try dsimp -iota only)
  refine ⟨_, rfl, ?_⟩
  repeat' (first
  | with_reducible assumption
  | with_unfolding_none apply State.live_sound
  | with_unfolding_none apply State.cmdDom_sound
  | (intro _ _; (try dsimp -iota only)))

/-- execNewseg answers a next state and keeps the invariant. -/
theorem execNewseg_sound {s : State} (p : Port) (d : BitVec 12) (hs : s.Sound floor queue) :
    ∃ t, execNewseg p d s = .next t ∧ t.Sound floor queue := by
  unfold execNewseg
  (try dsimp -iota only)
  refine ⟨_, rfl, ?_⟩
  repeat' (first
  | with_reducible assumption
  | with_unfolding_none apply State.live_sound
  | with_unfolding_none apply State.cmdDom_sound
  | (intro _ _; (try dsimp -iota only)))

/-- execWayArchCommit answers a next state and keeps the invariant. -/
theorem execWayArchCommit_sound {s : State} (p : Port) (d : BitVec 12) (lo : Word) (hs : s.Sound floor queue) :
    ∃ t, execWayArchCommit p d lo s = .next t ∧ t.Sound floor queue := by
  unfold execWayArchCommit
  (try dsimp -iota only)
  refine ⟨_, rfl, ?_⟩
  repeat' (first
  | with_reducible assumption
  | with_unfolding_none apply State.live_sound
  | with_unfolding_none apply State.writeDom_sound
  | (intro _ _; (try dsimp -iota only)))

/-- execWaybillEnable answers a next state and keeps the invariant. -/
theorem execWaybillEnable_sound {s : State} (p : Port) (d : BitVec 12) (hs : s.Sound floor queue) :
    ∃ t, execWaybillEnable p d s = .next t ∧ t.Sound floor queue := by
  unfold execWaybillEnable
  (try dsimp -iota only)
  refine ⟨_, rfl, ?_⟩
  repeat' (first
  | with_reducible assumption
  | with_unfolding_none apply State.live_sound
  | with_unfolding_none apply State.changeDom_sound
  | (intro _ _; (try dsimp -iota only)))

/-- execReplayRecord answers a next state and keeps the invariant. -/
theorem execReplayRecord_sound {s : State} (d : BitVec 12) (hs : s.Sound floor queue) :
    ∃ t, execReplayRecord d s = .next t ∧ t.Sound floor queue := by
  unfold execReplayRecord
  (try dsimp -iota only)
  refine ⟨_, rfl, ?_⟩
  repeat' (first
  | with_reducible assumption
  | with_unfolding_none apply State.live_sound
  | with_unfolding_none apply State.onPathClock_sound
  | with_unfolding_none apply State.replayRecord_sound
  | (intro _ _; (try dsimp -iota only)))

/-- execStop answers a next state and keeps the invariant. -/
theorem execStop_sound {s : State} (p : Port) (d : BitVec 12) (hs : s.Sound floor queue) :
    ∃ t, execStop p d s = .next t ∧ t.Sound floor queue := by
  unfold execStop
  (try dsimp -iota only)
  refine ⟨_, rfl, ?_⟩
  repeat' (first
  | with_reducible assumption
  | with_unfolding_none apply State.live_sound
  | with_unfolding_none apply State.cmdDom_sound
  | (intro _ _; (try dsimp -iota only)))

/-- execRplModeClear answers a next state and keeps the invariant. -/
theorem execRplModeClear_sound {s : State} (p : Port) (d : BitVec 12) (hs : s.Sound floor queue) :
    ∃ t, execRplModeClear p d s = .next t ∧ t.Sound floor queue := by
  unfold execRplModeClear
  (try dsimp -iota only)
  refine ⟨_, rfl, ?_⟩
  repeat' (first
  | with_reducible assumption
  | with_unfolding_none apply State.live_sound
  | with_unfolding_none apply State.changeDom_sound
  | (intro _ _; (try dsimp -iota only)))

/-- execSleep answers a next state and keeps the invariant. -/
theorem execSleep_sound {s : State} (p : Port) (hs : s.Sound floor queue) :
    ∃ t, execSleep p s = .next t ∧ t.Sound floor queue := by
  unfold execSleep
  (try dsimp -iota only)
  refine ⟨_, rfl, ?_⟩
  repeat' (first
  | with_reducible assumption
  | with_unfolding_none apply State.live_sound
  | with_unfolding_none apply State.cmdGlob_sound
  | (intro _ _; (try dsimp -iota only)))

/-- execEntryDecision answers a next state and keeps the invariant. -/
theorem execEntryDecision_sound {s : State} (hs : s.Sound floor queue) :
    ∃ t, execEntryDecision s = .next t ∧ t.Sound floor queue := by
  unfold execEntryDecision
  (try dsimp -iota only)
  refine ⟨_, rfl, ?_⟩
  repeat' (first
  | with_reducible assumption
  | with_unfolding_none apply State.live_sound
  | with_unfolding_none apply State.entryDecision_sound)

/-- execDrainEnd answers a next state and keeps the invariant. -/
theorem execDrainEnd_sound {s : State} (hs : s.Sound floor queue) :
    ∃ t, execDrainEnd s = .next t ∧ t.Sound floor queue := by
  unfold execDrainEnd
  (try dsimp -iota only)
  refine ⟨_, rfl, ?_⟩
  repeat' (first
  | with_reducible assumption
  | with_unfolding_none apply State.live_sound
  | with_unfolding_none apply State.drainEnd_sound)

/-- execDrainTimeout answers a next state and keeps the invariant. -/
theorem execDrainTimeout_sound {s : State} (hs : s.Sound floor queue) :
    ∃ t, execDrainTimeout s = .next t ∧ t.Sound floor queue := by
  unfold execDrainTimeout
  (try dsimp -iota only)
  refine ⟨_, rfl, ?_⟩
  repeat' (first
  | with_reducible assumption
  | with_unfolding_none apply State.live_sound
  | with_unfolding_none apply State.drainTimeout_sound)

/-- execPswAck answers a next state and keeps the invariant. -/
theorem execPswAck_sound {s : State} (pd : Pd) (v : Bool) (hs : s.Sound floor queue) :
    ∃ t, execPswAck pd v s = .next t ∧ t.Sound floor queue := by
  unfold execPswAck
  (try dsimp -iota only)
  refine ⟨_, rfl, ?_⟩
  repeat' (first
  | with_reducible assumption
  | with_unfolding_none apply State.pswAck_sound
  | with_unfolding_none apply State.serveAccs_sound
  | with_unfolding_none apply State.sound_ite)

/-- execPswTimeout answers a next state and keeps the invariant. -/
theorem execPswTimeout_sound {s : State} (pd : Pd) (hs : s.Sound floor queue) :
    ∃ t, execPswTimeout pd s = .next t ∧ t.Sound floor queue := by
  unfold execPswTimeout
  (try dsimp -iota only)
  refine ⟨_, rfl, ?_⟩
  repeat' (first
  | with_reducible assumption
  | with_unfolding_none apply State.live_sound
  | with_unfolding_none apply State.pswTimeout_sound
  | with_unfolding_none apply State.serveAccs_sound
  | (intro _ _; (try dsimp -iota only)))

/-- execWake answers a next state and keeps the invariant. -/
theorem execWake_sound {s : State} (code : BitVec 4) (detail : BitVec 12) (hs : s.Sound floor queue) :
    ∃ t, execWake code detail s = .next t ∧ t.Sound floor queue := by
  unfold execWake
  (try dsimp -iota only)
  refine ⟨_, rfl, ?_⟩
  repeat' (first
  | with_reducible assumption
  | with_unfolding_none apply State.live_sound
  | with_unfolding_none apply State.wake_sound
  | with_unfolding_none apply State.sound_ite
  | (intro _ _; (try dsimp -iota only)))

/-- execTimerWake answers a next state and keeps the invariant. -/
theorem execTimerWake_sound {s : State} (hs : s.Sound floor queue) :
    ∃ t, execTimerWake s = .next t ∧ t.Sound floor queue := by
  unfold execTimerWake
  (try dsimp -iota only)
  refine ⟨_, rfl, ?_⟩
  repeat' (first
  | with_reducible assumption
  | with_unfolding_none apply State.live_sound
  | with_unfolding_none apply State.timerWake_sound)

/-- execSigdetWake answers a next state and keeps the invariant. -/
theorem execSigdetWake_sound {s : State} (_port : ChlPort) (quiet : BitVec 16) (hs : s.Sound floor queue) :
    ∃ t, execSigdetWake _port quiet s = .next t ∧ t.Sound floor queue := by
  unfold execSigdetWake
  (try dsimp -iota only)
  refine ⟨_, rfl, ?_⟩
  repeat' (first
  | with_reducible assumption
  | with_unfolding_none apply State.live_sound
  | with_unfolding_none apply State.sigdet_sound
  | (intro _ _; (try dsimp -iota only)))

/-- execSmbusAddressMatch answers a next state and keeps the invariant. -/
theorem execSmbusAddressMatch_sound {s : State} (addr : BitVec 7) (hs : s.Sound floor queue) :
    ∃ t, execSmbusAddressMatch addr s = .next t ∧ t.Sound floor queue := by
  unfold execSmbusAddressMatch
  (try dsimp -iota only)
  refine ⟨_, rfl, ?_⟩
  repeat' (first
  | with_reducible assumption
  | with_unfolding_none apply State.live_sound
  | with_unfolding_none apply State.smbus_sound
  | (intro _ _; (try dsimp -iota only)))

/-- execOffAreaRestoreDone answers a next state and keeps the invariant. -/
theorem execOffAreaRestoreDone_sound {s : State} (hs : s.Sound floor queue) :
    ∃ t, execOffAreaRestoreDone s = .next t ∧ t.Sound floor queue := by
  unfold execOffAreaRestoreDone
  (try dsimp -iota only)
  refine ⟨_, rfl, ?_⟩
  repeat' (first
  | with_reducible assumption
  | with_unfolding_none apply State.live_sound
  | with_unfolding_none apply State.offRestored_sound
  | with_unfolding_none apply State.serveAccs_sound
  | (intro _ _; (try dsimp -iota only)))

/-- execVote answers a next state and keeps the invariant. -/
theorem execVote_sound {s : State} (p : Port) (d : BitVec 12) (v : Bool) (hs : s.Sound floor queue) :
    ∃ t, execVote p d v s = .next t ∧ t.Sound floor queue := by
  unfold execVote
  (try dsimp -iota only)
  refine ⟨_, rfl, ?_⟩
  repeat' (first
  | with_reducible assumption
  | with_unfolding_none apply State.live_sound
  | with_unfolding_none apply State.changeDom_sound
  | (intro _ _; (try dsimp -iota only)))

/-- execVoteSb answers a next state and keeps the invariant. -/
theorem execVoteSb_sound {s : State} (p : Port) (v : Bool) (hs : s.Sound floor queue) :
    ∃ t, execVoteSb p v s = .next t ∧ t.Sound floor queue := by
  unfold execVoteSb
  (try dsimp -iota only)
  refine ⟨_, rfl, ?_⟩
  repeat' (first
  | with_reducible assumption
  | with_unfolding_none apply State.live_sound
  | with_unfolding_none apply State.changeGlob_sound
  | (intro _ _; (try dsimp -iota only)))

/-- execPerfReq answers a next state and keeps the invariant. -/
theorem execPerfReq_sound {s : State} (p : Port) (req : BitVec 2) (hs : s.Sound floor queue) :
    ∃ t, execPerfReq p req s = .next t ∧ t.Sound floor queue := by
  unfold execPerfReq
  (try dsimp -iota only)
  refine ⟨_, rfl, ?_⟩
  repeat' (first
  | with_reducible assumption
  | with_unfolding_none apply State.live_sound
  | with_unfolding_none apply State.changeGlob_sound
  | (intro _ _; (try dsimp -iota only)))

/-- execAvsResponse answers a next state and keeps the invariant. -/
theorem execAvsResponse_sound {s : State} (answer : AvsAnswer) (hs : s.Sound floor queue) :
    ∃ t, execAvsResponse answer s = .next t ∧ t.Sound floor queue := by
  unfold execAvsResponse
  (try dsimp -iota only)
  refine ⟨_, rfl, ?_⟩
  repeat' (first
  | with_reducible assumption
  | with_unfolding_none apply State.live_sound
  | with_unfolding_none apply State.avsResponse_sound
  | (intro _ _; (try dsimp -iota only)))

/-- execAvsRetry answers a next state and keeps the invariant. -/
theorem execAvsRetry_sound {s : State} (hs : s.Sound floor queue) :
    ∃ t, execAvsRetry s = .next t ∧ t.Sound floor queue := by
  unfold execAvsRetry
  (try dsimp -iota only)
  refine ⟨_, rfl, ?_⟩
  repeat' (first
  | with_reducible assumption
  | with_unfolding_none apply State.live_sound
  | with_unfolding_none apply State.avsRetry_sound)

/-- execSettleEnd answers a next state and keeps the invariant. -/
theorem execSettleEnd_sound {s : State} (hs : s.Sound floor queue) :
    ∃ t, execSettleEnd s = .next t ∧ t.Sound floor queue := by
  unfold execSettleEnd
  (try dsimp -iota only)
  refine ⟨_, rfl, ?_⟩
  repeat' (first
  | with_reducible assumption
  | with_unfolding_none apply State.live_sound
  | with_unfolding_none apply State.settleEnd_sound)

/-- execToPll answers a next state and keeps the invariant. -/
theorem execToPll_sound {s : State} (p : Port) (hs : s.Sound floor queue) :
    ∃ t, execToPll p s = .next t ∧ t.Sound floor queue := by
  unfold execToPll
  (try dsimp -iota only)
  refine ⟨_, rfl, ?_⟩
  repeat' (first
  | with_reducible assumption
  | with_unfolding_none apply State.live_sound
  | with_unfolding_none apply State.changeGlob_sound
  | (intro _ _; (try dsimp -iota only)))

/-- execToOsc answers a next state and keeps the invariant. -/
theorem execToOsc_sound {s : State} (p : Port) (hs : s.Sound floor queue) :
    ∃ t, execToOsc p s = .next t ∧ t.Sound floor queue := by
  unfold execToOsc
  (try dsimp -iota only)
  refine ⟨_, rfl, ?_⟩
  repeat' (first
  | with_reducible assumption
  | with_unfolding_none apply State.live_sound
  | with_unfolding_none apply State.changeGlob_sound
  | (intro _ _; (try dsimp -iota only)))

/-- execWaitingAdmission answers a next state and keeps the invariant. -/
theorem execWaitingAdmission_sound {s : State} (ecc : Ecc) (hs : s.Sound floor queue) :
    ∃ t, execWaitingAdmission ecc s = .next t ∧ t.Sound floor queue := by
  unfold execWaitingAdmission
  (try dsimp -iota only)
  refine ⟨_, rfl, ?_⟩
  repeat' (first
  | with_reducible assumption
  | with_unfolding_none apply State.live_sound
  | with_unfolding_none apply State.onPathClock_sound
  | with_unfolding_none apply State.waitingAdmission_sound
  | (intro _ _; (try dsimp -iota only)))

/-- execHandOver answers a next state and keeps the invariant. -/
theorem execHandOver_sound {s : State} (ecc : Ecc) (hs : s.Sound floor queue) :
    ∃ t, execHandOver ecc s = .next t ∧ t.Sound floor queue := by
  unfold execHandOver
  (try dsimp -iota only)
  refine ⟨_, rfl, ?_⟩
  repeat' (first
  | with_reducible assumption
  | with_unfolding_none apply State.live_sound
  | with_unfolding_none apply State.onPathClock_sound
  | with_unfolding_none apply State.handOver_sound
  | (intro _ _; (try dsimp -iota only)))

/-- execRteTgtRead answers a next state and keeps the invariant. -/
theorem execRteTgtRead_sound {s : State} (p : Port) (d : BitVec 12) (target : BitVec 16) (hs : s.Sound floor queue) :
    ∃ t, execRteTgtRead p d target s = .next t ∧ t.Sound floor queue := by
  unfold execRteTgtRead
  (try dsimp -iota only)
  refine ⟨_, rfl, ?_⟩
  repeat' (first
  | with_reducible assumption
  | with_unfolding_none apply State.live_sound
  | with_unfolding_none apply State.cmdDom_sound
  | (intro _ _; (try dsimp -iota only)))

/-- execRteTgtWrite answers a next state and keeps the invariant. -/
theorem execRteTgtWrite_sound {s : State} (p : Port) (d : BitVec 12) (target : BitVec 16) (hs : s.Sound floor queue) :
    ∃ t, execRteTgtWrite p d target s = .next t ∧ t.Sound floor queue := by
  unfold execRteTgtWrite
  (try dsimp -iota only)
  refine ⟨_, rfl, ?_⟩
  repeat' (first
  | with_reducible assumption
  | with_unfolding_none apply State.live_sound
  | with_unfolding_none apply State.cmdDom_sound
  | (intro _ _; (try dsimp -iota only)))

/-- execRefillTick answers a next state and keeps the invariant. -/
theorem execRefillTick_sound {s : State} (ecc : Ecc) (hs : s.Sound floor queue) :
    ∃ t, execRefillTick ecc s = .next t ∧ t.Sound floor queue := by
  unfold execRefillTick
  (try dsimp -iota only)
  refine ⟨_, rfl, ?_⟩
  repeat' (first
  | with_reducible assumption
  | with_unfolding_none apply State.live_sound
  | with_unfolding_none apply State.onCoreClock_sound
  | with_unfolding_none apply State.refillTick_sound
  | (intro _ _; (try dsimp -iota only)))

/-- execCommitGate answers a next state and keeps the invariant. -/
theorem execCommitGate_sound {s : State} (p : Port) (g : BitVec 10) (hs : s.Sound floor queue) :
    ∃ t, execCommitGate p g s = .next t ∧ t.Sound floor queue := by
  unfold execCommitGate
  (try dsimp -iota only)
  refine ⟨_, rfl, ?_⟩
  repeat' (first
  | with_reducible assumption
  | with_unfolding_none apply State.live_sound
  | with_unfolding_none apply State.cmdGlob_sound
  | (intro _ _; (try dsimp -iota only)))

/-- execPendingListSwitch answers a next state and keeps the invariant. -/
theorem execPendingListSwitch_sound {s : State} (g : BitVec 10) (hs : s.Sound floor queue) :
    ∃ t, execPendingListSwitch g s = .next t ∧ t.Sound floor queue := by
  unfold execPendingListSwitch
  (try dsimp -iota only)
  refine ⟨_, rfl, ?_⟩
  repeat' (first
  | with_reducible assumption
  | with_unfolding_none apply State.live_sound
  | with_unfolding_none apply State.onCoreClock_sound
  | with_unfolding_none apply State.switchList_sound
  | (intro _ _; (try dsimp -iota only)))

/-- execGateOpening answers a next state and keeps the invariant. -/
theorem execGateOpening_sound {s : State} (g : BitVec 10) (ecc : Ecc) (hs : s.Sound floor queue) :
    ∃ t, execGateOpening g ecc s = .next t ∧ t.Sound floor queue := by
  unfold execGateOpening
  (try dsimp -iota only)
  refine ⟨_, rfl, ?_⟩
  repeat' (first
  | with_reducible assumption
  | with_unfolding_none apply State.live_sound
  | with_unfolding_none apply State.onPathClock_sound
  | with_unfolding_none apply State.gateOpening_sound
  | (intro _ _; (try dsimp -iota only)))

/-- execGateCycleStart answers a next state and keeps the invariant. -/
theorem execGateCycleStart_sound {s : State} (g : BitVec 10) (hs : s.Sound floor queue) :
    ∃ t, execGateCycleStart g s = .next t ∧ t.Sound floor queue := by
  unfold execGateCycleStart
  (try dsimp -iota only)
  refine ⟨_, rfl, ?_⟩
  repeat' (first
  | with_reducible assumption
  | with_unfolding_none apply State.live_sound
  | with_unfolding_none apply State.onCoreClock_sound
  | with_unfolding_none apply State.gateCycle_sound
  | (intro _ _; (try dsimp -iota only)))

/-- execParkedReturn answers a next state and keeps the invariant. -/
theorem execParkedReturn_sound {s : State} (ecc : Ecc) (hs : s.Sound floor queue) :
    ∃ t, execParkedReturn ecc s = .next t ∧ t.Sound floor queue := by
  unfold execParkedReturn
  (try dsimp -iota only)
  refine ⟨_, rfl, ?_⟩
  repeat' (first
  | with_reducible assumption
  | with_unfolding_none apply State.live_sound
  | with_unfolding_none apply State.onPathClock_sound
  | with_unfolding_none apply State.parkedReturn_sound
  | (intro _ _; (try dsimp -iota only)))

/-- execWinData answers a next state and keeps the invariant. -/
theorem execWinData_sound {s : State} (p : Port) (wr : Bool) (data : Word) (be : BitVec 4) (hs : s.Sound floor queue) :
    ∃ t, execWinData p wr data be s = .next t ∧ t.Sound floor queue := by
  unfold execWinData
  (try dsimp -iota only)
  refine ⟨_, rfl, ?_⟩
  repeat' (first
  | with_reducible assumption
  | with_unfolding_none apply State.live_sound
  | with_unfolding_none apply State.request_sound
  | (intro _ _; (try dsimp -iota only)))

/-- execDormantAccessWake answers a next state and keeps the invariant. -/
theorem execDormantAccessWake_sound {s : State} (p : Port) (off : BitVec 30) (hs : s.Sound floor queue) :
    ∃ t, execDormantAccessWake p off s = .next t ∧ t.Sound floor queue := by
  unfold execDormantAccessWake
  (try dsimp -iota only)
  refine ⟨_, rfl, ?_⟩
  repeat' (first
  | with_reducible assumption
  | with_unfolding_none apply State.live_sound
  | with_unfolding_none apply State.request_sound
  | (intro _ _; (try dsimp -iota only)))

/-- execRegisterWrite answers a next state and keeps the invariant. -/
theorem execRegisterWrite_sound {s : State} (p : Port) (space : Space) (off : BitVec 30) (data : Word) (be : BitVec 4) (hs : s.Sound floor queue) :
    ∃ t, execRegisterWrite p space off data be s = .next t ∧ t.Sound floor queue := by
  unfold execRegisterWrite
  (try dsimp -iota only)
  refine ⟨_, rfl, ?_⟩
  repeat' (first
  | with_reducible assumption
  | with_unfolding_none apply State.live_sound
  | with_unfolding_none apply State.request_sound
  | (intro _ _; (try dsimp -iota only)))

/-- execReadClear answers a next state and keeps the invariant. -/
theorem execReadClear_sound {s : State} (p : Port) (space : Space) (off : BitVec 30) (hs : s.Sound floor queue) :
    ∃ t, execReadClear p space off s = .next t ∧ t.Sound floor queue := by
  unfold execReadClear
  (try dsimp -iota only)
  refine ⟨_, rfl, ?_⟩
  repeat' (first
  | with_reducible assumption
  | with_unfolding_none apply State.live_sound
  | with_unfolding_none apply State.request_sound
  | (intro _ _; (try dsimp -iota only)))

/-- execWideCapture answers a next state and keeps the invariant. -/
theorem execWideCapture_sound {s : State} (p : Port) (kind : BitVec 7) (index : BitVec 24) (hs : s.Sound floor queue) :
    ∃ t, execWideCapture p kind index s = .next t ∧ t.Sound floor queue := by
  unfold execWideCapture
  (try dsimp -iota only)
  refine ⟨_, rfl, ?_⟩
  repeat' (first
  | with_reducible assumption
  | with_unfolding_none apply State.live_sound
  | with_unfolding_none apply State.request_sound
  | (intro _ _; (try dsimp -iota only)))

/-- execMgtAuthWrite answers a next state and keeps the invariant. -/
theorem execMgtAuthWrite_sound {s : State} (p : Port) (data : Word) (hs : s.Sound floor queue) :
    ∃ t, execMgtAuthWrite p data s = .next t ∧ t.Sound floor queue := by
  unfold execMgtAuthWrite
  (try dsimp -iota only)
  refine ⟨_, rfl, ?_⟩
  repeat' (first
  | with_reducible assumption
  | with_unfolding_none apply State.live_sound
  | with_unfolding_none apply State.writeGlob_sound
  | (intro _ _; (try dsimp -iota only)))

/-- execRegLockWrite answers a next state and keeps the invariant. -/
theorem execRegLockWrite_sound {s : State} (p : Port) (data : Word) (hs : s.Sound floor queue) :
    ∃ t, execRegLockWrite p data s = .next t ∧ t.Sound floor queue := by
  unfold execRegLockWrite
  (try dsimp -iota only)
  refine ⟨_, rfl, ?_⟩
  repeat' (first
  | with_reducible assumption
  | with_unfolding_none apply State.live_sound
  | with_unfolding_none apply State.writeGlob_sound
  | (intro _ _; (try dsimp -iota only)))

/-- execCommit answers a next state and keeps the invariant. -/
theorem execCommit_sound {s : State} (p : Port) (hs : s.Sound floor queue) :
    ∃ t, execCommit p s = .next t ∧ t.Sound floor queue := by
  unfold execCommit
  (try dsimp -iota only)
  refine ⟨_, rfl, ?_⟩
  repeat' (first
  | with_reducible assumption
  | with_unfolding_none apply State.live_sound
  | with_unfolding_none apply State.changeGlob_sound
  | (intro _ _; (try dsimp -iota only)))

/-- execUnfreeze answers a next state and keeps the invariant. -/
theorem execUnfreeze_sound {s : State} (p : Port) (hs : s.Sound floor queue) :
    ∃ t, execUnfreeze p s = .next t ∧ t.Sound floor queue := by
  unfold execUnfreeze
  (try dsimp -iota only)
  refine ⟨_, rfl, ?_⟩
  repeat' (first
  | with_reducible assumption
  | with_unfolding_none apply State.live_sound
  | with_unfolding_none apply State.changeGlob_sound
  | (intro _ _; (try dsimp -iota only)))

/-- execWalkerPassEnd answers a next state and keeps the invariant. -/
theorem execWalkerPassEnd_sound {s : State} (bad : List (BitVec 13)) (hs : s.Sound floor queue) :
    ∃ t, execWalkerPassEnd bad s = .next t ∧ t.Sound floor queue := by
  unfold execWalkerPassEnd
  (try dsimp -iota only)
  refine ⟨_, rfl, ?_⟩
  repeat' (first
  | with_reducible assumption
  | with_unfolding_none apply State.live_sound
  | with_unfolding_none apply State.onCoreClock_sound
  | with_unfolding_none apply State.passEnd_sound
  | (intro _ _; (try dsimp -iota only)))

/-- execSrcReadSource answers a next state and keeps the invariant. -/
theorem execSrcReadSource_sound {s : State} (p : Port) (index : BitVec 16) (hs : s.Sound floor queue) :
    ∃ t, execSrcReadSource p index s = .next t ∧ t.Sound floor queue := by
  unfold execSrcReadSource
  (try dsimp -iota only)
  refine ⟨_, rfl, ?_⟩
  repeat' (first
  | with_reducible assumption
  | with_unfolding_none apply State.live_sound
  | with_unfolding_none apply State.cmdGlob_sound
  | (intro _ _; (try dsimp -iota only)))

/-- execSrcWriteSource answers a next state and keeps the invariant. -/
theorem execSrcWriteSource_sound {s : State} (p : Port) (index : BitVec 16) (hs : s.Sound floor queue) :
    ∃ t, execSrcWriteSource p index s = .next t ∧ t.Sound floor queue := by
  unfold execSrcWriteSource
  (try dsimp -iota only)
  refine ⟨_, rfl, ?_⟩
  repeat' (first
  | with_reducible assumption
  | with_unfolding_none apply State.live_sound
  | with_unfolding_none apply State.cmdGlob_sound
  | (intro _ _; (try dsimp -iota only)))

/-- execSrcReadTranslation answers a next state and keeps the invariant. -/
theorem execSrcReadTranslation_sound {s : State} (p : Port) (index : BitVec 16) (hs : s.Sound floor queue) :
    ∃ t, execSrcReadTranslation p index s = .next t ∧ t.Sound floor queue := by
  unfold execSrcReadTranslation
  (try dsimp -iota only)
  refine ⟨_, rfl, ?_⟩
  repeat' (first
  | with_reducible assumption
  | with_unfolding_none apply State.live_sound
  | with_unfolding_none apply State.cmdGlob_sound
  | (intro _ _; (try dsimp -iota only)))

/-- execSrcWriteTranslation answers a next state and keeps the invariant. -/
theorem execSrcWriteTranslation_sound {s : State} (p : Port) (index : BitVec 16) (hs : s.Sound floor queue) :
    ∃ t, execSrcWriteTranslation p index s = .next t ∧ t.Sound floor queue := by
  unfold execSrcWriteTranslation
  (try dsimp -iota only)
  refine ⟨_, rfl, ?_⟩
  repeat' (first
  | with_reducible assumption
  | with_unfolding_none apply State.live_sound
  | with_unfolding_none apply State.cmdGlob_sound
  | (intro _ _; (try dsimp -iota only)))

/-- execLinCfgWrite answers a next state and keeps the invariant. -/
theorem execLinCfgWrite_sound {s : State} (p : Port) (line : BitVec 10) (data : Word) (hs : s.Sound floor queue) :
    ∃ t, execLinCfgWrite p line data s = .next t ∧ t.Sound floor queue := by
  unfold execLinCfgWrite
  (try dsimp -iota only)
  refine ⟨_, rfl, ?_⟩
  repeat' (first
  | with_reducible assumption
  | with_unfolding_none apply State.live_sound
  | with_unfolding_none apply State.writeGlob_sound
  | (intro _ _; (try dsimp -iota only)))

/-- execMeterWrite answers a next state and keeps the invariant. -/
theorem execMeterWrite_sound {s : State} (p : Port) (m : MeterId) (r : MeterReg) (data : Word) (hs : s.Sound floor queue) :
    ∃ t, execMeterWrite p m r data s = .next t ∧ t.Sound floor queue := by
  unfold execMeterWrite
  (try dsimp -iota only)
  refine ⟨_, rfl, ?_⟩
  repeat' (first
  | with_reducible assumption
  | with_unfolding_none apply State.live_sound
  | with_unfolding_none apply State.writeMeter_sound
  | (intro _ _; (try dsimp -iota only)))

/-- execDebugAccess answers a next state and keeps the invariant. -/
theorem execDebugAccess_sound {s : State} (tap : Tap) (hs : s.Sound floor queue) :
    ∃ t, execDebugAccess tap s = .next t ∧ t.Sound floor queue := by
  unfold execDebugAccess
  (try dsimp -iota only)
  refine ⟨_, rfl, ?_⟩
  repeat' (first
  | with_reducible assumption
  | with_unfolding_none apply State.tap_sound)

/-- execPfail answers a next state and keeps the invariant. -/
theorem execPfail_sound {s : State} (hu : Hu) (hs : s.Sound floor queue) :
    ∃ t, execPfail hu s = .next t ∧ t.Sound floor queue := by
  unfold execPfail
  (try dsimp -iota only)
  refine ⟨_, rfl, ?_⟩
  repeat' (first
  | with_reducible assumption
  | with_unfolding_none apply State.pfailPin_sound)

/-- execSavSave answers a next state and keeps the invariant. -/
theorem execSavSave_sound {s : State} (p : Port) (hu : Hu) (hs : s.Sound floor queue) :
    ∃ t, execSavSave p hu s = .next t ∧ t.Sound floor queue := by
  unfold execSavSave
  (try dsimp -iota only)
  refine ⟨_, rfl, ?_⟩
  repeat' (first
  | with_reducible assumption
  | with_unfolding_none apply State.live_sound
  | with_unfolding_none apply State.withHu_sound
  | with_unfolding_none apply State.cmdGlob_sound
  | (intro _ _; (try dsimp -iota only)))

/-- execPeriodic answers a next state and keeps the invariant. -/
theorem execPeriodic_sound {s : State} (hu : Hu) (hs : s.Sound floor queue) :
    ∃ t, execPeriodic hu s = .next t ∧ t.Sound floor queue := by
  unfold execPeriodic
  (try dsimp -iota only)
  refine ⟨_, rfl, ?_⟩
  repeat' (first
  | with_reducible assumption
  | with_unfolding_none apply State.live_sound
  | with_unfolding_none apply State.withHu_sound
  | with_unfolding_none apply State.periodic_sound
  | (intro _ _; (try dsimp -iota only)))

/-- execSaveIntervalEnd answers a next state and keeps the invariant. -/
theorem execSaveIntervalEnd_sound {s : State} (hs : s.Sound floor queue) :
    ∃ t, execSaveIntervalEnd s = .next t ∧ t.Sound floor queue := by
  unfold execSaveIntervalEnd
  (try dsimp -iota only)
  refine ⟨_, rfl, ?_⟩
  repeat' (first
  | with_reducible assumption
  | with_unfolding_none apply State.live_sound
  | with_unfolding_none apply State.saveWaiting_sound)

/-- execPersistentSaveDone answers a next state and keeps the invariant. -/
theorem execPersistentSaveDone_sound {s : State} (hs : s.Sound floor queue) :
    ∃ t, execPersistentSaveDone s = .next t ∧ t.Sound floor queue := by
  unfold execPersistentSaveDone
  (try dsimp -iota only)
  refine ⟨_, rfl, ?_⟩
  repeat' (first
  | with_reducible assumption
  | with_unfolding_none apply State.live_sound
  | with_unfolding_none apply State.onCoreClock_sound
  | with_unfolding_none apply State.persistDone_sound
  | (intro _ _; (try dsimp -iota only)))

/-- execHomeWrite answers a next state and keeps the invariant. -/
theorem execHomeWrite_sound {s : State} (hs : s.Sound floor queue) :
    ∃ t, execHomeWrite s = .next t ∧ t.Sound floor queue := by
  unfold execHomeWrite
  (try dsimp -iota only)
  refine ⟨_, rfl, ?_⟩
  repeat' (first
  | with_reducible assumption
  | with_unfolding_none apply State.live_sound
  | with_unfolding_none apply State.homeLater_sound)

/-- execCold answers a next state and keeps the invariant. -/
theorem execCold_sound {s : State} (straps : Word) (hs : s.Sound floor queue) :
    ∃ t, execCold straps s = .next t ∧ t.Sound 0 queue := by
  unfold execCold
  (try dsimp -iota only)
  refine ⟨_, rfl, ?_⟩
  repeat' (first
  | with_reducible assumption
  | with_unfolding_none apply State.cold_sound)

/-- execColdRstNAsserted answers a next state and keeps the invariant. -/
theorem execColdRstNAsserted_sound {s : State} (hs : s.Sound floor queue) :
    ∃ t, execColdRstNAsserted s = .next t ∧ t.Sound 0 queue := by
  unfold execColdRstNAsserted
  (try dsimp -iota only)
  refine ⟨_, rfl, ?_⟩
  repeat' (first
  | with_reducible assumption
  | with_unfolding_none apply State.coldAssert_sound)

/-- execWarm answers a next state and keeps the invariant. -/
theorem execWarm_sound {s : State} (hs : s.Sound floor queue) :
    ∃ t, execWarm s = .next t ∧ t.Sound floor queue := by
  unfold execWarm
  (try dsimp -iota only)
  refine ⟨_, rfl, ?_⟩
  repeat' (first
  | with_reducible assumption
  | with_unfolding_none apply State.warm_sound
  | with_unfolding_none apply State.sound_ite)

/-- execWarmRstNDeasserted answers a next state and keeps the invariant. -/
theorem execWarmRstNDeasserted_sound {s : State} (hs : s.Sound floor queue) :
    ∃ t, execWarmRstNDeasserted s = .next t ∧ t.Sound floor queue := by
  unfold execWarmRstNDeasserted
  (try dsimp -iota only)
  refine ⟨_, rfl, ?_⟩
  repeat' (first
  | with_reducible assumption
  | with_unfolding_none apply State.warmEnd_sound)

/-- execWarmDepotWaitEnd answers a next state and keeps the invariant. -/
theorem execWarmDepotWaitEnd_sound {s : State} (hs : s.Sound floor queue) :
    ∃ t, execWarmDepotWaitEnd s = .next t ∧ t.Sound floor queue := by
  unfold execWarmDepotWaitEnd
  (try dsimp -iota only)
  refine ⟨_, rfl, ?_⟩
  repeat' (first
  | with_reducible assumption
  | with_unfolding_none apply State.live_sound
  | with_unfolding_none apply State.depWaitEnd_sound)

/-- execFabricRst answers a next state and keeps the invariant. -/
theorem execFabricRst_sound {s : State} (hs : s.Sound floor queue) :
    ∃ t, execFabricRst s = .next t ∧ t.Sound floor queue := by
  unfold execFabricRst
  (try dsimp -iota only)
  refine ⟨_, rfl, ?_⟩
  repeat' (first
  | with_reducible assumption
  | with_unfolding_none apply State.fabric_sound)

/-- execStageReady answers a next state and keeps the invariant. -/
theorem execStageReady_sound {s : State} (hs : s.Sound floor queue) :
    ∃ t, execStageReady s = .next t ∧ t.Sound floor queue := by
  unfold execStageReady
  (try dsimp -iota only)
  refine ⟨_, rfl, ?_⟩
  repeat' (first
  | with_reducible assumption
  | with_unfolding_none apply State.live_sound
  | with_unfolding_none apply State.ready_sound)

/-- execEventRecord answers a next state and keeps the invariant. -/
theorem execEventRecord_sound {s : State} (rec : Rec) (hs : s.Sound floor queue) :
    ∃ t, execEventRecord rec s = .next t ∧ t.Sound floor queue := by
  unfold execEventRecord
  (try dsimp -iota only)
  refine ⟨_, rfl, ?_⟩
  repeat' (first
  | with_reducible assumption
  | with_unfolding_none apply State.live_sound
  | with_unfolding_none apply State.rxCaravan_sound
  | with_unfolding_none apply State.rxEvent_sound
  | (intro _ _; (try dsimp -iota only)))

/-- execWaymarkRecord answers a next state and keeps the invariant. -/
theorem execWaymarkRecord_sound {s : State} (rec : Rec) (hs : s.Sound floor queue) :
    ∃ t, execWaymarkRecord rec s = .next t ∧ t.Sound floor queue := by
  unfold execWaymarkRecord
  (try dsimp -iota only)
  refine ⟨_, rfl, ?_⟩
  repeat' (first
  | with_reducible assumption
  | with_unfolding_none apply State.live_sound
  | with_unfolding_none apply State.rxCaravan_sound
  | with_unfolding_none apply State.rxWaymark_sound
  | (intro _ _; (try dsimp -iota only)))

/-- execSilentRecord answers a next state and keeps the invariant. -/
theorem execSilentRecord_sound {s : State} (rec : Rec) (hs : s.Sound floor queue) :
    ∃ t, execSilentRecord rec s = .next t ∧ t.Sound floor queue := by
  unfold execSilentRecord
  (try dsimp -iota only)
  refine ⟨_, rfl, ?_⟩
  repeat' (first
  | with_reducible assumption
  | with_unfolding_none apply State.live_sound
  | with_unfolding_none apply State.rxCaravan_sound
  | with_unfolding_none apply State.rxSilent_sound
  | (intro _ _; (try dsimp -iota only)))

/-- execCloseRecord answers a next state and keeps the invariant. -/
theorem execCloseRecord_sound {s : State} (rec : Rec) (hs : s.Sound floor queue) :
    ∃ t, execCloseRecord rec s = .next t ∧ t.Sound floor queue := by
  unfold execCloseRecord
  (try dsimp -iota only)
  refine ⟨_, rfl, ?_⟩
  repeat' (first
  | with_reducible assumption
  | with_unfolding_none apply State.live_sound
  | with_unfolding_none apply State.rxCaravan_sound
  | with_unfolding_none apply State.rxClose_sound
  | (intro _ _; (try dsimp -iota only)))

/-- execCheck answers a next state and keeps the invariant. -/
theorem execCheck_sound {s : State} (port : ChlPort) (rec : Rec) (hs : s.Sound floor queue) :
    ∃ t, execCheck port rec s = .next t ∧ t.Sound floor queue := by
  unfold execCheck
  (try dsimp -iota only)
  refine ⟨_, rfl, ?_⟩
  repeat' (first
  | with_reducible assumption
  | with_unfolding_none apply State.live_sound
  | with_unfolding_none apply State.rxCtrl_sound
  | with_unfolding_none apply State.rxCheck_sound
  | (intro _ _; (try dsimp -iota only)))

/-- execCheckSend answers a next state and keeps the invariant. -/
theorem execCheckSend_sound {s : State} (port : ChlPort) (hs : s.Sound floor queue) :
    ∃ t, execCheckSend port s = .next t ∧ t.Sound floor queue := by
  unfold execCheckSend
  (try dsimp -iota only)
  refine ⟨_, rfl, ?_⟩
  repeat' (first
  | with_reducible assumption
  | with_unfolding_none apply State.live_sound
  | with_unfolding_none apply State.onRingClk_sound
  | with_unfolding_none apply State.checkSend_sound
  | (intro _ _; (try dsimp -iota only)))

/-- execBeacon answers a next state and keeps the invariant. -/
theorem execBeacon_sound {s : State} (rec : Rec) (hs : s.Sound floor queue) :
    ∃ t, execBeacon rec s = .next t ∧ t.Sound floor queue := by
  unfold execBeacon
  (try dsimp -iota only)
  refine ⟨_, rfl, ?_⟩
  repeat' (first
  | with_reducible assumption
  | with_unfolding_none apply State.live_sound
  | with_unfolding_none apply State.listenTo_sound
  | with_unfolding_none apply State.rxBeacon_sound
  | with_unfolding_none apply State.sound_ite
  | (intro _ _; (try dsimp -iota only)))

/-- execBeaconSend answers a next state and keeps the invariant. -/
theorem execBeaconSend_sound {s : State} (hs : s.Sound floor queue) :
    ∃ t, execBeaconSend s = .next t ∧ t.Sound floor queue := by
  unfold execBeaconSend
  (try dsimp -iota only)
  refine ⟨_, rfl, ?_⟩
  repeat' (first
  | with_reducible assumption
  | with_unfolding_none apply State.live_sound
  | with_unfolding_none apply State.onRingClk_sound
  | with_unfolding_none apply State.beaconSend_sound
  | (intro _ _; (try dsimp -iota only)))

/-- execProbe answers a next state and keeps the invariant. -/
theorem execProbe_sound {s : State} (rec : Rec) (hs : s.Sound floor queue) :
    ∃ t, execProbe rec s = .next t ∧ t.Sound floor queue := by
  unfold execProbe
  (try dsimp -iota only)
  refine ⟨_, rfl, ?_⟩
  repeat' (first
  | with_reducible assumption
  | with_unfolding_none apply State.live_sound
  | with_unfolding_none apply State.rxCtrl_sound
  | with_unfolding_none apply State.rxProbe_sound
  | (intro _ _; (try dsimp -iota only)))

/-- execProbeSend answers a next state and keeps the invariant. -/
theorem execProbeSend_sound {s : State} (hs : s.Sound floor queue) :
    ∃ t, execProbeSend s = .next t ∧ t.Sound floor queue := by
  unfold execProbeSend
  (try dsimp -iota only)
  refine ⟨_, rfl, ?_⟩
  repeat' (first
  | with_reducible assumption
  | with_unfolding_none apply State.live_sound
  | with_unfolding_none apply State.onRingClk_sound
  | with_unfolding_none apply State.probeSend_sound
  | (intro _ _; (try dsimp -iota only)))

/-- execPause answers a next state and keeps the invariant. -/
theorem execPause_sound {s : State} (port : ChlPort) (rec : Rec) (hs : s.Sound floor queue) :
    ∃ t, execPause port rec s = .next t ∧ t.Sound floor queue := by
  unfold execPause
  (try dsimp -iota only)
  refine ⟨_, rfl, ?_⟩
  repeat' (first
  | with_reducible assumption
  | with_unfolding_none apply State.live_sound
  | with_unfolding_none apply State.rxCtrl_sound
  | with_unfolding_none apply State.rxPause_sound
  | (intro _ _; (try dsimp -iota only)))

/-- execRingResume answers a next state and keeps the invariant. -/
theorem execRingResume_sound {s : State} (port : ChlPort) (rec : Rec) (hs : s.Sound floor queue) :
    ∃ t, execRingResume port rec s = .next t ∧ t.Sound floor queue := by
  unfold execRingResume
  (try dsimp -iota only)
  refine ⟨_, rfl, ?_⟩
  repeat' (first
  | with_reducible assumption
  | with_unfolding_none apply State.live_sound
  | with_unfolding_none apply State.rxCtrl_sound
  | with_unfolding_none apply State.rxResume_sound
  | (intro _ _; (try dsimp -iota only)))

/-- execTxQueueMark answers a next state and keeps the invariant. -/
theorem execTxQueueMark_sound {s : State} (port : ChlPort) (hs : s.Sound floor queue) :
    ∃ t, execTxQueueMark port s = .next t ∧ t.Sound floor queue := by
  unfold execTxQueueMark
  (try dsimp -iota only)
  refine ⟨_, rfl, ?_⟩
  repeat' (first
  | with_reducible assumption
  | with_unfolding_none apply State.live_sound
  | with_unfolding_none apply State.onRingClk_sound
  | with_unfolding_none apply State.txMark_sound
  | (intro _ _; (try dsimp -iota only)))

/-- execWindow answers a next state and keeps the invariant. -/
theorem execWindow_sound {s : State} (rec : Rec) (hs : s.Sound floor queue) :
    ∃ t, execWindow rec s = .next t ∧ t.Sound floor queue := by
  unfold execWindow
  (try dsimp -iota only)
  refine ⟨_, rfl, ?_⟩
  repeat' (first
  | with_reducible assumption
  | with_unfolding_none apply State.live_sound
  | with_unfolding_none apply State.listenTo_sound
  | with_unfolding_none apply State.rxWindow_sound
  | with_unfolding_none apply State.sound_ite
  | (intro _ _; (try dsimp -iota only)))

/-- execWindowSend answers a next state and keeps the invariant. -/
theorem execWindowSend_sound {s : State} (hs : s.Sound floor queue) :
    ∃ t, execWindowSend s = .next t ∧ t.Sound floor queue := by
  unfold execWindowSend
  (try dsimp -iota only)
  refine ⟨_, rfl, ?_⟩
  repeat' (first
  | with_reducible assumption
  | with_unfolding_none apply State.live_sound
  | with_unfolding_none apply State.onRingClk_sound
  | with_unfolding_none apply State.windowSend_sound
  | (intro _ _; (try dsimp -iota only)))

/-- execWindowOpen answers a next state and keeps the invariant. -/
theorem execWindowOpen_sound {s : State} (hs : s.Sound floor queue) :
    ∃ t, execWindowOpen s = .next t ∧ t.Sound floor queue := by
  unfold execWindowOpen
  (try dsimp -iota only)
  refine ⟨_, rfl, ?_⟩
  repeat' (first
  | with_reducible assumption
  | with_unfolding_none apply State.live_sound
  | with_unfolding_none apply State.onRingClk_sound
  | with_unfolding_none apply State.windowOpen_sound
  | (intro _ _; (try dsimp -iota only)))

/-- execJoinTimeout answers a next state and keeps the invariant. -/
theorem execJoinTimeout_sound {s : State} (hs : s.Sound floor queue) :
    ∃ t, execJoinTimeout s = .next t ∧ t.Sound floor queue := by
  unfold execJoinTimeout
  (try dsimp -iota only)
  refine ⟨_, rfl, ?_⟩
  repeat' (first
  | with_reducible assumption
  | with_unfolding_none apply State.live_sound
  | with_unfolding_none apply State.onRingClk_sound
  | with_unfolding_none apply State.joinTimeout_sound
  | (intro _ _; (try dsimp -iota only)))

/-- execWindowEnd answers a next state and keeps the invariant. -/
theorem execWindowEnd_sound {s : State} (hs : s.Sound floor queue) :
    ∃ t, execWindowEnd s = .next t ∧ t.Sound floor queue := by
  unfold execWindowEnd
  (try dsimp -iota only)
  refine ⟨_, rfl, ?_⟩
  repeat' (first
  | with_reducible assumption
  | with_unfolding_none apply State.live_sound
  | with_unfolding_none apply State.onRingClk_sound
  | with_unfolding_none apply State.windowEnd_sound
  | (intro _ _; (try dsimp -iota only)))

/-- execJoined answers a next state and keeps the invariant. -/
theorem execJoined_sound {s : State} (rec : Rec) (hs : s.Sound floor queue) :
    ∃ t, execJoined rec s = .next t ∧ t.Sound floor queue := by
  unfold execJoined
  (try dsimp -iota only)
  refine ⟨_, rfl, ?_⟩
  repeat' (first
  | with_reducible assumption
  | with_unfolding_none apply State.live_sound
  | with_unfolding_none apply State.rxCtrl_sound
  | with_unfolding_none apply State.rxJoined_sound
  | (intro _ _; (try dsimp -iota only)))

/-- execLeaveReq answers a next state and keeps the invariant. -/
theorem execLeaveReq_sound {s : State} (rec : Rec) (hs : s.Sound floor queue) :
    ∃ t, execLeaveReq rec s = .next t ∧ t.Sound floor queue := by
  unfold execLeaveReq
  (try dsimp -iota only)
  refine ⟨_, rfl, ?_⟩
  repeat' (first
  | with_reducible assumption
  | with_unfolding_none apply State.live_sound
  | with_unfolding_none apply State.rxCtrl_sound
  | with_unfolding_none apply State.rxWant_sound
  | (intro _ _; (try dsimp -iota only)))

/-- execLeave answers a next state and keeps the invariant. -/
theorem execLeave_sound {s : State} (rec : Rec) (hs : s.Sound floor queue) :
    ∃ t, execLeave rec s = .next t ∧ t.Sound floor queue := by
  unfold execLeave
  (try dsimp -iota only)
  refine ⟨_, rfl, ?_⟩
  repeat' (first
  | with_reducible assumption
  | with_unfolding_none apply State.live_sound
  | with_unfolding_none apply State.rxCtrl_sound
  | with_unfolding_none apply State.rxLeave_sound
  | (intro _ _; (try dsimp -iota only)))

/-- execLoss answers a next state and keeps the invariant. -/
theorem execLoss_sound {s : State} (port : ChlPort) (rec : Rec) (hs : s.Sound floor queue) :
    ∃ t, execLoss port rec s = .next t ∧ t.Sound floor queue := by
  unfold execLoss
  (try dsimp -iota only)
  refine ⟨_, rfl, ?_⟩
  repeat' (first
  | with_reducible assumption
  | with_unfolding_none apply State.live_sound
  | with_unfolding_none apply State.rxCtrl_sound
  | with_unfolding_none apply State.rxLoss_sound
  | (intro _ _; (try dsimp -iota only)))

/-- execWakeReq answers a next state and keeps the invariant. -/
theorem execWakeReq_sound {s : State} (rec : Rec) (hs : s.Sound floor queue) :
    ∃ t, execWakeReq rec s = .next t ∧ t.Sound floor queue := by
  unfold execWakeReq
  (try dsimp -iota only)
  refine ⟨_, rfl, ?_⟩
  repeat' (first
  | with_reducible assumption
  | with_unfolding_none apply State.live_sound
  | with_unfolding_none apply State.rxCtrl_sound
  | with_unfolding_none apply State.rxWant_sound
  | (intro _ _; (try dsimp -iota only)))

/-- execHopLoss answers a next state and keeps the invariant. -/
theorem execHopLoss_sound {s : State} (port : ChlPort) (lanes : BitVec 4) (hs : s.Sound floor queue) :
    ∃ t, execHopLoss port lanes s = .next t ∧ t.Sound floor queue := by
  unfold execHopLoss
  (try dsimp -iota only)
  refine ⟨_, rfl, ?_⟩
  repeat' (first
  | with_reducible assumption
  | with_unfolding_none apply State.lanesRaw_sound
  | with_unfolding_none apply State.lanesTo_sound
  | with_unfolding_none apply State.sound_ite)

/-- execLaneLock answers a next state and keeps the invariant. -/
theorem execLaneLock_sound {s : State} (port : ChlPort) (hs : s.Sound floor queue) :
    ∃ t, execLaneLock port s = .next t ∧ t.Sound floor queue := by
  unfold execLaneLock
  (try dsimp -iota only)
  refine ⟨_, rfl, ?_⟩
  repeat' (first
  | with_reducible assumption
  | with_unfolding_none apply State.lanesRaw_sound
  | with_unfolding_none apply State.laneLock_sound
  | with_unfolding_none apply State.sound_ite)

/-- execFounding answers a next state and keeps the invariant. -/
theorem execFounding_sound {s : State} (hs : s.Sound floor queue) :
    ∃ t, execFounding s = .next t ∧ t.Sound floor queue := by
  unfold execFounding
  (try dsimp -iota only)
  refine ⟨_, rfl, ?_⟩
  repeat' (first
  | with_reducible assumption
  | with_unfolding_none apply State.live_sound
  | with_unfolding_none apply State.onRingClk_sound
  | with_unfolding_none apply State.founding_sound
  | (intro _ _; (try dsimp -iota only)))

/-- execFoundingTimeout answers a next state and keeps the invariant. -/
theorem execFoundingTimeout_sound {s : State} (hs : s.Sound floor queue) :
    ∃ t, execFoundingTimeout s = .next t ∧ t.Sound floor queue := by
  unfold execFoundingTimeout
  (try dsimp -iota only)
  refine ⟨_, rfl, ?_⟩
  repeat' (first
  | with_reducible assumption
  | with_unfolding_none apply State.live_sound
  | with_unfolding_none apply State.onRingClk_sound
  | with_unfolding_none apply State.foundingTimeout_sound
  | (intro _ _; (try dsimp -iota only)))

/-- execFoundingJoined answers a next state and keeps the invariant. -/
theorem execFoundingJoined_sound {s : State} (hs : s.Sound floor queue) :
    ∃ t, execFoundingJoined s = .next t ∧ t.Sound floor queue := by
  unfold execFoundingJoined
  (try dsimp -iota only)
  refine ⟨_, rfl, ?_⟩
  repeat' (first
  | with_reducible assumption
  | with_unfolding_none apply State.live_sound
  | with_unfolding_none apply State.onRingClk_sound
  | with_unfolding_none apply State.foundingJoined_sound
  | (intro _ _; (try dsimp -iota only)))

/-- execBeaconMiss answers a next state and keeps the invariant. -/
theorem execBeaconMiss_sound {s : State} (hs : s.Sound floor queue) :
    ∃ t, execBeaconMiss s = .next t ∧ t.Sound floor queue := by
  unfold execBeaconMiss
  (try dsimp -iota only)
  refine ⟨_, rfl, ?_⟩
  repeat' (first
  | with_reducible assumption
  | with_unfolding_none apply State.live_sound
  | with_unfolding_none apply State.onRingClk_sound
  | with_unfolding_none apply State.beaconMiss_sound
  | (intro _ _; (try dsimp -iota only)))

/-- execChlLeave answers a next state and keeps the invariant. -/
theorem execChlLeave_sound {s : State} (p : Port) (hs : s.Sound floor queue) :
    ∃ t, execChlLeave p s = .next t ∧ t.Sound floor queue := by
  unfold execChlLeave
  (try dsimp -iota only)
  refine ⟨_, rfl, ?_⟩
  repeat' (first
  | with_reducible assumption
  | with_unfolding_none apply State.live_sound
  | with_unfolding_none apply State.changeGlob_sound
  | (intro _ _; (try dsimp -iota only)))

/-- execChlEnWrite answers a next state and keeps the invariant. -/
theorem execChlEnWrite_sound {s : State} (p : Port) (v : Bool) (hs : s.Sound floor queue) :
    ∃ t, execChlEnWrite p v s = .next t ∧ t.Sound floor queue := by
  unfold execChlEnWrite
  (try dsimp -iota only)
  refine ⟨_, rfl, ?_⟩
  repeat' (first
  | with_reducible assumption
  | with_unfolding_none apply State.live_sound
  | with_unfolding_none apply State.changeGlob_sound
  | (intro _ _; (try dsimp -iota only)))

/-- execRecordPassedOn answers a next state and keeps the invariant. -/
theorem execRecordPassedOn_sound {s : State} (port : ChlPort) (rec : Rec) (ecc : Ecc) (hs : s.Sound floor queue) :
    ∃ t, execRecordPassedOn port rec ecc s = .next t ∧ t.Sound floor queue := by
  unfold execRecordPassedOn
  (try dsimp -iota only)
  refine ⟨_, rfl, ?_⟩
  repeat' (first
  | with_reducible assumption
  | with_unfolding_none apply State.live_sound
  | with_unfolding_none apply State.passEcc_sound
  | (intro _ _; (try dsimp -iota only)))

/-- execReservedCtrlSubtype answers a next state and keeps the invariant. -/
theorem execReservedCtrlSubtype_sound {s : State} (port : ChlPort) (rec : Rec) (hs : s.Sound floor queue) :
    ∃ t, execReservedCtrlSubtype port rec s = .next t ∧ t.Sound floor queue := by
  unfold execReservedCtrlSubtype
  (try dsimp -iota only)
  refine ⟨_, rfl, ?_⟩
  repeat' (first
  | with_reducible assumption
  | with_unfolding_none apply State.live_sound
  | with_unfolding_none apply State.rxReserved_sound
  | (intro _ _; (try dsimp -iota only)))

/-- execStateMissFill answers a next state and keeps the invariant. -/
theorem execStateMissFill_sound {s : State} (line : BitVec 21) (poison : Bool) (ecc : Ecc) (hs : s.Sound floor queue) :
    ∃ t, execStateMissFill line poison ecc s = .next t ∧ t.Sound floor queue := by
  unfold execStateMissFill
  (try dsimp -iota only)
  refine ⟨_, rfl, ?_⟩
  repeat' (first
  | with_reducible assumption
  | with_unfolding_none apply State.live_sound
  | with_unfolding_none apply State.onCoreClock_sound
  | with_unfolding_none apply State.fill_sound
  | (intro _ _; (try dsimp -iota only)))

/-- execVictimWriteback answers a next state and keeps the invariant. -/
theorem execVictimWriteback_sound {s : State} (hs : s.Sound floor queue) :
    ∃ t, execVictimWriteback s = .next t ∧ t.Sound floor queue := by
  unfold execVictimWriteback
  (try dsimp -iota only)
  refine ⟨_, rfl, ?_⟩
  repeat' (first
  | with_reducible assumption
  | with_unfolding_none apply State.live_sound
  | with_unfolding_none apply State.onCoreClock_sound
  | with_unfolding_none apply State.writeVictim_sound
  | (intro _ _; (try dsimp -iota only)))

/-- execDepResponse answers a next state and keeps the invariant. -/
theorem execDepResponse_sound {s : State} (data : Bool) (tag : BitVec 10) (poison : Bool) (ecc : Ecc) (hs : s.Sound floor queue) :
    ∃ t, execDepResponse data tag poison ecc s = .next t ∧ t.Sound floor queue := by
  unfold execDepResponse
  (try dsimp -iota only)
  refine ⟨_, rfl, ?_⟩
  repeat' (first
  | with_reducible assumption
  | with_unfolding_none apply State.depAnswer_sound
  | with_unfolding_none apply State.sound_ite)

/-- execSstInitDone answers a next state and keeps the invariant. -/
theorem execSstInitDone_sound {s : State} (hs : s.Sound floor queue) :
    ∃ t, execSstInitDone s = .next t ∧ t.Sound floor queue := by
  unfold execSstInitDone
  (try dsimp -iota only)
  refine ⟨_, rfl, ?_⟩
  repeat' (first
  | with_reducible assumption
  | with_unfolding_none apply State.live_sound
  | with_unfolding_none apply State.onCoreClock_sound
  | with_unfolding_none apply State.backingInit_sound
  | (intro _ _; (try dsimp -iota only)))

/-- execScrub answers a next state and keeps the invariant. -/
theorem execScrub_sound {s : State} (ecc : Ecc) (hs : s.Sound floor queue) :
    ∃ t, execScrub ecc s = .next t ∧ t.Sound floor queue := by
  unfold execScrub
  (try dsimp -iota only)
  refine ⟨_, rfl, ?_⟩
  repeat' (first
  | with_reducible assumption
  | with_unfolding_none apply State.live_sound
  | with_unfolding_none apply State.onCoreClock_sound
  | with_unfolding_none apply State.scrubLine_sound
  | (intro _ _; (try dsimp -iota only)))

/-- execFlush answers a next state and keeps the invariant. -/
theorem execFlush_sound {s : State} (p : Port) (hs : s.Sound floor queue) :
    ∃ t, execFlush p s = .next t ∧ t.Sound floor queue := by
  unfold execFlush
  (try dsimp -iota only)
  refine ⟨_, rfl, ?_⟩
  repeat' (first
  | with_reducible assumption
  | with_unfolding_none apply State.live_sound
  | with_unfolding_none apply State.changeGlob_sound
  | (intro _ _; (try dsimp -iota only)))

/-- execReadEntry answers a next state and keeps the invariant. -/
theorem execReadEntry_sound {s : State} (p : Port) (d : BitVec 12) (eid : BitVec 24) (ecc : Ecc) (hs : s.Sound floor queue) :
    ∃ t, execReadEntry p d eid ecc s = .next t ∧ t.Sound floor queue := by
  unfold execReadEntry
  (try dsimp -iota only)
  refine ⟨_, rfl, ?_⟩
  repeat' (first
  | with_reducible assumption
  | with_unfolding_none apply State.live_sound
  | with_unfolding_none apply State.cmdDomEcc_sound
  | (intro _ _; (try dsimp -iota only)))

/-- execSetEn answers a next state and keeps the invariant. -/
theorem execSetEn_sound {s : State} (p : Port) (d : BitVec 12) (eid : BitVec 24) (ecc : Ecc) (hs : s.Sound floor queue) :
    ∃ t, execSetEn p d eid ecc s = .next t ∧ t.Sound floor queue := by
  unfold execSetEn
  (try dsimp -iota only)
  refine ⟨_, rfl, ?_⟩
  repeat' (first
  | with_reducible assumption
  | with_unfolding_none apply State.live_sound
  | with_unfolding_none apply State.cmdDomEcc_sound
  | (intro _ _; (try dsimp -iota only)))

/-- execClearEn answers a next state and keeps the invariant. -/
theorem execClearEn_sound {s : State} (p : Port) (d : BitVec 12) (eid : BitVec 24) (ecc : Ecc) (hs : s.Sound floor queue) :
    ∃ t, execClearEn p d eid ecc s = .next t ∧ t.Sound floor queue := by
  unfold execClearEn
  (try dsimp -iota only)
  refine ⟨_, rfl, ?_⟩
  repeat' (first
  | with_reducible assumption
  | with_unfolding_none apply State.live_sound
  | with_unfolding_none apply State.cmdDomEcc_sound
  | (intro _ _; (try dsimp -iota only)))

/-- execSetMask answers a next state and keeps the invariant. -/
theorem execSetMask_sound {s : State} (p : Port) (d : BitVec 12) (eid : BitVec 24) (ecc : Ecc) (hs : s.Sound floor queue) :
    ∃ t, execSetMask p d eid ecc s = .next t ∧ t.Sound floor queue := by
  unfold execSetMask
  (try dsimp -iota only)
  refine ⟨_, rfl, ?_⟩
  repeat' (first
  | with_reducible assumption
  | with_unfolding_none apply State.live_sound
  | with_unfolding_none apply State.cmdDomEcc_sound
  | (intro _ _; (try dsimp -iota only)))

/-- execClearMask answers a next state and keeps the invariant. -/
theorem execClearMask_sound {s : State} (p : Port) (d : BitVec 12) (eid : BitVec 24) (ecc : Ecc) (hs : s.Sound floor queue) :
    ∃ t, execClearMask p d eid ecc s = .next t ∧ t.Sound floor queue := by
  unfold execClearMask
  (try dsimp -iota only)
  refine ⟨_, rfl, ?_⟩
  repeat' (first
  | with_reducible assumption
  | with_unfolding_none apply State.live_sound
  | with_unfolding_none apply State.cmdDomEcc_sound
  | (intro _ _; (try dsimp -iota only)))

/-- execSstCfgWrite answers a next state and keeps the invariant. -/
theorem execSstCfgWrite_sound {s : State} (p : Port) (d : BitVec 12) (eid : BitVec 24) (ecc : Ecc) (hs : s.Sound floor queue) :
    ∃ t, execSstCfgWrite p d eid ecc s = .next t ∧ t.Sound floor queue := by
  unfold execSstCfgWrite
  (try dsimp -iota only)
  refine ⟨_, rfl, ?_⟩
  repeat' (first
  | with_reducible assumption
  | with_unfolding_none apply State.live_sound
  | with_unfolding_none apply State.cmdDomEcc_sound
  | (intro _ _; (try dsimp -iota only)))

/-- execClearState answers a next state and keeps the invariant. -/
theorem execClearState_sound {s : State} (p : Port) (d : BitVec 12) (eid : BitVec 24) (ecc : Ecc) (hs : s.Sound floor queue) :
    ∃ t, execClearState p d eid ecc s = .next t ∧ t.Sound floor queue := by
  unfold execClearState
  (try dsimp -iota only)
  refine ⟨_, rfl, ?_⟩
  repeat' (first
  | with_reducible assumption
  | with_unfolding_none apply State.live_sound
  | with_unfolding_none apply State.cmdDomEcc_sound
  | (intro _ _; (try dsimp -iota only)))

/-- execClearPoison answers a next state and keeps the invariant. -/
theorem execClearPoison_sound {s : State} (p : Port) (d : BitVec 12) (eid : BitVec 24) (ecc : Ecc) (hs : s.Sound floor queue) :
    ∃ t, execClearPoison p d eid ecc s = .next t ∧ t.Sound floor queue := by
  unfold execClearPoison
  (try dsimp -iota only)
  refine ⟨_, rfl, ?_⟩
  repeat' (first
  | with_reducible assumption
  | with_unfolding_none apply State.live_sound
  | with_unfolding_none apply State.cmdDomEcc_sound
  | (intro _ _; (try dsimp -iota only)))

/-- execTandemState answers a next state and keeps the invariant. -/
theorem execTandemState_sound {s : State} (rec : Rec) (hs : s.Sound floor queue) :
    ∃ t, execTandemState rec s = .next t ∧ t.Sound floor queue := by
  unfold execTandemState
  (try dsimp -iota only)
  refine ⟨_, rfl, ?_⟩
  repeat' (first
  | with_reducible assumption
  | with_unfolding_none apply State.live_sound
  | with_unfolding_none apply State.rxTandem_sound
  | (intro _ _; (try dsimp -iota only)))

/-- execTandemDeliv answers a next state and keeps the invariant. -/
theorem execTandemDeliv_sound {s : State} (rec : Rec) (hs : s.Sound floor queue) :
    ∃ t, execTandemDeliv rec s = .next t ∧ t.Sound floor queue := by
  unfold execTandemDeliv
  (try dsimp -iota only)
  refine ⟨_, rfl, ?_⟩
  repeat' (first
  | with_reducible assumption
  | with_unfolding_none apply State.live_sound
  | with_unfolding_none apply State.rxTandem_sound
  | (intro _ _; (try dsimp -iota only)))

/-- execTandemCfg answers a next state and keeps the invariant. -/
theorem execTandemCfg_sound {s : State} (rec : Rec) (hs : s.Sound floor queue) :
    ∃ t, execTandemCfg rec s = .next t ∧ t.Sound floor queue := by
  unfold execTandemCfg
  (try dsimp -iota only)
  refine ⟨_, rfl, ?_⟩
  repeat' (first
  | with_reducible assumption
  | with_unfolding_none apply State.live_sound
  | with_unfolding_none apply State.rxTandem_sound
  | (intro _ _; (try dsimp -iota only)))

/-- execTandemDoorbell answers a next state and keeps the invariant. -/
theorem execTandemDoorbell_sound {s : State} (rec : Rec) (hs : s.Sound floor queue) :
    ∃ t, execTandemDoorbell rec s = .next t ∧ t.Sound floor queue := by
  unfold execTandemDoorbell
  (try dsimp -iota only)
  refine ⟨_, rfl, ?_⟩
  repeat' (first
  | with_reducible assumption
  | with_unfolding_none apply State.live_sound
  | with_unfolding_none apply State.rxTandem_sound
  | (intro _ _; (try dsimp -iota only)))

/-- execTandemAck answers a next state and keeps the invariant. -/
theorem execTandemAck_sound {s : State} (rec : Rec) (hs : s.Sound floor queue) :
    ∃ t, execTandemAck rec s = .next t ∧ t.Sound floor queue := by
  unfold execTandemAck
  (try dsimp -iota only)
  refine ⟨_, rfl, ?_⟩
  repeat' (first
  | with_reducible assumption
  | with_unfolding_none apply State.live_sound
  | with_unfolding_none apply State.rxTandem_sound
  | (intro _ _; (try dsimp -iota only)))

/-- execHeartbeat answers a next state and keeps the invariant. -/
theorem execHeartbeat_sound {s : State} (rec : Rec) (hs : s.Sound floor queue) :
    ∃ t, execHeartbeat rec s = .next t ∧ t.Sound floor queue := by
  unfold execHeartbeat
  (try dsimp -iota only)
  refine ⟨_, rfl, ?_⟩
  repeat' (first
  | with_reducible assumption
  | with_unfolding_none apply State.live_sound
  | with_unfolding_none apply State.rxTandem_sound
  | (intro _ _; (try dsimp -iota only)))

/-- execHello answers a next state and keeps the invariant. -/
theorem execHello_sound {s : State} (rec : Rec) (hs : s.Sound floor queue) :
    ∃ t, execHello rec s = .next t ∧ t.Sound floor queue := by
  unfold execHello
  (try dsimp -iota only)
  refine ⟨_, rfl, ?_⟩
  repeat' (first
  | with_reducible assumption
  | with_unfolding_none apply State.live_sound
  | with_unfolding_none apply State.rxTandem_sound
  | (intro _ _; (try dsimp -iota only)))

/-- execDigest answers a next state and keeps the invariant. -/
theorem execDigest_sound {s : State} (rec : Rec) (hs : s.Sound floor queue) :
    ∃ t, execDigest rec s = .next t ∧ t.Sound floor queue := by
  unfold execDigest
  (try dsimp -iota only)
  refine ⟨_, rfl, ?_⟩
  repeat' (first
  | with_reducible assumption
  | with_unfolding_none apply State.live_sound
  | with_unfolding_none apply State.rxTandem_sound
  | (intro _ _; (try dsimp -iota only)))

/-- execBulk answers a next state and keeps the invariant. -/
theorem execBulk_sound {s : State} (rec : Rec) (hs : s.Sound floor queue) :
    ∃ t, execBulk rec s = .next t ∧ t.Sound floor queue := by
  unfold execBulk
  (try dsimp -iota only)
  refine ⟨_, rfl, ?_⟩
  repeat' (first
  | with_reducible assumption
  | with_unfolding_none apply State.live_sound
  | with_unfolding_none apply State.rxTandem_sound
  | (intro _ _; (try dsimp -iota only)))

/-- execBulkEnd answers a next state and keeps the invariant. -/
theorem execBulkEnd_sound {s : State} (rec : Rec) (hs : s.Sound floor queue) :
    ∃ t, execBulkEnd rec s = .next t ∧ t.Sound floor queue := by
  unfold execBulkEnd
  (try dsimp -iota only)
  refine ⟨_, rfl, ?_⟩
  repeat' (first
  | with_reducible assumption
  | with_unfolding_none apply State.live_sound
  | with_unfolding_none apply State.rxTandem_sound
  | (intro _ _; (try dsimp -iota only)))

/-- execHandover answers a next state and keeps the invariant. -/
theorem execHandover_sound {s : State} (rec : Rec) (hs : s.Sound floor queue) :
    ∃ t, execHandover rec s = .next t ∧ t.Sound floor queue := by
  unfold execHandover
  (try dsimp -iota only)
  refine ⟨_, rfl, ?_⟩
  repeat' (first
  | with_reducible assumption
  | with_unfolding_none apply State.live_sound
  | with_unfolding_none apply State.rxTandem_sound
  | (intro _ _; (try dsimp -iota only)))

/-- execPeerRequest answers a next state and keeps the invariant. -/
theorem execPeerRequest_sound {s : State} (rec : Rec) (hs : s.Sound floor queue) :
    ∃ t, execPeerRequest rec s = .next t ∧ t.Sound floor queue := by
  unfold execPeerRequest
  (try dsimp -iota only)
  refine ⟨_, rfl, ?_⟩
  repeat' (first
  | with_reducible assumption
  | with_unfolding_none apply State.live_sound
  | with_unfolding_none apply State.rxPeer_sound
  | (intro _ _; (try dsimp -iota only)))

/-- execPeerResponse answers a next state and keeps the invariant. -/
theorem execPeerResponse_sound {s : State} (rec : Rec) (hs : s.Sound floor queue) :
    ∃ t, execPeerResponse rec s = .next t ∧ t.Sound floor queue := by
  unfold execPeerResponse
  (try dsimp -iota only)
  refine ⟨_, rfl, ?_⟩
  repeat' (first
  | with_reducible assumption
  | with_unfolding_none apply State.live_sound
  | with_unfolding_none apply State.rxPeer_sound
  | (intro _ _; (try dsimp -iota only)))

/-- execTdmPeerCmd answers a next state and keeps the invariant. -/
theorem execTdmPeerCmd_sound {s : State} (p : Port) (wr : Bool) (off : BitVec 27) (hs : s.Sound floor queue) :
    ∃ t, execTdmPeerCmd p wr off s = .next t ∧ t.Sound floor queue := by
  unfold execTdmPeerCmd
  (try dsimp -iota only)
  refine ⟨_, rfl, ?_⟩
  repeat' (first
  | with_reducible assumption
  | with_unfolding_none apply State.live_sound
  | with_unfolding_none apply State.cmdGlob_sound
  | (intro _ _; (try dsimp -iota only)))

/-- execPeerTimeout answers a next state and keeps the invariant. -/
theorem execPeerTimeout_sound {s : State} (hs : s.Sound floor queue) :
    ∃ t, execPeerTimeout s = .next t ∧ t.Sound floor queue := by
  unfold execPeerTimeout
  (try dsimp -iota only)
  refine ⟨_, rfl, ?_⟩
  repeat' (first
  | with_reducible assumption
  | with_unfolding_none apply State.live_sound
  | with_unfolding_none apply State.peerTimeout_sound)

/-- execHeartbeatSend answers a next state and keeps the invariant. -/
theorem execHeartbeatSend_sound {s : State} (hs : s.Sound floor queue) :
    ∃ t, execHeartbeatSend s = .next t ∧ t.Sound floor queue := by
  unfold execHeartbeatSend
  (try dsimp -iota only)
  refine ⟨_, rfl, ?_⟩
  repeat' (first
  | with_reducible assumption
  | with_unfolding_none apply State.live_sound
  | with_unfolding_none apply State.onRingClk_sound
  | with_unfolding_none apply State.heartbeatSend_sound
  | (intro _ _; (try dsimp -iota only)))

/-- execHelloSend answers a next state and keeps the invariant. -/
theorem execHelloSend_sound {s : State} (hs : s.Sound floor queue) :
    ∃ t, execHelloSend s = .next t ∧ t.Sound floor queue := by
  unfold execHelloSend
  (try dsimp -iota only)
  refine ⟨_, rfl, ?_⟩
  repeat' (first
  | with_reducible assumption
  | with_unfolding_none apply State.live_sound
  | with_unfolding_none apply State.onRingClk_sound
  | with_unfolding_none apply State.helloSend_sound
  | (intro _ _; (try dsimp -iota only)))

/-- execAckSend answers a next state and keeps the invariant. -/
theorem execAckSend_sound {s : State} (hs : s.Sound floor queue) :
    ∃ t, execAckSend s = .next t ∧ t.Sound floor queue := by
  unfold execAckSend
  (try dsimp -iota only)
  refine ⟨_, rfl, ?_⟩
  repeat' (first
  | with_reducible assumption
  | with_unfolding_none apply State.live_sound
  | with_unfolding_none apply State.onRingClk_sound
  | with_unfolding_none apply State.ackSend_sound
  | (intro _ _; (try dsimp -iota only)))

/-- execPrimaryLost answers a next state and keeps the invariant. -/
theorem execPrimaryLost_sound {s : State} (hs : s.Sound floor queue) :
    ∃ t, execPrimaryLost s = .next t ∧ t.Sound floor queue := by
  unfold execPrimaryLost
  (try dsimp -iota only)
  refine ⟨_, rfl, ?_⟩
  repeat' (first
  | with_reducible assumption
  | with_unfolding_none apply State.live_sound
  | with_unfolding_none apply State.onRingClk_sound
  | with_unfolding_none apply State.primaryLost_sound
  | (intro _ _; (try dsimp -iota only)))

/-- execSwitch answers a next state and keeps the invariant. -/
theorem execSwitch_sound {s : State} (p : Port) (hs : s.Sound floor queue) :
    ∃ t, execSwitch p s = .next t ∧ t.Sound floor queue := by
  unfold execSwitch
  (try dsimp -iota only)
  refine ⟨_, rfl, ?_⟩
  repeat' (first
  | with_reducible assumption
  | with_unfolding_none apply State.live_sound
  | with_unfolding_none apply State.cmdGlob_sound
  | (intro _ _; (try dsimp -iota only)))

/-- execFtToggle answers a next state and keeps the invariant. -/
theorem execFtToggle_sound {s : State} (ft : BitVec 64) (hs : s.Sound floor queue) :
    ∃ t, execFtToggle ft s = .next t ∧ t.Sound floor queue := by
  unfold execFtToggle
  (try dsimp -iota only)
  refine ⟨_, rfl, ?_⟩
  repeat' (first
  | with_reducible assumption
  | with_unfolding_none apply State.ftToggleRun_sound
  | with_unfolding_none apply State.sound_ite)

/-- execHoldover answers a next state and keeps the invariant. -/
theorem execHoldover_sound {s : State} (hs : s.Sound floor queue) :
    ∃ t, execHoldover s = .next t ∧ t.Sound floor queue := by
  unfold execHoldover
  (try dsimp -iota only)
  refine ⟨_, rfl, ?_⟩
  repeat' (first
  | with_reducible assumption
  | with_unfolding_none apply State.holdover_sound
  | with_unfolding_none apply State.sound_ite)

/-- execSnap answers a next state and keeps the invariant. -/
theorem execSnap_sound {s : State} (p : Port) (hs : s.Sound floor queue) :
    ∃ t, execSnap p s = .next t ∧ t.Sound floor queue := by
  unfold execSnap
  (try dsimp -iota only)
  refine ⟨_, rfl, ?_⟩
  repeat' (first
  | with_reducible assumption
  | with_unfolding_none apply State.live_sound
  | with_unfolding_none apply State.changeGlob_sound
  | (intro _ _; (try dsimp -iota only)))

/-- execSnapClr answers a next state and keeps the invariant. -/
theorem execSnapClr_sound {s : State} (p : Port) (hs : s.Sound floor queue) :
    ∃ t, execSnapClr p s = .next t ∧ t.Sound floor queue := by
  unfold execSnapClr
  (try dsimp -iota only)
  refine ⟨_, rfl, ?_⟩
  repeat' (first
  | with_reducible assumption
  | with_unfolding_none apply State.live_sound
  | with_unfolding_none apply State.changeGlob_sound
  | (intro _ _; (try dsimp -iota only)))

/-- execClrAll answers a next state and keeps the invariant. -/
theorem execClrAll_sound {s : State} (p : Port) (hs : s.Sound floor queue) :
    ∃ t, execClrAll p s = .next t ∧ t.Sound floor queue := by
  unfold execClrAll
  (try dsimp -iota only)
  refine ⟨_, rfl, ?_⟩
  repeat' (first
  | with_reducible assumption
  | with_unfolding_none apply State.live_sound
  | with_unfolding_none apply State.changeGlob_sound
  | (intro _ _; (try dsimp -iota only)))

/-- execBwClr answers a next state and keeps the invariant. -/
theorem execBwClr_sound {s : State} (p : Port) (hs : s.Sound floor queue) :
    ∃ t, execBwClr p s = .next t ∧ t.Sound floor queue := by
  unfold execBwClr
  (try dsimp -iota only)
  refine ⟨_, rfl, ?_⟩
  repeat' (first
  | with_reducible assumption
  | with_unfolding_none apply State.live_sound
  | with_unfolding_none apply State.changeGlob_sound
  | (intro _ _; (try dsimp -iota only)))

/-- execTelCntWrite answers a next state and keeps the invariant. -/
theorem execTelCntWrite_sound {s : State} (p : Port) (index : BitVec 24) (hs : s.Sound floor queue) :
    ∃ t, execTelCntWrite p index s = .next t ∧ t.Sound floor queue := by
  unfold execTelCntWrite
  (try dsimp -iota only)
  refine ⟨_, rfl, ?_⟩
  repeat' (first
  | with_reducible assumption
  | with_unfolding_none apply State.live_sound
  | with_unfolding_none apply State.cmdGlob_sound
  | (intro _ _; (try dsimp -iota only)))

/-- execTelCntClearOvf answers a next state and keeps the invariant. -/
theorem execTelCntClearOvf_sound {s : State} (p : Port) (index : BitVec 24) (hs : s.Sound floor queue) :
    ∃ t, execTelCntClearOvf p index s = .next t ∧ t.Sound floor queue := by
  unfold execTelCntClearOvf
  (try dsimp -iota only)
  refine ⟨_, rfl, ?_⟩
  repeat' (first
  | with_reducible assumption
  | with_unfolding_none apply State.live_sound
  | with_unfolding_none apply State.cmdGlob_sound
  | (intro _ _; (try dsimp -iota only)))

/-- execTelemetryWindowEnd answers a next state and keeps the invariant. -/
theorem execTelemetryWindowEnd_sound {s : State} (ecc : Ecc) (hs : s.Sound floor queue) :
    ∃ t, execTelemetryWindowEnd ecc s = .next t ∧ t.Sound floor queue := by
  unfold execTelemetryWindowEnd
  (try dsimp -iota only)
  refine ⟨_, rfl, ?_⟩
  repeat' (first
  | with_reducible assumption
  | with_unfolding_none apply State.live_sound
  | with_unfolding_none apply State.onCoreClock_sound
  | with_unfolding_none apply State.counterEcc_sound
  | with_unfolding_none apply State.winClose_sound
  | (intro _ _; (try dsimp -iota only)))

/-- execLevelSample answers a next state and keeps the invariant. -/
theorem execLevelSample_sound {s : State} (hs : s.Sound floor queue) :
    ∃ t, execLevelSample s = .next t ∧ t.Sound floor queue := by
  unfold execLevelSample
  (try dsimp -iota only)
  refine ⟨_, rfl, ?_⟩
  repeat' (first
  | with_reducible assumption
  | with_unfolding_none apply State.live_sound
  | with_unfolding_none apply State.onCoreClock_sound
  | with_unfolding_none apply State.levelSample_sound
  | (intro _ _; (try dsimp -iota only)))

/-- execProbeCfgWrite answers a next state and keeps the invariant. -/
theorem execProbeCfgWrite_sound {s : State} (p : Port) (probe : BitVec 4) (base : Bool) (data : Word) (hs : s.Sound floor queue) :
    ∃ t, execProbeCfgWrite p probe base data s = .next t ∧ t.Sound floor queue := by
  unfold execProbeCfgWrite
  (try dsimp -iota only)
  refine ⟨_, rfl, ?_⟩
  repeat' (first
  | with_reducible assumption
  | with_unfolding_none apply State.live_sound
  | with_unfolding_none apply State.writeGlob_sound
  | (intro _ _; (try dsimp -iota only)))

/-- execSamplerRecord answers a next state and keeps the invariant. -/
theorem execSamplerRecord_sound {s : State} (hs : s.Sound floor queue) :
    ∃ t, execSamplerRecord s = .next t ∧ t.Sound floor queue := by
  unfold execSamplerRecord
  (try dsimp -iota only)
  refine ⟨_, rfl, ?_⟩
  repeat' (first
  | with_reducible assumption
  | with_unfolding_none apply State.live_sound
  | with_unfolding_none apply State.onCoreClock_sound
  | with_unfolding_none apply State.samplerRecord_sound
  | (intro _ _; (try dsimp -iota only)))

/-- execErrPendRead answers a next state and keeps the invariant. -/
theorem execErrPendRead_sound {s : State} (p : Port) (hs : s.Sound floor queue) :
    ∃ t, execErrPendRead p s = .next t ∧ t.Sound floor queue := by
  unfold execErrPendRead
  (try dsimp -iota only)
  refine ⟨_, rfl, ?_⟩
  repeat' (first
  | with_reducible assumption
  | with_unfolding_none apply State.live_sound
  | with_unfolding_none apply State.readGlob_sound
  | (intro _ _; (try dsimp -iota only)))

end Sys2Proof.Machine
end

