-- ==== Sys2Proof/Laws/State.lean ====
section
/-! SUPPORT. One lemma for each component and each basic update of the state: what the update leaves as it was. -/

namespace Sys2Proof.Machine

@[simp] theorem State.setReg_bnd (s : State) (r : Reg) (i : Nat) (w : Word) : (s.setReg r i w).bnd = s.bnd := rfl
@[simp] theorem State.setReg_img (s : State) (r : Reg) (i : Nat) (w : Word) : (s.setReg r i w).img = s.img := rfl
@[simp] theorem State.setReg_tim (s : State) (r : Reg) (i : Nat) (w : Word) : (s.setReg r i w).tim = s.tim := rfl
@[simp] theorem State.setReg_tel (s : State) (r : Reg) (i : Nat) (w : Word) : (s.setReg r i w).tel = s.tel := rfl
@[simp] theorem State.setReg_intk (s : State) (r : Reg) (i : Nat) (w : Word) : (s.setReg r i w).intk = s.intk := rfl
@[simp] theorem State.setReg_src (s : State) (r : Reg) (i : Nat) (w : Word) : (s.setReg r i w).src = s.src := rfl
@[simp] theorem State.setReg_sst (s : State) (r : Reg) (i : Nat) (w : Word) : (s.setReg r i w).sst = s.sst := rfl
@[simp] theorem State.setReg_dep (s : State) (r : Reg) (i : Nat) (w : Word) : (s.setReg r i w).dep = s.dep := rfl
@[simp] theorem State.setReg_cvn (s : State) (r : Reg) (i : Nat) (w : Word) : (s.setReg r i w).cvn = s.cvn := rfl
@[simp] theorem State.setReg_rnk (s : State) (r : Reg) (i : Nat) (w : Word) : (s.setReg r i w).rnk = s.rnk := rfl
@[simp] theorem State.setReg_wwl (s : State) (r : Reg) (i : Nat) (w : Word) : (s.setReg r i w).wwl = s.wwl := rfl
@[simp] theorem State.setReg_oas (s : State) (r : Reg) (i : Nat) (w : Word) : (s.setReg r i w).oas = s.oas := rfl
@[simp] theorem State.setReg_dlv (s : State) (r : Reg) (i : Nat) (w : Word) : (s.setReg r i w).dlv = s.dlv := rfl
@[simp] theorem State.setReg_way (s : State) (r : Reg) (i : Nat) (w : Word) : (s.setReg r i w).way = s.way := rfl
@[simp] theorem State.setReg_rpl (s : State) (r : Reg) (i : Nat) (w : Word) : (s.setReg r i w).rpl = s.rpl := rfl
@[simp] theorem State.setReg_vfm (s : State) (r : Reg) (i : Nat) (w : Word) : (s.setReg r i w).vfm = s.vfm := rfl
@[simp] theorem State.setReg_chl (s : State) (r : Reg) (i : Nat) (w : Word) : (s.setReg r i w).chl = s.chl := rfl
@[simp] theorem State.setReg_tdm (s : State) (r : Reg) (i : Nat) (w : Word) : (s.setReg r i w).tdm = s.tdm := rfl
@[simp] theorem State.setReg_pwr (s : State) (r : Reg) (i : Nat) (w : Word) : (s.setReg r i w).pwr = s.pwr := rfl
@[simp] theorem State.setReg_imgl (s : State) (r : Reg) (i : Nat) (w : Word) : (s.setReg r i w).imgl = s.imgl := rfl
@[simp] theorem State.setReg_cfg (s : State) (r : Reg) (i : Nat) (w : Word) : (s.setReg r i w).cfg = s.cfg := rfl
@[simp] theorem State.setReg_sav (s : State) (r : Reg) (i : Nat) (w : Word) : (s.setReg r i w).sav = s.sav := rfl
@[simp] theorem State.setReg_boot (s : State) (r : Reg) (i : Nat) (w : Word) : (s.setReg r i w).boot = s.boot := rfl
@[simp] theorem State.setReg_errs (s : State) (r : Reg) (i : Nat) (w : Word) : (s.setReg r i w).errs = s.errs := rfl
@[simp] theorem State.setReg_io (s : State) (r : Reg) (i : Nat) (w : Word) : (s.setReg r i w).io = s.io := rfl
@[simp] theorem State.setReg_pending (s : State) (r : Reg) (i : Nat) (w : Word) : (s.setReg r i w).pending = s.pending := rfl

@[simp] theorem State.setFld_bnd (s : State) (f : Field) (i : Nat) (v : Nat) : (s.setFld f i v).bnd = s.bnd := rfl
@[simp] theorem State.setFld_img (s : State) (f : Field) (i : Nat) (v : Nat) : (s.setFld f i v).img = s.img := rfl
@[simp] theorem State.setFld_tim (s : State) (f : Field) (i : Nat) (v : Nat) : (s.setFld f i v).tim = s.tim := rfl
@[simp] theorem State.setFld_tel (s : State) (f : Field) (i : Nat) (v : Nat) : (s.setFld f i v).tel = s.tel := rfl
@[simp] theorem State.setFld_intk (s : State) (f : Field) (i : Nat) (v : Nat) : (s.setFld f i v).intk = s.intk := rfl
@[simp] theorem State.setFld_src (s : State) (f : Field) (i : Nat) (v : Nat) : (s.setFld f i v).src = s.src := rfl
@[simp] theorem State.setFld_sst (s : State) (f : Field) (i : Nat) (v : Nat) : (s.setFld f i v).sst = s.sst := rfl
@[simp] theorem State.setFld_dep (s : State) (f : Field) (i : Nat) (v : Nat) : (s.setFld f i v).dep = s.dep := rfl
@[simp] theorem State.setFld_cvn (s : State) (f : Field) (i : Nat) (v : Nat) : (s.setFld f i v).cvn = s.cvn := rfl
@[simp] theorem State.setFld_rnk (s : State) (f : Field) (i : Nat) (v : Nat) : (s.setFld f i v).rnk = s.rnk := rfl
@[simp] theorem State.setFld_wwl (s : State) (f : Field) (i : Nat) (v : Nat) : (s.setFld f i v).wwl = s.wwl := rfl
@[simp] theorem State.setFld_oas (s : State) (f : Field) (i : Nat) (v : Nat) : (s.setFld f i v).oas = s.oas := rfl
@[simp] theorem State.setFld_dlv (s : State) (f : Field) (i : Nat) (v : Nat) : (s.setFld f i v).dlv = s.dlv := rfl
@[simp] theorem State.setFld_way (s : State) (f : Field) (i : Nat) (v : Nat) : (s.setFld f i v).way = s.way := rfl
@[simp] theorem State.setFld_rpl (s : State) (f : Field) (i : Nat) (v : Nat) : (s.setFld f i v).rpl = s.rpl := rfl
@[simp] theorem State.setFld_vfm (s : State) (f : Field) (i : Nat) (v : Nat) : (s.setFld f i v).vfm = s.vfm := rfl
@[simp] theorem State.setFld_chl (s : State) (f : Field) (i : Nat) (v : Nat) : (s.setFld f i v).chl = s.chl := rfl
@[simp] theorem State.setFld_tdm (s : State) (f : Field) (i : Nat) (v : Nat) : (s.setFld f i v).tdm = s.tdm := rfl
@[simp] theorem State.setFld_pwr (s : State) (f : Field) (i : Nat) (v : Nat) : (s.setFld f i v).pwr = s.pwr := rfl
@[simp] theorem State.setFld_imgl (s : State) (f : Field) (i : Nat) (v : Nat) : (s.setFld f i v).imgl = s.imgl := rfl
@[simp] theorem State.setFld_cfg (s : State) (f : Field) (i : Nat) (v : Nat) : (s.setFld f i v).cfg = s.cfg := rfl
@[simp] theorem State.setFld_sav (s : State) (f : Field) (i : Nat) (v : Nat) : (s.setFld f i v).sav = s.sav := rfl
@[simp] theorem State.setFld_boot (s : State) (f : Field) (i : Nat) (v : Nat) : (s.setFld f i v).boot = s.boot := rfl
@[simp] theorem State.setFld_errs (s : State) (f : Field) (i : Nat) (v : Nat) : (s.setFld f i v).errs = s.errs := rfl
@[simp] theorem State.setFld_io (s : State) (f : Field) (i : Nat) (v : Nat) : (s.setFld f i v).io = s.io := rfl
@[simp] theorem State.setFld_pending (s : State) (f : Field) (i : Nat) (v : Nat) : (s.setFld f i v).pending = s.pending := rfl

@[simp] theorem State.setBnd_regs (s : State) (r : Reg) (i : Nat) (w : Word) : (s.setBnd r i w).regs = s.regs := rfl
@[simp] theorem State.setBnd_img (s : State) (r : Reg) (i : Nat) (w : Word) : (s.setBnd r i w).img = s.img := rfl
@[simp] theorem State.setBnd_tim (s : State) (r : Reg) (i : Nat) (w : Word) : (s.setBnd r i w).tim = s.tim := rfl
@[simp] theorem State.setBnd_tel (s : State) (r : Reg) (i : Nat) (w : Word) : (s.setBnd r i w).tel = s.tel := rfl
@[simp] theorem State.setBnd_intk (s : State) (r : Reg) (i : Nat) (w : Word) : (s.setBnd r i w).intk = s.intk := rfl
@[simp] theorem State.setBnd_src (s : State) (r : Reg) (i : Nat) (w : Word) : (s.setBnd r i w).src = s.src := rfl
@[simp] theorem State.setBnd_sst (s : State) (r : Reg) (i : Nat) (w : Word) : (s.setBnd r i w).sst = s.sst := rfl
@[simp] theorem State.setBnd_dep (s : State) (r : Reg) (i : Nat) (w : Word) : (s.setBnd r i w).dep = s.dep := rfl
@[simp] theorem State.setBnd_cvn (s : State) (r : Reg) (i : Nat) (w : Word) : (s.setBnd r i w).cvn = s.cvn := rfl
@[simp] theorem State.setBnd_rnk (s : State) (r : Reg) (i : Nat) (w : Word) : (s.setBnd r i w).rnk = s.rnk := rfl
@[simp] theorem State.setBnd_wwl (s : State) (r : Reg) (i : Nat) (w : Word) : (s.setBnd r i w).wwl = s.wwl := rfl
@[simp] theorem State.setBnd_oas (s : State) (r : Reg) (i : Nat) (w : Word) : (s.setBnd r i w).oas = s.oas := rfl
@[simp] theorem State.setBnd_dlv (s : State) (r : Reg) (i : Nat) (w : Word) : (s.setBnd r i w).dlv = s.dlv := rfl
@[simp] theorem State.setBnd_way (s : State) (r : Reg) (i : Nat) (w : Word) : (s.setBnd r i w).way = s.way := rfl
@[simp] theorem State.setBnd_rpl (s : State) (r : Reg) (i : Nat) (w : Word) : (s.setBnd r i w).rpl = s.rpl := rfl
@[simp] theorem State.setBnd_vfm (s : State) (r : Reg) (i : Nat) (w : Word) : (s.setBnd r i w).vfm = s.vfm := rfl
@[simp] theorem State.setBnd_chl (s : State) (r : Reg) (i : Nat) (w : Word) : (s.setBnd r i w).chl = s.chl := rfl
@[simp] theorem State.setBnd_tdm (s : State) (r : Reg) (i : Nat) (w : Word) : (s.setBnd r i w).tdm = s.tdm := rfl
@[simp] theorem State.setBnd_pwr (s : State) (r : Reg) (i : Nat) (w : Word) : (s.setBnd r i w).pwr = s.pwr := rfl
@[simp] theorem State.setBnd_imgl (s : State) (r : Reg) (i : Nat) (w : Word) : (s.setBnd r i w).imgl = s.imgl := rfl
@[simp] theorem State.setBnd_cfg (s : State) (r : Reg) (i : Nat) (w : Word) : (s.setBnd r i w).cfg = s.cfg := rfl
@[simp] theorem State.setBnd_sav (s : State) (r : Reg) (i : Nat) (w : Word) : (s.setBnd r i w).sav = s.sav := rfl
@[simp] theorem State.setBnd_boot (s : State) (r : Reg) (i : Nat) (w : Word) : (s.setBnd r i w).boot = s.boot := rfl
@[simp] theorem State.setBnd_errs (s : State) (r : Reg) (i : Nat) (w : Word) : (s.setBnd r i w).errs = s.errs := rfl
@[simp] theorem State.setBnd_io (s : State) (r : Reg) (i : Nat) (w : Word) : (s.setBnd r i w).io = s.io := rfl
@[simp] theorem State.setBnd_pending (s : State) (r : Reg) (i : Nat) (w : Word) : (s.setBnd r i w).pending = s.pending := rfl

@[simp] theorem State.dropBnd_regs (s : State) (r : Reg) (i : Nat) : (s.dropBnd r i).regs = s.regs := rfl
@[simp] theorem State.dropBnd_img (s : State) (r : Reg) (i : Nat) : (s.dropBnd r i).img = s.img := rfl
@[simp] theorem State.dropBnd_tim (s : State) (r : Reg) (i : Nat) : (s.dropBnd r i).tim = s.tim := rfl
@[simp] theorem State.dropBnd_tel (s : State) (r : Reg) (i : Nat) : (s.dropBnd r i).tel = s.tel := rfl
@[simp] theorem State.dropBnd_intk (s : State) (r : Reg) (i : Nat) : (s.dropBnd r i).intk = s.intk := rfl
@[simp] theorem State.dropBnd_src (s : State) (r : Reg) (i : Nat) : (s.dropBnd r i).src = s.src := rfl
@[simp] theorem State.dropBnd_sst (s : State) (r : Reg) (i : Nat) : (s.dropBnd r i).sst = s.sst := rfl
@[simp] theorem State.dropBnd_dep (s : State) (r : Reg) (i : Nat) : (s.dropBnd r i).dep = s.dep := rfl
@[simp] theorem State.dropBnd_cvn (s : State) (r : Reg) (i : Nat) : (s.dropBnd r i).cvn = s.cvn := rfl
@[simp] theorem State.dropBnd_rnk (s : State) (r : Reg) (i : Nat) : (s.dropBnd r i).rnk = s.rnk := rfl
@[simp] theorem State.dropBnd_wwl (s : State) (r : Reg) (i : Nat) : (s.dropBnd r i).wwl = s.wwl := rfl
@[simp] theorem State.dropBnd_oas (s : State) (r : Reg) (i : Nat) : (s.dropBnd r i).oas = s.oas := rfl
@[simp] theorem State.dropBnd_dlv (s : State) (r : Reg) (i : Nat) : (s.dropBnd r i).dlv = s.dlv := rfl
@[simp] theorem State.dropBnd_way (s : State) (r : Reg) (i : Nat) : (s.dropBnd r i).way = s.way := rfl
@[simp] theorem State.dropBnd_rpl (s : State) (r : Reg) (i : Nat) : (s.dropBnd r i).rpl = s.rpl := rfl
@[simp] theorem State.dropBnd_vfm (s : State) (r : Reg) (i : Nat) : (s.dropBnd r i).vfm = s.vfm := rfl
@[simp] theorem State.dropBnd_chl (s : State) (r : Reg) (i : Nat) : (s.dropBnd r i).chl = s.chl := rfl
@[simp] theorem State.dropBnd_tdm (s : State) (r : Reg) (i : Nat) : (s.dropBnd r i).tdm = s.tdm := rfl
@[simp] theorem State.dropBnd_pwr (s : State) (r : Reg) (i : Nat) : (s.dropBnd r i).pwr = s.pwr := rfl
@[simp] theorem State.dropBnd_imgl (s : State) (r : Reg) (i : Nat) : (s.dropBnd r i).imgl = s.imgl := rfl
@[simp] theorem State.dropBnd_cfg (s : State) (r : Reg) (i : Nat) : (s.dropBnd r i).cfg = s.cfg := rfl
@[simp] theorem State.dropBnd_sav (s : State) (r : Reg) (i : Nat) : (s.dropBnd r i).sav = s.sav := rfl
@[simp] theorem State.dropBnd_boot (s : State) (r : Reg) (i : Nat) : (s.dropBnd r i).boot = s.boot := rfl
@[simp] theorem State.dropBnd_errs (s : State) (r : Reg) (i : Nat) : (s.dropBnd r i).errs = s.errs := rfl
@[simp] theorem State.dropBnd_io (s : State) (r : Reg) (i : Nat) : (s.dropBnd r i).io = s.io := rfl
@[simp] theorem State.dropBnd_pending (s : State) (r : Reg) (i : Nat) : (s.dropBnd r i).pending = s.pending := rfl

@[simp] theorem State.setDepByte_regs (s : State) (a : Nat) (b : Byte) : (s.setDepByte a b).regs = s.regs := rfl
@[simp] theorem State.setDepByte_bnd (s : State) (a : Nat) (b : Byte) : (s.setDepByte a b).bnd = s.bnd := rfl
@[simp] theorem State.setDepByte_img (s : State) (a : Nat) (b : Byte) : (s.setDepByte a b).img = s.img := rfl
@[simp] theorem State.setDepByte_tim (s : State) (a : Nat) (b : Byte) : (s.setDepByte a b).tim = s.tim := rfl
@[simp] theorem State.setDepByte_tel (s : State) (a : Nat) (b : Byte) : (s.setDepByte a b).tel = s.tel := rfl
@[simp] theorem State.setDepByte_intk (s : State) (a : Nat) (b : Byte) : (s.setDepByte a b).intk = s.intk := rfl
@[simp] theorem State.setDepByte_src (s : State) (a : Nat) (b : Byte) : (s.setDepByte a b).src = s.src := rfl
@[simp] theorem State.setDepByte_sst (s : State) (a : Nat) (b : Byte) : (s.setDepByte a b).sst = s.sst := rfl
@[simp] theorem State.setDepByte_cvn (s : State) (a : Nat) (b : Byte) : (s.setDepByte a b).cvn = s.cvn := rfl
@[simp] theorem State.setDepByte_rnk (s : State) (a : Nat) (b : Byte) : (s.setDepByte a b).rnk = s.rnk := rfl
@[simp] theorem State.setDepByte_wwl (s : State) (a : Nat) (b : Byte) : (s.setDepByte a b).wwl = s.wwl := rfl
@[simp] theorem State.setDepByte_oas (s : State) (a : Nat) (b : Byte) : (s.setDepByte a b).oas = s.oas := rfl
@[simp] theorem State.setDepByte_dlv (s : State) (a : Nat) (b : Byte) : (s.setDepByte a b).dlv = s.dlv := rfl
@[simp] theorem State.setDepByte_way (s : State) (a : Nat) (b : Byte) : (s.setDepByte a b).way = s.way := rfl
@[simp] theorem State.setDepByte_rpl (s : State) (a : Nat) (b : Byte) : (s.setDepByte a b).rpl = s.rpl := rfl
@[simp] theorem State.setDepByte_vfm (s : State) (a : Nat) (b : Byte) : (s.setDepByte a b).vfm = s.vfm := rfl
@[simp] theorem State.setDepByte_chl (s : State) (a : Nat) (b : Byte) : (s.setDepByte a b).chl = s.chl := rfl
@[simp] theorem State.setDepByte_tdm (s : State) (a : Nat) (b : Byte) : (s.setDepByte a b).tdm = s.tdm := rfl
@[simp] theorem State.setDepByte_pwr (s : State) (a : Nat) (b : Byte) : (s.setDepByte a b).pwr = s.pwr := rfl
@[simp] theorem State.setDepByte_imgl (s : State) (a : Nat) (b : Byte) : (s.setDepByte a b).imgl = s.imgl := rfl
@[simp] theorem State.setDepByte_cfg (s : State) (a : Nat) (b : Byte) : (s.setDepByte a b).cfg = s.cfg := rfl
@[simp] theorem State.setDepByte_sav (s : State) (a : Nat) (b : Byte) : (s.setDepByte a b).sav = s.sav := rfl
@[simp] theorem State.setDepByte_boot (s : State) (a : Nat) (b : Byte) : (s.setDepByte a b).boot = s.boot := rfl
@[simp] theorem State.setDepByte_errs (s : State) (a : Nat) (b : Byte) : (s.setDepByte a b).errs = s.errs := rfl
@[simp] theorem State.setDepByte_io (s : State) (a : Nat) (b : Byte) : (s.setDepByte a b).io = s.io := rfl
@[simp] theorem State.setDepByte_pending (s : State) (a : Nat) (b : Byte) : (s.setDepByte a b).pending = s.pending := rfl

@[simp] theorem State.freeDepTag_regs (s : State) (t : Nat) : (s.freeDepTag t).regs = s.regs := rfl
@[simp] theorem State.freeDepTag_bnd (s : State) (t : Nat) : (s.freeDepTag t).bnd = s.bnd := rfl
@[simp] theorem State.freeDepTag_img (s : State) (t : Nat) : (s.freeDepTag t).img = s.img := rfl
@[simp] theorem State.freeDepTag_tim (s : State) (t : Nat) : (s.freeDepTag t).tim = s.tim := rfl
@[simp] theorem State.freeDepTag_tel (s : State) (t : Nat) : (s.freeDepTag t).tel = s.tel := rfl
@[simp] theorem State.freeDepTag_intk (s : State) (t : Nat) : (s.freeDepTag t).intk = s.intk := rfl
@[simp] theorem State.freeDepTag_src (s : State) (t : Nat) : (s.freeDepTag t).src = s.src := rfl
@[simp] theorem State.freeDepTag_sst (s : State) (t : Nat) : (s.freeDepTag t).sst = s.sst := rfl
@[simp] theorem State.freeDepTag_cvn (s : State) (t : Nat) : (s.freeDepTag t).cvn = s.cvn := rfl
@[simp] theorem State.freeDepTag_rnk (s : State) (t : Nat) : (s.freeDepTag t).rnk = s.rnk := rfl
@[simp] theorem State.freeDepTag_wwl (s : State) (t : Nat) : (s.freeDepTag t).wwl = s.wwl := rfl
@[simp] theorem State.freeDepTag_oas (s : State) (t : Nat) : (s.freeDepTag t).oas = s.oas := rfl
@[simp] theorem State.freeDepTag_dlv (s : State) (t : Nat) : (s.freeDepTag t).dlv = s.dlv := rfl
@[simp] theorem State.freeDepTag_way (s : State) (t : Nat) : (s.freeDepTag t).way = s.way := rfl
@[simp] theorem State.freeDepTag_rpl (s : State) (t : Nat) : (s.freeDepTag t).rpl = s.rpl := rfl
@[simp] theorem State.freeDepTag_vfm (s : State) (t : Nat) : (s.freeDepTag t).vfm = s.vfm := rfl
@[simp] theorem State.freeDepTag_chl (s : State) (t : Nat) : (s.freeDepTag t).chl = s.chl := rfl
@[simp] theorem State.freeDepTag_tdm (s : State) (t : Nat) : (s.freeDepTag t).tdm = s.tdm := rfl
@[simp] theorem State.freeDepTag_pwr (s : State) (t : Nat) : (s.freeDepTag t).pwr = s.pwr := rfl
@[simp] theorem State.freeDepTag_imgl (s : State) (t : Nat) : (s.freeDepTag t).imgl = s.imgl := rfl
@[simp] theorem State.freeDepTag_cfg (s : State) (t : Nat) : (s.freeDepTag t).cfg = s.cfg := rfl
@[simp] theorem State.freeDepTag_sav (s : State) (t : Nat) : (s.freeDepTag t).sav = s.sav := rfl
@[simp] theorem State.freeDepTag_boot (s : State) (t : Nat) : (s.freeDepTag t).boot = s.boot := rfl
@[simp] theorem State.freeDepTag_errs (s : State) (t : Nat) : (s.freeDepTag t).errs = s.errs := rfl
@[simp] theorem State.freeDepTag_io (s : State) (t : Nat) : (s.freeDepTag t).io = s.io := rfl
@[simp] theorem State.freeDepTag_pending (s : State) (t : Nat) : (s.freeDepTag t).pending = s.pending := rfl

@[simp] theorem State.setJrnl_regs (s : State) (d : Nat) (j : Jrnl) : (s.setJrnl d j).regs = s.regs := rfl
@[simp] theorem State.setJrnl_bnd (s : State) (d : Nat) (j : Jrnl) : (s.setJrnl d j).bnd = s.bnd := rfl
@[simp] theorem State.setJrnl_img (s : State) (d : Nat) (j : Jrnl) : (s.setJrnl d j).img = s.img := rfl
@[simp] theorem State.setJrnl_tim (s : State) (d : Nat) (j : Jrnl) : (s.setJrnl d j).tim = s.tim := rfl
@[simp] theorem State.setJrnl_tel (s : State) (d : Nat) (j : Jrnl) : (s.setJrnl d j).tel = s.tel := rfl
@[simp] theorem State.setJrnl_intk (s : State) (d : Nat) (j : Jrnl) : (s.setJrnl d j).intk = s.intk := rfl
@[simp] theorem State.setJrnl_src (s : State) (d : Nat) (j : Jrnl) : (s.setJrnl d j).src = s.src := rfl
@[simp] theorem State.setJrnl_sst (s : State) (d : Nat) (j : Jrnl) : (s.setJrnl d j).sst = s.sst := rfl
@[simp] theorem State.setJrnl_dep (s : State) (d : Nat) (j : Jrnl) : (s.setJrnl d j).dep = s.dep := rfl
@[simp] theorem State.setJrnl_cvn (s : State) (d : Nat) (j : Jrnl) : (s.setJrnl d j).cvn = s.cvn := rfl
@[simp] theorem State.setJrnl_rnk (s : State) (d : Nat) (j : Jrnl) : (s.setJrnl d j).rnk = s.rnk := rfl
@[simp] theorem State.setJrnl_wwl (s : State) (d : Nat) (j : Jrnl) : (s.setJrnl d j).wwl = s.wwl := rfl
@[simp] theorem State.setJrnl_oas (s : State) (d : Nat) (j : Jrnl) : (s.setJrnl d j).oas = s.oas := rfl
@[simp] theorem State.setJrnl_dlv (s : State) (d : Nat) (j : Jrnl) : (s.setJrnl d j).dlv = s.dlv := rfl
@[simp] theorem State.setJrnl_rpl (s : State) (d : Nat) (j : Jrnl) : (s.setJrnl d j).rpl = s.rpl := rfl
@[simp] theorem State.setJrnl_vfm (s : State) (d : Nat) (j : Jrnl) : (s.setJrnl d j).vfm = s.vfm := rfl
@[simp] theorem State.setJrnl_chl (s : State) (d : Nat) (j : Jrnl) : (s.setJrnl d j).chl = s.chl := rfl
@[simp] theorem State.setJrnl_tdm (s : State) (d : Nat) (j : Jrnl) : (s.setJrnl d j).tdm = s.tdm := rfl
@[simp] theorem State.setJrnl_pwr (s : State) (d : Nat) (j : Jrnl) : (s.setJrnl d j).pwr = s.pwr := rfl
@[simp] theorem State.setJrnl_imgl (s : State) (d : Nat) (j : Jrnl) : (s.setJrnl d j).imgl = s.imgl := rfl
@[simp] theorem State.setJrnl_cfg (s : State) (d : Nat) (j : Jrnl) : (s.setJrnl d j).cfg = s.cfg := rfl
@[simp] theorem State.setJrnl_sav (s : State) (d : Nat) (j : Jrnl) : (s.setJrnl d j).sav = s.sav := rfl
@[simp] theorem State.setJrnl_boot (s : State) (d : Nat) (j : Jrnl) : (s.setJrnl d j).boot = s.boot := rfl
@[simp] theorem State.setJrnl_errs (s : State) (d : Nat) (j : Jrnl) : (s.setJrnl d j).errs = s.errs := rfl
@[simp] theorem State.setJrnl_io (s : State) (d : Nat) (j : Jrnl) : (s.setJrnl d j).io = s.io := rfl
@[simp] theorem State.setJrnl_pending (s : State) (d : Nat) (j : Jrnl) : (s.setJrnl d j).pending = s.pending := rfl

@[simp] theorem State.setSrc_regs (s : State) (o : Nat) (x : CvnSrc) : (s.setSrc o x).regs = s.regs := rfl
@[simp] theorem State.setSrc_bnd (s : State) (o : Nat) (x : CvnSrc) : (s.setSrc o x).bnd = s.bnd := rfl
@[simp] theorem State.setSrc_img (s : State) (o : Nat) (x : CvnSrc) : (s.setSrc o x).img = s.img := rfl
@[simp] theorem State.setSrc_tim (s : State) (o : Nat) (x : CvnSrc) : (s.setSrc o x).tim = s.tim := rfl
@[simp] theorem State.setSrc_tel (s : State) (o : Nat) (x : CvnSrc) : (s.setSrc o x).tel = s.tel := rfl
@[simp] theorem State.setSrc_intk (s : State) (o : Nat) (x : CvnSrc) : (s.setSrc o x).intk = s.intk := rfl
@[simp] theorem State.setSrc_src (s : State) (o : Nat) (x : CvnSrc) : (s.setSrc o x).src = s.src := rfl
@[simp] theorem State.setSrc_sst (s : State) (o : Nat) (x : CvnSrc) : (s.setSrc o x).sst = s.sst := rfl
@[simp] theorem State.setSrc_dep (s : State) (o : Nat) (x : CvnSrc) : (s.setSrc o x).dep = s.dep := rfl
@[simp] theorem State.setSrc_rnk (s : State) (o : Nat) (x : CvnSrc) : (s.setSrc o x).rnk = s.rnk := rfl
@[simp] theorem State.setSrc_wwl (s : State) (o : Nat) (x : CvnSrc) : (s.setSrc o x).wwl = s.wwl := rfl
@[simp] theorem State.setSrc_oas (s : State) (o : Nat) (x : CvnSrc) : (s.setSrc o x).oas = s.oas := rfl
@[simp] theorem State.setSrc_dlv (s : State) (o : Nat) (x : CvnSrc) : (s.setSrc o x).dlv = s.dlv := rfl
@[simp] theorem State.setSrc_way (s : State) (o : Nat) (x : CvnSrc) : (s.setSrc o x).way = s.way := rfl
@[simp] theorem State.setSrc_rpl (s : State) (o : Nat) (x : CvnSrc) : (s.setSrc o x).rpl = s.rpl := rfl
@[simp] theorem State.setSrc_vfm (s : State) (o : Nat) (x : CvnSrc) : (s.setSrc o x).vfm = s.vfm := rfl
@[simp] theorem State.setSrc_chl (s : State) (o : Nat) (x : CvnSrc) : (s.setSrc o x).chl = s.chl := rfl
@[simp] theorem State.setSrc_tdm (s : State) (o : Nat) (x : CvnSrc) : (s.setSrc o x).tdm = s.tdm := rfl
@[simp] theorem State.setSrc_pwr (s : State) (o : Nat) (x : CvnSrc) : (s.setSrc o x).pwr = s.pwr := rfl
@[simp] theorem State.setSrc_imgl (s : State) (o : Nat) (x : CvnSrc) : (s.setSrc o x).imgl = s.imgl := rfl
@[simp] theorem State.setSrc_cfg (s : State) (o : Nat) (x : CvnSrc) : (s.setSrc o x).cfg = s.cfg := rfl
@[simp] theorem State.setSrc_sav (s : State) (o : Nat) (x : CvnSrc) : (s.setSrc o x).sav = s.sav := rfl
@[simp] theorem State.setSrc_boot (s : State) (o : Nat) (x : CvnSrc) : (s.setSrc o x).boot = s.boot := rfl
@[simp] theorem State.setSrc_errs (s : State) (o : Nat) (x : CvnSrc) : (s.setSrc o x).errs = s.errs := rfl
@[simp] theorem State.setSrc_io (s : State) (o : Nat) (x : CvnSrc) : (s.setSrc o x).io = s.io := rfl
@[simp] theorem State.setSrc_pending (s : State) (o : Nat) (x : CvnSrc) : (s.setSrc o x).pending = s.pending := rfl

@[simp] theorem State.setRun_regs (s : State) (d : Nat) (r : Run) : (s.setRun d r).regs = s.regs := rfl
@[simp] theorem State.setRun_bnd (s : State) (d : Nat) (r : Run) : (s.setRun d r).bnd = s.bnd := rfl
@[simp] theorem State.setRun_img (s : State) (d : Nat) (r : Run) : (s.setRun d r).img = s.img := rfl
@[simp] theorem State.setRun_tim (s : State) (d : Nat) (r : Run) : (s.setRun d r).tim = s.tim := rfl
@[simp] theorem State.setRun_tel (s : State) (d : Nat) (r : Run) : (s.setRun d r).tel = s.tel := rfl
@[simp] theorem State.setRun_intk (s : State) (d : Nat) (r : Run) : (s.setRun d r).intk = s.intk := rfl
@[simp] theorem State.setRun_src (s : State) (d : Nat) (r : Run) : (s.setRun d r).src = s.src := rfl
@[simp] theorem State.setRun_sst (s : State) (d : Nat) (r : Run) : (s.setRun d r).sst = s.sst := rfl
@[simp] theorem State.setRun_dep (s : State) (d : Nat) (r : Run) : (s.setRun d r).dep = s.dep := rfl
@[simp] theorem State.setRun_rnk (s : State) (d : Nat) (r : Run) : (s.setRun d r).rnk = s.rnk := rfl
@[simp] theorem State.setRun_wwl (s : State) (d : Nat) (r : Run) : (s.setRun d r).wwl = s.wwl := rfl
@[simp] theorem State.setRun_oas (s : State) (d : Nat) (r : Run) : (s.setRun d r).oas = s.oas := rfl
@[simp] theorem State.setRun_dlv (s : State) (d : Nat) (r : Run) : (s.setRun d r).dlv = s.dlv := rfl
@[simp] theorem State.setRun_way (s : State) (d : Nat) (r : Run) : (s.setRun d r).way = s.way := rfl
@[simp] theorem State.setRun_rpl (s : State) (d : Nat) (r : Run) : (s.setRun d r).rpl = s.rpl := rfl
@[simp] theorem State.setRun_vfm (s : State) (d : Nat) (r : Run) : (s.setRun d r).vfm = s.vfm := rfl
@[simp] theorem State.setRun_chl (s : State) (d : Nat) (r : Run) : (s.setRun d r).chl = s.chl := rfl
@[simp] theorem State.setRun_tdm (s : State) (d : Nat) (r : Run) : (s.setRun d r).tdm = s.tdm := rfl
@[simp] theorem State.setRun_pwr (s : State) (d : Nat) (r : Run) : (s.setRun d r).pwr = s.pwr := rfl
@[simp] theorem State.setRun_imgl (s : State) (d : Nat) (r : Run) : (s.setRun d r).imgl = s.imgl := rfl
@[simp] theorem State.setRun_cfg (s : State) (d : Nat) (r : Run) : (s.setRun d r).cfg = s.cfg := rfl
@[simp] theorem State.setRun_sav (s : State) (d : Nat) (r : Run) : (s.setRun d r).sav = s.sav := rfl
@[simp] theorem State.setRun_boot (s : State) (d : Nat) (r : Run) : (s.setRun d r).boot = s.boot := rfl
@[simp] theorem State.setRun_errs (s : State) (d : Nat) (r : Run) : (s.setRun d r).errs = s.errs := rfl
@[simp] theorem State.setRun_io (s : State) (d : Nat) (r : Run) : (s.setRun d r).io = s.io := rfl
@[simp] theorem State.setRun_pending (s : State) (d : Nat) (r : Run) : (s.setRun d r).pending = s.pending := rfl

@[simp] theorem State.dropHead_regs (s : State) (h : Head) : (s.dropHead h).regs = s.regs := rfl
@[simp] theorem State.dropHead_bnd (s : State) (h : Head) : (s.dropHead h).bnd = s.bnd := rfl
@[simp] theorem State.dropHead_img (s : State) (h : Head) : (s.dropHead h).img = s.img := rfl
@[simp] theorem State.dropHead_tim (s : State) (h : Head) : (s.dropHead h).tim = s.tim := rfl
@[simp] theorem State.dropHead_tel (s : State) (h : Head) : (s.dropHead h).tel = s.tel := rfl
@[simp] theorem State.dropHead_intk (s : State) (h : Head) : (s.dropHead h).intk = s.intk := rfl
@[simp] theorem State.dropHead_src (s : State) (h : Head) : (s.dropHead h).src = s.src := rfl
@[simp] theorem State.dropHead_sst (s : State) (h : Head) : (s.dropHead h).sst = s.sst := rfl
@[simp] theorem State.dropHead_dep (s : State) (h : Head) : (s.dropHead h).dep = s.dep := rfl
@[simp] theorem State.dropHead_cvn (s : State) (h : Head) : (s.dropHead h).cvn = s.cvn := rfl
@[simp] theorem State.dropHead_wwl (s : State) (h : Head) : (s.dropHead h).wwl = s.wwl := rfl
@[simp] theorem State.dropHead_oas (s : State) (h : Head) : (s.dropHead h).oas = s.oas := rfl
@[simp] theorem State.dropHead_dlv (s : State) (h : Head) : (s.dropHead h).dlv = s.dlv := rfl
@[simp] theorem State.dropHead_way (s : State) (h : Head) : (s.dropHead h).way = s.way := rfl
@[simp] theorem State.dropHead_rpl (s : State) (h : Head) : (s.dropHead h).rpl = s.rpl := rfl
@[simp] theorem State.dropHead_vfm (s : State) (h : Head) : (s.dropHead h).vfm = s.vfm := rfl
@[simp] theorem State.dropHead_chl (s : State) (h : Head) : (s.dropHead h).chl = s.chl := rfl
@[simp] theorem State.dropHead_tdm (s : State) (h : Head) : (s.dropHead h).tdm = s.tdm := rfl
@[simp] theorem State.dropHead_pwr (s : State) (h : Head) : (s.dropHead h).pwr = s.pwr := rfl
@[simp] theorem State.dropHead_imgl (s : State) (h : Head) : (s.dropHead h).imgl = s.imgl := rfl
@[simp] theorem State.dropHead_cfg (s : State) (h : Head) : (s.dropHead h).cfg = s.cfg := rfl
@[simp] theorem State.dropHead_sav (s : State) (h : Head) : (s.dropHead h).sav = s.sav := rfl
@[simp] theorem State.dropHead_boot (s : State) (h : Head) : (s.dropHead h).boot = s.boot := rfl
@[simp] theorem State.dropHead_errs (s : State) (h : Head) : (s.dropHead h).errs = s.errs := rfl
@[simp] theorem State.dropHead_io (s : State) (h : Head) : (s.dropHead h).io = s.io := rfl
@[simp] theorem State.dropHead_pending (s : State) (h : Head) : (s.dropHead h).pending = s.pending := rfl

@[simp] theorem State.setLatch_regs (s : State) (n : Nat) (v : Bool) : (s.setLatch n v).regs = s.regs := rfl
@[simp] theorem State.setLatch_bnd (s : State) (n : Nat) (v : Bool) : (s.setLatch n v).bnd = s.bnd := rfl
@[simp] theorem State.setLatch_img (s : State) (n : Nat) (v : Bool) : (s.setLatch n v).img = s.img := rfl
@[simp] theorem State.setLatch_tim (s : State) (n : Nat) (v : Bool) : (s.setLatch n v).tim = s.tim := rfl
@[simp] theorem State.setLatch_tel (s : State) (n : Nat) (v : Bool) : (s.setLatch n v).tel = s.tel := rfl
@[simp] theorem State.setLatch_src (s : State) (n : Nat) (v : Bool) : (s.setLatch n v).src = s.src := rfl
@[simp] theorem State.setLatch_sst (s : State) (n : Nat) (v : Bool) : (s.setLatch n v).sst = s.sst := rfl
@[simp] theorem State.setLatch_dep (s : State) (n : Nat) (v : Bool) : (s.setLatch n v).dep = s.dep := rfl
@[simp] theorem State.setLatch_cvn (s : State) (n : Nat) (v : Bool) : (s.setLatch n v).cvn = s.cvn := rfl
@[simp] theorem State.setLatch_rnk (s : State) (n : Nat) (v : Bool) : (s.setLatch n v).rnk = s.rnk := rfl
@[simp] theorem State.setLatch_wwl (s : State) (n : Nat) (v : Bool) : (s.setLatch n v).wwl = s.wwl := rfl
@[simp] theorem State.setLatch_oas (s : State) (n : Nat) (v : Bool) : (s.setLatch n v).oas = s.oas := rfl
@[simp] theorem State.setLatch_dlv (s : State) (n : Nat) (v : Bool) : (s.setLatch n v).dlv = s.dlv := rfl
@[simp] theorem State.setLatch_way (s : State) (n : Nat) (v : Bool) : (s.setLatch n v).way = s.way := rfl
@[simp] theorem State.setLatch_rpl (s : State) (n : Nat) (v : Bool) : (s.setLatch n v).rpl = s.rpl := rfl
@[simp] theorem State.setLatch_vfm (s : State) (n : Nat) (v : Bool) : (s.setLatch n v).vfm = s.vfm := rfl
@[simp] theorem State.setLatch_chl (s : State) (n : Nat) (v : Bool) : (s.setLatch n v).chl = s.chl := rfl
@[simp] theorem State.setLatch_tdm (s : State) (n : Nat) (v : Bool) : (s.setLatch n v).tdm = s.tdm := rfl
@[simp] theorem State.setLatch_pwr (s : State) (n : Nat) (v : Bool) : (s.setLatch n v).pwr = s.pwr := rfl
@[simp] theorem State.setLatch_imgl (s : State) (n : Nat) (v : Bool) : (s.setLatch n v).imgl = s.imgl := rfl
@[simp] theorem State.setLatch_cfg (s : State) (n : Nat) (v : Bool) : (s.setLatch n v).cfg = s.cfg := rfl
@[simp] theorem State.setLatch_sav (s : State) (n : Nat) (v : Bool) : (s.setLatch n v).sav = s.sav := rfl
@[simp] theorem State.setLatch_boot (s : State) (n : Nat) (v : Bool) : (s.setLatch n v).boot = s.boot := rfl
@[simp] theorem State.setLatch_errs (s : State) (n : Nat) (v : Bool) : (s.setLatch n v).errs = s.errs := rfl
@[simp] theorem State.setLatch_io (s : State) (n : Nat) (v : Bool) : (s.setLatch n v).io = s.io := rfl
@[simp] theorem State.setLatch_pending (s : State) (n : Nat) (v : Bool) : (s.setLatch n v).pending = s.pending := rfl

@[simp] theorem State.credDue_regs (s : State) : (s.credDue ).regs = s.regs := rfl
@[simp] theorem State.credDue_bnd (s : State) : (s.credDue ).bnd = s.bnd := rfl
@[simp] theorem State.credDue_img (s : State) : (s.credDue ).img = s.img := rfl
@[simp] theorem State.credDue_tim (s : State) : (s.credDue ).tim = s.tim := rfl
@[simp] theorem State.credDue_tel (s : State) : (s.credDue ).tel = s.tel := rfl
@[simp] theorem State.credDue_src (s : State) : (s.credDue ).src = s.src := rfl
@[simp] theorem State.credDue_sst (s : State) : (s.credDue ).sst = s.sst := rfl
@[simp] theorem State.credDue_dep (s : State) : (s.credDue ).dep = s.dep := rfl
@[simp] theorem State.credDue_cvn (s : State) : (s.credDue ).cvn = s.cvn := rfl
@[simp] theorem State.credDue_rnk (s : State) : (s.credDue ).rnk = s.rnk := rfl
@[simp] theorem State.credDue_wwl (s : State) : (s.credDue ).wwl = s.wwl := rfl
@[simp] theorem State.credDue_oas (s : State) : (s.credDue ).oas = s.oas := rfl
@[simp] theorem State.credDue_dlv (s : State) : (s.credDue ).dlv = s.dlv := rfl
@[simp] theorem State.credDue_way (s : State) : (s.credDue ).way = s.way := rfl
@[simp] theorem State.credDue_rpl (s : State) : (s.credDue ).rpl = s.rpl := rfl
@[simp] theorem State.credDue_vfm (s : State) : (s.credDue ).vfm = s.vfm := rfl
@[simp] theorem State.credDue_chl (s : State) : (s.credDue ).chl = s.chl := rfl
@[simp] theorem State.credDue_tdm (s : State) : (s.credDue ).tdm = s.tdm := rfl
@[simp] theorem State.credDue_pwr (s : State) : (s.credDue ).pwr = s.pwr := rfl
@[simp] theorem State.credDue_imgl (s : State) : (s.credDue ).imgl = s.imgl := rfl
@[simp] theorem State.credDue_cfg (s : State) : (s.credDue ).cfg = s.cfg := rfl
@[simp] theorem State.credDue_sav (s : State) : (s.credDue ).sav = s.sav := rfl
@[simp] theorem State.credDue_boot (s : State) : (s.credDue ).boot = s.boot := rfl
@[simp] theorem State.credDue_errs (s : State) : (s.credDue ).errs = s.errs := rfl
@[simp] theorem State.credDue_io (s : State) : (s.credDue ).io = s.io := rfl
@[simp] theorem State.credDue_pending (s : State) : (s.credDue ).pending = s.pending := rfl

@[simp] theorem State.setReplay_regs (s : State) (d : Nat) (r : Replay) : (s.setReplay d r).regs = s.regs := rfl
@[simp] theorem State.setReplay_bnd (s : State) (d : Nat) (r : Replay) : (s.setReplay d r).bnd = s.bnd := rfl
@[simp] theorem State.setReplay_img (s : State) (d : Nat) (r : Replay) : (s.setReplay d r).img = s.img := rfl
@[simp] theorem State.setReplay_tim (s : State) (d : Nat) (r : Replay) : (s.setReplay d r).tim = s.tim := rfl
@[simp] theorem State.setReplay_tel (s : State) (d : Nat) (r : Replay) : (s.setReplay d r).tel = s.tel := rfl
@[simp] theorem State.setReplay_intk (s : State) (d : Nat) (r : Replay) : (s.setReplay d r).intk = s.intk := rfl
@[simp] theorem State.setReplay_src (s : State) (d : Nat) (r : Replay) : (s.setReplay d r).src = s.src := rfl
@[simp] theorem State.setReplay_sst (s : State) (d : Nat) (r : Replay) : (s.setReplay d r).sst = s.sst := rfl
@[simp] theorem State.setReplay_dep (s : State) (d : Nat) (r : Replay) : (s.setReplay d r).dep = s.dep := rfl
@[simp] theorem State.setReplay_cvn (s : State) (d : Nat) (r : Replay) : (s.setReplay d r).cvn = s.cvn := rfl
@[simp] theorem State.setReplay_rnk (s : State) (d : Nat) (r : Replay) : (s.setReplay d r).rnk = s.rnk := rfl
@[simp] theorem State.setReplay_wwl (s : State) (d : Nat) (r : Replay) : (s.setReplay d r).wwl = s.wwl := rfl
@[simp] theorem State.setReplay_oas (s : State) (d : Nat) (r : Replay) : (s.setReplay d r).oas = s.oas := rfl
@[simp] theorem State.setReplay_dlv (s : State) (d : Nat) (r : Replay) : (s.setReplay d r).dlv = s.dlv := rfl
@[simp] theorem State.setReplay_way (s : State) (d : Nat) (r : Replay) : (s.setReplay d r).way = s.way := rfl
@[simp] theorem State.setReplay_vfm (s : State) (d : Nat) (r : Replay) : (s.setReplay d r).vfm = s.vfm := rfl
@[simp] theorem State.setReplay_chl (s : State) (d : Nat) (r : Replay) : (s.setReplay d r).chl = s.chl := rfl
@[simp] theorem State.setReplay_tdm (s : State) (d : Nat) (r : Replay) : (s.setReplay d r).tdm = s.tdm := rfl
@[simp] theorem State.setReplay_pwr (s : State) (d : Nat) (r : Replay) : (s.setReplay d r).pwr = s.pwr := rfl
@[simp] theorem State.setReplay_imgl (s : State) (d : Nat) (r : Replay) : (s.setReplay d r).imgl = s.imgl := rfl
@[simp] theorem State.setReplay_cfg (s : State) (d : Nat) (r : Replay) : (s.setReplay d r).cfg = s.cfg := rfl
@[simp] theorem State.setReplay_sav (s : State) (d : Nat) (r : Replay) : (s.setReplay d r).sav = s.sav := rfl
@[simp] theorem State.setReplay_boot (s : State) (d : Nat) (r : Replay) : (s.setReplay d r).boot = s.boot := rfl
@[simp] theorem State.setReplay_errs (s : State) (d : Nat) (r : Replay) : (s.setReplay d r).errs = s.errs := rfl
@[simp] theorem State.setReplay_io (s : State) (d : Nat) (r : Replay) : (s.setReplay d r).io = s.io := rfl
@[simp] theorem State.setReplay_pending (s : State) (d : Nat) (r : Replay) : (s.setReplay d r).pending = s.pending := rfl

@[simp] theorem State.setPsw_regs (s : State) (d : Nat) (p : Psw) : (s.setPsw d p).regs = s.regs := rfl
@[simp] theorem State.setPsw_bnd (s : State) (d : Nat) (p : Psw) : (s.setPsw d p).bnd = s.bnd := rfl
@[simp] theorem State.setPsw_img (s : State) (d : Nat) (p : Psw) : (s.setPsw d p).img = s.img := rfl
@[simp] theorem State.setPsw_tim (s : State) (d : Nat) (p : Psw) : (s.setPsw d p).tim = s.tim := rfl
@[simp] theorem State.setPsw_tel (s : State) (d : Nat) (p : Psw) : (s.setPsw d p).tel = s.tel := rfl
@[simp] theorem State.setPsw_intk (s : State) (d : Nat) (p : Psw) : (s.setPsw d p).intk = s.intk := rfl
@[simp] theorem State.setPsw_src (s : State) (d : Nat) (p : Psw) : (s.setPsw d p).src = s.src := rfl
@[simp] theorem State.setPsw_sst (s : State) (d : Nat) (p : Psw) : (s.setPsw d p).sst = s.sst := rfl
@[simp] theorem State.setPsw_dep (s : State) (d : Nat) (p : Psw) : (s.setPsw d p).dep = s.dep := rfl
@[simp] theorem State.setPsw_cvn (s : State) (d : Nat) (p : Psw) : (s.setPsw d p).cvn = s.cvn := rfl
@[simp] theorem State.setPsw_rnk (s : State) (d : Nat) (p : Psw) : (s.setPsw d p).rnk = s.rnk := rfl
@[simp] theorem State.setPsw_wwl (s : State) (d : Nat) (p : Psw) : (s.setPsw d p).wwl = s.wwl := rfl
@[simp] theorem State.setPsw_oas (s : State) (d : Nat) (p : Psw) : (s.setPsw d p).oas = s.oas := rfl
@[simp] theorem State.setPsw_dlv (s : State) (d : Nat) (p : Psw) : (s.setPsw d p).dlv = s.dlv := rfl
@[simp] theorem State.setPsw_way (s : State) (d : Nat) (p : Psw) : (s.setPsw d p).way = s.way := rfl
@[simp] theorem State.setPsw_rpl (s : State) (d : Nat) (p : Psw) : (s.setPsw d p).rpl = s.rpl := rfl
@[simp] theorem State.setPsw_vfm (s : State) (d : Nat) (p : Psw) : (s.setPsw d p).vfm = s.vfm := rfl
@[simp] theorem State.setPsw_chl (s : State) (d : Nat) (p : Psw) : (s.setPsw d p).chl = s.chl := rfl
@[simp] theorem State.setPsw_tdm (s : State) (d : Nat) (p : Psw) : (s.setPsw d p).tdm = s.tdm := rfl
@[simp] theorem State.setPsw_imgl (s : State) (d : Nat) (p : Psw) : (s.setPsw d p).imgl = s.imgl := rfl
@[simp] theorem State.setPsw_cfg (s : State) (d : Nat) (p : Psw) : (s.setPsw d p).cfg = s.cfg := rfl
@[simp] theorem State.setPsw_sav (s : State) (d : Nat) (p : Psw) : (s.setPsw d p).sav = s.sav := rfl
@[simp] theorem State.setPsw_boot (s : State) (d : Nat) (p : Psw) : (s.setPsw d p).boot = s.boot := rfl
@[simp] theorem State.setPsw_errs (s : State) (d : Nat) (p : Psw) : (s.setPsw d p).errs = s.errs := rfl
@[simp] theorem State.setPsw_io (s : State) (d : Nat) (p : Psw) : (s.setPsw d p).io = s.io := rfl
@[simp] theorem State.setPsw_pending (s : State) (d : Nat) (p : Psw) : (s.setPsw d p).pending = s.pending := rfl

@[simp] theorem State.sbReturn_regs (s : State) (w : Word) : (s.sbReturn w).regs = s.regs := rfl
@[simp] theorem State.sbReturn_bnd (s : State) (w : Word) : (s.sbReturn w).bnd = s.bnd := rfl
@[simp] theorem State.sbReturn_img (s : State) (w : Word) : (s.sbReturn w).img = s.img := rfl
@[simp] theorem State.sbReturn_tim (s : State) (w : Word) : (s.sbReturn w).tim = s.tim := rfl
@[simp] theorem State.sbReturn_tel (s : State) (w : Word) : (s.sbReturn w).tel = s.tel := rfl
@[simp] theorem State.sbReturn_intk (s : State) (w : Word) : (s.sbReturn w).intk = s.intk := rfl
@[simp] theorem State.sbReturn_src (s : State) (w : Word) : (s.sbReturn w).src = s.src := rfl
@[simp] theorem State.sbReturn_sst (s : State) (w : Word) : (s.sbReturn w).sst = s.sst := rfl
@[simp] theorem State.sbReturn_dep (s : State) (w : Word) : (s.sbReturn w).dep = s.dep := rfl
@[simp] theorem State.sbReturn_cvn (s : State) (w : Word) : (s.sbReturn w).cvn = s.cvn := rfl
@[simp] theorem State.sbReturn_rnk (s : State) (w : Word) : (s.sbReturn w).rnk = s.rnk := rfl
@[simp] theorem State.sbReturn_wwl (s : State) (w : Word) : (s.sbReturn w).wwl = s.wwl := rfl
@[simp] theorem State.sbReturn_oas (s : State) (w : Word) : (s.sbReturn w).oas = s.oas := rfl
@[simp] theorem State.sbReturn_dlv (s : State) (w : Word) : (s.sbReturn w).dlv = s.dlv := rfl
@[simp] theorem State.sbReturn_way (s : State) (w : Word) : (s.sbReturn w).way = s.way := rfl
@[simp] theorem State.sbReturn_rpl (s : State) (w : Word) : (s.sbReturn w).rpl = s.rpl := rfl
@[simp] theorem State.sbReturn_vfm (s : State) (w : Word) : (s.sbReturn w).vfm = s.vfm := rfl
@[simp] theorem State.sbReturn_chl (s : State) (w : Word) : (s.sbReturn w).chl = s.chl := rfl
@[simp] theorem State.sbReturn_tdm (s : State) (w : Word) : (s.sbReturn w).tdm = s.tdm := rfl
@[simp] theorem State.sbReturn_pwr (s : State) (w : Word) : (s.sbReturn w).pwr = s.pwr := rfl
@[simp] theorem State.sbReturn_imgl (s : State) (w : Word) : (s.sbReturn w).imgl = s.imgl := rfl
@[simp] theorem State.sbReturn_cfg (s : State) (w : Word) : (s.sbReturn w).cfg = s.cfg := rfl
@[simp] theorem State.sbReturn_sav (s : State) (w : Word) : (s.sbReturn w).sav = s.sav := rfl
@[simp] theorem State.sbReturn_boot (s : State) (w : Word) : (s.sbReturn w).boot = s.boot := rfl
@[simp] theorem State.sbReturn_errs (s : State) (w : Word) : (s.sbReturn w).errs = s.errs := rfl
@[simp] theorem State.sbReturn_pending (s : State) (w : Word) : (s.sbReturn w).pending = s.pending := rfl

end Sys2Proof.Machine
end

