-- ==== Sys2Proof/WellFormed.lean ====
section
/-! DEFINITION. Which commands are well formed: what the operands of a row may be, beyond their types. A command that is
not well formed names nothing that can happen to the block. -/

namespace Sys2Proof

/-- A command of the partner comes as a PEER_REQUEST record, never as a row of its own (R302). -/
def Port.wf : Port → Bool
  | .regt _ _ _ => true
  | .sideband => true
  | .debug => true
  | .peer => false

/-- The error, if any, lies at a site that the row reads. -/
def Ecc.within (sites : EccSite → Bool) : Ecc → Bool
  | .none => true
  | .cor x => sites x
  | .unc x => sites x
  | .uncDomain x => sites x

/-- What the event at a lane's head reads (R408): its descriptor, the Source Table, the translation entry, its meters
and its state entry. -/
def laneSites : EccSite → Bool
  | .descriptor => true
  | .sourceEntry => true
  | .translation => true
  | .meterState _ => true
  | .meterParam _ => true
  | .stateEntry _ => true
  | _ => false

/-- What the scrubber reads: a cache line (R173). -/
def entrySites : EccSite → Bool
  | .stateEntry _ => true
  | _ => false

/-- What a release reads: its hold-store group and its state entry. -/
def releaseSites : EccSite → Bool
  | .holdGroup => true
  | .stateEntry _ => true
  | _ => false

/-- What a head reads from hand-over to issue. -/
def headSites : EccSite → Bool
  | .rankPlace => true
  | .head => true
  | .gateWord => true
  | .bucketState _ => true
  | .bucketParam _ => true
  | .egressWrite => true
  | .imageTables => true
  | .stateEntry _ => true
  | _ => false

/-- What a refill reads: the words of a bucket, and the head that comes due. -/
def bucketSites : EccSite → Bool
  | .head => true
  | .bucketState _ => true
  | .bucketParam _ => true
  | _ => false

/-- What LANE_ENTRY reads: a wake FIFO entry. -/
def entrySite : EccSite → Bool
  | .descriptor => true
  | _ => false

/-- What the waiting scanner reads. -/
def waitSites : EccSite → Bool
  | .waitingWord => true
  | _ => false

/-- What a COMPLETE reads: its descriptor, the active record and the state entry. -/
def doorSites : EccSite → Bool
  | .descriptor => true
  | .activeRecord => true
  | .stateEntry _ => true
  | _ => false

/-- What a journal line reads. -/
def journalSites : EccSite → Bool
  | .journalRecord => true
  | _ => false

/-- What the end of a telemetry window reads. -/
def counterSites : EccSite → Bool
  | .counter _ => true
  | .accumulator _ _ => true
  | _ => false

/-- What a forwarded record passes through. -/
def ringSites : EccSite → Bool
  | .chetalQueue => true
  | .originQueue => true
  | _ => false

/-- Image data by sideband: a 4-byte offset and 1 to 64 bytes, where the byte count is right (R51). -/
def chunkWf (frame : SbFrame) (bytes : List Byte) : Bool :=
  frame != .good || (decide (5 ≤ bytes.length) && decide (bytes.length ≤ 68))

/-- Strictly ascending. -/
def ascending : List (BitVec 13) → Bool
  | [] => true
  | [_] => true
  | a :: b :: r => decide (a.toNat < b.toNat) && ascending (b :: r)

/-- Regions of the covered bytes: 4,097 of them (R124), each named once. -/
def regionsWf (bad : List (BitVec 13)) : Bool := ascending bad && bad.all (fun r => decide (r.toNat < 4097))

/-- A wake request has a code from 1 to 8 (R335). -/
def wakeWf (code : BitVec 4) : Bool := decide (1 ≤ code.toNat) && decide (code.toNat ≤ 8)

/-- The command is well formed. -/
def Instr.wf : Instr → Bool
  | .ingressBeat _ => true
  | .laneEntry ecc => ecc.within entrySite
  | .ingrCredRet => true
  | .eventWindowWrite _ ecc => ecc.within laneSites
  | .mapReadReturn _ _ ecc => ecc.within laneSites
  | .intxAssert ecc => ecc.within laneSites
  | .intxDeassert ecc => ecc.within laneSites
  | .lineCapture _ _ => true
  | .lineLevelChange _ _ => true
  | .lineScan => true
  | .stateMissFill _ _ ecc => ecc.within entrySites
  | .victimWriteback => true
  | .depResponse _ _ _ ecc => ecc.within laneSites
  | .sstInitDone => true
  | .scrub ecc => ecc.within entrySites
  | .flush p => p.wf
  | .readEntry p _ _ _ => p.wf
  | .setEn p _ _ _ => p.wf
  | .clearEn p _ _ _ => p.wf
  | .setMask p _ _ _ => p.wf
  | .clearMask p _ _ _ => p.wf
  | .sstCfgWrite p _ _ _ => p.wf
  | .clearState p _ _ _ => p.wf
  | .clearPoison p _ _ _ => p.wf
  | .waymarkMark _ ecc => ecc.within laneSites
  | .waymarkQuiet _ ecc => ecc.within laneSites
  | .waymarkResume _ ecc => ecc.within laneSites
  | .silence p _ => p.wf
  | .holdClockStart _ => true
  | .overdue _ => true
  | .straggler _ => true
  | .release ecc => ecc.within releaseSites
  | .releaseRetry ecc => ecc.within entrySites
  | .waitingAdmission ecc => ecc.within waitSites
  | .handOver ecc => ecc.within headSites
  | .rteTgtRead p _ _ => p.wf
  | .rteTgtWrite p _ _ => p.wf
  | .refillTick ecc => ecc.within bucketSites
  | .commitGate p _ => p.wf
  | .pendingListSwitch _ => true
  | .gateOpening _ ecc => ecc.within headSites
  | .parkedReturn ecc => ecc.within headSites
  | .egressAck _ _ => true
  | .resume p _ => p.wf
  | .rstptr p _ => p.wf
  | .complete _ ecc => ecc.within doorSites
  | .completeAny _ ecc => ecc.within doorSites
  | .consume _ ecc => ecc.within doorSites
  | .doorbellReservedOp _ _ => true
  | .cmpDbcmdComplete p _ _ => p.wf
  | .cmpDbcmdCompleteAny p _ _ => p.wf
  | .cmpDbcmdConsume p _ _ _ => p.wf
  | .cmpForce p _ _ => p.wf
  | .redeliveryTimeout _ => true
  | .lostRetry => true
  | .faultDelivery => true
  | .vfmVfStatusRead p _ => p.wf
  | .journalLineTimeout _ => true
  | .journalLineWrite ecc => ecc.within journalSites
  | .wayFlush p _ => p.wf
  | .newseg p _ => p.wf
  | .wayArchCommit p _ _ => p.wf
  | .waybillEnable p _ => p.wf
  | .replayRecord _ => true
  | .stop p _ => p.wf
  | .rplModeClear p _ => p.wf
  | .domainEnable p _ => p.wf
  | .domainDisable p _ => p.wf
  | .mhold p _ _ => p.wf
  | .thold p _ _ => p.wf
  | .freeze p _ _ => p.wf
  | .flr _ => true
  | .domainReset p _ => p.wf
  | .resetWalkEnd _ => true
  | .save p _ => p.wf
  | .saveDone _ => true
  | .restore p _ => p.wf
  | .unfence p _ => p.wf
  | .unsave p _ => p.wf
  | .depotReadLine p => p.wf
  | .depotWriteLine p => p.wf
  | .shareWrite p _ _ => p.wf
  | .eventRecord _ => true
  | .waymarkRecord _ => true
  | .silentRecord _ => true
  | .closeRecord _ => true
  | .tandemState _ => true
  | .tandemDeliv _ => true
  | .tandemCfg _ => true
  | .tandemDoorbell _ => true
  | .tandemAck _ => true
  | .heartbeat _ => true
  | .hello _ => true
  | .digest _ => true
  | .bulk _ => true
  | .bulkEnd _ => true
  | .handover _ => true
  | .check _ _ => true
  | .checkSend _ => true
  | .beacon _ => true
  | .beaconSend => true
  | .probe _ => true
  | .probeSend => true
  | .pause _ _ => true
  | .ringResume _ _ => true
  | .txQueueMark _ => true
  | .window _ => true
  | .windowSend => true
  | .windowOpen => true
  | .joinTimeout => true
  | .windowEnd => true
  | .joined _ => true
  | .leaveReq _ => true
  | .leave _ => true
  | .loss _ _ => true
  | .wakeReq _ => true
  | .peerRequest _ => true
  | .peerResponse _ => true
  | .tdmPeerCmd p _ _ => p.wf
  | .peerTimeout => true
  | .hopLoss _ _ => true
  | .founding => true
  | .foundingTimeout => true
  | .foundingJoined => true
  | .beaconMiss => true
  | .heartbeatSend => true
  | .helloSend => true
  | .ackSend => true
  | .primaryLost => true
  | .switch p => p.wf
  | .chlLeave p => p.wf
  | .chlEnWrite p _ => p.wf
  | .sleep p => p.wf
  | .entryDecision => true
  | .drainEnd => true
  | .drainTimeout => true
  | .pswAck _ _ => true
  | .pswTimeout _ => true
  | .wake code _ => wakeWf code
  | .timerWake => true
  | .sigdetWake _ _ => true
  | .smbusAddressMatch _ => true
  | .offAreaRestoreDone => true
  | .vote p _ _ => p.wf
  | .voteSb p _ => p.wf
  | .perfReq p _ => p.wf
  | .avsResponse _ => true
  | .avsRetry => true
  | .settleEnd => true
  | .toPll p => p.wf
  | .toOsc p => p.wf
  | .pfail _ => true
  | .savSave p _ => p.wf
  | .periodic _ => true
  | .persistentSaveDone => true
  | .homeWrite => true
  | .cold _ => true
  | .warm => true
  | .warmDepotWaitEnd => true
  | .fabricRst => true
  | .stageReady => true
  | .imageChunkSideband frame bytes => chunkWf frame bytes
  | .imageChunkMailbox p _ => p.wf
  | .timeout => true
  | .absent p => p.wf
  | .arbitrationDone => true
  | .imageApplyDone => true
  | .reload p => p.wf
  | .alertResponse => true
  | .sbRegisterRead _ _ => true
  | .sbRegisterWrite _ _ _ => true
  | .sbStatusRead _ => true
  | .winData p _ _ _ => p.wf
  | .dormantAccessWake p _ => p.wf
  | .registerWrite p _ _ _ _ => p.wf
  | .readClear p _ _ => p.wf
  | .wideCapture p _ _ => p.wf
  | .mgtAuthWrite p _ => p.wf
  | .regLockWrite p _ => p.wf
  | .commit p => p.wf
  | .unfreeze p => p.wf
  | .walkerPassEnd bad => regionsWf bad
  | .srcReadSource p _ => p.wf
  | .srcWriteSource p _ => p.wf
  | .srcReadTranslation p _ => p.wf
  | .srcWriteTranslation p _ => p.wf
  | .linCfgWrite p _ _ => p.wf
  | .meterWrite p _ _ _ => p.wf
  | .ftToggle _ => true
  | .holdover => true
  | .snap p => p.wf
  | .snapClr p => p.wf
  | .clrAll p => p.wf
  | .bwClr p => p.wf
  | .telCntWrite p _ => p.wf
  | .telCntClearOvf p _ => p.wf
  | .telemetryWindowEnd ecc => ecc.within counterSites
  | .levelSample => true
  | .probeCfgWrite p _ _ _ => p.wf
  | .samplerRecord => true
  | .errPendRead p => p.wf
  | .debugAccess _ => true
  | .laneLock _ => true
  | .gateCycleStart _ => true
  | .egressBeatTaken => true
  | .saveIntervalEnd => true
  | .coldRstNAsserted => true
  | .warmRstNDeasserted => true
  | .recordPassedOn _ _ ecc => ecc.within ringSites
  | .reservedCtrlSubtype _ _ => true

end Sys2Proof
end

