-- ==== Sys2Proof/Tests/Slice0.lean ====
section
/-! SUPPORT. Small tests: an ill-formed command for every check of `Instr.wf`, a state and operands that meet the
hypotheses of every statement, and single steps whose expected results are worked out by hand from the spec. -/

namespace Sys2Proof.Tests

set_option Elab.async false

open Sys2Proof Sys2Proof.Machine

/-! ### Ill-formed commands -/

theorem test_ill_peer : Instr.wf (.flush .peer) = false ∧ Instr.wf (.flush .sideband) = true := by decide

theorem test_ill_lane_site : Instr.wf (.eventWindowWrite 0 (.cor .holdGroup)) = false
    ∧ Instr.wf (.eventWindowWrite 0 (.cor .descriptor)) = true := by decide

theorem test_ill_scrub_site : Instr.wf (.scrub (.unc .descriptor)) = false ∧ Instr.wf (.scrub (.unc (.stateEntry 7))) = true := by decide

theorem test_ill_release_site : Instr.wf (.release (.cor .head)) = false ∧ Instr.wf (.release (.cor .holdGroup)) = true := by decide

theorem test_ill_head_site : Instr.wf (.handOver (.uncDomain .holdGroup)) = false
    ∧ Instr.wf (.handOver (.uncDomain .gateWord)) = true := by decide

theorem test_ill_bucket_site : Instr.wf (.refillTick (.cor .holdGroup)) = false
    ∧ Instr.wf (.refillTick (.cor (.bucketState 0))) = true := by decide

theorem test_ill_entry_site : Instr.wf (.laneEntry (.unc .head)) = false ∧ Instr.wf (.laneEntry (.unc .descriptor)) = true := by decide

theorem test_ill_waiting_site : Instr.wf (.waitingAdmission (.unc .head)) = false
    ∧ Instr.wf (.waitingAdmission (.unc .waitingWord)) = true := by decide

theorem test_ill_door_site : Instr.wf (.complete 0 (.cor .chetalQueue)) = false
    ∧ Instr.wf (.complete 0 (.cor .activeRecord)) = true := by decide

theorem test_ill_journal_site : Instr.wf (.journalLineWrite (.cor .head)) = false
    ∧ Instr.wf (.journalLineWrite (.cor .journalRecord)) = true := by decide

theorem test_ill_counter_site : Instr.wf (.telemetryWindowEnd (.unc .head)) = false
    ∧ Instr.wf (.telemetryWindowEnd (.unc (.counter 0))) = true := by decide

theorem test_ill_ring_site : Instr.wf (.recordPassedOn .east 0 (.unc .head)) = false
    ∧ Instr.wf (.recordPassedOn .east 0 (.unc .chetalQueue)) = true := by decide

theorem test_ill_chunk : Instr.wf (.imageChunkSideband .good [0, 0, 0, 0]) = false
    ∧ Instr.wf (.imageChunkSideband .good (List.replicate 69 0)) = false
    ∧ Instr.wf (.imageChunkSideband .good (List.replicate 5 0)) = true
    ∧ Instr.wf (.imageChunkSideband .good (List.replicate 68 0)) = true := by decide

theorem test_ill_regions : Instr.wf (.walkerPassEnd [5, 5]) = false ∧ Instr.wf (.walkerPassEnd [4097]) = false
    ∧ Instr.wf (.walkerPassEnd [5, 4096]) = true := by decide

theorem test_ill_wake : Instr.wf (.wake 0 0) = false ∧ Instr.wf (.wake 9 0) = false ∧ Instr.wf (.wake 8 0) = true := by decide

/-! ### States for the tests -/

/-- The manager port of the register target path. -/
def pf : Port := .regt false 0#12 0#7

/-- The page of the VF of domain 1. -/
def vf1 : Port := .regt false 1#12 0#7

/-- An image with domain 1 (16 events from EID 64), a caravan source of it, a group of targets 0 and 1 homed here, and a ring whose partner is at position 3. -/
def image : Image :=
  { Image.noImage with
    domains := [⟨1, 7, 64, 16, 0⟩], caravan := [⟨1, [5]⟩], groups := [⟨0, 0, 2, 2, 1, 255, true⟩]
    ring := { Image.defaultRing with position := 2, members := 4, partner := 3, present := 0xF#32 } }

/-- A ready block with its clocks running, all domains switched on, and domain 1 enabled. -/
def up : State :=
  let psw : Psw := { en := true, ack := true, iso := false, ret := false, phase := .rest, since := 0 }
  let s := { State.reset with
    img := image, pwr := { Pwr.cold with gated := false, psw := List.replicate 5 psw }
    intk := { Intk.cold with ready := true, credits := 64 }, boot := { Boot.start with cold := false }
    vfm := { Vfm.cold with vfs := 4, vfEn := true, numVfs := 4 } }
  ((s.setFld F.REG_RST_STAT_STAGE 0 3).raise F.SST_STATUS_INIT_DONE).raise F.VFM_DOM_CTRL_EN 1

/-- The same block as a joined member of the ring, at position 2 with members 0 to 3. -/
def onTheRing : State :=
  let s := { up with
    chl := { Chl.cold with st := .joined, east := { ChlSide.cold with lanes := 15 }, west := { ChlSide.cold with lanes := 15 } } }
  s.setFld F.CHL_JOINED_JOINED 0 15

/-- The same block asleep, in DOZE. -/
def asleep : State := { up with pwr := { up.pwr with gated := true, doze := true } }.setFld F.PWR_STATUS_STATE 0 2

/-- Held by WARM_RST_N. -/
def heldWarm : State := { up with boot := { up.boot with warmHeld := true } }

/-- Held by COLD_RST_N. -/
def heldCold : State := { up with boot := { up.boot with held := true } }

/-- The spot of a register. -/
def spotOf (r : Reg) (i : Nat) : Spot :=
  ⟨(placements.find? (fun x => x.reg == r)).getD ⟨r, .ws, 0, 0, 0, 0, 0, none, 0, .glob⟩, i⟩

/-- A descriptor: kind, requester, window, offset in the window, data; one word with all bytes. -/
def desc (kind rid win woff data : Nat) : Rec :=
  BitVec.ofNat 128 (kind * 2 ^ 124 + rid * 2 ^ 104 + 15 * 2 ^ 92 + win * 2 ^ 88 + woff * 2 ^ 66 + 1 * 2 ^ 32 + data)

/-! ### The queue, the clock and the resets -/

theorem test_wit_StepRunsFrontCommand : { up with pending := [.scrub .none] }.pending = .scrub .none :: [] := rfl

theorem test_wit_EmptyQueueIsOneTick : up.pending = [] := rfl

theorem test_wit_StepKeepsSound : up.Sound 0 up.pending := by unfold State.Sound SoundParts; decide +kernel

theorem test_wit_FabricTimeNeverRunsBack : up.Sound 0 up.pending ∧ (∀ w, Instr.laneEntry .none ≠ .cold w)
    ∧ Instr.laneEntry .none ≠ .coldRstNAsserted ∧ exec (.laneEntry .none) up = .next up :=
  ⟨test_wit_StepKeepsSound, fun _ => Instr.noConfusion, Instr.noConfusion, rfl⟩

theorem test_wit_ResetHoldsCommandsOff : heldWarm.inReset = true ∧ heldCold.inReset = true ∧ passesReset (.scrub .none) = false := by decide +kernel

theorem test_wit_ClockedCommandsNeedTheirClock : onPath (.release .none) = true ∧ asleep.coreOn = false
    ∧ (up.raise F.ERR_STATUS_HALTED).bit F.ERR_STATUS_HALTED = true ∧ onCore (.scrub .none) = true
    ∧ onRing .beaconSend = true ∧ State.reset.ringClk = false := by decide +kernel

theorem test_reset : State.reset.inReset = false ∧ State.reset.stage = 0 ∧ State.reset.coreOn = false
    ∧ State.reset.pending = [] := by decide +kernel

/-! ### The register interface -/

/-- The way that a manager's write of `data` to a register goes. -/
def way (s : State) (r : Reg) (i : Nat) (data : Word) : AccessEnd := s.accWay (s.writeAcc pf r i data .none)

/-- The same block with every domain powered off. -/
def dead : State := { up with pwr := { up.pwr with psw := List.replicate 5 (Psw.down false), off := [0, 1, 2, 3, 4] } }

/-- The manager reaches the spot of a register, whose interface is up. -/
def reached (s : State) (r : Reg) (i : Nat) : Prop :=
  reach (s.portOf pf) (regAt pf r i).1 (regAt pf r i).2 = some (spotOf r i) ∧ s.early (regAt pf r i).1 r = false

theorem test_wit_WritesAreCheckedInOrder_reached : reached up .CFG_CTRL 0 ∧ reached up .CVN_MODE 1 ∧ reached dead .SST_CTRL 0
    ∧ reached up .MGT_AUTH 0 := by unfold reached; decide +kernel

theorem test_wit_WritesAreCheckedInOrder_accepted : way up .CFG_CTRL 0 0 = .ok (spotOf .CFG_CTRL 0) := by decide +kernel

theorem test_wit_WritesAreCheckedInOrder_denied :
    up.accWay (up.writeAcc vf1 .VFM_DOM_CTRL 1 1 .none) = .denied 2 := by decide +kernel

theorem test_wit_WritesAreCheckedInOrder_power : way dead .SST_CTRL 0 0 = .off ∧ way asleep .SST_CTRL 0 0 = .waits := by decide +kernel

/-- Every lock bit is set. -/
def lockedUp : State := up.setReg .REG_LOCK 0 0xFFFFFFFF#32

theorem test_wit_WritesAreCheckedInOrder_locked : way lockedUp .MGT_AUTH 0 0 = .locked := by decide +kernel

theorem test_wit_WritesAreCheckedInOrder_frozen :
    way (up.raise F.CFG_STATUS_FROZEN) .CVN_MODE 1 1 = .rejects 5 := by decide +kernel

theorem test_wit_WritesAreCheckedInOrder_owner : way up .CVN_MODE 1 1 = .rejects 1 := by decide +kernel

theorem test_wit_FirstRecordIsKept : up.bit F.CFG_REJECT_INFO_VALID = false ∧ up.bit F.REG_LOCKED_WR_VALID = false
    ∧ up.bit F.MGT_DENY_VALID = false ∧ (up.raise F.CFG_REJECT_INFO_VALID).bit F.CFG_REJECT_INFO_VALID = true
    ∧ (up.raise F.REG_LOCKED_WR_VALID).bit F.REG_LOCKED_WR_VALID = true
    ∧ (up.raise F.MGT_DENY_VALID).bit F.MGT_DENY_VALID = true := by decide +kernel

theorem test_wit_DefaultAuthority : up.reg .MGT_AUTH = Image.defaultAuth.classMask ∧ up.holds .debug 5 = true
    ∧ up.holds (.vf 1#12) 2 = false := by decide +kernel

theorem test_wit_VfPageReachesOnlyItsReplica : up.portOf vf1 = .vf 1#12 ∧ (1#12).toNat ≠ 2
    ∧ (reach (.vf 1#12) .ws (winOff (.vf 1#12) 0x300)).isSome = true := by decide +kernel

theorem test_wit_LockBitsAreOnlySet : (spotOf .REG_LOCK 0).pl.reg = .REG_LOCK ∧ up.lockBits 1#32 = false
    ∧ ((up.setReg .REG_LOCK 0 1#32).reg .REG_LOCK).getLsbD 0 = true ∧ (0#32).getLsbD 0 = false := by decide +kernel

theorem test_wit_RegisterCommandsTakeEffect : ∃ a, regStart up (.flush pf) = some a ∧ up.Serves a.acc (spotOf .SST_CTRL 0)
    ∧ (spotOf .SST_CTRL 0).pl.reg = a.reg ∧ (spotOf .SST_CTRL 0).i = a.idx :=
  ⟨_, rfl, by unfold State.Serves State.Carries; decide +kernel, by decide +kernel, rfl⟩

theorem test_wit_RegisterCommandsTakeEffect_vf : ∃ a, regStart up (.thold vf1 1#12 true) = some a
    ∧ up.Serves a.acc (spotOf .VFM_RT 1) ∧ (spotOf .VFM_RT 1).pl.reg = a.reg ∧ (spotOf .VFM_RT 1).i = a.idx :=
  ⟨_, rfl, by unfold State.Serves State.Carries; decide +kernel, by decide +kernel, rfl⟩

theorem test_wit_RegisterCommandsTurnedAway : ∃ a, regStart lockedUp (.mgtAuthWrite pf 0) = some a ∧ lockedUp.Carries a.acc
    ∧ (lockedUp.begun a.acc).accWay (lockedUp.goal a.acc) = .locked :=
  ⟨_, rfl, by unfold State.Carries; decide +kernel, by decide +kernel⟩

theorem test_wit_RegisterCommandsTurnedAway_denied : ∃ a, regStart up (.domainEnable vf1 1#12) = some a ∧ up.Carries a.acc
    ∧ (up.begun a.acc).accWay (up.goal a.acc) = .denied 2 :=
  ⟨_, rfl, by unfold State.Carries; decide +kernel, by decide +kernel⟩

/-- Domain 9 is fenced and disabled. -/
def fencedNine : State := up.raise F.VFM_DOM_STAT_FENCED 9

theorem test_wit_RegisterCommandsTurnedAway_rejects : ∃ a, regStart fencedNine (.domainEnable pf 9#12) = some a
    ∧ fencedNine.Carries a.acc ∧ (fencedNine.begun a.acc).accWay (fencedNine.goal a.acc) = .rejects 4
    ∧ reach ((fencedNine.begun a.acc).portOf a.acc.port) (fencedNine.goal a.acc).space (fencedNine.goal a.acc).off
      = some (spotOf .VFM_DOM_CTRL 9)
    ∧ (spotOf .VFM_DOM_CTRL 9).pl.reg = a.reg :=
  ⟨_, rfl, by unfold State.Carries; decide +kernel, by decide +kernel, by decide +kernel, by decide +kernel⟩

theorem test_wit_RegisterCommandsTurnedAway_off : ∃ a, regStart dead (.flush pf) = some a ∧ dead.Carries a.acc
    ∧ (dead.begun a.acc).accWay (dead.goal a.acc) = .off :=
  ⟨_, rfl, by unfold State.Carries; decide +kernel, by decide +kernel⟩

/-- The start-up has not reached the registers. -/
def young : State := up.setFld F.REG_RST_STAT_STAGE 0 0

theorem test_wit_RegisterCommandsTurnedAway_early : ∃ a, regStart young (.flush pf) = some a ∧ young.Carries a.acc
    ∧ (young.begun a.acc).accWay (young.goal a.acc) = .early :=
  ⟨_, rfl, by unfold State.Carries; decide +kernel, by decide +kernel⟩

theorem test_wit_RegisterCommandsTurnedAway_gone : ∃ a, regStart up (.flush (.regt true 0#12 0#7)) = some a ∧ up.Carries a.acc
    ∧ (up.begun a.acc).accWay (up.goal a.acc) = .gone :=
  ⟨_, rfl, by unfold State.Carries; decide +kernel, by decide +kernel⟩

theorem test_wit_RegisterCommandsTurnedAway_waits : ∃ a, regStart asleep (.flush pf) = some a ∧ asleep.inReset = false
    ∧ asleep.behind a.acc.port = false ∧ asleep.mustWait a.acc = true
    ∧ (asleep.queueAcc a.acc).behind a.acc.port = true :=
  ⟨_, rfl, by decide +kernel, by decide +kernel, by decide +kernel, by decide +kernel⟩

/-- SR-IOV has enabled no function. -/
def noVf : State := { up with vfm := { up.vfm with vfs := 0 } }

theorem test_wit_RegisterCommandsTurnedAway_unsupported : ∃ a, regStart noVf (.thold vf1 1#12 true) = some a
    ∧ noVf.inReset = false ∧ noVf.behind a.acc.port = false ∧ noVf.unsupported a.acc.port = true :=
  ⟨_, rfl, by decide +kernel, by decide +kernel, by decide +kernel⟩

/-- A read of REG_VERSION by the manager. -/
def readVersion : RegAcc := up.accessOf pf .dp 0 false 0 15 .none

theorem test_wit_RegisterRequests_read : requestOf up (.readClear pf .dp 0) = some readVersion ∧ readVersion.wr = false
    ∧ up.Serves readVersion (spotOf .REG_VERSION 0) := by
  refine ⟨rfl, rfl, ?_⟩; unfold State.Serves State.Carries; decide +kernel

theorem test_wit_RegisterRequests_write : ∃ a, requestOf asleep (.registerWrite pf .ws 0x10000304 0 0xF#4) = some a ∧ a.wr = true
    ∧ asleep.inReset = false ∧ asleep.behind a.port = false ∧ asleep.mustWait a = true :=
  ⟨_, rfl, rfl, by decide +kernel, by decide +kernel, by decide +kernel⟩

theorem test_wit_RegisterRequests_partial : ∃ a, requestOf up (.registerWrite pf .dp 0x14 0 1#4) = some a
    ∧ up.unsupported a.port = false ∧ a.isConfig = false ∧ a.isPartial = true :=
  ⟨_, rfl, by decide +kernel, by decide +kernel, by decide +kernel⟩

theorem test_wit_RegisterRequests_config : ∃ a, requestOf up (.registerWrite pf .cfg 4 0 0xF#4) = some a
    ∧ up.unsupported a.port = false ∧ a.isConfig = true :=
  ⟨_, rfl, by decide +kernel, by decide +kernel⟩

theorem test_wit_RegisterRequests_sriov : up.behind (.regt false 0#12 0#7) = false ∧ (1#4).getLsbD 0 = true := by decide +kernel

/-- Group 0 has a list to commit: a cycle of 1,000 ns, the shortest. -/
def gateUp : State := up.setReg .OAS_ADM_CYCLE 0 1000

theorem test_wit_SpecialRegisterCommands_gate : ∃ a, requestOf gateUp (.commitGate pf 0#10) = some a
    ∧ gateUp.Serves a (spotOf .OAS_GCMD 0) ∧ (spotOf .OAS_GCMD 0).pl.reg = .OAS_GCMD :=
  ⟨_, rfl, by unfold State.Serves State.Carries; decide +kernel, by decide +kernel⟩

theorem test_wit_SpecialRegisterCommands_save : vfPage pf = false
    ∧ State.Serves { up with io := { up.io with hu := some 9 } }
      (State.writeAcc { up with io := { up.io with hu := some 9 } } pf .SAV_CMD 0 (putAll 0 [(F.SAV_CMD_SAVE, 1)]) .none) (spotOf .SAV_CMD 0) := by
  unfold State.Serves State.Carries; decide +kernel

theorem test_wit_SpecialRegisterCommands_wide : ∃ a, requestOf up (.wideCapture pf 0 0) = some a
    ∧ up.Serves a (spotOf .REG_WIDE_SEL 0) :=
  ⟨_, rfl, by unfold State.Serves State.Carries; decide +kernel⟩

theorem test_wit_SpecialRegisterCommands_status : ∃ a, requestOf up (.vfmVfStatusRead pf 1) = some a
    ∧ up.Serves a (spotOf .VFM_VF_STATUS 1) ∧ (up.begun a).portOf pf ≠ .debug :=
  ⟨_, rfl, by unfold State.Serves State.Carries; decide +kernel, by decide +kernel⟩

theorem test_wit_SpecialRegisterCommands_errors : ∃ a, requestOf up (.errPendRead pf) = some a
    ∧ up.Serves a (spotOf .ERR_PEND 0) ∧ (up.begun a).portOf pf ≠ .debug :=
  ⟨_, rfl, by unfold State.Serves State.Carries; decide +kernel, by decide +kernel⟩

theorem test_wit_SidebandCommands : State.Serves up (accAt .sideband (sbSpot 0x38#32).1 (sbSpot 0x38#32).2 false 0) (spotOf .SB_STATUS 0)
    ∧ (spotOf .SB_STATUS 0).pl.pd = none ∧ up.readWay .sideband .dp 0x38 = .ok (spotOf .SB_STATUS 0)
    ∧ up.io.sbQ = [] ∧ up.SidebandOpen ∧ up.sbAlert = false ∧ (up.raise F.IMG_FETCH_REQ).sbAlert = true := by
  unfold State.Serves State.Carries State.SidebandOpen; decide +kernel

/-- A sideband access waits for the wake that it requested. -/
def sbWaits : State := asleep.queueAcc (accAt .sideband (sbSpot 0x10000304#32).1 (sbSpot 0x10000304#32).2 false 0)

theorem test_wit_SidebandCommands_queue : sidebandOf (.sbStatusRead .good) = some (.status .good) ∧ sbWaits.inReset = false
    ∧ sbWaits.behind .sideband = true := by decide +kernel

theorem test_wit_TapInstructions : (up.setReg .MGT_AUTH 0 0).holds .debug 5 = false
    ∧ (up.raise F.REG_LOCK_AUTH).bit F.REG_LOCK_AUTH = true := by decide +kernel

/-! ### Intake -/

/-- A beat with one descriptor in slot 2. -/
def beat : BitVec 512 := BitVec.ofNat 512 ((desc 1 4 0 0 3).toNat * 2 ^ 256)

theorem test_wit_IngressBeats : up.inReset = false ∧ up.intk.ready = true ∧ up.intk.credits ≠ 0 ∧ up.halted = false ∧ beatDescs beat = [desc 1 4 0 0 3]
    ∧ beatDescs 0 = [] ∧ up.capturing = false ∧ State.reset.intk.ready = false := by decide +kernel

theorem test_wit_IngressBeats_credit :
    let s (n : Nat) : State := { up with intk := { up.intk with due := 1, credits := 63, wake := List.replicate n (1, 0) } }
    (s 0).intk.due ≠ 0 ∧ up.halted = false ∧ up.sav.run = none ∧ up.fld F.PWR_STATUS_STATE ≠ 5
    ∧ (s 768).intk.wake.length + 4 * ((s 768).intk.credits + 1) = 1024
    ∧ (s 769).intk.wake.length + 4 * ((s 769).intk.credits + 1) = 1025 := by decide +kernel

theorem test_wit_IngressBeats_wake :
    let s : State := { asleep with intk := { asleep.intk with ready := true, credits := 64 } }
    s.inReset = false ∧ s.capturing = true ∧ s.halted = false ∧ (beatDescs beat).length = 1
    ∧ (asleep.raise F.ERR_STATUS_HALTED).halted = true := by decide +kernel

/-- One beat waits, with a descriptor for lane 0. -/
def beatWaits : State := { up with intk := { up.intk with buf := [[desc 1 4 0 0 3]] } }

/-- Lane 0 holds 16 entries. -/
def laneFull : State := { beatWaits with intk := { beatWaits.intk with lane0 := List.replicate 16 (.desc 0) } }

theorem test_wit_LanesKeepOrder : beatWaits.lanesOpen = true ∧ beatWaits.carriageNext = some (desc 1 4 0 0 3)
    ∧ dLane (desc 1 4 0 0 3) = 0 ∧ beatWaits.laneRoom 0 = true ∧ beatWaits.lineNext = none
    ∧ (laneFull.laneQ 0).length = 16 := by decide +kernel

theorem test_wit_LanesKeepOrder_wake :
    let s : State := { up with intk := { up.intk with wake := [(0, desc 1 4 0 0 3)] } }
    s.lanesOpen = true ∧ s.carriageNext = some (desc 1 4 0 0 3) ∧ s.laneRoom (dLane (desc 1 4 0 0 3)) = true
    ∧ s.lineNext = none ∧ s.intk.wake = (0, desc 1 4 0 0 3) :: [] ∧ (s.wakeEcc (.unc .descriptor)).1 = false
    ∧ (beatWaits.wakeEcc (.unc .descriptor)).1 = true := by decide +kernel

/-- Line 1023 is enabled as an edge line and has captured a pulse; line 7 is an enabled level line with a queued event. -/
def linesWait : State :=
  let s := (((up.raise F.LIN_CFG_EN 1023).raise F.LIN_CFG_EN 7).raise F.LIN_CFG_MODE 7)
  { s with intk := { s.intk with latch := putLine 0 1023 true } }

theorem test_wit_LanesKeepOrder_lines : linesWait.linesOpen = true ∧ linesWait.laneRoom 0 = true ∧ linesWait.intk.lineLast = false
    ∧ linesWait.lineNext = some (1023, .raise, false)
    ∧ State.lineNext { linesWait with intk := { linesWait.intk with linePend := [(7, .lvlAssert)] } } = some (7, .lvlAssert, true) := by
  decide +kernel

/-- Window 0 is an event window; requester 4 is source 5, which raises event 64 + key of domain 1, four of them. -/
def fed : State :=
  let s := up.setFld F.INT_WIN_CFG_KIND 0 1
  { s with src := { s.src with
      source := [(16, BitVec.ofNat 64 (2 ^ 63 + 4 * 2 ^ 32 + 5))]
      xlate := [(5, BitVec.ofNat 128 (2 ^ 127 + 1 * 2 ^ 96 + 64 * 2 ^ 64 + 0xF * 2 ^ 32 + 4))] } }

/-- The same, with `r` at the head of lane 0. -/
def fedWith (r : Rec) : State := { fed with intk := { fed.intk with lane0 := [.desc r] } }

theorem test_wit_WindowEventsAndLines_known :
    let r := desc 1 4 0 0 3
    (fedWith r).noteFull.laneStalls 0 = false ∧ (fedWith r).noteFull.laneQ 0 = .desc r :: []
    ∧ (fedWith r).descLost 0 .none = none ∧ dKind r = 1 ∧ (fedWith r).descReason r = none
    ∧ (fedWith r).fld F.INT_WIN_CFG_KIND (dWin r) = 1 ∧ ((fedWith r).srcLookup (dSeg r) (dRid r) .none).1 = some 5
    ∧ (fedWith r).xlateStalls 5 3 = false := by decide +kernel

theorem test_wit_WindowEventsAndLines_named :
    let r := desc 1 4 0 0 3
    let s : State := { fedWith r with intk := { (fedWith r).intk with named := [⟨0, 5, none, 0⟩] } }
    s.noteFull.laneStalls 0 = false ∧ (s.noteFull.descCor 0 .none).intk.named.find? (fun n => n.lane == 0) = some ⟨0, 5, none, 0⟩
    ∧ (s.noteFull.descCor 0 .none).xlateStalls 5 3 = false
    ∧ ((fedWith r).noteFull.descCor 0 .none).intk.named.find? (fun n => n.lane == 0) = none
    ∧ State.xlateStalls { s with intk := { s.intk with maps := List.replicate 64 ⟨3, 5, 1, 0, 0, .raise, none, 0, 0, 0, 4, false, 0⟩ } } 5 3
      = false := by decide +kernel

theorem test_wit_WindowEventsAndLines_lost :
    (fedWith (desc 1 5 0 0 3)).srcLookup 0 5 .none = (none, fedWith (desc 1 5 0 0 3))
    ∧ (fedWith (desc 1 4 1 0 3)).descReason (desc 1 4 1 0 3) = some 2 := by
  refine ⟨rfl, ?_⟩; decide +kernel

theorem test_wit_WindowEventsAndLines_line :
    let s : State := { fed with intk := { fed.intk with lane0 := [.line 7 .raise] } }
    s.laneQ 0 = .line 7 .raise :: [] ∧ s.laneStalls 0 = false ∧ s.xlateStalls (s.img.ords.lineBase + 7) 0 = false := by decide +kernel

/-- An INDIRECT entry of source 5, with a map of one word. -/
def indirect : State :=
  { fed with src := { fed.src with xlate := [(5, BitVec.ofNat 128 (2 ^ 127 + 2 ^ 126 + 1 * 2 ^ 96 + 0xF * 2 ^ 32 + 1))] } }

theorem test_wit_TranslationOutcomes : (fed.xlateOf 6).valid = false
    ∧ (fed.xlateOf 5).valid = true ∧ (fed.xlateOf 5).limit ≤ (4 &&& (fed.xlateOf 5).mask)
    ∧ (3 &&& (fed.xlateOf 5).mask) < (fed.xlateOf 5).limit ∧ (fed.xlateOf 5).indirect = false
    ∧ (indirect.xlateOf 5).indirect = true ∧ (0 &&& (indirect.xlateOf 5).mask) < (indirect.xlateOf 5).limit := by decide +kernel

/-- Whichever free tag the block takes, a request finds one while any is free, no retune runs and nothing of the other direction is outstanding to its line. -/
theorem depReq_free (s : State) (u : TagUse) (w : Bool) (n : Nat) (data : BitVec 512) (hc : s.pwr.change = none)
    (hn : s.depClash w n = false)
    (hf : 0 < ((List.range 1024).filter (fun t => (SMap.find s.dep.tags t).isNone)).length) :
    ∃ t v, s.depReq u w n data = some (t, v) := by
  have h : (s.pickDepTag).isSome = true := by
    unfold State.pickDepTag
    dsimp only
    rw [List.getElem?_eq_getElem (Nat.mod_lt _ hf)]
    rfl
  have hr : s.depReady = true := by unfold State.depReady; rw [h, hc]; rfl
  obtain ⟨t, ht⟩ := Option.isSome_iff_exists.mp h
  exact ⟨t, _, by unfold State.depReq; rw [hr, hn]; dsimp only; rw [if_pos (by decide), ht]⟩

theorem test_wit_TranslationOutcomes_tag : ∃ t v, up.depRead .map 0 = some (t, v) :=
  depReq_free up _ _ _ _ rfl rfl (by decide +kernel)

/-- A map read of source 5 is outstanding with tag 3; the map word at `index` reads `w`. -/
def mapWaits (w : List Byte) : State :=
  { up with
    intk := { up.intk with maps := [⟨3, 5, 1, 0, 0, .raise, none, 0, 0, 0, 4, false, 0⟩] }
    dep := { up.dep with tags := [(3, ⟨.map, false, 0⟩)] } }.setDepBytes up.img.depot.tableBase w

theorem test_wit_TranslationOutcomes_map : (mapWaits []).CoreUp
    ∧ ((mapWaits []).intk.maps.find? (fun x => x.tag == (3#10).toNat)).isSome = true
    ∧ (mapWaits []).depNat (mapWaits []).img.depot.tableBase 4 < 2 ^ 31
    ∧ (mapWaits [0, 0, 0, 0x80]).depNat up.img.depot.tableBase 4 = 2 ^ 31 := by unfold State.CoreUp; decide +kernel

theorem test_wit_IntxWires :
    let r := desc 2 4 0 0 0
    (fedWith r).noteFull.laneStalls 0 = false ∧ (fedWith r).laneQ 0 = .desc r :: [] ∧ dKind r = 2
    ∧ (fedWith r).descLost 0 .none = none ∧ dPoison r = false
    ∧ (fedWith r).intk.wires.getLsbD (4 * dHport r + dPin r) ≠ true
    ∧ (fedWith r).xlateStalls ((fedWith r).img.ords.intxBase + (4 * dHport r + dPin r)) 0 = false := by decide +kernel

theorem test_wit_LineInputs : up.lineIsLevel 1023 = false ∧ asleep.inReset = false ∧ asleep.coreOn = false
    ∧ linesWait.bit F.LIN_CFG_EN 1023 = true ∧ up.bit F.LIN_CFG_EN 1023 = false ∧ linesWait.lineIsLevel 7 = true
    ∧ linesWait.coreOn = true ∧ linesWait.intk.sync.getLsbD 7 ≠ true
    ∧ (linesWait.bit F.LIN_CFG_EN 7 && linesWait.lineIsLevel 7) = true
    ∧ (up.bit F.LIN_CFG_EN 1023 && up.lineIsLevel 1023) = false := by decide +kernel

/-- A poisoned event descriptor is discarded with reason 5 (R134), a known one goes on. -/
theorem test_poisoned_descriptor : up.descReason (desc 1 4 0 0 3) = some 2
    ∧ (up.setFld F.INT_WIN_CFG_KIND 0 1).descReason (desc 1 4 0 0 3 ||| BitVec.ofNat 128 (2 ^ 96)) = some 5
    ∧ (up.setFld F.INT_WIN_CFG_KIND 0 1).descReason (desc 1 4 0 0 3) = none := by decide +kernel

/-- The lane of a requester: bits 1:0, 9:8 and the segment (R131). -/
theorem test_lane_hash : dLane (desc 1 0x0103 0 0 0) = 2 ∧ dLane (desc 1 3 0 0 0) = 3 ∧ dLane (desc 2 3 0 0 0) = 0 := by decide

/-! ### The state store and the depot -/

/-- Depot requests of each kind are outstanding, one tag each. -/
def tagged : State :=
  { up with dep := { up.dep with
      tags := [(0, ⟨.fill 8, false, 8⟩), (1, ⟨.map, false, 9⟩), (2, ⟨.stateWb 8, true, 10⟩), (4, ⟨.jrnl 1, true, 11⟩),
        (6, ⟨.replay 1, false, 12⟩), (7, ⟨.job 0 3, true, 13⟩), (1023, ⟨.other, true, 14⟩)] } }

theorem test_wit_DepotResponses : tagged.boot.held = false ∧ SMap.find tagged.dep.tags 5 = none
    ∧ (SMap.find tagged.dep.tags 0).map (·.use) = some (.fill 8) ∧ (SMap.find tagged.dep.tags 1).map (·.use) = some .map
    ∧ (SMap.find tagged.dep.tags 2).map (·.use) = some (.stateWb 8) ∧ (SMap.find tagged.dep.tags 4).map (·.use) = some (.jrnl 1)
    ∧ (SMap.find tagged.dep.tags 6).map (·.use) = some (.replay 1) ∧ (SMap.find tagged.dep.tags 7).map (·.use) = some (.job 0 3)
    ∧ (SMap.find tagged.dep.tags 1023).map (·.use) = some .other := by decide +kernel

/-- A fill of line 8 is outstanding; with `got` its data has come. -/
def missing (got : Option Bool) : State :=
  { up with
    sst := { up.sst with missq := [⟨8, if got.isSome then none else some 0, [], 0, got⟩] }
    dep := { up.dep with tags := if got.isSome then [] else [(0, ⟨.fill 8, false, 8⟩)] } }

theorem test_wit_FillsAndWriteBacks_fill : (missing none).CoreUp
    ∧ (up.sst.missq.find? (fun m => m.line == 8 && m.tag.isSome)) = none
    ∧ ((missing none).sst.missq.find? (fun m => m.line == 8 && m.tag.isSome)).isSome = true
    ∧ ((missing (some false)).sst.missq.find? (fun m => m.line == 8 && m.got.isSome)).isSome = true
    ∧ ((missing (some false)).install 8 ((missing (some false)).backingLine 8) false).isSome = true := by
  unfold State.CoreUp; decide +kernel

/-- A set whose 16 ways hold dirty lines while the victim buffer is full: there is no place for line 8. -/
def noPlace : State :=
  let u := missing (some false)
  { u with sst := { u.sst with
      cache := (List.range 16).map (fun k => (8 + (k + 1) * 2 ^ 16, ⟨[], true, 0⟩))
      victims := List.replicate 32 ⟨0, [], none, false⟩ } }

/-- A victim waits for its write-back. -/
def victimWaits : State := { up with sst := { up.sst with victims := [⟨8, [], none, false⟩] } }

theorem test_wit_FillsAndWriteBacks_victim : victimWaits.sst.victims.find? (fun v => v.tag.isNone) = some ⟨8, [], none, false⟩
    ∧ victimWaits.jLineDue = false ∧ ∃ t u, victimWaits.writeBack 8 [] = some (t, u) := by
  refine ⟨by decide +kernel, by decide +kernel, ?_⟩
  obtain ⟨t, v, h⟩ := depReq_free victimWaits (.stateWb 8) true (victimWaits.backLine 8) (lineData (entryBytes [])) rfl rfl (by decide +kernel)
  unfold State.writeBack State.markSave
  rw [show victimWaits.sav.mark = none from rfl]
  dsimp only [Option.bind]
  rw [h]
  exact ⟨_, _, rfl⟩

theorem test_wit_FillsAndWriteBacks_wait : (noPlace.sst.missq.find? (fun m => m.line == 8 && m.got.isSome)).isSome = true
    ∧ noPlace.install 8 (noPlace.backingLine 8) false = none := by decide +kernel

theorem test_wit_FillsAndWriteBacks_init :
    let s := (up.setFld F.REG_RST_STAT_STAGE 0 2).lower F.SST_STATUS_INIT_DONE
    s.stage = 2 ∧ s.bit F.SST_STATUS_INIT_DONE = false ∧ up.stage ≠ 2 ∧ up.sst.victims = [] := by decide +kernel

/-- Line 8 is cached, and the scrubber runs; its pointer stands at `n`. -/
def scrubbing (n : Nat) : State :=
  let s := up.setFld F.SST_CTRL_SCRUB_INT 0 1
  { s with sst := { s.sst with cache := [(8, ⟨[], false, 0⟩)], scrub := n } }

theorem test_wit_ScrubReadsOneLine : (scrubbing 8).CoreUp ∧ (up.setFld F.SST_CTRL_SCRUB_INT 0 0).fld F.SST_CTRL_SCRUB_INT = 0 ∧ (scrubbing 8).fld F.SST_CTRL_SCRUB_INT ≠ 0
    ∧ ((scrubbing 8).sst.cache.find? (fun x => decide ((scrubbing 8).sst.scrub ≤ x.1))).isSome = true
    ∧ ((scrubbing 9).sst.cache.find? (fun x => decide ((scrubbing 9).sst.scrub ≤ x.1))) = none := by
  unfold State.CoreUp; decide +kernel

/-- The range command registers of domain 1 hold the operation, the EID and the count. -/
def ranged (op eid n : Nat) : State :=
  (((up.setFld F.SST_RTCMD_OP 1 op).setFld F.SST_RTCMD_EID 1 eid).setFld F.SST_RTCNT_CNT 1 n)

theorem test_wit_RangeCommands : (ranged 2 64 15).rangeOk 1 64 15 = true ∧ (ranged 2 64 16).rangeOk 1 64 16 = false
    ∧ (ranged 2 64 15).bit F.SST_RTCMD_BUSY 1 = false ∧ (ranged 5 64 15).fld F.SST_RTCMD_OP 1 = 5
    ∧ (ranged 6 64 15).fld F.SST_RTCMD_OP 1 = 6 ∧ up.rangeOk 1 63 0 = false
    ∧ ((ranged 2 64 15).raise F.SST_RTCMD_BUSY 1).bit F.SST_RTCMD_BUSY 1 = true := by decide +kernel

theorem test_wit_RangeCommands_sequenced :
    let s := (ranged 2 64 15).setFld F.CVN_MODE_MODE 1 1
    let go := (s.raise F.SST_RTCMD_BUSY 1).setFld F.SST_RTCMD_ERR 1 0
    go.sequenced 1 = true ∧ go.domEn 1 = true ∧ (ranged 2 64 15).sequenced 1 = false := by decide +kernel

theorem test_wit_RangeCommands_config :
    let s (op : Nat) := ((up.setFld F.SST_CFGCMD_OP 1 op).setFld F.SST_CFGCMD_EID 1 79)
    (s 2).rangeOk 1 79 0 = true ∧ (s 2).domEn 1 = true ∧ (s 2).fld F.SST_CFGCMD_OP 1 = 2
    ∧ ((s 2).lower F.VFM_DOM_CTRL_EN 1).domEn 1 = false ∧ (s 3).fld F.SST_CFGCMD_OP 1 = 3 ∧ (s 0).fld F.SST_CFGCMD_OP 1 = 0
    ∧ (s 2).bit F.SST_CFGCMD_BUSY 1 = false := by decide +kernel

/-! ### Caravans -/

/-- Domain 1 is a running sequenced domain; window 1 takes waymarks, window 2 doorbells. -/
def seqd : State :=
  ((((fed.setFld F.CVN_MODE_MODE 1 1).raise F.CVN_VERDICT_RUN 1).setFld F.INT_WIN_CFG_KIND 1 2).setFld F.INT_WIN_CFG_KIND 2 3)

/-- The same, with `r` at the head of lane 0. -/
def seqdWith (r : Rec) : State := { seqd with intk := { seqd.intk with lane0 := [.desc r] } }

theorem test_wit_WaymarksFollowTheirSource :
    let r := desc 1 4 1 7 0
    let u := (seqdWith r).noteFull
    u.laneStalls 0 = false ∧ u.windowHead 0 2 = some r ∧ ([0, 3] : List Nat).contains (dData r / 2 ^ 30 % 4) = true
    ∧ ([1] : List Nat).contains (dData r / 2 ^ 30 % 4) = false ∧ u.descLost 0 .none = none
    ∧ ((u.descCor 0 .none).srcLookup (dSeg r) (dRid r) .none).1 = some 5 ∧ u.img.caravanOf 5 = some 1
    ∧ u.jStopped 1 = false ∧ u.sequenced 1 = true ∧ u.domEn 1 = true ∧ u.bit F.VFM_DOM_STAT_FENCED 1 = false
    ∧ u.held 1 = false ∧ u.running 1 = true := by decide +kernel

theorem test_wit_WaymarksFollowTheirSource_ignored :
    let r := desc 1 4 1 7 0
    let u := (seqdWith r).noteFull
    (u.raise F.VFM_DOM_CTRL_MHOLD 1).held 1 = true ∧ (u.lower F.CVN_MODE_MODE 1).sequenced 1 = false
    ∧ (u.lower F.CVN_VERDICT_RUN 1).running 1 = false ∧ (desc 1 5 1 7 0 |> fun r => u.srcFind (dSeg r) (dRid r)) = none
    ∧ u.img.caravanOf 6 = none := by decide +kernel

/-- The waymark kinds at the ends of their field: 0, 1, 2 and the reserved 3, which is a MARK (R178). -/
theorem test_waymark_kinds : dData (desc 1 4 1 0 0) / 2 ^ 30 % 4 = 0 ∧ dData (desc 1 4 1 0 (2 ^ 30)) / 2 ^ 30 % 4 = 1
    ∧ dData (desc 1 4 1 0 (2 ^ 31)) / 2 ^ 30 % 4 = 2 ∧ dData (desc 1 4 1 0 (2 ^ 32 - 1)) / 2 ^ 30 % 4 = 3 := by decide

/-- The domain's run, its clock at `c` and its oldest epoch since `since`. -/
def clocked (c : Option Nat) (since : Nat) : State := { seqd.setRun 1 ⟨0, since, c, [], false, []⟩ with tim := { seqd.tim with ft := 10 ^ 15 } }

theorem test_wit_EpochTimers : (clocked none 0).PathUp ∧ (clocked none 0).running (1#12).toNat = true
    ∧ (clocked none 0).sequenced 1 = true ∧ ((clocked none 0).run 1).clock = none
    ∧ ((clocked none 0).run 1).since + (clocked none 0).epochLen 1 * 45 ≤ (clocked none 0).tim.ft
    ∧ (clocked none (10 ^ 15)).tim.ft < ((clocked none (10 ^ 15)).run 1).since + (clocked none (10 ^ 15)).epochLen 1 * 45 := by
  unfold State.PathUp; decide +kernel

theorem test_wit_EpochTimersComplete :
    let s := clocked (some (10 ^ 15)) 0
    s.coordinator = true ∧ s.clockAt 1 (s.stragTs 1) = true ∧ (s.run 1).overdue = false ∧ s.clockAt 1 (s.holdCeil 1) = true
    ∧ s.missing 1 = [5] := by decide +kernel

/-- Two closed epochs' groups wait for release. -/
def closedTwo : State :=
  let g (e : Nat) : Group := ⟨1, 0, e, 3, 0, 1, 1, none, 0, 1, 0, 0⟩
  { seqd with
    sst := { seqd.sst with cache := [(8, ⟨List.replicate 8 Entry.init, false, 0⟩)] }
    cvn := { seqd.cvn with closed := [{ dom := 1, epoch := 0, groups := [g 64, g 65], pos := [], agreed := true, since := 0 }] } }

theorem test_wit_ReleasesOfClosedEpochs : (closedTwo.nextGroup.map (·.eid)) = some 64 ∧ closedTwo.cvn.refused = []
    ∧ (closedTwo.releaseOne .none).nextGroup.map (·.eid) ≠ some 64 := by decide +kernel

theorem test_wit_ReleasesOfClosedEpochs_retry :
    State.PathUp { seqd with cvn := { seqd.cvn with refused := [⟨⟨1, 0, 64, 3, 0, 1, 1, none, 0, 1, 0, 0⟩, .tgt 0, 0⟩] } } := by
  unfold State.PathUp; decide +kernel

theorem test_wit_SilenceOfASource :
    let s (o op : Nat) := ((seqd.setFld F.CVN_SRC_CMD_ORDINAL 0 o).setFld F.CVN_SRC_CMD_OP 0 op)
    ((s 6 1).img.caravanOf ((s 6 1).fld F.CVN_SRC_CMD_ORDINAL)).any (s 6 1).running = false
    ∧ (s 5 1).img.caravanOf ((s 5 1).fld F.CVN_SRC_CMD_ORDINAL) = some 1 ∧ (s 5 1).running 1 = true
    ∧ (s 5 2).fld F.CVN_SRC_CMD_OP ≠ 1 ∧ (s 5 1).fld F.CVN_SRC_CMD_OP = 1 ∧ (s 5 1).coordinator = true
    ∧ State.coordinator { seqd with chl := { seqd.chl with st := .listen } } = false := by decide +kernel

/-! ### Ranking, shaping and gates -/

theorem test_wit_TargetRuntimeCommands : (up.setFld F.RTE_TGT_CFG_OWNER 65535 1).fld F.RTE_TGT_CFG_OWNER 65535 = 1
    ∧ ((up.setFld F.RTE_TCMD_TARGET 1 65535).setFld F.RTE_TCMD_OP 1 2).fld F.RTE_TCMD_TARGET 1 = 65535
    ∧ up.fld F.RTE_TGT_CFG_OWNER 65535 ≠ 1 := by decide +kernel

/-- Two events of domain 1 wait for admission. -/
def twoWait : State := { up with rnk := { up.rnk with waiting := [64, 79] } }

theorem test_wit_RankingCommands_word : (twoWait.waitEcc 1 64 (.unc .waitingWord)).1 = false
    ∧ (twoWait.waitEcc 1 64 .none).1 = true ∧ ((twoWait.waitEcc 1 64 .none).2.scanAdmit 1 64).scanNext (some 1) ≠ none
    ∧ (State.scanAdmit { up with rnk := { up.rnk with waiting := [64] } } 1 64).scanNext (some 1) = none := by decide +kernel

/-- Two heads of targets 0 and 1 can be handed over. -/
def twoHeads : State :=
  let o (e t n : Nat) : Offer := ⟨e, 1, t, 3, none, true, 0, 0, n⟩
  let s := (((up.raise F.RTE_TGT_CFG_EN 0).raise F.RTE_TGT_CFG_EN 1).setFld F.RTE_TGT_RT_RTHRESH 0 255).setFld F.RTE_TGT_RT_RTHRESH 1 255
  { s with rnk := { s.rnk with offers := [o 64 0 0, o 65 1 1] } }

theorem test_wit_RankingCommands_admission : up.scanNext none = none ∧ twoWait.standby = false
    ∧ twoWait.scanNext none = some (1, 64) ∧ ((twoWait.scanAdmit 1 64).scanNext (some 1)).isSome = true := by decide +kernel

theorem test_wit_RankingCommands_handover : up.chooseTake [] = none ∧ twoHeads.standby = false ∧ twoHeads.inputRoom = true
    ∧ (twoHeads.chooseTake []).map (·.1) = some 0
    ∧ ((twoHeads.chooseTake []).bind (fun x => x.2.chooseTake [0])).map (·.1) = some 1 := by decide +kernel

/-- The first round of hand-overs starts at target 0 of group 0 (R212); the second target follows. -/
theorem test_round_robin : (twoHeads.chooseTake []).map (fun x => (x.1, x.2.rnk.lastGroup)) = some (0, 0) := by decide +kernel

/-- Group 0 has a pending list that starts at 100 ns. -/
def listPends (start : Nat) : State := { up with oas := { up.oas with pend := [(0, ⟨start, 1000, 1, [(true, 1000)]⟩)] } }

theorem test_wit_WheelAndGateClocks : (listPends 0).CoreUp ∧ (SMap.find (listPends 0).oas.pend (0#10).toNat).isSome = true
    ∧ (listPends 0).ns = 0 ∧ (listPends 100).ns < 100 ∧ SMap.find up.oas.pend 0 = none
    ∧ up.wwl.tickAt ≤ ({ up with tim := { up.tim with ft := 10 ^ 9 } } : State).ns ∧ up.ns < up.wwl.tickAt := by
  unfold State.CoreUp; decide +kernel

/-- Group 0 has an operative list of cycle 1,000 ns from time 0, and a head parked because the ring of its target was full. -/
def gateRuns : State :=
  let s := (up.setReg .OAS_OPER_CYCLE 0 1000).setFld F.OAS_OPER_LEN_LEN 0 1
  let s := s.setFld F.DLV_RING_CFG_ORDER 0 4
  { s with tim := { s.tim with ft := 2500 * 45 }, oas := { s.oas with cyc := [(0, 2)] }
           rnk := { s.rnk with heads := [⟨64, 1, 0, 3, none, .live, .parked .full, false, false, 0, 0, 0⟩] } }

theorem test_wit_WheelAndGateClocks_cycle : gateRuns.cycleNow 0 = 3 ∧ SMap.get 0 gateRuns.oas.cyc (0#10).toNat = 2
    ∧ gateRuns.cycleNow 1 ≤ SMap.get 0 gateRuns.oas.cyc 1 := by decide +kernel

theorem test_wit_WheelAndGateClocks_parked : gateRuns.PathUp ∧ (gateRuns.rnk.heads.find? (fun h => gateRuns.parkCleared h)).isSome = true
    ∧ up.rnk.heads.find? (fun h => up.parkCleared h) = none := by unfold State.PathUp; decide +kernel

theorem test_wit_LateListStart : (0 : Nat) < 1000 ∧ 0 + 2000 ≤ 2000 ∧ 1999 < 0 + 2000 := by decide

/-- A base 1 ns too early moves by one cycle; one in time stays (R230). -/
theorem test_late_start : lateStart 1999 1000 0 = (1, 2999) ∧ lateStart 2000 1000 0 = (0, 2000)
    ∧ lateStart 0 1000 5500 = (8, 8000) := by decide

/-! ### Delivery and completion -/

/-- A write with tag 7 for host port 127, taken by the switch. -/
def write7 : EgrWrite := ⟨7, 0, 0, 127, 1, false, 0, 0, 1, none, false, 0, 0, true, 0⟩

/-- It waits for its acknowledgement. -/
def writeOut : State := { up with dlv := { up.dlv with tags := [write7] } }

theorem test_wit_EgressWritesAndAcknowledgements : writeOut.boot.held = false ∧ writeOut.takenWrite (8#12).toNat = none
    ∧ writeOut.takenWrite (7#12).toNat = some write7 ∧ heldCold.boot.held = true
    ∧ State.takenWrite { writeOut with dlv := { writeOut.dlv with egr := [write7] } } 7 = none := by decide +kernel

/-- A failed write takes its port down and keeps its tag (R247). -/
theorem test_failed_write : ∃ t, exec (.egressAck 7 1) writeOut = .next t ∧ t.portDown 127 = true ∧ t.portDown 126 = false
    ∧ t.dlv.tags = [write7] ∧ t.dlv.unsent = [write7] := ⟨_, rfl, by decide +kernel⟩

theorem test_wit_ResumeReissues : (127 : Nat) < 128 ∧ (31 : Nat) < 32 ∧ 30 ≠ 127 % 32 := by decide

/-- A doorbell with operation `op` in window 2. -/
def bell (op : Nat) : Rec := desc 1 4 2 (op * 2 ^ 20) 64

theorem test_wit_DoorbellsOfALane : ∀ op : Fin 4,
    let u := (seqdWith (bell op.val)).noteFull
    u.laneStalls 0 = false ∧ u.windowHead 0 3 = some (bell op.val) ∧ dWoff (bell op.val) / 2 ^ 20 = op.val
    ∧ u.descLost 0 .none = none ∧ ((u.descCor 0 .none).laneDrop 0).standby = false := by decide +kernel

theorem test_wit_DoorbellsOfALane_standby :
    let s : State := (seqdWith (bell 0)).setFld F.TDM_ROLE_CUR 0 2
    ((s.noteFull.descCor 0 .none).laneDrop 0).standby = true ∧ dWoff (bell 0) / 2 ^ 20 ≠ 1
    ∧ (s.noteFull.descLost 0 (.unc .descriptor)).isSome = true := by decide +kernel

theorem test_wit_DoorbellRegisters : up.dbOutside 1 = true
    ∧ (up.setReg .CMP_DBDATA 1 64).dbOutside 1 = false ∧ (up.setReg .CMP_DBDATA 1 79).dbOutside 1 = false
    ∧ (up.setReg .CMP_DBDATA 1 80).dbOutside 1 = true
    ∧ ((up.setReg .CMP_DBDATA 1 64).setFld F.CMP_DBCMD_OP 1 3).fld F.CMP_DBCMD_OP 1 = 3 := by decide +kernel

/-- Event 64 is ACTIVE, its entry cached, with an active record whose redelivery timer stands at `t`. -/
def delivered (t : Nat) : State :=
  let s := up.setFld F.CMP_TGT_CFG_RD_TIMEOUT 0 2
  { s with
    sst := { s.sst with cache := [(8, ⟨List.replicate 8 { Entry.init with st := .active }, false, 0⟩)] }
    dlv := { s.dlv with active := [⟨64, 1, 0, 0, 1, 3, false, false, 0, some t, 1, 0, 0⟩] } }

theorem test_wit_DoorbellRegisters_force : ((delivered 0).entryNow 64).st = .active ∧ (up.entryNow 64).st ≠ .active
    ∧ ((delivered 0).dlv.active.find? (fun a => a.eid == 64 && !a.replay)).isSome = true := by decide +kernel

theorem test_wit_DoorbellRegisters_record :
    let a : ActiveRec := ⟨64, 1, 0, 0, 1, 3, false, false, 0, some 0, 1, 0, 0⟩
    ((delivered 0).activeEcc a .none).1 = true ∧ ((delivered 0).activeEcc a (.unc .activeRecord)).1 = false
    ∧ (State.entryNow { delivered 0 with dlv := up.dlv } 64).st = .active ∧ up.dlv.active.find? (fun a => a.eid == 64 && !a.replay) = none := by
  decide +kernel

theorem test_wit_RedeliveryAndFaultRing_timeout :
    ((delivered 90000).dlv.active.find? (fun a => a.eid == (64#24).toNat && (delivered 90000).expired a)).isSome = true
    ∧ (delivered 89999).dlv.active.find? (fun a => a.eid == (64#24).toNat && (delivered 89999).expired a) = none
    ∧ (delivered 90000).caravan 1 = false ∧ ((delivered 90000).setFld F.CVN_MODE_MODE 1 1).caravan 1 = true := by decide +kernel

/-- The fault ring is set up; one LOST entry waits, and an offer of the fault queue. -/
def faultRing (lost : List Rec) (q : List FaultItem) : State :=
  let s := (up.raise F.DLV_FAULT_CFG_EN).setFld F.DLV_FAULT_CFG_ORDER 0 4
  { s with dlv := { s.dlv with lost := lost }, rnk := { s.rnk with faultQ := q } }

theorem test_wit_RedeliveryAndFaultRing_fault :
    let s := faultRing [0] [⟨64, 1, 2, none, none⟩]
    s.PathUp ∧ (!s.standby && !s.saving && !s.tdm.switching && s.faultRingReady && s.faultTurn) = true
    ∧ s.activeFull = false ∧ s.tagsFree (s.writesOf none) = true ∧ s.egrRoom (s.writesOf none) = true
    ∧ (faultRing [] []).dlv.lost = [] ∧ up.faultRingReady = false := by unfold State.PathUp; decide +kernel

theorem test_wit_RedeliveryAndFaultRing_lag :
    let s : State := (faultRing [0] []).setFld F.TDM_STATUS_STATE 0 2
    let l : State := { (s.raise F.TDM_MODE_MODE).setFld F.TDM_ROLE_CUR 0 1 with tdm := { s.tdm with seq := 10 ^ 6 } }
    s.lagFull = false ∧ l.lagFull = true
    ∧ (!l.standby && !l.saving && !l.tdm.switching && l.faultRingReady && l.faultTurn) = true := by decide +kernel

theorem test_wit_RedeliveryAndFaultRing_full :
    let w (n : Nat) : State := { faultRing [0] [] with dlv := { (faultRing [0] []).dlv with tags := List.replicate n write7 } }
    (w 4095).tagsFree 1 = true ∧ (w 4096).tagsFree 1 = false
    ∧ State.egrRoom { up with dlv := { up.dlv with egr := List.replicate 128 write7 } } 1 = false := by decide +kernel

theorem test_wit_RedeliveryAndFaultRing_records : State.activeFull { up with dlv := { up.dlv with
    active := List.replicate 262144 ⟨64, 1, 0, 0, 1, 3, false, false, 0, none, 1, 0, 0⟩ } } = true := by
  unfold State.activeFull; rw [List.length_replicate]; rfl

/-! ### Journal, replay, domains and saves -/

/-- A journal record of domain 1 at slot `pos`. -/
def jrec (pos : Nat) : JRec := ⟨1, pos, 0⟩

/-- The partial line of domain 1 holds a record since time 0; the records `q` wait to leave, and it is `now`. -/
def journal (q : List JRec) (now : Nat) : State :=
  { up with
    way := { up.way with q := q, doms := [(1, { up.jrnl 1 with part := [jrec 0], partAt := 0, pos := 1 })] }
    tim := { up.tim with now := now } }

theorem test_wit_JournalAndReplayRecords_timeout :
    (journal [] 0).CoreUp ∧ (journal [] 0).way.q.any (fun r => r.d == (1#12).toNat) = false
    ∧ ((journal [] 0).jrnl 1).partAt + 256 * (journal [] 0).period ≤ (journal [] (256 * (journal [] 0).period)).tim.now
    ∧ (journal [] (256 * (journal [] 0).period - 1)).tim.now < ((journal [] 0).jrnl 1).partAt + 256 * (journal [] 0).period
    ∧ 0 < (journal [] 0).period ∧ (journal [jrec 1] 0).way.q.any (fun r => r.d == (1#12).toNat) = true := by
  unfold State.CoreUp; decide +kernel

theorem test_wit_JournalAndReplayRecords_line : ((journal [] 0).journalEcc .none).jLeave.isNone = true
    ∧ (((journal [jrec 1] 0).journalEcc .none).jLeave.map (·.1)) = some false
    ∧ ((({ up with way := { up.way with q := [jrec 4] } } : State).journalEcc .none).jLeave.map (·.1)) = some false := by
  decide +kernel

/-- A replay of domain 1 runs; its window holds `n` records, and the line it has read is `l`. -/
def replaying (n : Nat) (l : Option (Nat × BitVec 512 × Bool)) : State :=
  let s := up.setFld F.RPL_STATUS_STATE 1 1
  { s with rpl := [(1, { s.replay 1 with window := List.replicate n 0, allTaken := false, line := l })] }

theorem test_wit_JournalAndReplayRecords_replay :
    let n := (replaying 0 none).rplLine 1
    (replaying 0 none).PathUp ∧ (replaying 1023 (some (n, 0, true))).rplReads 1 = true ∧ (replaying 1024 none).rplReads 1 = false
    ∧ ((replaying 0 (some (n, 0, true))).replay 1).line = some (n, 0, true)
    ∧ (replaying 0 (some (n, 0, false))).rplLine 1 = n ∧ n + 1 ≠ (replaying 0 (some (n + 1, 0, false))).rplLine 1
    ∧ (up.replay 1).line = none ∧ up.rplReads 1 = false := by unfold State.PathUp; decide +kernel

theorem test_wit_JournalAndReplayRecords_ask : ∃ t u,
    (replaying 0 none).rplReads 1 = true ∧ ((replaying 0 none).replay 1).ask = none
    ∧ ((replaying 0 none).replay 1).line.any (fun l => l.1 == (replaying 0 none).rplLine 1) = false
    ∧ (replaying 0 none).depRead (.replay 1) ((replaying 0 none).rplLine 1) = some (t, u) := by
  obtain ⟨t, v, h⟩ := depReq_free (replaying 0 none) (.replay 1) false ((replaying 0 none).rplLine 1) 0 rfl rfl (by decide +kernel)
  exact ⟨t, v, by decide +kernel, by decide +kernel, by decide +kernel, h⟩

theorem test_wit_DomainResetAndSaveEnds_flr : (0#12).toNat = 0 ∧ up.vfm.vfs < (5#12).toNat ∧ (4#12).toNat ≤ up.vfm.vfs
    ∧ up.fld F.REG_RST_STAT_STAGE = 3 ∧ State.reset.fld F.REG_RST_STAT_STAGE ≠ 3 ∧ up.inReset = false := by decide +kernel

/-- The walk over domain 1 has run for `n` entries' lines of 1 ns. -/
def walking (now : Nat) : State :=
  { up with
    vfm := { up.vfm with walks := [(1, { reset := true, fence := false, seq := false, dirty := false, pend := 0, act := 0, uniss := 0, egr := 0, since := 0 })] }
    tim := { up.tim with now := now } }

theorem test_wit_DomainResetAndSaveEnds_walk : (walking 90).CoreUp ∧ (walking 90).walkPassed 1 (64 + 16 - 1) = true
    ∧ (walking 89).walkPassed 1 (64 + 16 - 1) = false := by unfold State.CoreUp; decide +kernel

/-- A job of one line is done: its request has been made and answered. -/
def jobEnds (k : JobKind) : Job := ⟨0, k, true, 0, 1, 1, false⟩

theorem test_wit_DomainResetAndSaveEnds_save :
    let s : State := { up with
      vfm := { up.vfm with saves := [(1, ⟨8, [], []⟩)] }
      dep := { up.dep with jobs := [jobEnds (.save 1)] } }
    (SMap.find s.vfm.saves (1#12).toNat).isSome = true ∧ s.saving = false ∧ s.jobDone (.save 1) = true
    ∧ SMap.find up.vfm.saves 1 = none ∧ up.jobDone (.save 1) = false
    ∧ State.saving { s with sav := { s.sav with run := some ⟨2, 0, false, 0xFF, some (up.snapshot ⟨2, 0, false, 0xFF, none⟩)⟩ } } = true := by decide +kernel

/-- The hold-up monitor reads 9, valid and steady. -/
def hu9 : Hu := ⟨9, true, true⟩

/-- Periodic saves are on, at every 125 ms, with three slots; it is `now`. -/
def savesOn (now : Nat) : State :=
  let s := (up.setFld F.SAV_POLICY_PERIOD 0 1).setFld F.IMG_STATUS_STATE 0 1
  { s with img := { s.img with holdup := { s.img.holdup with saveSlots := 3 } }, tim := { s.tim with now := now } }

theorem test_wit_PersistentSaveTriggers_periodic : up.periodicDue = false ∧ (savesOn (125000000 * 45 - 1)).periodicDue = false
    ∧ (savesOn (125000000 * 45)).periodicDue = true ∧ (savesOn (125000000 * 45)).saveBarred = false
    ∧ ((savesOn (125000000 * 45)).inInterval || (savesOn (125000000 * 45)).sav.run.isSome) = false
    ∧ (savesOn 0).saveReady = true ∧ asleep.saveReady = false ∧ up.saveBarred = true := by decide +kernel

theorem test_wit_PersistentSaveTriggers_pfail : heldCold.boot.held = true ∧ heldWarm.boot.held = false ∧ heldWarm.boot.warmHeld = true
    ∧ heldWarm.saveBarred = true ∧ up.boot.held = false ∧ up.boot.warmHeld = false
    ∧ State.saveBarred { savesOn 0 with boot := { (savesOn 0).boot with warmHeld := true } } = false := by decide +kernel

/-- A trigger waits with the answer `v` of its hold-up check. -/
def saveWaits (v : Nat) (s : State) : State := { s with sav := { s.sav with wait := [(2, v)] } }

theorem test_wit_PersistentSaveTriggers_interval :
    (saveWaits 1 (savesOn 0)).nextTrigger = some (2, 1) ∧ (saveWaits 1 asleep).saveReady = false ∧ up.nextTrigger = none
    ∧ (!(saveWaits 1 (savesOn 0)).saveReady || (saveWaits 1 (savesOn 0)).sav.run.isSome) = false
    ∧ ((saveWaits 1 (savesOn 0)).saveBarred || decide (2 ≤ 1)) = false ∧ ((saveWaits 2 (savesOn 0)).saveBarred || decide (2 ≤ 2)) = true
    ∧ ((saveWaits 1 (savesOn 0)).inInterval && ((2 : Nat) != 0 || (saveWaits 1 (savesOn 0)).sav.pfailed)) = false := by decide +kernel

theorem test_wit_PersistentSaveTriggers_home :
    let s : State := { up with sav := { up.sav with homeWant := true } }
    s.sav.homeWant = true ∧ s.homeDue = true ∧ s.bit F.CFG_STATUS_REF_VALID = false
    ∧ (s.raise F.CFG_STATUS_REF_VALID).bit F.CFG_STATUS_REF_VALID = true := by decide +kernel

/-- A save to slot 0 runs, its record composed; its job is done or not. -/
def saveEnds (done : Bool) : State :=
  { up with
    sav := { up.sav with run := some ⟨2, 0, false, 0xFF, some (up.snapshot ⟨2, 0, false, 0xFF, none⟩)⟩ }
    dep := { up.dep with jobs := if done then [jobEnds .record] else [] } }

theorem test_wit_PersistentSaveTriggers_done : (saveEnds true).CoreUp ∧ (saveEnds true).jobDone .record = true
    ∧ (saveEnds false).jobDone .record = false ∧ ((saveEnds true).sav.run.bind (·.snap)).isSome = true
    ∧ up.sav.run.bind (·.snap) = none := by
  unfold State.CoreUp; decide +kernel

/-! ### The ring -/

/-- A record of a type, for a position. -/
def recTo (ty pos body : Nat) : Rec := chRec ty pos body

theorem test_wit_CaravanRecordsFromTheRing : onTheRing.RingOpen ∧ rTy (recTo chEvent 2 0) = chEvent
    ∧ rPos (recTo chEvent 2 0) = (onTheRing.rxCount .west (recTo chEvent 2 0)).pos
    ∧ rPos (recTo chWaymark 31 0) ≠ onTheRing.pos ∧ rTy (recTo chSilent 2 0) = chSilent ∧ rTy (recTo chClose 2 0) = chClose
    ∧ up.onRing = false ∧ up.inReset = false := by unfold State.RingOpen State.RingUp; decide +kernel

theorem test_wit_CaravanRecordsFromTheRing_asleep : onTheRing.coreOn = true
    ∧ State.coreOn { onTheRing with pwr := asleep.pwr } = false := by decide +kernel

theorem test_wit_CaravanRecordsFromTheRing_pair :
    let s := onTheRing.raise F.TDM_MODE_MODE
    let r := recTo chEvent 3 0
    let u := s.rxCount .west r
    rPos r ≠ u.pos ∧ u.tandem = true ∧ u.partnerPos = some (rPos r) ∧ onTheRing.tandem = false := by decide +kernel

/-- A TANDEM record of a subtype for this member. -/
def tdmRec (sub : Nat) : Rec := chRec chTandem 2 (sub * 2 ^ 116)

theorem test_wit_TandemRecordsFromThePartner : rTy (tdmRec 1) = chTandem ∧ rTsub (tdmRec 1) = 1 ∧ rTsub (tdmRec 11) = 11
    ∧ rPos (tdmRec 5) = (onTheRing.rxCount .east (tdmRec 5)).pos ∧ rTsub (tdmRec 15) ≠ 5 ∧ rTy (recTo chPeer 2 0) = chPeer
    ∧ rOp (recTo chPeer 2 (3 * 2 ^ 118)) = 3 ∧ rOp (recTo chPeer 2 0) ≠ 3 := by decide +kernel

theorem test_wit_TandemRecordsFromThePartner_timeout :
    let s (now : Nat) : State := { up with tdm := { up.tdm with request := some (1, 0) }, tim := { up.tim with now := now } }
    (s 0).tdm.request = some (1, 0) ∧ (s (100000 * 45)).passed 0 100000 = true ∧ (s (100000 * 45 - 1)).passed 0 100000 = false
    ∧ up.tdm.request = none := by decide +kernel

/-- A CTRL record of a subtype, from a position. -/
def ctrl (sub pos body : Nat) : Rec := chRec chCtrl pos (sub * 2 ^ 112 + body)

theorem test_wit_RingControlRecords_check :
    let u := onTheRing.rxCount .east (ctrl 1 3 0)
    let r := ctrl 1 3 ((u.side .east).rcvd % 2 ^ 32 * 2 ^ 80 + ((u.side .east).rcvdCrc ^^^ 0xFFFFFFFF#32).toNat * 2 ^ 48)
    isCtrl r 1 = true ∧ recFld r 80 32 = (u.side .east).rcvd % 2 ^ 32
    ∧ BitVec.ofNat 32 (recFld r 48 32) = (u.side .east).rcvdCrc ^^^ 0xFFFFFFFF#32
    ∧ recFld (ctrl 1 3 (1 * 2 ^ 80)) 80 32 ≠ (u.side .east).rcvd % 2 ^ 32 := by decide +kernel

theorem test_wit_RingControlRecords_subtypes : isCtrl (ctrl 2 3 0) 2 = true ∧ isCtrl (ctrl 4 2 0) 4 = true
    ∧ isCtrl (ctrl 5 3 (2 ^ 110)) 5 = true ∧ (ctrl 5 3 (2 ^ 110)).getLsbD 110 = true ∧ (ctrl 5 3 0).getLsbD 110 = false
    ∧ isCtrl (ctrl 10 3 0) 10 = true ∧ isCtrl (ctrl 12 3 0) 12 = true ∧ rTy (ctrl 0 3 0) = chCtrl ∧ rSub (ctrl 0 3 0) = 0
    ∧ 12 < rSub (ctrl 13 3 0) ∧ rSub (ctrl 12 3 0) = 12 ∧ onTheRing.forMember (recTo chClose 3 0) = false
    ∧ rPos (ctrl 3 2 0) = onTheRing.pos ∧ rPos (ctrl 3 3 0) ≠ onTheRing.pos := by decide +kernel

theorem test_wit_RingControlRecords_calibration :
    let s : State := { onTheRing with chl := { onTheRing.chl with calib := some (7, 16, 0) } }
    (s.rxCount .west (ctrl 3 2 (7 * 2 ^ 48))).chl.calib = some (7, 16, 0) ∧ recFld (ctrl 3 2 (7 * 2 ^ 48)) 48 64 = 7
    ∧ (onTheRing.rxCount .west (ctrl 3 2 0)).chl.calib = none := by decide +kernel

/-- The member leads the ring, at position 2. -/
def leads : State := onTheRing.setFld F.CHL_STATUS_COORD 0 2

theorem test_wit_RingControlRecords_coordinator : leads.coordinator = true ∧ onTheRing.coordinator = false
    ∧ leads.pos < rPos (ctrl 2 3 0) ∧ rPos (ctrl 2 1 0) < leads.pos := by decide +kernel

/-- At a time `now` after reset, with the coordinator last heard of, and every interval counted, from 0. -/
def later (s : State) (now : Nat) : State := { s with tim := { s.tim with now := now, ft := now } }

theorem test_wit_RingSendsAndTimers_sends : leads.RingUp ∧ (leads.onRing && leads.txRoom .east) = true
    ∧ (up.onRing && up.txRoom .east) = false ∧ (leads.side .east).tx.length < 4096
    ∧ (leads.onRing && leads.coordinator && (leads.chl.beaconSent == 0 || leads.passed leads.chl.beaconSent 10240)) = true := by
  unfold State.RingUp; decide +kernel

/-- The transmit queue to the east holds `n` records, and the port asked for a pause or not. -/
def queued (n : Nat) (p : Bool) : State :=
  { leads with chl := { leads.chl with east := { leads.chl.east with tx := List.replicate n 0, pausing := p } } }

theorem test_wit_RingSendsAndTimers_marks : 4096 ≤ ((queued 4096 false).side .east).tx.length
    ∧ ((queued 4096 false).side .east).pausing = false ∧ ((queued 2047 true).side .east).tx.length < 2048
    ∧ ((queued 2047 true).side .east).pausing = true ∧ 2048 ≤ ((queued 2048 true).side .east).tx.length
    ∧ ((queued 4095 false).side .east).tx.length < 4096 ∧ (queued 8192 false).txRoom .east = false := by decide +kernel

theorem test_wit_RingSendsAndTimers_windows :
    let w : State := { leads with chl := { leads.chl with winWant := true } }
    let e : State := { leads with chl := { leads.chl with window := some (0, 1), opened := true } }
    w.windowDue = true ∧ w.chl.window.isNone = true ∧ (leads.onRing && leads.coordinator && e.chl.window.isSome && e.chl.opened && e.chl.calib.isNone) = true
    ∧ (later onTheRing (30720 * 45)).passed 0 30720 = true ∧ (later onTheRing (30720 * 45 - 1)).passed 0 30720 = false := by decide +kernel

theorem test_wit_RingSendsAndTimers_pair :
    let s := (onTheRing.raise F.TDM_MODE_MODE).setFld F.TDM_STATUS_STATE 0 2
    let b := later (s.setFld F.TDM_ROLE_CUR 0 2) (1024 * 45)
    (s.tandem && s.onRing && (s.tdm.hbSent == 0 || s.passed s.tdm.hbSent 1024)) = true
    ∧ (s.partnerPos.isSome && s.onRing && (s.tdm.helloSent == 0 || s.passed s.tdm.helloSent 1000000)) = true
    ∧ (b.standby && b.paired && (decide (256 ≤ b.tdm.sinceAck) || b.passed b.tdm.ackSent 1024)) = true
    ∧ (let l : State := { b with chl := { b.chl with absent := 2 } }
       l.standby && !l.pwr.detached && l.partnerLost) = true := by decide +kernel

theorem test_wit_JoiningAndLeavingTheRing_founding :
    let l : State := { up with chl := { onTheRing.chl with st := .listen } }
    let f : State := { up with chl := { onTheRing.chl with st := .found } }
    (later l (300000 * 45)).passed 0 ((1 + l.pos) * 100000) = true ∧ (later l (300000 * 45 - 1)).passed 0 ((1 + l.pos) * 100000) = false
    ∧ f.portUp .east = true ∧ f.portUp .west = true ∧ (later f (20000 * 45)).within 0 20000 = true
    ∧ (later f (20000 * 45)).passed 0 20000 = true ∧ (later f (20000 * 45 + 1)).within 0 20000 = false := by decide +kernel

theorem test_wit_JoiningAndLeavingTheRing_window :
    let s (st : ChlSt) (lv : Bool) : State := { up with chl := { onTheRing.chl with st := st, leaving := lv, window := some (0, 1) } }
    (s .ready false).chl.window = some (0, 1) ∧ (s .joined true).chl.opened = false ∧ (s .joined true).ns = 0
    ∧ (s .joined true).chl.leaving = true ∧ (s .joined false).chl.waking = false ∧ (s .listen false).chl.st ≠ .joined := by
  decide +kernel

theorem test_wit_JoiningAndLeavingTheRing_lanes : (onTheRing.side .east).lanes &&& ~~~(14#4) ≠ 0
    ∧ (onTheRing.side .east).lanes &&& ~~~(15#4) = 0 ∧ (onTheRing.setSide .east { onTheRing.side .east with lanes := 14 }).onRing = true
    ∧ onTheRing.chl.joining = false ∧ heldWarm.inReset = true := by decide +kernel

/-- A check of a hop without loss leaves the member joined; a lost lane is a hop loss that goes out on both ports (R286). -/
theorem test_hop_loss : ∃ t, exec (.hopLoss .east 14) onTheRing = .next t ∧ t.onRing = true
    ∧ (t.side .east).tx.length = 1 ∧ (t.side .west).tx.length = 1 := ⟨_, rfl, by decide +kernel⟩

/-! ### Power, resets and start-up -/

/-- No voter wants the block awake. -/
def unwanted : State := (up.lower F.PWR_VOTE_AWAKE).lower F.PWR_VOTE_SB_AWAKE

/-- The block may enter sleep by itself. -/
def drowsy : State := later (unwanted.raise F.PWR_AUTOSLEEP_MODE) (10 ^ 9)

/-- An entry drains. -/
def draining : State := later { unwanted.setFld F.PWR_STATUS_STATE 0 1 with pwr := { up.pwr with decided := some 0 } } (10 ^ 9)

theorem test_wit_SleepEntryAndWake_entry : (drowsy.bit F.PWR_AUTOSLEEP_MODE && drowsy.entryOk) = true
    ∧ (up.bit F.PWR_AUTOSLEEP_MODE && up.entryOk) = false := by decide +kernel

theorem test_wit_SleepEntryAndWake_drain :
    (decide (draining.pst = 1) && draining.pwr.rows.isNone && draining.pwr.back.isNone && !draining.pwr.gated) = true
    ∧ draining.drainDone = true ∧ draining.refusers = [] ∧ draining.pwr.wakes = []
    ∧ draining.pwr.decided = some 0 ∧ (later draining 0).passed 0 (max 1 (draining.fld F.PWR_SLEEP_CFG_DRAIN_MAX) * 1000) = false
    ∧ (draining.raise F.PWR_VOTE_AWAKE).refusers ≠ [] ∧ (draining.wakeReq 4 0).pwr.wakes ≠ [] := by decide +kernel

theorem test_wit_SleepEntryAndWake_wakes : (8#4) ≠ 0 ∧ (8#4).toNat ≤ 8 ∧ 8 < (9#4).toNat ∧ asleep.inReset = false
    ∧ (0#7).toNat = asleep.fld F.REG_STRAPS_SB_ADDR ∧ (1#7).toNat ≠ asleep.fld F.REG_STRAPS_SB_ADDR
    ∧ (asleep.setFld F.PWR_STATUS_STATE 0 4).pst = 4 ∧ asleep.pst ≠ 4 := by decide +kernel

/-- DORMANT, or a start from it whose off-area read has ended or not. -/
def dormant (st : Nat) (done : Bool) : State :=
  { asleep.setFld F.PWR_STATUS_STATE 0 st with
    pwr := { asleep.pwr with restoring := true }, dep := { up.dep with jobs := if done then [jobEnds .offBack] else [] } }

theorem test_wit_SleepEntryAndWake_off : (dormant 3 false).pst = 3 ∧ 25 ≤ (25#16).toNat ∧ (24#16).toNat < 25 ∧ asleep.pst ≠ 3
    ∧ (dormant 4 true).pst = 4 ∧ (dormant 4 true).pwr.restoring = true ∧ (dormant 4 true).jobDone .offBack = true
    ∧ (dormant 4 false).jobDone .offBack = false ∧ asleep.pwr.restoring = false ∧ (dormant 4 true).inReset = false := by decide +kernel

theorem test_wit_SleepEntryAndWake_timer :
    let s : State := { asleep with rnk := { asleep.rnk with heads := [⟨64, 1, 0, 3, none, .live, .gate (some 0), false, false, 0, 0, 0⟩] } }
    ((decide (s.pst = 2) || decide (s.pst = 3)) && s.deadline.any (fun t => decide (t ≤ s.ns + 1500))) = true
    ∧ ((decide (asleep.pst = 2) || decide (asleep.pst = 3)) && asleep.deadline.any (fun t => decide (t ≤ asleep.ns + 1500))) = false := by
  decide +kernel

/-- The switch of the ring domain waits for its acknowledgement, on or off. -/
def switching (on : Bool) : State :=
  up.setPsw 4 { en := on, ack := !on, iso := true, ret := false, phase := .wait, since := 0 }

theorem test_wit_PowerSwitchesAndRails_switch : ((switching true).psw (Pd.code .ring)).phase = .wait
    ∧ ((switching true).psw (Pd.code .ring)).en = true ∧ ((switching false).psw (Pd.code .ring)).en = false
    ∧ (later (switching true) (256 * 40 * 45)).passed 0 (256 * 40) = true
    ∧ (later (switching true) (256 * 40 * 45 - 1)).passed 0 (256 * 40) = false
    ∧ (up.psw 4).phase ≠ .wait ∧ up.boot.held = false ∧ heldCold.boot.held = true := by decide +kernel

theorem test_wit_PowerSwitchesAndRails_rail :
    let c (ph : PerfPhase) (left : Nat) : PerfChange := ⟨1, 800, true, ph, left, 0⟩
    up.pwr.change = none ∧ (c (.frame false) 0).left = 0 ∧ (c (.frame false) 3).left ≠ 0 ∧ (c .settle 0).phase ≠ .frame false
    ∧ (AvsAnswer.ack 1) ≠ .ack 0 ∧ (later up (1000 * 45)).passed 0 1000 = true ∧ (later up (1000 * 45 - 1)).passed 0 1000 = false
    ∧ State.passed (later up (10 ^ 9)) 0 (up.fld F.PWR_AVS_CFG_SETTLE * 1000) = true := by decide +kernel

theorem test_wit_ResetsAndStartup_warm : heldWarm.boot.warmHeld = true ∧ up.inReset = false
    ∧ (decide (up.pst = 6) || up.sav.run.any (fun x => x.trig == 0)) = false ∧ asleep.pst = 2
    ∧ (decide ((up.setFld F.PWR_STATUS_STATE 0 6).pst = 6)) = true ∧ heldWarm.dep.tags = [] ∧ tagged.dep.tags ≠ [] := by decide +kernel

theorem test_wit_ResetsAndStartup_low :
    (State.boot { up with boot := { up.boot with warmLow := true } }).warmLow = true ∧ up.boot.warmLow = false
    ∧ up.sav.scan = none ∧ up.vfm.walks = [] ∧ ((up.setFld F.PWR_STATUS_STATE 0 4).pst = 4) ∧ heldCold.boot.warmHeld = false := by
  decide +kernel

theorem test_wit_ResetsAndStartup_wait :
    let s (now : Nat) : State := later { tagged with boot := { tagged.boot with depWait := some 0 } } now
    (s 0).boot.depWait = some 0 ∧ (s (10000 * 45 - 1)).passed 0 10000 = false ∧ (s (10000 * 45)).passed 0 10000 = true
    ∧ up.pfBusy = false ∧ (State.pfBusy (asleep.queueAcc (asleep.accessOf pf .ws 0x1000 false 0 15 .none))) = true := by decide +kernel

theorem test_wit_ResetsAndStartup_ready :
    let s := up.setFld F.REG_RST_STAT_STAGE 0 2
    (decide (s.stage = 2) && s.mainOn && s.pwr.change.isNone && s.bit F.SST_STATUS_INIT_DONE) = true
    ∧ (decide (up.stage = 2) && up.mainOn && up.pwr.change.isNone && up.bit F.SST_STATUS_INIT_DONE) = false := by decide +kernel

/-- COLD takes the straps but for their reserved bits, and leaves the depot memory (R364). -/
theorem test_cold : ∃ t, exec (.cold 0xFFFFFFFF#32) (up.setDepByte 5 7) = .next t ∧ t.reg .REG_STRAPS = 0x07FFFF7F#32
    ∧ t.dep.mem = [(5, 7)] ∧ t.stage = 0 ∧ t.intk.credits = 0 := ⟨_, rfl, by decide +kernel⟩

/-! ### Images, time and telemetry -/

theorem test_wit_ImageTransfers_chunk : up.SidebandOpen ∧ ([0, 0, 0, 0] : List Byte).length < 5
    ∧ 68 < (List.replicate 69 (0 : Byte)).length ∧ 5 ≤ (List.replicate 5 (0 : Byte)).length
    ∧ (List.replicate 68 (0 : Byte)).length ≤ 68 ∧ up.holds .sideband 3 = true ∧ (up.setReg .MGT_AUTH 0 0).holds .sideband 3 = false := by
  unfold State.SidebandOpen; decide +kernel

/-- A slot is being read since time 0, and it is `now`. -/
def fetching (now : Nat) : State := later (up.raise F.IMG_FETCH_REQ) now

theorem test_wit_ImageTransfers_timeout : ((fetching (10 ^ 8 * 45)).imgReq && (fetching (10 ^ 8 * 45)).passed (fetching 0).imgl.since (10 ^ 8)) = true
    ∧ ((fetching (10 ^ 8 * 45 - 1)).imgReq && (fetching (10 ^ 8 * 45 - 1)).passed (fetching 0).imgl.since (10 ^ 8)) = false := by decide +kernel

/-- Both slots have been judged; slot A holds a candidate or not. -/
def judged (a : Option Cand) : State := { up with imgl := { up.imgl with phase := .judged, a := a } }

theorem test_wit_ImageTransfers_choice : (judged none).imgl.choose.1 = none ∧ (judged (some ⟨[]⟩)).imgl.choose.1 = some false
    ∧ up.imgl.phase ≠ .judged ∧ (judged none).imgl.reload = false := by decide +kernel

theorem test_wit_ImageTransfers_apply :
    State.imgDone { up with imgl := { up.imgl with phase := .loaded, code := 0x13 } } =
      (true, State.imgNone { up with imgl := { up.imgl with phase := .loaded, code := 0x13 } }) ∧ up.imgDone.1 = false :=
  ⟨rfl, rfl⟩

theorem test_wit_TimeWalkerAndTelemetry_time : up.boot.held = false
    ∧ ((1#64).toNat + up.fld F.TIM_FT_COMP_DELAY) * 45 < (later up (10 ^ 9)).tim.ft
    ∧ (later up (10 ^ 9)).passed 0 2000 = true ∧ (later up (2000 * 45 - 1)).passed 0 2000 = false
    ∧ up.tim.ft + 1000000 * 45 < ((1000001#64).toNat + up.fld F.TIM_FT_COMP_DELAY) * 45 := by decide +kernel

theorem test_wit_TimeWalkerAndTelemetry_walker :
    let s : State := { up with cfg := { up.cfg with on := true, ran := passTime } }
    (!s.cfg.on || decide (s.cfg.ran < passTime)) = false ∧ (!up.cfg.on || decide (up.cfg.ran < passTime)) = true := by decide +kernel

theorem test_wit_TimeWalkerAndTelemetry_clocks : up.CoreUp ∧ up.ns < up.tel.winEnd ∧ up.tel.winEnd ≤ (later up (10 ^ 15)).ns
    ∧ up.ns < up.tel.lvlAt ∧ up.tel.lvlAt ≤ (later up (10 ^ 15)).ns ∧ firstDone up.tim.ft up.tel.samples = none := by
  unfold State.CoreUp; decide +kernel

/-- A hold-over is noticed 2 µs after the last toggle (R54). -/
theorem test_holdover : ∃ t, exec .holdover (later up 90000) = .next t ∧ t.bit F.TIM_STATUS_HOLDOVER = true := ⟨_, rfl, by decide +kernel⟩

theorem test_wit_DepotMemoryReadsBack : ([7, 8] : List Byte)[1]? = some 8 ∧ (4 : Nat) < 5 ∧ 5 + ([7, 8] : List Byte).length ≤ 7
    ∧ Memory.wf up.dep.mem = true := by decide +kernel

/-- Two bytes stored, one of them the value that an unlisted address reads as (R45). -/
theorem test_depot_bytes : (up.setDepBytes 5 [7, 0, 9]).dep.mem = [(5, 7), (7, 9)] := by decide +kernel

end Sys2Proof.Tests
end

section
/-! PROOFS. What a port holds, read off its six bits of MGT_AUTH (R119, R120), and the default classes of R81. -/

namespace Sys2Proof.Machine

/-- The VF pages read the six bits of their code, 1, and only those of C0 and C1. -/
theorem State.holds_vf (s : State) (fn : BitVec 12) (c : Nat) :
    s.holds (.vf fn) c = true ↔ c ≤ 1 ∧ (s.reg .MGT_AUTH).getLsbD (6 + c) = true := by
  simp [State.holds]

/-- Function 0 from a host port that is no manager holds nothing, whatever the mask. -/
theorem State.holds_none (s : State) (c : Nat) : s.holds .none c = false := rfl

/-- Every other port reads the six bits of its own code. -/
theorem State.holds_eq_mask_bit (s : State) (p : PortId) (c : Nat) (hnone : p ≠ .none) (hvf : ∀ fn, p ≠ .vf fn) :
    s.holds p c = (s.reg .MGT_AUTH).getLsbD (6 * portCode p + c) := by
  cases p with
  | none => exact absurd rfl hnone
  | vf fn => exact absurd rfl (hvf fn)
  | mgtPf | sideband | debug | peer => rfl

/-- The default class mask, cut into the six bits of each port: the table of R81. -/
theorem Image.defaultAuth_classMask_bits : ∀ c < 6,
    (Image.defaultAuth.classMask.getLsbD (6 * portCode .mgtPf + c) = true ↔ c ≤ 4)
    ∧ (Image.defaultAuth.classMask.getLsbD (6 + c) = true ↔ c ≤ 1)
    ∧ (Image.defaultAuth.classMask.getLsbD (6 * portCode .sideband + c) = true ↔ c ≤ 4)
    ∧ (Image.defaultAuth.classMask.getLsbD (6 * portCode .debug + c) = true ↔ c = 0 ∨ c = 5)
    ∧ (Image.defaultAuth.classMask.getLsbD (6 * portCode .peer + c) = true ↔ c = 0) := by
  decide

/-- Settles O11: each port's classes are its bits of the mask, and those of the default mask are the rows of R81. -/
theorem defaultAuthority : Obligations.DefaultAuthority := by
  refine ⟨rfl, rfl, fun s c hc hmask => ?_⟩
  obtain ⟨hmgtPf, hvf, hsideband, hdebug, hpeer⟩ := Image.defaultAuth_classMask_bits c hc
  refine ⟨?mgtPf, fun fn => ?vf, s.holds_none c, ?sideband, ?debug, ?peer⟩
  case vf => rw [s.holds_vf, hmask, hvf, and_self]
  case mgtPf => rwa [s.holds_eq_mask_bit .mgtPf c nofun nofun, hmask]
  case sideband => rwa [s.holds_eq_mask_bit .sideband c nofun nofun, hmask]
  case debug => rwa [s.holds_eq_mask_bit .debug c nofun nofun, hmask]
  case peer => rwa [s.holds_eq_mask_bit .peer c nofun nofun, hmask]

end Sys2Proof.Machine
end

section
/-! PROOFS. The order in which a write is checked (R112, R120), and what a rejected one leaves (R113, R229). -/

namespace Sys2Proof.Machine

/-! ### Authority, then the rules -/

/-- A write that reaches a register which is up, from a port that lacks class `c`, goes no further. -/
theorem State.accWay_eq_denied {s : State} {a : RegAcc} {x : Spot} {c : Nat} (hwr : a.wr = true)
    (hreach : reach (s.portOf a.port) a.space a.off = some x) (hup : s.early a.space x.pl.reg = false)
    (hlacks : s.lacks (s.portOf a.port) (s.needs x.pl.reg x.i (portData (s.portOf a.port) x.pl.reg a.data)) = some c) :
    s.accWay a = .denied c := by
  simp [State.accWay, State.writeWay, hwr, hreach, hup, hlacks]

/-- With authority it goes the way that the rules give it. -/
theorem State.accWay_eq_ruleWay {s : State} {a : RegAcc} {x : Spot} (hwr : a.wr = true)
    (hreach : reach (s.portOf a.port) a.space a.off = some x) (hup : s.early a.space x.pl.reg = false)
    (hlacks : s.lacks (s.portOf a.port) (s.needs x.pl.reg x.i (portData (s.portOf a.port) x.pl.reg a.data)) = none) :
    s.accWay a = s.ruleWay (s.portOf a.port) x (portData (s.portOf a.port) x.pl.reg a.data) := by
  simp [State.accWay, State.writeWay, hwr, hreach, hup, hlacks]

/-! ### The rules, one after the other -/

section RuleWay
variable {s : State} {p : PortId} {x : Spot} {data : Word}

theorem State.ruleWay_eq_off (hoff : s.spotOff x = true) : s.ruleWay p x data = .off := by
  simp [State.ruleWay, hoff]

theorem State.ruleWay_eq_waits (hoff : s.spotOff x = false) (hdormant : s.spotDormant x = true) :
    s.ruleWay p x data = .waits := by
  simp [State.ruleWay, hoff, hdormant]

theorem State.ruleWay_eq_locked (hoff : s.spotOff x = false) (hdormant : s.spotDormant x = false)
    (hlocked : s.isLocked p x data = true) : s.ruleWay p x data = .locked := by
  simp [State.ruleWay, hoff, hdormant, hlocked]

theorem State.ruleWay_eq_frozen (hoff : s.spotOff x = false) (hdormant : s.spotDormant x = false)
    (hlocked : s.isLocked p x data = false) (hfrozen : s.frozenWr x data = true) :
    s.ruleWay p x data = .rejects 5 := by
  simp [State.ruleWay, hoff, hdormant, hlocked, hfrozen]

theorem State.ruleWay_eq_ok (hoff : s.spotOff x = false) (hdormant : s.spotDormant x = false)
    (hlocked : s.isLocked p x data = false) (hfrozen : s.frozenWr x data = false)
    (hreason : s.rejectReason x data = 0) : s.ruleWay p x data = .ok x := by
  simp [State.ruleWay, hoff, hdormant, hlocked, hfrozen, hreason]

theorem State.ruleWay_eq_rejects (hoff : s.spotOff x = false) (hdormant : s.spotDormant x = false)
    (hlocked : s.isLocked p x data = false) (hfrozen : s.frozenWr x data = false)
    (hreason : s.rejectReason x data ≠ 0) : s.ruleWay p x data = .rejects (s.rejectReason x data) := by
  simp [State.ruleWay, hoff, hdormant, hlocked, hfrozen]

end RuleWay

/-- A rejected access returns 0 and leaves its record, and OAS_GCMD.ERR where the value of a gate command is rejected. -/
theorem State.accEnd_rejects {s : State} {a : RegAcc} {x : Spot} (n : Nat)
    (hreach : reach (s.portOf a.port) a.space a.off = some x) :
    s.accEnd a (.rejects n) = (0, if n = 4 ∧ x.pl.reg = .OAS_GCMD
      then (s.rejected (s.portOf a.port) a.space a.off n).setFld F.OAS_GCMD_ERR x.i 1
      else s.rejected (s.portOf a.port) a.space a.off n) := by
  simp [State.accEnd, hreach]

/-- Settles O9: authority decides first, each later check decides only where those before it pass, and a rejection
leaves its record. -/
theorem writesAreCheckedInOrder : Obligations.WritesAreCheckedInOrder := by
  intro s a x hwr hreach hup
  refine ⟨fun c hlacks => State.accWay_eq_denied hwr hreach hup hlacks, fun hlacks => ?rules, fun n hn => ?rejection⟩
  case rules =>
    rw [State.accWay_eq_ruleWay hwr hreach hup hlacks]
    exact ⟨State.ruleWay_eq_off, State.ruleWay_eq_waits, fun hoff hdormant =>
      ⟨State.ruleWay_eq_locked hoff hdormant, State.ruleWay_eq_frozen hoff hdormant, fun hlocked hfrozen =>
        ⟨State.ruleWay_eq_ok hoff hdormant hlocked hfrozen, State.ruleWay_eq_rejects hoff hdormant hlocked hfrozen⟩⟩⟩
  case rejection => rw [hn, State.accEnd_rejects n hreach]

end Sys2Proof.Machine
end

section
/-! PROOFS. Where the registers lie (R418 to R425), and that a VF page names only its own replica (R105). -/

namespace Sys2Proof.Machine

/-! ### The register found at an offset lies there -/

/-- A replica hit at an offset is one of the array's, and lies at that offset. -/
theorem Placement.hit_eq_some {p : Placement} {off i : Nat} (h : p.hit off = some i) :
    Spot.wsOff ⟨p, i⟩ = off ∧ i / p.n2 < p.n1 ∧ i % p.n2 < p.n2 := by
  simp only [Placement.hit] at h
  split_ifs at h with hbelow hend hone hzero hcol
  · obtain rfl := Option.some.inj h
    have := Nat.div_add_mod (off - p.base) p.s1
    simp only [Spot.wsOff, hone, Nat.div_one, Nat.mod_one, Nat.mul_zero]
    omega
  · obtain ⟨hdvd, hlt⟩ := hcol
    obtain ⟨hrowEq, hcolEq⟩ := (Nat.div_mod_unique (a := i) (d := (off - p.base) / p.s1) (Nat.zero_lt_of_lt hlt)).2
      ⟨by rw [← Option.some.inj h, Nat.mul_comm, Nat.add_comm], hlt⟩
    have := Nat.div_add_mod (off - p.base) p.s1
    have := Nat.mul_div_cancel' (Nat.dvd_of_mod_eq_zero hdvd)
    simp only [Spot.wsOff, hrowEq, hcolEq]
    omega

/-- What `findSpot` finds: a replica of a listed array of that space, no page register, that lies at the offset. -/
theorem findSpot_eq_some {sp : Space} {off : Nat} {x : Spot} (h : findSpot sp off = some x) :
    x.pl ∈ placements ∧ x.pl.space = sp ∧ x.pl.kind ≠ .page ∧ x.wsOff = off
      ∧ x.i / x.pl.n2 < x.pl.n1 ∧ x.i % x.pl.n2 < x.pl.n2 := by
  obtain ⟨pl, hmem, hpl⟩ := List.exists_of_findSome?_eq_some h
  split_ifs at hpl with hcond
  obtain ⟨i, hhit, rfl⟩ := Option.map_eq_some_iff.mp hpl
  simp only [Bool.and_eq_true, beq_iff_eq, bne_iff_ne] at hcond
  exact ⟨hmem, hcond.1, hcond.2, Placement.hit_eq_some hhit⟩

/-! ### The window's region of the per-domain arrays -/

/-- The last offset of an array. -/
def Placement.last (p : Placement) : Nat := p.base + p.s1 * (p.n1 - 1) + p.s2 * (p.n2 - 1)

/-- The array has one replica in each 64 KiB from `domBase 0` on, and none across a boundary. -/
def Placement.perDomain (p : Placement) : Prop :=
  p.s1 = 0x10000 ∧ domBase 0 ≤ p.base ∧ p.base + p.s2 * (p.n2 - 1) < domBase 1

/-- The array lies outside the replicas of the domains. -/
def Placement.outsideDomains (p : Placement) : Prop := p.last < domBase 0 ∨ domBase 4096 ≤ p.base

theorem Spot.base_le_wsOff (x : Spot) : x.pl.base ≤ x.wsOff := by
  unfold Spot.wsOff; omega

/-- The replicas of an array end at its last offset. -/
theorem Spot.wsOff_le_last {x : Spot} (hrow : x.i / x.pl.n2 < x.pl.n1) (hcol : x.i % x.pl.n2 < x.pl.n2) :
    x.wsOff ≤ x.pl.last := by
  have := Nat.mul_le_mul_left x.pl.s1 (Nat.le_sub_one_of_lt hrow)
  have := Nat.mul_le_mul_left x.pl.s2 (Nat.le_sub_one_of_lt hcol)
  unfold Spot.wsOff Placement.last
  omega

/-- The register map of the window: what lies in the replicas of the domains is of an array with one in each; the meters
and buckets that the manager keeps per domain lie below them (R418, R421). -/
theorem placements_outsideDomains_or_perDomain : ∀ pl ∈ placements, pl.space = .ws → pl.kind ≠ .page →
    pl.outsideDomains ∨ pl.kind = .dom ∧ pl.perDomain := by
  unfold Placement.perDomain Placement.outsideDomains
  decide +kernel

/-- A register that lies in the replica of domain `d` is of a per-domain array, and is that domain's. -/
theorem findSpot_in_replica {d off : Nat} {x : Spot} (hd : d < 4096) (hlo : domBase d ≤ off) (hhi : off < domBase (d + 1))
    (h : findSpot .ws off = some x) : x.pl.kind = .dom ∧ x.i / x.pl.n2 = d := by
  obtain ⟨hmem, hspace, hpage, rfl, hrow, hcol⟩ := findSpot_eq_some h
  obtain houtside | ⟨hkind, hs1, hbase, hfits⟩ := placements_outsideDomains_or_perDomain x.pl hmem hspace hpage
  · exfalso
    have := Spot.wsOff_le_last hrow hcol
    have := Spot.base_le_wsOff x
    simp only [Placement.outsideDomains, domBase] at hlo hhi houtside
    omega
  · refine ⟨hkind, ?_⟩
    have := Nat.mul_le_mul_left x.pl.s2 (Nat.le_sub_one_of_lt hcol)
    simp only [Spot.wsOff, hs1, domBase] at hlo hhi hbase hfits
    omega

/-! ### The view of a VF page -/

theorem winOff_vf (fn : BitVec 12) (off : Nat) : winOff (.vf fn) off = domBase fn.toNat + off % 0x10000 / 4 * 4 := rfl

/-- A window access at or above the alias of the direct page is looked up in the window. -/
theorem reach_ws {p : PortId} {off : Nat} (h : 0x1000 ≤ off) : reach p .ws off = findSpot .ws off := by
  simp [reach, h]

/-- What a VF page reaches through the window is of its own replica. -/
theorem reach_winOff_vf {fn : BitVec 12} {off : Nat} {x : Spot} (h : reach (.vf fn) .ws (winOff (.vf fn) off) = some x) :
    x.pl.kind = .dom ∧ x.i / x.pl.n2 = fn.toNat := by
  have hlo : domBase fn.toNat ≤ winOff (.vf fn) off := by rw [winOff_vf]; omega
  have hhi : winOff (.vf fn) off < domBase (fn.toNat + 1) := by rw [winOff_vf]; unfold domBase; omega
  rw [reach_ws (by unfold domBase at hlo; omega)] at h
  exact findSpot_in_replica fn.isLt hlo hhi h

/-! ### Commands from a VF page -/

/-- A port that is attributed to a VF is the page of that function. -/
theorem State.portOf_eq_vf {s : State} {p : Port} {fn : BitVec 12} (h : s.portOf p = .vf fn) :
    ∃ hport, p = .regt false fn hport ∧ fn ≠ 0 := by
  unfold State.portOf at h
  split at h
  case h_2 func hport =>
    split_ifs at h with hfunc
    cases h
    exact ⟨hport, rfl, hfunc⟩
  all_goals cases h

theorem vfPage_of_ne_zero {fn : BitVec 12} (hport : BitVec 7) (h : fn ≠ 0) : vfPage (.regt false fn hport) = true := by
  simpa [vfPage] using h

theorem reaches_eq_false {fn : BitVec 12} (hport : BitVec 7) {d : Nat} (h : fn ≠ 0) (hd : fn.toNat ≠ d) :
    reaches (.regt false fn hport) d = false := by
  simpa [reaches, hd] using h

/-- Settles O12: the view is the VF's replica, only that domain's registers lie there, and no command from a VF page
goes elsewhere. -/
theorem vfPageReachesOnlyItsReplica : Obligations.VfPageReachesOnlyItsReplica := by
  refine ⟨winOff_vf, fun fn off x => reach_winOff_vf, fun p fn r i d data s hp => ?commands⟩
  obtain ⟨hport, rfl, hfn⟩ := State.portOf_eq_vf hp
  have hpage := vfPage_of_ne_zero hport hfn
  refine ⟨?_, ?_, fun hd => ?_⟩
  · simp [State.writeGlob, hpage]
  · simp [State.readGlob, hpage]
  · simp [State.writeDom, State.readDom, reaches_eq_false hport hfn hd]

end Sys2Proof.Machine
end

section
/-! PROOFS. Every step goes on and keeps the invariant of the block, and only COLD lets fabric time run back (R54, R363). -/

namespace Sys2Proof.Machine

variable {floor : Nat} {queue : List Instr} {s : State}

/-- Every command but the two cold resets answers a next state and keeps the invariant with its floor. -/
theorem exec_sound {c : Instr} (hcold : ∀ w, c ≠ .cold w) (hassert : c ≠ .coldRstNAsserted) (hs : s.Sound floor queue) :
    ∃ t, exec c s = .next t ∧ t.Sound floor queue := by
  cases c with
  | cold w => exact absurd rfl (hcold w)
  | coldRstNAsserted => exact absurd rfl hassert
  | ingressBeat data => exact execIngressBeat_sound data hs
  | laneEntry ecc => exact execLaneEntry_sound ecc hs
  | ingrCredRet => exact execIngrCredRet_sound hs
  | eventWindowWrite lane ecc => exact execEventWindowWrite_sound lane ecc hs
  | mapReadReturn tag poison ecc => exact execMapReadReturn_sound tag poison ecc hs
  | intxAssert ecc => exact execIntxAssert_sound ecc hs
  | intxDeassert ecc => exact execIntxDeassert_sound ecc hs
  | lineCapture line narrow => exact execLineCapture_sound line narrow hs
  | lineLevelChange line level => exact execLineLevelChange_sound line level hs
  | lineScan => exact execLineScan_sound hs
  | stateMissFill line poison ecc => exact execStateMissFill_sound line poison ecc hs
  | victimWriteback => exact execVictimWriteback_sound hs
  | depResponse data tag poison ecc => exact execDepResponse_sound data tag poison ecc hs
  | sstInitDone => exact execSstInitDone_sound hs
  | scrub ecc => exact execScrub_sound ecc hs
  | flush p => exact execFlush_sound p hs
  | readEntry p d eid ecc => exact execReadEntry_sound p d eid ecc hs
  | setEn p d eid ecc => exact execSetEn_sound p d eid ecc hs
  | clearEn p d eid ecc => exact execClearEn_sound p d eid ecc hs
  | setMask p d eid ecc => exact execSetMask_sound p d eid ecc hs
  | clearMask p d eid ecc => exact execClearMask_sound p d eid ecc hs
  | sstCfgWrite p d eid ecc => exact execSstCfgWrite_sound p d eid ecc hs
  | clearState p d eid ecc => exact execClearState_sound p d eid ecc hs
  | clearPoison p d eid ecc => exact execClearPoison_sound p d eid ecc hs
  | waymarkMark lane ecc => exact execWaymarkMark_sound lane ecc hs
  | waymarkQuiet lane ecc => exact execWaymarkQuiet_sound lane ecc hs
  | waymarkResume lane ecc => exact execWaymarkResume_sound lane ecc hs
  | silence p ord => exact execSilence_sound p ord hs
  | holdClockStart d => exact execHoldClockStart_sound d hs
  | overdue d => exact execOverdue_sound d hs
  | straggler d => exact execStraggler_sound d hs
  | release ecc => exact execRelease_sound ecc hs
  | releaseRetry ecc => exact execReleaseRetry_sound ecc hs
  | waitingAdmission ecc => exact execWaitingAdmission_sound ecc hs
  | handOver ecc => exact execHandOver_sound ecc hs
  | rteTgtRead p d target => exact execRteTgtRead_sound p d target hs
  | rteTgtWrite p d target => exact execRteTgtWrite_sound p d target hs
  | refillTick ecc => exact execRefillTick_sound ecc hs
  | commitGate p g => exact execCommitGate_sound p g hs
  | pendingListSwitch g => exact execPendingListSwitch_sound g hs
  | gateOpening g ecc => exact execGateOpening_sound g ecc hs
  | parkedReturn ecc => exact execParkedReturn_sound ecc hs
  | egressAck tag st => exact execEgressAck_sound tag st hs
  | resume p hport => exact execResume_sound p hport hs
  | rstptr p target => exact execRstptr_sound p target hs
  | complete lane ecc => exact execComplete_sound lane ecc hs
  | completeAny lane ecc => exact execCompleteAny_sound lane ecc hs
  | consume lane ecc => exact execConsume_sound lane ecc hs
  | doorbellReservedOp lane ecc => exact execDoorbellReservedOp_sound lane ecc hs
  | cmpDbcmdComplete p d ecc => exact execCmpDbcmdComplete_sound p d ecc hs
  | cmpDbcmdCompleteAny p d ecc => exact execCmpDbcmdCompleteAny_sound p d ecc hs
  | cmpDbcmdConsume p d fring target => exact execCmpDbcmdConsume_sound p d fring target hs
  | cmpForce p eid ecc => exact execCmpForce_sound p eid ecc hs
  | redeliveryTimeout eid => exact execRedeliveryTimeout_sound eid hs
  | lostRetry => exact execLostRetry_sound hs
  | faultDelivery => exact execFaultDelivery_sound hs
  | vfmVfStatusRead p d => exact execVfmVfStatusRead_sound p d hs
  | journalLineTimeout d => exact execJournalLineTimeout_sound d hs
  | journalLineWrite ecc => exact execJournalLineWrite_sound ecc hs
  | wayFlush p d => exact execWayFlush_sound p d hs
  | newseg p d => exact execNewseg_sound p d hs
  | wayArchCommit p d lo => exact execWayArchCommit_sound p d lo hs
  | waybillEnable p d => exact execWaybillEnable_sound p d hs
  | replayRecord d => exact execReplayRecord_sound d hs
  | stop p d => exact execStop_sound p d hs
  | rplModeClear p d => exact execRplModeClear_sound p d hs
  | domainEnable p d => exact execDomainEnable_sound p d hs
  | domainDisable p d => exact execDomainDisable_sound p d hs
  | mhold p d v => exact execMhold_sound p d v hs
  | thold p d v => exact execThold_sound p d v hs
  | freeze p d v => exact execFreeze_sound p d v hs
  | flr fn => exact execFlr_sound fn hs
  | domainReset p d => exact execDomainReset_sound p d hs
  | resetWalkEnd d => exact execResetWalkEnd_sound d hs
  | save p d => exact execSave_sound p d hs
  | saveDone d => exact execSaveDone_sound d hs
  | restore p d => exact execRestore_sound p d hs
  | unfence p d => exact execUnfence_sound p d hs
  | unsave p d => exact execUnsave_sound p d hs
  | depotReadLine p => exact execDepotReadLine_sound p hs
  | depotWriteLine p => exact execDepotWriteLine_sound p hs
  | shareWrite p d rank => exact execShareWrite_sound p d rank hs
  | eventRecord rec => exact execEventRecord_sound rec hs
  | waymarkRecord rec => exact execWaymarkRecord_sound rec hs
  | silentRecord rec => exact execSilentRecord_sound rec hs
  | closeRecord rec => exact execCloseRecord_sound rec hs
  | tandemState rec => exact execTandemState_sound rec hs
  | tandemDeliv rec => exact execTandemDeliv_sound rec hs
  | tandemCfg rec => exact execTandemCfg_sound rec hs
  | tandemDoorbell rec => exact execTandemDoorbell_sound rec hs
  | tandemAck rec => exact execTandemAck_sound rec hs
  | heartbeat rec => exact execHeartbeat_sound rec hs
  | hello rec => exact execHello_sound rec hs
  | digest rec => exact execDigest_sound rec hs
  | bulk rec => exact execBulk_sound rec hs
  | bulkEnd rec => exact execBulkEnd_sound rec hs
  | handover rec => exact execHandover_sound rec hs
  | check port rec => exact execCheck_sound port rec hs
  | checkSend port => exact execCheckSend_sound port hs
  | beacon rec => exact execBeacon_sound rec hs
  | beaconSend => exact execBeaconSend_sound hs
  | probe rec => exact execProbe_sound rec hs
  | probeSend => exact execProbeSend_sound hs
  | pause port rec => exact execPause_sound port rec hs
  | ringResume port rec => exact execRingResume_sound port rec hs
  | txQueueMark port => exact execTxQueueMark_sound port hs
  | window rec => exact execWindow_sound rec hs
  | windowSend => exact execWindowSend_sound hs
  | windowOpen => exact execWindowOpen_sound hs
  | joinTimeout => exact execJoinTimeout_sound hs
  | windowEnd => exact execWindowEnd_sound hs
  | joined rec => exact execJoined_sound rec hs
  | leaveReq rec => exact execLeaveReq_sound rec hs
  | leave rec => exact execLeave_sound rec hs
  | loss port rec => exact execLoss_sound port rec hs
  | wakeReq rec => exact execWakeReq_sound rec hs
  | peerRequest rec => exact execPeerRequest_sound rec hs
  | peerResponse rec => exact execPeerResponse_sound rec hs
  | tdmPeerCmd p wr off => exact execTdmPeerCmd_sound p wr off hs
  | peerTimeout => exact execPeerTimeout_sound hs
  | hopLoss port lanes => exact execHopLoss_sound port lanes hs
  | founding => exact execFounding_sound hs
  | foundingTimeout => exact execFoundingTimeout_sound hs
  | foundingJoined => exact execFoundingJoined_sound hs
  | beaconMiss => exact execBeaconMiss_sound hs
  | heartbeatSend => exact execHeartbeatSend_sound hs
  | helloSend => exact execHelloSend_sound hs
  | ackSend => exact execAckSend_sound hs
  | primaryLost => exact execPrimaryLost_sound hs
  | switch p => exact execSwitch_sound p hs
  | chlLeave p => exact execChlLeave_sound p hs
  | chlEnWrite p v => exact execChlEnWrite_sound p v hs
  | sleep p => exact execSleep_sound p hs
  | entryDecision => exact execEntryDecision_sound hs
  | drainEnd => exact execDrainEnd_sound hs
  | drainTimeout => exact execDrainTimeout_sound hs
  | pswAck pd v => exact execPswAck_sound pd v hs
  | pswTimeout pd => exact execPswTimeout_sound pd hs
  | wake code detail => exact execWake_sound code detail hs
  | timerWake => exact execTimerWake_sound hs
  | sigdetWake port quiet => exact execSigdetWake_sound port quiet hs
  | smbusAddressMatch addr => exact execSmbusAddressMatch_sound addr hs
  | offAreaRestoreDone => exact execOffAreaRestoreDone_sound hs
  | vote p d v => exact execVote_sound p d v hs
  | voteSb p v => exact execVoteSb_sound p v hs
  | perfReq p req => exact execPerfReq_sound p req hs
  | avsResponse answer => exact execAvsResponse_sound answer hs
  | avsRetry => exact execAvsRetry_sound hs
  | settleEnd => exact execSettleEnd_sound hs
  | toPll p => exact execToPll_sound p hs
  | toOsc p => exact execToOsc_sound p hs
  | pfail hu => exact execPfail_sound hu hs
  | savSave p hu => exact execSavSave_sound p hu hs
  | periodic hu => exact execPeriodic_sound hu hs
  | persistentSaveDone => exact execPersistentSaveDone_sound hs
  | homeWrite => exact execHomeWrite_sound hs
  | warm => exact execWarm_sound hs
  | warmDepotWaitEnd => exact execWarmDepotWaitEnd_sound hs
  | fabricRst => exact execFabricRst_sound hs
  | stageReady => exact execStageReady_sound hs
  | imageChunkSideband frame bytes => exact execImageChunkSideband_sound frame bytes hs
  | imageChunkMailbox p data => exact execImageChunkMailbox_sound p data hs
  | timeout => exact execTimeout_sound hs
  | absent p => exact execAbsent_sound p hs
  | arbitrationDone => exact execArbitrationDone_sound hs
  | imageApplyDone => exact execImageApplyDone_sound hs
  | reload p => exact execReload_sound p hs
  | alertResponse => exact execAlertResponse_sound hs
  | sbRegisterRead frame off => exact execSbRegisterRead_sound frame off hs
  | sbRegisterWrite frame off data => exact execSbRegisterWrite_sound frame off data hs
  | sbStatusRead frame => exact execSbStatusRead_sound frame hs
  | winData p wr data be => exact execWinData_sound p wr data be hs
  | dormantAccessWake p off => exact execDormantAccessWake_sound p off hs
  | registerWrite p space off data be => exact execRegisterWrite_sound p space off data be hs
  | readClear p space off => exact execReadClear_sound p space off hs
  | wideCapture p kind index => exact execWideCapture_sound p kind index hs
  | mgtAuthWrite p data => exact execMgtAuthWrite_sound p data hs
  | regLockWrite p data => exact execRegLockWrite_sound p data hs
  | commit p => exact execCommit_sound p hs
  | unfreeze p => exact execUnfreeze_sound p hs
  | walkerPassEnd bad => exact execWalkerPassEnd_sound bad hs
  | srcReadSource p index => exact execSrcReadSource_sound p index hs
  | srcWriteSource p index => exact execSrcWriteSource_sound p index hs
  | srcReadTranslation p index => exact execSrcReadTranslation_sound p index hs
  | srcWriteTranslation p index => exact execSrcWriteTranslation_sound p index hs
  | linCfgWrite p line data => exact execLinCfgWrite_sound p line data hs
  | meterWrite p m r data => exact execMeterWrite_sound p m r data hs
  | ftToggle ft => exact execFtToggle_sound ft hs
  | holdover => exact execHoldover_sound hs
  | snap p => exact execSnap_sound p hs
  | snapClr p => exact execSnapClr_sound p hs
  | clrAll p => exact execClrAll_sound p hs
  | bwClr p => exact execBwClr_sound p hs
  | telCntWrite p index => exact execTelCntWrite_sound p index hs
  | telCntClearOvf p index => exact execTelCntClearOvf_sound p index hs
  | telemetryWindowEnd ecc => exact execTelemetryWindowEnd_sound ecc hs
  | levelSample => exact execLevelSample_sound hs
  | probeCfgWrite p probe base data => exact execProbeCfgWrite_sound p probe base data hs
  | samplerRecord => exact execSamplerRecord_sound hs
  | errPendRead p => exact execErrPendRead_sound p hs
  | debugAccess tap => exact execDebugAccess_sound tap hs
  | laneLock port => exact execLaneLock_sound port hs
  | gateCycleStart g => exact execGateCycleStart_sound g hs
  | egressBeatTaken => exact execEgressBeatTaken_sound hs
  | saveIntervalEnd => exact execSaveIntervalEnd_sound hs
  | warmRstNDeasserted => exact execWarmRstNDeasserted_sound hs
  | recordPassedOn port rec ecc => exact execRecordPassedOn_sound port rec ecc hs
  | reservedCtrlSubtype port rec => exact execReservedCtrlSubtype_sound port rec hs

/-- The floor of the invariant is any time that the block has reached. -/
theorem State.Sound.withFloor {bound : Nat} (hs : s.Sound floor queue) (hbound : bound ≤ s.tim.ft) : s.Sound bound queue := by
  obtain ⟨hregs, hmem, hbacking, href, _, hpending⟩ := hs
  exact ⟨hregs, hmem, hbacking, href, hbound, hpending⟩

theorem State.Sound.floor_le (hs : s.Sound floor queue) : floor ≤ s.tim.ft := by
  obtain ⟨_, _, _, _, hfloor, _⟩ := hs
  exact hfloor

theorem State.Sound.pending_eq (hs : s.Sound floor queue) : s.pending = queue := by
  obtain ⟨_, _, _, _, _, hpending⟩ := hs
  exact hpending

/-- The invariant speaks of the queue only by naming it. -/
theorem State.Sound.withPending (hs : s.Sound floor queue) (rest : List Instr) :
    State.Sound floor rest { s with pending := rest } := by
  obtain ⟨hregs, hmem, hbacking, href, hfloor, _⟩ := hs
  exact ⟨hregs, hmem, hbacking, href, hfloor, rfl⟩

/-- Every command, the cold resets among them, answers a next state and keeps the invariant above time 0. -/
theorem exec_sound_zero (c : Instr) (hs : s.Sound 0 queue) : ∃ t, exec c s = .next t ∧ t.Sound 0 queue := by
  by_cases hcold : ∃ w, c = .cold w
  · obtain ⟨w, rfl⟩ := hcold
    exact execCold_sound w hs
  · by_cases hassert : c = .coldRstNAsserted
    · subst hassert
      exact execColdRstNAsserted_sound hs
    · exact exec_sound (fun w hw => hcold ⟨w, hw⟩) hassert hs

/-- Settles O5: a tick and every command keep the invariant, and a step takes exactly the front of the queue. -/
theorem stepKeepsSound : Obligations.StepKeepsSound := by
  intro s hs
  cases hq : s.pending with
  | nil =>
    rw [hq] at hs
    exact ⟨s.clockTick, by simp [step, hq], State.clockTick_sound hs⟩
  | cons c rest =>
    obtain ⟨t, hexec, ht⟩ := exec_sound_zero c (hs.withPending rest)
    exact ⟨t, by simpa [step, hq] using hexec, ht⟩

/-- Settles O6: the invariant holds with the present fabric time as its floor, and a step keeps that floor. -/
theorem fabricTimeNeverRunsBack : Obligations.FabricTimeNeverRunsBack := by
  refine ⟨fun c s t hs hcold hassert hexec => ?command, fun s hs => ?tick⟩
  case command =>
    obtain ⟨u, hu, hsound⟩ := exec_sound hcold hassert (hs.withFloor le_rfl)
    cases hexec.symm.trans hu
    exact ⟨hsound.floor_le, hsound.pending_eq⟩
  case tick =>
    have hsound := State.clockTick_sound (hs.withFloor le_rfl)
    exact ⟨hsound.floor_le, hsound.pending_eq⟩

end Sys2Proof.Machine
end

section
/-! PROOFS. When a command acts: reset lines hold commands off, and a stopped clock or a halt stops those of its part
(R13, R284, R362, R410). -/

namespace Sys2Proof.Machine

section Gates
variable {s : State} {f : State → State}

theorem State.live_of_inReset (h : s.inReset = true) : s.live f = s := by simp [State.live, h]

theorem State.live_of_not_inReset (h : s.inReset = false) : s.live f = f s := by simp [State.live, h]

theorem State.onPathClock_of_stopped (h : s.coreOn = false ∨ s.bit F.ERR_STATUS_HALTED = true) : s.onPathClock f = s := by
  rcases h with h | h <;> simp [State.onPathClock, h]

theorem State.onCoreClock_of_stopped (h : s.coreOn = false) : s.onCoreClock f = s := by simp [State.onCoreClock, h]

theorem State.onRingClk_of_stopped (h : s.ringClk = false) : s.onRingClk f = s := by simp [State.onRingClk, h]

/-- A gate that leaves the state alone does so whether or not a reset line is asserted. -/
theorem State.live_eq_self (h : f s = s) : s.live f = s := by
  unfold State.live; split
  · rfl
  · exact h

theorem State.next_live_eq_self (h : f s = s) : (.next (s.live f) : Out) = .next s := by rw [State.live_eq_self h]

theorem State.next_live (h : s.inReset = false) : (.next (s.live f) : Out) = .next (f s) := by
  rw [State.live_of_not_inReset h]

theorem State.next_onPath (h : s.PathUp) : (.next (s.live fun s => s.onPathClock f) : Out) = .next (f s) := by
  obtain ⟨hreset, hcore, hhalt⟩ := h
  rw [State.live_of_not_inReset hreset]
  simp [State.onPathClock, hcore, hhalt]

theorem State.next_onCore (h : s.CoreUp) : (.next (s.live fun s => s.onCoreClock f) : Out) = .next (f s) := by
  obtain ⟨hreset, hcore⟩ := h
  rw [State.live_of_not_inReset hreset]
  simp [State.onCoreClock, hcore]

theorem State.next_onRing (h : s.RingUp) : (.next (s.live fun s => s.onRingClk f) : Out) = .next (f s) := by
  obtain ⟨hreset, hring⟩ := h
  rw [State.live_of_not_inReset hreset]
  simp [State.onRingClk, hring]

end Gates

/-- Every command but those of `passesReset` and FABRIC_RST acts through the gate of the reset lines. -/
theorem exec_eq_live {c : Instr} (hpass : passesReset c = false) (hfabric : c ≠ .fabricRst) :
    ∃ f : State → State, ∀ s, exec c s = .next (s.live f) := by
  cases c with
  | lineLevelChange | egressAck | hopLoss | cold | warm | ftToggle | holdover | laneLock | coldRstNAsserted
  | warmRstNDeasserted | pswAck | pfail | debugAccess | depResponse => exact absurd hpass Bool.noConfusion
  | fabricRst => exact absurd rfl hfabric
  | _ => exact ⟨_, fun _ => rfl⟩

/-- Settles O7: the gate of the reset lines, and FABRIC_RST, which has its own. -/
theorem resetHoldsCommandsOff : Obligations.ResetHoldsCommandsOff := by
  intro c s hreset hpass
  by_cases hfabric : c = .fabricRst
  · subst hfabric
    show Host.Outcome.next s.fabric = _
    simp [State.fabric, hreset]
  · obtain ⟨f, hf⟩ := exec_eq_live hpass hfabric
    rw [hf, State.live_of_inReset hreset]

/-- A command of the main path acts through its gate. -/
theorem exec_eq_onPathClock {c : Instr} (h : onPath c = true) :
    ∃ f : State → State, ∀ s, exec c s = .next (s.live fun s => s.onPathClock f) := by
  cases c with
  | eventWindowWrite | intxAssert | intxDeassert | waymarkMark | waymarkQuiet | waymarkResume
  | holdClockStart | overdue | straggler | release | releaseRetry | waitingAdmission | handOver
  | gateOpening | parkedReturn | complete | completeAny | consume | doorbellReservedOp
  | redeliveryTimeout | faultDelivery | replayRecord => exact ⟨_, fun _ => rfl⟩
  | _ => exact absurd h Bool.noConfusion

/-- A command of CORE acts through its gate. -/
theorem exec_eq_onCoreClock {c : Instr} (h : onCore c = true) :
    ∃ f : State → State, ∀ s, exec c s = .next (s.live fun s => s.onCoreClock f) := by
  cases c with
  | mapReadReturn | stateMissFill | victimWriteback | sstInitDone | scrub
  | refillTick | pendingListSwitch | lostRetry | journalLineTimeout | resetWalkEnd
  | saveDone | persistentSaveDone | walkerPassEnd | telemetryWindowEnd | levelSample | samplerRecord
  | gateCycleStart => exact ⟨_, fun _ => rfl⟩
  | journalLineWrite ecc => exact ⟨fun s => State.jLineWrite (s.way.q.length + 1) (s.journalEcc ecc), fun _ => rfl⟩
  | _ => exact absurd h Bool.noConfusion

/-- A send or timer of the ring port acts through its gate. -/
theorem exec_eq_onRingClk {c : Instr} (h : onRing c = true) :
    ∃ f : State → State, ∀ s, exec c s = .next (s.live fun s => s.onRingClk f) := by
  cases c with
  | checkSend | beaconSend | probeSend | txQueueMark | windowSend | windowOpen | joinTimeout
  | windowEnd | founding | foundingTimeout | foundingJoined | beaconMiss | heartbeatSend | helloSend
  | ackSend | primaryLost => exact ⟨_, fun _ => rfl⟩
  | _ => exact absurd h Bool.noConfusion

/-- Settles O8: each family of commands has its gate, and a closed gate leaves the state alone. -/
theorem clockedCommandsNeedTheirClock : Obligations.ClockedCommandsNeedTheirClock := by
  refine ⟨fun c s hc hstop => ?path, fun c s hc hstop => ?core, fun c s hc hstop => ?ring⟩
  case path =>
    obtain ⟨f, hf⟩ := exec_eq_onPathClock hc
    exact (hf s).trans (State.next_live_eq_self (State.onPathClock_of_stopped hstop))
  case core =>
    obtain ⟨f, hf⟩ := exec_eq_onCoreClock hc
    exact (hf s).trans (State.next_live_eq_self (State.onCoreClock_of_stopped hstop))
  case ring =>
    obtain ⟨f, hf⟩ := exec_eq_onRingClk hc
    exact (hf s).trans (State.next_live_eq_self (State.onRingClk_of_stopped hstop))

end Sys2Proof.Machine
end

section
/-! PROOFS. The step, the decoder, the state after reset and the offsets of the register map. -/

namespace Sys2Proof.Machine

/-- Settles O1: the step is a match on the queue. -/
theorem stepRunsFrontCommand : Obligations.StepRunsFrontCommand := by
  intro c rest s hq
  simp [step, hq]

/-- Settles O2: the other branch of the same match. -/
theorem emptyQueueIsOneTick : Obligations.EmptyQueueIsOneTick := by
  intro s hq
  simp [step, hq]

/-- Settles O3: the decoder has no row with bits. -/
theorem noWordSpellsACommand : Obligations.NoWordSpellsACommand :=
  ⟨fun _ _ => rfl, fun _ _ _ => rfl⟩

/-- Settles O4: after reset every component that the invariant speaks of is empty or 0. -/
theorem resetIsSound : Obligations.ResetIsSound :=
  ⟨⟨rfl, rfl, rfl, le_rfl, le_rfl, rfl⟩, Memory.wf_reset⟩

/-- Settles O13: a finite table, looked up row by row. -/
theorem everyRegisterLiesAtItsOffset : Obligations.EveryRegisterLiesAtItsOffset := by
  unfold Obligations.EveryRegisterLiesAtItsOffset
  decide +kernel

/-- Settles O58: the TAP has its own clock and reset, and a shut register instrument never reaches the registers. -/
theorem tapInstructions : Obligations.TapInstructions := by
  intro s
  refine ⟨rfl, fun b => rfl, rfl, fun hc5 hlock off data => ?shut⟩
  have hshut : s.tapShut = true := by simp [State.tapShut, hc5, hlock]
  constructor <;> simp [exec, execDebugAccess, State.tap, State.tdo, hshut]

/-- Settles O37: the start moves by the least number of cycles that reaches the bound. -/
theorem lateListStart : Obligations.LateListStart := by
  intro base cycle now hcycle
  by_cases hintime : now + 2000 ≤ base
  · rw [show lateStart base cycle now = (0, base) from if_pos hintime]
    exact ⟨hintime, by simp, fun _ => rfl, fun hlate => absurd hintime (Nat.not_le.mpr hlate)⟩
  · have hdiv := Nat.div_add_mod (now + 2000 - base + cycle - 1) cycle
    have hmod := Nat.mod_lt (now + 2000 - base + cycle - 1) hcycle
    have hcomm := Nat.mul_comm cycle ((now + 2000 - base + cycle - 1) / cycle)
    simp only [lateStart, if_neg hintime, Nat.max_eq_left hcycle]
    exact ⟨by omega, trivial, fun h => absurd h hintime, fun _ => by omega⟩

end Sys2Proof.Machine
end

section
/-! PROOFS. Fields of a register that are set in a row, the first-record logs built from them (R113, R118, R121), the lock
bits (R116), and the bytes of the depot (R45). -/

namespace Sys2Proof.Machine

/-! ### Fields set one after the other -/

/-- Two fields that share no bit: of different registers, or of one register at different places. -/
def Field.apart (f g : Field) : Bool := f.reg != g.reg || f.mask &&& g.mask == 0

/-- The field lies within a register word. -/
def Field.fits (f : Field) : Bool := decide (f.lo ≤ f.hi) && decide (f.hi < 32)

/-- Setting a field leaves one apart from it alone. -/
theorem State.fld_setFld_apart {s : State} {f g : Field} {i : Nat} (v : Nat) (hi : i < 65536) (h : g.apart f = true) :
    (s.setFld f i v).fld g i = s.fld g i := by
  by_cases hr : g.reg = f.reg
  · exact State.fld_setFld_other s f g i v hr (by simpa [Field.apart, hr] using h)
  · exact State.fld_setFld_ne s f g i i v (fun hkey => hr (Reg.key_inj hi hi hkey).1)

theorem State.fld_setFld_fits {s : State} {f : Field} (i v : Nat) (h : f.fits = true) :
    (s.setFld f i v).fld f i = v % 2 ^ f.width := by
  simp only [Field.fits, Bool.and_eq_true, decide_eq_true_eq] at h
  exact State.fld_setFld_self s f i v h.1 h.2

/-- Fields set in a row, as the first-record logs fill their records. -/
def State.setFlds (s : State) (i : Nat) (l : List (Field × Nat)) : State := l.foldl (fun s p => s.setFld p.1 i p.2) s

theorem State.fld_setFlds_apart {g : Field} {i : Nat} (hi : i < 65536) : ∀ (l : List (Field × Nat)) (s : State),
    (∀ f ∈ l.map Prod.fst, g.apart f = true) → (s.setFlds i l).fld g i = s.fld g i
  | [], _, _ => rfl
  | p :: l, s, h => by
    rw [List.map_cons, List.forall_mem_cons] at h
    exact (State.fld_setFlds_apart hi l _ h.2).trans (State.fld_setFld_apart p.2 hi h.1)

/-- Of fields that lie apart, each reads what it was set to. -/
theorem State.fld_setFlds {g : Field} {i v : Nat} (hi : i < 65536) : ∀ (l : List (Field × Nat)) (s : State),
    (l.map Prod.fst).Pairwise (fun f g => f.apart g) → (∀ f ∈ l.map Prod.fst, f.fits = true) → (g, v) ∈ l →
    (s.setFlds i l).fld g i = v % 2 ^ g.width
  | [], _, _, _, hmem => absurd hmem List.not_mem_nil
  | p :: l, s, hapart, hfits, hmem => by
    rw [List.map_cons, List.pairwise_cons] at hapart
    rw [List.map_cons, List.forall_mem_cons] at hfits
    rcases List.mem_cons.mp hmem with rfl | hmem
    · exact (State.fld_setFlds_apart hi l _ hapart.1).trans (State.fld_setFld_fits i v hfits.1)
    · exact State.fld_setFlds hi l _ hapart.2 hfits.2 hmem

/-! ### The first-record logs -/

/-- A log whose VALID, CNT and filled fields lie apart. -/
def logApart (valid cnt : Field) (fill : List Field) : Bool :=
  decide ((valid :: fill).Pairwise (fun f g => f.apart g = true)) && cnt.fits
    && (valid :: fill).all (fun f => f.fits && f.apart cnt && cnt.apart f)

section Log
variable {s : State} {valid cnt : Field} {i : Nat} {fill : List (Field × Nat)}

/-- The count that a log advances leaves VALID alone. -/
theorem State.bit_bump_apart (hi : i < 65536) (hapart : valid.apart cnt = true) : (s.bump cnt i).bit valid i = s.bit valid i := by
  simp only [State.bit, State.bump, State.fld_setFld_apart _ hi hapart]

/-- Where a record is held, only the count advances. -/
theorem State.logFirst_held (hi : i < 65536) (hapart : valid.apart cnt = true) (h : s.bit valid i = true) :
    s.logFirst valid cnt i fill = s.bump cnt i := by
  simp [State.logFirst, State.bit_bump_apart hi hapart, h]

/-- Where none is held, VALID and the filled fields are set after the count. -/
theorem State.logFirst_fresh (hi : i < 65536) (hapart : valid.apart cnt = true) (h : s.bit valid i = false) :
    s.logFirst valid cnt i fill = (s.bump cnt i).setFlds i ((valid, 1) :: fill) := by
  simp only [State.logFirst, State.bit_bump_apart hi hapart, h, Bool.false_eq_true, if_false]
  rfl

/-- A fresh record reads as filled, and the count has advanced up to its greatest value. -/
theorem State.logFirst_fields (hi : i < 65536) (hlog : logApart valid cnt (fill.map Prod.fst) = true) (h : s.bit valid i = false) :
    ((valid, 1) :: fill).Forall (fun p => (s.logFirst valid cnt i fill).fld p.1 i = p.2 % 2 ^ p.1.width)
      ∧ (s.logFirst valid cnt i fill).fld cnt i = min (s.fld cnt i + 1) (2 ^ cnt.width - 1) := by
  simp only [logApart, Bool.and_eq_true, decide_eq_true_eq, List.all_eq_true] at hlog
  obtain ⟨⟨hpairs, hcnt⟩, hfields⟩ := hlog
  rw [State.logFirst_fresh hi (hfields valid List.mem_cons_self).1.2 h, List.forall_iff_forall_mem]
  refine ⟨fun p hp => State.fld_setFlds hi _ _ hpairs (fun f hf => (hfields f hf).1.1) hp, ?_⟩
  rw [State.fld_setFlds_apart hi ((valid, 1) :: fill) _ (fun f hf => (hfields f hf).2), State.bump, State.fld_setFld_fits i _ hcnt]
  have := Nat.two_pow_pos cnt.width
  exact Nat.mod_eq_of_lt (by omega)

end Log

theorem portCode_lt (p : PortId) : portCode p < 8 := by unfold portCode; split <;> decide

theorem spaceBit_lt (sp : Space) : spaceBit sp < 2 := by unfold spaceBit; split <;> decide

theorem bitNat_lt (b : Bool) : bitNat b < 2 := by cases b <;> decide

/-- Settles O10: the three records are first-record logs, whose fields lie apart. -/
theorem firstRecordIsKept : Obligations.FirstRecordIsKept := by
  refine ⟨fun s p sp off n => ⟨State.logFirst_held (by decide) (by decide), fun h => ?rejected⟩,
    fun s p sp off => ⟨State.logFirst_held (by decide) (by decide), fun h => ?locked⟩,
    fun s p sp off c wr => ⟨State.logFirst_held (by decide) (by decide), fun h => ?denied⟩⟩
  case rejected =>
    have hlog : logApart F.CFG_REJECT_INFO_VALID F.CFG_REJECT_INFO_CNT [F.CFG_REJECT_INFO_PORT, F.CFG_REJECT_INFO_FUNC,
      F.CFG_REJECT_INFO_REASON, F.CFG_REJECT_SPACE, F.CFG_REJECT_INDEX] = true := by decide
    obtain ⟨⟨hvalid, hport, hfunc, hreason, hspace, hindex⟩, hcnt⟩ := State.logFirst_fields
      (fill := [(_, portCode p), (_, portFn p), (_, n), (_, spaceBit (indexOf p sp off).1), (_, (indexOf p sp off).2 / 4)]) (by decide) hlog h
    exact ⟨hvalid, hport.trans (Nat.mod_eq_of_lt (portCode_lt p)), hfunc, hreason,
      hspace.trans (Nat.mod_eq_of_lt (spaceBit_lt _)), hindex, hcnt⟩
  case locked =>
    have hlog : logApart F.REG_LOCKED_WR_VALID F.REG_LOCKED_WR_CNT [F.REG_LOCKED_WR_PORT, F.REG_LOCKED_WR_FUNC,
      F.REG_LOCKED_IDX_SPACE, F.REG_LOCKED_IDX_INDEX] = true := by decide
    obtain ⟨⟨hvalid, hport, hfunc, hspace, hindex⟩, hcnt⟩ := State.logFirst_fields
      (fill := [(_, portCode p), (_, portFn p), (_, spaceBit (indexOf p sp off).1), (_, (indexOf p sp off).2 / 4)]) (by decide) hlog h
    exact ⟨hvalid, hport.trans (Nat.mod_eq_of_lt (portCode_lt p)), hfunc,
      hspace.trans (Nat.mod_eq_of_lt (spaceBit_lt _)), hindex, hcnt⟩
  case denied =>
    have hlog : logApart F.MGT_DENY_VALID F.MGT_DENY_CNT [F.MGT_DENY_PORT, F.MGT_DENY_FUNC, F.MGT_DENY_WR, F.MGT_DENY_CLASS,
      F.MGT_DENY_IDX_SPACE, F.MGT_DENY_IDX_INDEX] = true := by decide
    obtain ⟨⟨hvalid, hport, hfunc, hwr, hclass, hspace, hindex⟩, hcnt⟩ := State.logFirst_fields
      (fill := [(_, portCode p), (_, portFn p), (_, bitNat wr), (_, c), (_, spaceBit (indexOf p sp off).1), (_, (indexOf p sp off).2 / 4)])
      (by decide) hlog h
    exact ⟨hvalid, hport.trans (Nat.mod_eq_of_lt (portCode_lt p)), hfunc, hwr.trans (Nat.mod_eq_of_lt (bitNat_lt wr)), hclass,
      hspace.trans (Nat.mod_eq_of_lt (spaceBit_lt _)), hindex, hcnt⟩

/-! ### The lock bits -/

/-- REG_LOCK has no buffered field, so its word in force is what a write is compared with. -/
theorem State.present_REG_LOCK (s : State) : s.present .REG_LOCK 0 = s.reg .REG_LOCK := by
  have hbnd : Reg.bndMask .REG_LOCK = 0#32 := by decide
  unfold State.present State.regRead
  cases SMap.find s.bnd (Reg.REG_LOCK.key 0) <;> simp only [hbnd, BitVec.and_zero, BitVec.or_zero, BitVec.not_zero, BitVec.and_allOnes]

theorem State.storeWord_REG_LOCK {s : State} {x : Spot} (data : Word) (hr : x.pl.reg = .REG_LOCK) (hi : x.i = 0) :
    (s.storeWord x data).reg .REG_LOCK = (s.reg .REG_LOCK &&& ~~~Reg.rwMask .REG_LOCK) ||| (data &&& Reg.rwMask .REG_LOCK) := by
  have hbnd : Reg.bndMask .REG_LOCK = 0#32 := by decide
  have hmerged : s.merged .REG_LOCK 0 data = (s.reg .REG_LOCK &&& ~~~Reg.rwMask .REG_LOCK) ||| (data &&& Reg.rwMask .REG_LOCK) := by
    rw [State.merged, State.present_REG_LOCK]
  have hset (u : State) (w : Word) : (u.setReg .REG_LOCK 0 w).reg .REG_LOCK = w := u.reg_setReg_self _ _ _
  rw [← hmerged]
  simp only [State.storeWord, hr, hi, hbnd, BitVec.and_zero, BitVec.zero_or, BitVec.not_zero, BitVec.and_allOnes]
  split <;> exact hset s _

theorem getLsbD_rwMask_REG_LOCK : ∀ k < 5, (Reg.rwMask .REG_LOCK).getLsbD k = true := by decide

/-- A set bit that is given 0 is a bit of the word and of the write's complement. -/
theorem and_not_and_ne_zero {a d m : Word} {k : Nat} (ha : a.getLsbD k = true) (hd : d.getLsbD k = false) (hm : m.getLsbD k = true) :
    a &&& ~~~d &&& m ≠ 0#32 := by
  intro h
  have hbit := congrArg (·.getLsbD k) h
  simp [-BitVec.getLsbD_eq_getElem, ha, hd, hm, BitVec.lt_of_getLsbD ha] at hbit

/-- A word that loses no bit under the mask keeps every bit. -/
theorem merge_and_self {a d m : Word} (h : a &&& ~~~d &&& m = 0#32) : ((a &&& ~~~m) ||| (d &&& m)) &&& a = a := by
  apply BitVec.eq_of_getLsbD_eq
  intro k hk
  have hbit := congrArg (·.getLsbD k) h
  simp only [BitVec.getLsbD_and, BitVec.getLsbD_or, BitVec.getLsbD_not, BitVec.getLsbD_zero, hk, decide_true, Bool.true_and] at hbit ⊢
  cases ha : a.getLsbD k <;> cases hm : m.getLsbD k <;> simp_all

/-- Settles O14: what the lock check lets through keeps every set bit, and a bit cleared or set under SEAL fails it. -/
theorem lockBitsAreOnlySet : Obligations.LockBitsAreOnlySet := by
  refine ⟨fun s x data hr hi hlock => ?kept, fun s p x data hr hbad => ?locked⟩
  case kept =>
    obtain ⟨hclear, _⟩ : s.reg .REG_LOCK &&& ~~~data &&& Reg.rwMask .REG_LOCK = 0#32 ∧ _ := by
      simpa [State.lockBits] using hlock
    rw [State.storeWord_REG_LOCK data hr hi]
    exact merge_and_self hclear
  case locked =>
    obtain ⟨k, hk, ⟨hset, hclear⟩ | ⟨hseal, hclear, hset⟩⟩ := hbad
    · simp [State.isLocked, hr, State.lockBits, and_not_and_ne_zero hset hclear (getLsbD_rwMask_REG_LOCK k hk)]
    · simp [State.isLocked, hr, State.lockBits, hseal, and_not_and_ne_zero hset hclear (getLsbD_rwMask_REG_LOCK k hk)]

end Sys2Proof.Machine
end

section
/-! PROOFS. Bytes stored in the depot (R45): what reads as stored, and what is left alone. -/

namespace Sys2Proof.Machine

/-- Storing bytes leaves every address outside the range alone. -/
theorem State.get_setDepBytes_outside : ∀ (l : List Byte) (s : State) (a x : Nat), x < a ∨ a + l.length ≤ x →
    SMap.get 0 (s.setDepBytes a l).dep.mem x = SMap.get 0 s.dep.mem x
  | [], _, _, _, _ => rfl
  | b :: l, s, a, x, hx => by
    rw [List.length_cons] at hx
    rw [State.setDepBytes, State.get_setDepBytes_outside l _ _ _ (by omega)]
    exact SMap.get_set_other 0 0 s.dep.mem b (by omega)

/-- Each byte of the range reads as stored. -/
theorem State.get_setDepBytes_inside (l : List Byte) : ∀ (s : State) (a k : Nat) (b : Byte), l[k]? = some b →
    SMap.get 0 (s.setDepBytes a l).dep.mem (a + k) = b := by
  induction l with
  | nil => simp
  | cons c l ih =>
    intro s a k b h
    cases k with
    | zero =>
      obtain rfl := Option.some.inj h
      rw [State.setDepBytes, State.get_setDepBytes_outside l _ _ _ (by omega)]
      exact SMap.get_set_self 0 s.dep.mem a c
    | succ k =>
      have hk : a + (k + 1) = a + 1 + k := by omega
      rw [State.setDepBytes, hk]
      exact ih _ (a + 1) k b h

/-- Storing bytes changes nothing but the memory of the depot. -/
theorem State.setDepBytes_eq : ∀ (l : List Byte) (s : State) (a : Nat),
    s.setDepBytes a l = { s with dep := { s.dep with mem := (s.setDepBytes a l).dep.mem } }
  | [], _, _ => rfl
  | b :: l, s, a => State.setDepBytes_eq l (s.setDepByte a b) (a + 1)

theorem State.setDepBytes_wf : ∀ (l : List Byte) (s : State) (a : Nat), Memory.wf s.dep.mem = true →
    Memory.wf (s.setDepBytes a l).dep.mem = true
  | [], _, _, h => h
  | b :: l, s, a, h => State.setDepBytes_wf l _ _ (s.setDepByte_wf a b h)

/-- Settles O57: by induction on the bytes stored. -/
theorem depotMemoryReadsBack : Obligations.DepotMemoryReadsBack := by
  intro s a l
  refine ⟨fun k b => State.get_setDepBytes_inside l s a k b, fun x hx => ⟨State.get_setDepBytes_outside l s a x hx, ?byte⟩,
    ?tags, ?backing, ?regs, ?sst, ?pending, State.setDepBytes_wf l s a⟩
  case byte =>
    have hget := State.get_setDepBytes_outside l s a x hx
    rw [State.setDepBytes_eq l s a] at hget ⊢
    show State.depByte { s with dep := _ } x = s.depByte x
    unfold State.depByte
    rw [hget]
    rfl
  all_goals rw [State.setDepBytes_eq l s a]

end Sys2Proof.Machine
end

section
/-! PROOFS. Commands that are a full write of one register: how such a write is served (R112) and what it starts. -/

namespace Sys2Proof.Machine

/-! ### Fields of a command word -/

/-- Two fields of a register that lie beside each other. -/
def Field.beside (f g : Field) : Bool := g.fits && (decide (f.hi < g.lo) || decide (g.hi < f.lo))

theorem Field.mask_and_mask_of_beside {f g : Field} (hf : f.fits = true) (h : f.beside g = true) : f.mask &&& g.mask = 0#32 := by
  simp only [Field.beside, Field.fits, Bool.and_eq_true, Bool.or_eq_true, decide_eq_true_eq] at hf h
  apply BitVec.eq_of_getLsbD_eq
  intro k _
  rw [BitVec.getLsbD_and, f.getLsbD_mask hf.1 hf.2, g.getLsbD_mask h.1.1 h.1.2, BitVec.getLsbD_zero, ← Bool.decide_and, decide_eq_false_iff_not]
  omega

/-- A field that lies beside those put after it reads what it was given. -/
theorem Field.get_putAll_beside {f : Field} (hf : f.fits = true) : ∀ (l : List (Field × Nat)) (w : Word),
    (l.map Prod.fst).all f.beside = true → f.get (putAll w l) = f.get w
  | [], _, _ => rfl
  | p :: l, w, h => by
    rw [List.map_cons, List.all_cons, Bool.and_eq_true] at h
    exact (Field.get_putAll_beside hf l _ h.2).trans (Field.get_put_other f p.1 (Field.mask_and_mask_of_beside hf h.1) w p.2)

/-- A pulse given 1 first in a command word is set. -/
theorem Field.get_putAll_one {f : Field} (w : Word) (rest : List (Field × Nat)) (hf : f.fits = true)
    (hbeside : (rest.map Prod.fst).all f.beside = true) : (f.get (putAll w ((f, 1) :: rest)) != 0) = true := by
  have hget := Field.get_putAll_beside hf rest (f.put w 1) hbeside
  simp only [Field.fits, Bool.and_eq_true, decide_eq_true_eq] at hf
  have hwidth : 1 < 2 ^ f.width := Nat.one_lt_two_pow (by unfold Field.width; omega)
  rw [Field.get_put_self f hf.1 hf.2, Nat.mod_eq_of_lt hwidth] at hget
  exact bne_iff_ne.mpr (hget.trans_ne Nat.one_ne_zero)

/-- The branch of a pulse given 1 first in a command word. -/
theorem Field.ite_putAll_one {f : Field} {w : Word} {rest : List (Field × Nat)} {u v : State} (hf : f.fits = true)
    (hbeside : (rest.map Prod.fst).all f.beside = true) :
    (if (f.get (putAll w ((f, 1) :: rest)) != 0) = true then u else v) = u :=
  if_pos (Field.get_putAll_one w rest hf hbeside)

/-! ### What the write starts -/

/-- What a write that has been stored starts, VFM_DOM_CMD among it. -/
def State.started (u o : State) (x : Spot) (data : Word) (code : Nat) (ecc : Ecc) : State :=
  match x.pl.reg with
  | .VFM_DOM_CMD => if F.VFM_DOM_CMD_GO.get data != 0 then u.domGo x.i else u
  | _ => u.effect o x data code ecc

/-- A served write of a plain register stores its word, starts what it starts, and completes. -/
theorem State.written_started {s : State} {a : RegAcc} {x : Spot} (hgate : x.pl.reg ≠ .OAS_GCMD) (hwin : x.pl.reg ≠ .WIN_ADDR) :
    s.written a x = s.ended ((s.stored a x).started (s.begun a) x a.data (portCode ((s.begun a).portOf a.port)) a.ecc) a (.ok x) 0 := by
  rw [State.written_stored hgate hwin]
  congr 1
  by_cases hdom : x.pl.reg = .VFM_DOM_CMD
  · simp [State.started, State.effect, hdom]
  · simp [State.started, hdom]

/-- What is known of a command that is a full write of one register. -/
structure StartsAs (s : State) (c : Instr) (a : RegStart) : Prop where
  /-- Outside a reset the command is the access, served. -/
  runs : s.inReset = false → exec c s = .next (s.serve a.acc)
  wr : a.acc.wr = true
  notGate : a.reg ≠ .OAS_GCMD
  notWin : a.reg ≠ .WIN_ADDR
  /-- The write starts the command's operation. -/
  starts : ∀ (o u : State) (x : Spot) (code : Nat), x.pl.reg = a.reg → x.i = a.idx →
    u.started o x a.acc.data code a.acc.ecc = a.op o u

section StartsAs
variable {s : State} {c : Instr} {a : RegStart} {p : Port} {r : Reg} {i : Nat} {data : Word} {op : State → State → State} {ecc : Ecc}

theorem RegStart.glob_eq_some (h : RegStart.glob s p r i data op ecc = some a) :
    vfPage p = false ∧ a = ⟨s.writeAcc p r i data ecc, r, i, op⟩ := by
  unfold RegStart.glob at h
  split at h
  · cases h
  · next hpage => exact ⟨by simpa using hpage, (Option.some.inj h).symm⟩

theorem RegStart.dom_eq_some (h : RegStart.dom s p r i data op ecc = some a) :
    reaches p i = true ∧ a = ⟨s.writeAcc p r i data ecc, r, i, op⟩ := by
  unfold RegStart.dom at h
  split at h
  · next hreach => exact ⟨hreach, (Option.some.inj h).symm⟩
  · cases h

/-- The four facts, for the access that both forms make. -/
theorem StartsAs.of_writeAcc (hrun : s.inReset = false → exec c s = .next (s.serve (s.writeAcc p r i data ecc)))
    (hplain : r ≠ .OAS_GCMD ∧ r ≠ .WIN_ADDR)
    (hop : ∀ (o u : State) (pl : Placement) (code : Nat), u.started o ⟨{ pl with reg := r }, i⟩ data code ecc = op o u) :
    StartsAs s c ⟨s.writeAcc p r i data ecc, r, i, op⟩ where
  runs := hrun
  wr := rfl
  notGate := hplain.1
  notWin := hplain.2
  starts := by
    rintro o u ⟨pl, _⟩ code rfl rfl
    exact hop o u pl code

/-- A command that writes a global register. -/
theorem StartsAs.of_glob (h : RegStart.glob s p r i data op ecc = some a)
    (hrun : s.inReset = false → exec c s = .next (if vfPage p then s else s.serve (s.writeAcc p r i data ecc)))
    (hplain : r ≠ .OAS_GCMD ∧ r ≠ .WIN_ADDR)
    (hop : ∀ (o u : State) (pl : Placement) (code : Nat), u.started o ⟨{ pl with reg := r }, i⟩ data code ecc = op o u) :
    StartsAs s c a := by
  obtain ⟨hpage, rfl⟩ := RegStart.glob_eq_some h
  exact .of_writeAcc (fun hreset => by rw [hrun hreset, hpage]; rfl) hplain hop

/-- A command that writes a register of one domain. -/
theorem StartsAs.of_dom (h : RegStart.dom s p r i data op ecc = some a)
    (hrun : s.inReset = false → exec c s = .next (if reaches p i then s.serve (s.writeAcc p r i data ecc) else s))
    (hplain : r ≠ .OAS_GCMD ∧ r ≠ .WIN_ADDR)
    (hop : ∀ (o u : State) (pl : Placement) (code : Nat), u.started o ⟨{ pl with reg := r }, i⟩ data code ecc = op o u) :
    StartsAs s c a := by
  obtain ⟨hreach, rfl⟩ := RegStart.dom_eq_some h
  exact .of_writeAcc (fun hreset => by rw [hrun hreset, hreach]; rfl) hplain hop

end StartsAs

/-- The commands that are a full write of one register, each with its form and what its word starts. -/
theorem regStart_startsAs {s : State} {c : Instr} {a : RegStart} (h : regStart s c = some a) : StartsAs s c a := by
  cases c with
  | meterWrite p m r data =>
    cases m with
    | src o => exact .of_glob h State.next_live (by cases r <;> decide) (fun _ _ _ _ => by cases r <;> rfl)
    | dom d => exact .of_dom h State.next_live (by cases r <;> decide) (fun _ _ _ _ => by cases r <;> rfl)
  | probeCfgWrite p n base data =>
    cases base <;> exact .of_glob h State.next_live (by decide) (fun _ _ _ _ => rfl)
  | mgtAuthWrite | regLockWrite | linCfgWrite | chlEnWrite | voteSb | perfReq | snap | snapClr | clrAll |
  bwClr | switch | depotReadLine | depotWriteLine | sleep | imageChunkMailbox =>
    exact .of_glob h State.next_live (by decide) (fun _ _ _ _ => rfl)
  | wayArchCommit | waybillEnable | rplModeClear | domainEnable | domainDisable | mhold | freeze | thold |
  shareWrite | vote | stop | save | unfence | unsave | restore | cmpDbcmdComplete | cmpDbcmdCompleteAny |
  wayFlush | newseg =>
    exact .of_dom h State.next_live (by decide) (fun _ _ _ _ => rfl)
  | unfreeze | srcReadSource | srcWriteSource | srcReadTranslation | srcWriteTranslation | flush | silence |
  resume | rstptr | cmpForce | chlLeave | tdmPeerCmd | domainReset | toOsc | reload | telCntWrite |
  telCntClearOvf =>
    exact .of_glob h State.next_live (by decide) (fun _ _ _ _ => Field.ite_putAll_one rfl rfl)
  | readEntry | setEn | clearEn | setMask | clearMask | sstCfgWrite | clearState | clearPoison | rteTgtRead |
  rteTgtWrite | cmpDbcmdConsume =>
    exact .of_dom h State.next_live (by decide) (fun _ _ _ _ => Field.ite_putAll_one rfl rfl)
  | commit =>
    exact .of_glob h State.next_live (by decide) (fun _ _ _ _ =>
      congrArg (pulse F.CFG_CTRL_UNFREEZE (putAll (s.present .CFG_CTRL 0) [(F.CFG_CTRL_COMMIT, 1)]) (·.lower F.CFG_STATUS_FROZEN))
        (Field.ite_putAll_one rfl rfl))
  | toPll =>
    exact .of_glob h State.next_live (by decide) (fun _ _ _ _ =>
      congrArg (pulse F.PWR_CLK_TO_OSC (putAll (s.present .PWR_CLK 0) [(F.PWR_CLK_TO_PLL, 1)]) (·.clkSwitch false))
        (Field.ite_putAll_one rfl rfl))
  | absent =>
    exact .of_glob h State.next_live (by decide) (fun _ _ _ _ =>
      congrArg (pulse F.IMG_CTRL_RELOAD (putAll (s.present .IMG_CTRL 0) [(F.IMG_CTRL_ABSENT, 1)]) (·.arbStart true))
        (Field.ite_putAll_one rfl rfl))
  | _ => cases h

/-- Settles O15: the command is the write, served, and the write starts the command's operation. -/
theorem registerCommandsTakeEffect : Obligations.RegisterCommandsTakeEffect := by
  intro c s a x h hserves hreg hidx
  have hstarts := regStart_startsAs h
  rw [hstarts.runs hserves.1.1, State.serve_write hserves hstarts.wr,
    State.written_started (hreg ▸ hstarts.notGate) (hreg ▸ hstarts.notWin), hstarts.starts _ _ x _ hreg hidx]

end Sys2Proof.Machine
end

section
/-! PROOFS. How the register interface ends an access (R48, R104, R107, R112), for commands and for requests. -/

namespace Sys2Proof.Machine

/-! ### The ends of an access -/

section Serve
variable {s : State} {a : RegAcc}

@[simp] theorem State.goal_wr (s : State) (a : RegAcc) : (s.goal a).wr = a.wr := by unfold State.goal State.aimed; split <;> rfl

@[simp] theorem State.goal_port (s : State) (a : RegAcc) : (s.goal a).port = a.port := by unfold State.goal State.aimed; split <;> rfl

/-- An access that is carried out ends as its way does. -/
theorem State.serve_ended {w : AccessEnd} {v : Word} {u : State} (h : s.Carries a) (hway : (s.begun a).accWay (s.goal a) = w)
    (hend : (s.begun a).accEnd (s.goal a) w = (v, u)) : s.serve a = s.ended u a w v := by
  rw [State.serve_carried h, hway, hend]

/-- Behind an access of its function or port that waits, it joins the queue. -/
theorem State.serve_behind (h : s.behind a.port = true) : s.serve a = s.queueAcc a := by simp [State.serve, h]

/-- At a dormant owner it joins the queue and requests the wake. -/
theorem State.serve_waits (hfree : s.behind a.port = false) (h : s.mustWait a = true) : s.serve a = s.waiting a := by
  simp [State.serve, State.waiting, hfree, h]

theorem State.serve_unsupported (hfree : s.behind a.port = false) (h : s.unsupported a.port = true) :
    s.serve a = s.setUr a.port true := by
  simp [State.serve, State.perform, State.mustWait, hfree, h]

theorem State.serve_config (hfree : s.behind a.port = false) (hfn : s.unsupported a.port = false) (h : a.isConfig = true) :
    s.serve a = (s.answered a.port).configAccess a := by
  simp [State.serve, State.perform, State.mustWait, State.answered, hfree, hfn, h]

theorem State.serve_partial (hfree : s.behind a.port = false) (hfn : s.unsupported a.port = false) (hconfig : a.isConfig = false)
    (h : a.isPartial = true) : s.serve a = (s.begun a).partialWr ((s.begun a).portOf a.port) := by
  simp only [State.serve, State.perform, State.performReg, State.mustWait, hfree, hfn, hconfig, h, Bool.not_true, Bool.and_false,
    Bool.false_and, Bool.false_eq_true, if_false, if_true]
  rfl

end Serve

/-! ### Register commands that are turned away -/

/-- Settles O16: each way that is not `ok` ends with its record, and the access itself only waits, queues or is refused. -/
theorem registerCommandsTurnedAway : Obligations.RegisterCommandsTurnedAway := by
  intro c s a h
  have hstarts := regStart_startsAs h
  have hwr : (s.goal a.acc).wr = true := (s.goal_wr a.acc).trans hstarts.wr
  have hport : (s.goal a.acc).port = a.acc.port := s.goal_port a.acc
  refine ⟨fun hcarries => ?carried, fun hreset hbehind => ?behind, fun hreset hfree hwait => ?waits, fun hreset hfree hfn => ?unsupported⟩
  case carried =>
    rw [hstarts.runs hcarries.1]
    refine ⟨fun k hway => ?_, fun hway => ?_, fun n hway hgate => ?rejects, fun hway => ?_, fun hway => ?_, fun hway => ?_⟩
    case rejects =>
      rw [State.serve_ended hcarries hway (Prod.ext_iff.mpr ⟨?value, ?state⟩), hway]
      case value =>
        simp only [State.accEnd]
        split <;> rfl
      case state =>
        simp only [State.accEnd, hport]
        split
        next x hreach =>
          refine if_neg fun hn => ?_
          obtain ⟨y, hy, hreg⟩ := hgate hn.1
          obtain rfl := Option.some.inj (hreach.symm.trans hy)
          exact hstarts.notGate (hreg.symm.trans hn.2)
        next => rfl
    all_goals rw [State.serve_ended hcarries hway rfl, hway]
    all_goals simp only [hwr, hport]
  case behind => rw [hstarts.runs hreset, State.serve_behind hbehind]
  case waits => rw [hstarts.runs hreset, State.serve_waits hfree hwait]
  case unsupported => rw [hstarts.runs hreset, State.serve_unsupported hfree hfn]

/-! ### Requests -/

theorem State.sbCommand_waits {s : State} {x : SbCmd} (h : s.behind .sideband = true ∨ s.io.sbQ ≠ []) :
    s.sbCommand x = { s with io := { s.io with sbQ := s.io.sbQ ++ [x] } } := by
  rcases h with h | h <;> simp [State.sbCommand, State.sbServe, h]

theorem State.sbCommand_open {s : State} (x : SbCmd) (hfree : s.behind .sideband = false) (hq : s.io.sbQ = []) :
    s.sbCommand x = s.sbDo x := by
  simp [State.sbCommand, State.sbServe, hfree, hq]

/-- Outside a reset a request is its access, served; one of the sideband where no access of the sideband waits. -/
theorem exec_request {s : State} {c : Instr} {a : RegAcc} (h : requestOf s c = some a) (hreset : s.inReset = false)
    (hfree : a.port = .sideband → s.behind a.port = false) : exec c s = .next (s.serve a) := by
  cases c with
  | registerWrite | readClear | winData | dormantAccessWake | wideCapture =>
    cases h
    exact State.next_live hreset
  | debugAccess tap =>
    cases tap with
    | register wr off data =>
      simp only [requestOf, Option.some.injEq, Option.ite_none_left_eq_some, Bool.not_eq_true] at h
      obtain ⟨hshut, rfl⟩ := h
      show Host.Outcome.next (s.tap _) = _
      simp [State.tap, hshut, State.live_of_not_inReset hreset]
    | idcode | bypass | scanDump => cases h
  | sbRegisterWrite frame off data =>
    cases frame with
    | good =>
      simp only [requestOf, Option.some.injEq, Option.ite_none_right_eq_some, List.isEmpty_iff] at h
      obtain ⟨hq, rfl⟩ := h
      exact (State.next_live hreset).trans (congrArg _ (State.sbCommand_open (.register .good off true data) (hfree rfl) hq))
    | pecWrong | unknownCode | wrongCount => cases h
  | sbRegisterRead frame off =>
    cases frame with
    | good =>
      simp only [requestOf, Option.some.injEq, Option.ite_none_right_eq_some, List.isEmpty_iff] at h
      obtain ⟨hq, rfl⟩ := h
      exact (State.next_live hreset).trans (congrArg _ (State.sbCommand_open (.register .good off false 0) (hfree rfl) hq))
    | pecWrong | unknownCode | wrongCount => cases h
  | commitGate p g =>
    simp only [requestOf, Option.some.injEq, Option.ite_none_left_eq_some, Bool.not_eq_true] at h
    obtain ⟨hpage, rfl⟩ := h
    exact (State.next_live hreset).trans (congrArg _ (if_neg (by simp [hpage])))
  | vfmVfStatusRead p d =>
    simp only [requestOf, Option.some.injEq, Option.ite_none_right_eq_some] at h
    obtain ⟨hreach, rfl⟩ := h
    exact (State.next_live hreset).trans (congrArg _ (if_pos hreach))
  | errPendRead p =>
    simp only [requestOf, Option.some.injEq, Option.ite_none_left_eq_some, Bool.not_eq_true] at h
    obtain ⟨hpage, rfl⟩ := h
    exact (State.next_live hreset).trans (congrArg _ (if_neg (by simp [hpage])))
  | _ => cases h

/-! #### The SR-IOV capability -/

theorem State.answered_headerWrite_numVfs (s : State) (p : Port) (k be : Nat) (data : Word) :
    ((s.answered p).headerWrite k data be).vfm.numVfs = s.vfm.numVfs := by
  obtain ⟨io, h⟩ := s.setUr_eq p false
  rw [State.answered, h]
  rfl

theorem State.answered_headerWrite_vfEn (s : State) (p : Port) (k be : Nat) (data : Word) :
    ((s.answered p).headerWrite k data be).vfm.vfEn = s.vfm.vfEn := by
  obtain ⟨io, h⟩ := s.setUr_eq p false
  rw [State.answered, h]
  rfl

/-- A write of the capability of function 0, which answers whatever SR-IOV has enabled. -/
theorem exec_registerWrite_sriov {s : State} {h : BitVec 7} {off : BitVec 30} {data : Word} {be : BitVec 4} (hreset : s.inReset = false)
    (hfree : s.behind (.regt false 0#12 h) = false) :
    exec (.registerWrite (.regt false 0#12 h) .sriov off data be) s =
      .next ((s.answered (.regt false 0#12 h)).sriovWrite (off.toNat / 4 * 4) data be.toNat) := by
  refine (exec_request rfl hreset fun _ => hfree).trans (congrArg _ ?_)
  rw [State.serve_config hfree (by simp [State.accessOf, State.unsupported]) rfl]
  rfl

/-- Settles O17: a request is its access, served, and each end of an access is the same for all of them. -/
theorem registerRequests : Obligations.RegisterRequests := by
  refine ⟨fun c s a h => ⟨fun x hserves => ?served, fun hreset hline hbehind => ?behind, fun hreset hfree => ?ends⟩,
    fun s h data be hreset hfree hbe => ?enable, fun s h data hreset hfree => ?numVfs⟩
  case served =>
    have hexec := exec_request h hserves.1.1 (fun _ => hserves.1.2.2.1)
    exact ⟨fun hwr => by rw [hexec, State.serve_write hserves hwr], fun hrd => by rw [hexec, State.serve_read hserves hrd]⟩
  case behind => rw [exec_request h hreset (fun hport => absurd hport hline), State.serve_behind hbehind]
  case ends =>
    rw [exec_request h hreset (fun _ => hfree)]
    exact ⟨fun hwait => by rw [State.serve_waits hfree hwait], fun hfn => by rw [State.serve_unsupported hfree hfn],
      fun hfn hconfig => by rw [State.serve_config hfree hfn hconfig],
      fun hfn hconfig hpartial => by rw [State.serve_partial hfree hfn hconfig hpartial]⟩
  case enable =>
    rw [exec_registerWrite_sriov hreset hfree, ← s.answered_headerWrite_numVfs (.regt false 0#12 h) (4096 * 1024 + 2) be.toNat data]
    exact congrArg _ (if_pos ⟨rfl, hbe⟩)
  case numVfs =>
    have hlow : data.toNat % 256 + 256 * (data.toNat / 256 % 256) = data.toNat % 2 ^ 16 := by omega
    rw [exec_registerWrite_sriov hreset hfree, ← s.answered_headerWrite_vfEn (.regt false 0#12 h) (4096 * 1024 + 4) 15 data, ← hlow]
    rfl

end Sys2Proof.Machine
end

section
/-! PROOFS. The commands with an effect of their own at the register interface, and the sideband (R51, R110, R229, R305,
R350, R412, R414, R415). -/

namespace Sys2Proof.Machine

/-! ### Special register commands -/

theorem State.accessOf_port (s : State) (p : Port) (sp : Space) (off : Nat) (wr : Bool) (data : Word) (be : Nat) (ecc : Ecc) :
    (s.accessOf p sp off wr data be ecc).port = p := rfl

/-- A command whose access is served. -/
theorem exec_request_served {s : State} {c : Instr} {a : RegAcc} {x : Spot} (h : requestOf s c = some a) (hserves : s.Serves a x) :
    exec c s = .next (s.serve a) :=
  exec_request h hserves.1.1 (fun _ => hserves.1.2.2.1)

/-- COMMIT of a gate list that is served. -/
theorem State.written_OAS_GCMD {s : State} {a : RegAcc} {x : Spot} (hreg : x.pl.reg = .OAS_GCMD)
    (hcommit : a.data = putAll 0 [(F.OAS_GCMD_COMMIT, 1)]) :
    s.written a x = s.ended ((((s.begun a).store x a.data).commitList x.i).2.mirrorWrite (s.begun a) x a.data
      (min (((s.begun a).store x a.data).commitList x.i).1 (2 ^ 28 - 1))) a (.ok x) 0 := by
  have hdata : portData ((s.begun a).portOf a.port) x.pl.reg a.data = a.data := by
    rw [hreg]
    unfold portData
    split <;> trivial
  have hne : F.OAS_GCMD_COMMIT.get a.data ≠ 0 := by
    rw [hcommit]
    exact bne_iff_ne.mp (Field.get_putAll_one 0 [] rfl rfl)
  simp only [State.written, hdata]
  simp [State.acceptWrite, State.accept, hreg, hne]

/-- A read of a register that a port other than DEBUG reads alone. -/
theorem State.readDone_of_ne_debug {s : State} {a : RegAcc} {x : Spot} (h : (s.begun a).portOf a.port ≠ .debug) :
    let v := (s.begun a).shown ((s.begun a).portOf a.port) x.pl.reg x.i
    (x.pl.reg = .VFM_VF_STATUS → s.readDone a x = s.ended (((s.begun a).clearRead x.pl.reg x.i v).irqRearm x.i) a (.ok x) v)
      ∧ (x.pl.reg = .ERR_PEND → s.readDone a x = s.ended (((s.begun a).clearRead x.pl.reg x.i v).irqRearm 0) a (.ok x) v) := by
  constructor <;> intro hreg <;> simp [State.readDone, State.readEffect, h, hreg, readWith]

/-- Settles O18: each command is a served access whose register's own effect is read off. -/
theorem specialRegisterCommands : Obligations.SpecialRegisterCommands := by
  refine ⟨fun s p g a x h hserves hreg hidx => ?commitGate, fun s p hu x => ?savSave, fun s p kind index a x h hserves hreg => ?wideCapture,
    fun s p d a x h hserves hreg hport => ?vfStatus, fun s p a x h hserves hreg hport => ?errPend⟩
  case commitGate =>
    rw [exec_request_served h hserves]
    simp only [requestOf, Option.some.injEq, Option.ite_none_left_eq_some] at h
    obtain ⟨_, rfl⟩ := h
    rw [State.serve_write hserves rfl, State.written_OAS_GCMD hreg rfl, hidx]
  case savSave =>
    intro v s1 a t hpage hserves hreg
    have hserve : s1.serve a = t := by
      have hne : x.pl.reg ≠ .OAS_GCMD ∧ x.pl.reg ≠ .WIN_ADDR := by rw [hreg]; decide
      have hdata : a.data = putAll 0 [(F.SAV_CMD_SAVE, 1)] := rfl
      have hsave : (F.SAV_CMD_SAVE.get a.data != 0) = true := by
        rw [hdata]
        exact Field.get_putAll_one 0 [] rfl rfl
      rw [State.serve_write hserves rfl, State.written_started hne.1 hne.2]
      simp only [State.started, State.effect, hreg, hsave, if_true]
      rfl
    have hreset : s.inReset = false := hserves.1.1
    refine (State.next_live hreset).trans (congrArg (fun u : State => Host.Outcome.next { u with io := { u.io with hu := none } }) ?_)
    exact (if_neg (by simp [hpage])).trans hserve
  case wideCapture =>
    rw [exec_request_served h hserves]
    simp only [requestOf, Option.some.injEq] at h
    subst h
    have hne : x.pl.reg ≠ .OAS_GCMD ∧ x.pl.reg ≠ .WIN_ADDR := by rw [hreg]; decide
    have hcapture := Field.get_putAll_one (f := F.REG_WIDE_SEL_CAPTURE) 0
      [(F.REG_WIDE_SEL_KIND, kind.toNat), (F.REG_WIDE_SEL_INDEX, index.toNat)] rfl rfl
    rw [State.serve_write hserves rfl, State.written_started hne.1 hne.2]
    simp only [State.started, State.effect, hreg]
    exact congrArg (fun u => Host.Outcome.next (State.ended s u _ _ _)) (if_pos (bne_iff_ne.mp hcapture))
  case vfStatus =>
    rw [exec_request_served h hserves]
    simp only [requestOf, Option.some.injEq, Option.ite_none_right_eq_some] at h
    obtain ⟨_, rfl⟩ := h
    rw [State.serve_read hserves rfl, (State.readDone_of_ne_debug hport).1 hreg, hreg]
    rfl
  case errPend =>
    rw [exec_request_served h hserves]
    simp only [requestOf, Option.some.injEq, Option.ite_none_left_eq_some] at h
    obtain ⟨_, rfl⟩ := h
    rw [State.serve_read hserves rfl, (State.readDone_of_ne_debug hport).2 hreg, hreg]
    rfl

/-! ### The sideband -/

section Sideband
variable {s : State} {a : RegAcc} {x : Spot}

theorem State.eq_of_ruleWay_ok {p : PortId} {y : Spot} {data : Word} (h : s.ruleWay p y data = .ok x) : y = x := by
  unfold State.ruleWay at h
  split_ifs at h
  split at h <;> cases h
  rfl

theorem State.reach_of_readWay_ok {p : PortId} {sp : Space} {off : Nat} (h : s.readWay p sp off = .ok x) : reach p sp off = some x := by
  unfold State.readWay at h
  split at h
  · cases h
  next y hreach =>
    split at h
    · cases h
    · split at h
      · cases h
      · split_ifs at h
        cases h
        exact hreach

theorem State.reach_of_writeWay_ok {p : PortId} {sp : Space} {off : Nat} {data : Word} (h : s.writeWay p sp off data = .ok x) :
    reach p sp off = some x := by
  unfold State.writeWay at h
  split at h
  · cases h
  next y hreach =>
    dsimp only at h
    split at h
    · cases h
    · split at h
      · cases h
      · rw [hreach, State.eq_of_ruleWay_ok h]

/-- An access that is served has reached its register. -/
theorem State.reach_of_accWay_ok (h : s.accWay a = .ok x) : reach (s.portOf a.port) a.space a.off = some x := by
  unfold State.accWay at h
  split at h
  · exact State.reach_of_writeWay_ok h
  · exact State.reach_of_readWay_ok h

/-- A served access to a register outside the switched domains requests no wake. -/
theorem State.inSwitched_eq_false (h : s.accWay a = .ok x) (hpd : x.pl.pd = none) : s.inSwitched a (.ok x) = false := by
  simp [State.inSwitched, State.reach_of_accWay_ok h, hpd]

end Sideband

/-- Settles O19: sideband commands wait in their order, and a good one is an access of the port or a read of the status. -/
theorem sidebandCommands : Obligations.SidebandCommands := by
  refine ⟨fun s off data x => ?write, fun s off x => ?read, fun s x hopen hway => ?status, fun s c x hc hreset hwaits => ?queued,
    fun s off data hopen => ?faulty, fun s hreset => ⟨fun halert => ?alert, fun halert => ?quiet⟩⟩
  case write =>
    intro a hserves hq hpd
    have hreq : requestOf s (.sbRegisterWrite .good off data) = some a := if_pos (List.isEmpty_iff.mpr hq)
    have hwake : s.inSwitched a (.ok x) = false := State.inSwitched_eq_false hserves.2 hpd
    rw [exec_request_served hreq hserves, State.serve_write hserves rfl]
    exact congrArg _ (if_neg (Bool.eq_false_iff.mp hwake))
  case read =>
    intro a hserves hq hpd
    have hreq : requestOf s (.sbRegisterRead .good off) = some a := if_pos (List.isEmpty_iff.mpr hq)
    have hwake : s.inSwitched a (.ok x) = false := State.inSwitched_eq_false hserves.2 hpd
    rw [exec_request_served hreq hserves, State.serve_read hserves rfl]
    exact congrArg _ (if_neg (Bool.eq_false_iff.mp hwake))
  case status =>
    obtain ⟨hreset, hfree, hq⟩ := hopen
    refine (State.next_live hreset).trans (congrArg _ ((State.sbCommand_open (.status .good) hfree hq).trans ?_))
    have hacc : s.accWay (accAt .sideband .dp 0x38 false 0) = .ok x := hway
    simp only [State.sbDo, State.sbStatus, hacc]
    rfl
  case queued =>
    have hexec : exec c s = .next (s.live fun s => s.sbCommand x) := by
      cases c with
      | sbRegisterWrite | sbRegisterRead | sbStatusRead | imageChunkSideband => cases hc; rfl
      | _ => cases hc
    rw [hexec, State.next_live hreset, State.sbCommand_waits hwaits]
  case faulty =>
    obtain ⟨hreset, hfree, hq⟩ := hopen
    have hdo (c : Instr) (x : SbCmd) (hc : exec c s = .next (s.live fun s => s.sbCommand x)) : exec c s = .next (s.sbDo x) := by
      rw [hc, State.next_live hreset, State.sbCommand_open x hfree hq]
    exact ⟨hdo _ (.register .pecWrong off true data) rfl, hdo _ (.register .unknownCode off true data) rfl,
      hdo _ (.register .wrongCount off true data) rfl, hdo _ (.register .pecWrong off false 0) rfl, hdo _ (.status .pecWrong) rfl⟩
  case alert => exact (State.next_live hreset).trans (congrArg _ (if_pos halert))
  case quiet => exact (State.next_live hreset).trans (congrArg _ (if_neg (Bool.eq_false_iff.mp halert)))

end Sys2Proof.Machine
end

section
/-! PROOFS. Carriage ingress and the lanes: O20, O21, O22, O23, O24, O25. -/

namespace Sys2Proof.Machine

/-! ### What a report moves -/

/-- `t` is `s` but for what recording and reporting move: registers, telemetry, egress writes, functions and the error
marks. -/
def State.Reported (s t : State) : Prop :=
  ∃ regs tel dlv vfm errs boot,
    t = { s with regs := regs, tel := tel, dlv := dlv, vfm := vfm, errs := errs, boot := boot }

namespace State.Reported

theorem refl (s : State) : s.Reported s := ⟨_, _, _, _, _, _, rfl⟩

theorem trans {s t u : State} (hst : s.Reported t) (htu : t.Reported u) : s.Reported u := by
  obtain ⟨_, _, _, _, _, _, rfl⟩ := hst
  obtain ⟨_, _, _, _, _, _, rfl⟩ := htu
  exact ⟨_, _, _, _, _, _, rfl⟩

theorem setReg (s : State) (r : Reg) (i : Nat) (w : Word) : s.Reported (s.setReg r i w) := ⟨_, _, _, _, _, _, rfl⟩

theorem setFld (s : State) (f : Field) (i v : Nat) : s.Reported (s.setFld f i v) := ⟨_, _, _, _, _, _, rfl⟩

theorem foldl {α : Type} {f : State → α → State} (hf : ∀ (s : State) a, s.Reported (f s a)) (l : List α) (s : State) :
    s.Reported (l.foldl f s) := by
  induction l generalizing s with
  | nil => exact refl s
  | cons a l ih => exact (hf s a).trans (ih (f s a))

theorem count (s : State) (idx n : Nat) : s.Reported (s.count idx n) := by
  unfold State.count
  split
  · exact refl s
  · exact ⟨_, _, _, _, _, _, rfl⟩

theorem logFirst (s : State) (valid cnt : Field) (i : Nat) (fill : List (Field × Nat)) :
    s.Reported (s.logFirst valid cnt i fill) := by
  have hbump : s.Reported (s.bump cnt i) := setFld s _ _ _
  unfold State.logFirst
  dsimp only
  split
  · exact hbump
  · exact (hbump.trans (setFld _ _ _ _)).trans (foldl (fun x (p : Field × Nat) => setFld x p.1 i p.2) fill _)

theorem sendWrite (s : State) (w : EgrWrite) : s.Reported (s.sendWrite w) := by
  have hcount : s.Reported (s.countG 0x1B) := count s _ _
  unfold State.sendWrite
  dsimp only
  split
  · exact hcount.trans ⟨_, _, _, _, _, _, rfl⟩
  · exact hcount.trans ⟨_, _, _, _, _, _, rfl⟩

theorem irqSend (s : State) (d : Nat) : s.Reported (s.irqSend d) :=
  trans ⟨_, _, _, _, _, _, rfl⟩ (sendWrite _ _)

theorem vfStatus (s : State) (d b : Nat) : s.Reported (s.vfStatus d b) := by
  unfold State.vfStatus
  dsimp only
  split
  · exact (setReg s _ _ _).trans (irqSend _ d)
  · exact setReg s _ _ _

theorem breach (s : State) (d n : Nat) : s.Reported (s.breach d n) := by
  unfold State.breach
  dsimp only
  split
  · refine trans ?_ (vfStatus _ d 5)
    split
    · exact ⟨_, _, _, _, _, _, rfl⟩
    · exact setFld s _ _ _
  · exact refl s

theorem breachAll (s : State) (n : Nat) : s.Reported (s.breachAll n) :=
  foldl (fun x d => breach x d n) s.runDoms s

theorem logError (s : State) (code unit : Nat) (dom : Option Nat) (index : Nat) :
    s.Reported (s.logError code unit dom index) := by
  have hlog := logFirst s F.ERR_LOG_VALID F.ERR_LOG_CNT 0 [(F.ERR_LOG_CODE, code), (F.ERR_LOG_UNIT, unit),
    (F.ERR_LOG_DOM_VALID, bitNat dom.isSome), (F.ERR_LOG_DOMAIN, dom.getD 0), (F.ERR_LOG_IDX_INDEX, index)]
  unfold State.logError
  dsimp only
  refine trans ?_ ⟨_, _, _, _, _, _, rfl⟩
  split
  · exact hlog.trans (foldl (fun x (p : Field × Nat) => setFld x p.1 0 p.2) _ _)
  · exact hlog

theorem ite {p : Prop} [Decidable p] {s t : State} (h : s.Reported t) : s.Reported (if p then t else s) := by
  split
  · exact h
  · exact refl s

/-- An error that names no domain and does not halt the block. -/
theorem error (s : State) (code unit index : Nat) (v : ErrVerdict) (hfatal : errFatal code = false) :
    s.Reported (s.error code unit none index v) := by
  have hlog : s.Reported
      (((s.setReg .ERR_PEND 0 (s.reg .ERR_PEND ||| BitVec.ofNat 32 (2 ^ code))).bump F.ERR_CNT_CNT (code - 1)).logError
        code unit none index) :=
    ((setReg s _ _ _).trans (setFld _ _ _ _)).trans (logError _ _ _ _ _)
  unfold State.error
  rw [hfatal]
  cases v with
  | none | dom => exact (hlog.trans (ite (irqSend _ 0))).trans (ite ⟨_, _, _, _, _, _, rfl⟩)
  | all => exact ((hlog.trans (breachAll _ 5)).trans (ite (irqSend _ 0))).trans (ite ⟨_, _, _, _, _, _, rfl⟩)

end State.Reported

/-! ### Beats (O20) -/

/-- Counting the traffic of descriptors changes telemetry alone. -/
theorem State.foldl_traffic_eq (ds : List Rec) (s : State) :
    ∃ tel, ds.foldl (fun (x : State) d => x.traffic (dHport d) false 16) s = { s with tel := tel } := by
  induction ds generalizing s with
  | nil => exact ⟨s.tel, rfl⟩
  | cons d ds ih =>
    have hone : ∃ tel, s.traffic (dHport d) false 16 = { s with tel := tel } := by
      unfold State.traffic
      split
      · exact ⟨s.tel, rfl⟩
      · exact ⟨_, rfl⟩
    obtain ⟨tel, htel⟩ := hone
    obtain ⟨tel', htel'⟩ := ih (s.traffic (dHport d) false 16)
    exact ⟨tel', by rw [List.foldl_cons, htel', htel]⟩

/-- A beat with a credit: counted, then kept in the wake FIFO or in the ingress buffer. -/
theorem State.ingressBeat_credited {s : State} (b : BitVec 512) (hready : s.intk.ready = true)
    (hcred : s.intk.credits ≠ 0) (hds : beatDescs b ≠ []) :
    let u := (beatDescs b).foldl (fun (x : State) d => x.traffic (dHport d) false 16) s
    let v : State := { u with intk := { u.intk with credits := u.intk.credits - 1 } }
    s.ingressBeat b = if v.capturing && !v.halted then v.wakeCapture (beatDescs b)
      else { v with intk := { v.intk with buf := v.intk.buf ++ [beatDescs b] } } := by
  simp [State.ingressBeat, hready, hcred, hds]

/-- Settles O20: a beat's descriptors are counted, which moves telemetry alone, and then join the buffer or the FIFO. -/
theorem ingressBeats : Obligations.IngressBeats := by
  refine ⟨fun s b hreset hready hcred hds hroom => ?buffered, fun s b hreset hready hcred hds hcap hhalt => ?captured,
    fun s b hreset hready hcred hds => ?empty, fun s b hreset hno => ?uncredited,
    fun s hreset hdue hhalt hrun hpwr => ⟨fun hfits => ?returned, fun hfull => ?full⟩⟩
  case buffered =>
    obtain ⟨tel, htel⟩ := State.foldl_traffic_eq (beatDescs b) s
    have hstay : (s.capturing && !s.halted) = false := by
      rcases hroom with h | h <;> simp [h]
    have hbeat := State.ingressBeat_credited b hready hcred hds
    simp only [htel] at hbeat
    refine ⟨_, (State.next_live hreset).trans (congrArg _ (hbeat.trans (if_neg (ne_true_of_eq_false hstay)))),
      rfl, Nat.succ_pred hcred, rfl, rfl, rfl, rfl, rfl⟩
  case captured =>
    obtain ⟨tel, htel⟩ := State.foldl_traffic_eq (beatDescs b) s
    have hgo : (s.capturing && !s.halted) = true := by simp [hcap, hhalt]
    have hbeat := State.ingressBeat_credited b hready hcred hds
    simp only [htel] at hbeat ⊢
    exact ⟨(State.next_live hreset).trans (congrArg _ (hbeat.trans (if_pos hgo))), trivial, trivial, trivial⟩
  case empty =>
    exact (State.next_live hreset).trans (congrArg _ (by simp [State.ingressBeat, hready, hcred, hds]))
  case uncredited =>
    have hno' : !s.intk.ready ∨ s.intk.credits = 0 := by simpa using hno
    exact (State.next_live hreset).trans (congrArg _ (if_pos hno'))
  case returned =>
    refine (State.next_live hreset).trans (congrArg _ ?_)
    simp [State.credReturn, hdue, hhalt, hrun, hpwr, Nat.not_lt.mpr hfits]
  case full =>
    refine (State.next_live hreset).trans (congrArg _ ?_)
    simp [State.credReturn, hdue, hhalt, hrun, hpwr, hfull]

/-! ### Lanes (O21) -/

theorem dLane_lt (r : Rec) : dLane r < 4 := by
  unfold dLane
  split
  · exact Nat.xor_lt_two_pow (n := 2)
      (Nat.xor_lt_two_pow (Nat.mod_lt _ (by decide)) (Nat.mod_lt _ (by decide))) (Nat.mod_lt _ (by decide))
  · decide

@[simp] theorem State.laneQ_setLane_self (s : State) (k : Nat) (q : List LaneItem) : (s.setLane k q).laneQ k = q :=
  match k with
  | 0 | 1 | 2 | _ + 3 => rfl

theorem State.laneQ_setLane_other (s : State) {j k : Nat} (q : List LaneItem) (hj : j < 4) (hk : k < 4) (hne : k ≠ j) :
    (s.setLane j q).laneQ k = s.laneQ k :=
  match j, k with
  | 0, 1 | 0, 2 | 0, 3 | 1, 0 | 1, 2 | 1, 3 | 2, 0 | 2, 1 | 2, 3 | 3, 0 | 3, 1 | 3, 2 => rfl
  | 0, 0 | 1, 1 | 2, 2 | 3, 3 => absurd rfl hne
  | _ + 4, _ => absurd hj (by omega)
  | _, _ + 4 => absurd hk (by omega)

/-- What entering a lane keeps beside the lane. -/
theorem State.setLane_frame (s : State) (k : Nat) (q : List LaneItem) :
    (s.setLane k q).cvn = s.cvn ∧ (s.setLane k q).dep = s.dep ∧ (s.setLane k q).src = s.src
      ∧ (s.setLane k q).pending = s.pending ∧ (s.setLane k q).regs = s.regs :=
  match k with
  | 0 | 1 | 2 | _ + 3 => ⟨rfl, rfl, rfl, rfl, rfl⟩

/-- `t` has the lanes, the epochs, the depot, the Source Table and the queue of `s`. -/
def State.LanesSame (s t : State) : Prop :=
  (∀ k, t.laneQ k = s.laneQ k) ∧ t.cvn = s.cvn ∧ t.dep = s.dep ∧ t.src = s.src ∧ t.pending = s.pending

theorem State.Reported.lanesSame {s t : State} (h : s.Reported t) : s.LanesSame t := by
  obtain ⟨_, _, _, _, _, _, rfl⟩ := h
  exact ⟨fun _ => rfl, rfl, rfl, rfl, rfl⟩

theorem State.LanesSame.trans {s t u : State} (hst : s.LanesSame t) (htu : t.LanesSame u) : s.LanesSame u := by
  obtain ⟨hlane, hcvn, hdep, hsrc, hpend⟩ := hst
  obtain ⟨hlane', hcvn', hdep', hsrc', hpend'⟩ := htu
  exact ⟨fun k => (hlane' k).trans (hlane k), hcvn'.trans hcvn, hdep'.trans hdep, hsrc'.trans hsrc, hpend'.trans hpend⟩

/-- Taking a carriage descriptor leaves the lanes as they were. -/
theorem State.carriageTake_lanesSame (s : State) : s.LanesSame s.carriageTake := by
  have hself : s.LanesSame s := ⟨fun _ => rfl, rfl, rfl, rfl, rfl⟩
  unfold State.carriageTake
  split
  · exact .trans ⟨fun _ => rfl, rfl, rfl, rfl, rfl⟩ (State.Reported.count _ _ _).lanesSame
  · exact hself
  · exact ⟨fun _ => rfl, rfl, rfl, rfl, rfl⟩
  · exact ⟨fun _ => rfl, rfl, rfl, rfl, rfl⟩

/-- The check of a word of the wake FIFO that can be read leaves the lanes as they were. -/
theorem State.wakeEcc_lanesSame {s : State} {ecc : Ecc} (hok : (s.wakeEcc ecc).1 = true) :
    s.LanesSame (s.wakeEcc ecc).2 := by
  have hself : s.LanesSame s := ⟨fun _ => rfl, rfl, rfl, rfl, rfl⟩
  unfold State.wakeEcc at hok ⊢
  split at hok
  · exact (State.Reported.error s 9 1 4 .none rfl).lanesSame
  · cases hok
  · cases hok
  · exact hself

/-- The next carriage descriptor whose lane has room and the turn. -/
theorem State.laneEntry_turn {s : State} {d : Rec} (ecc : Ecc) (hopen : s.lanesOpen = true)
    (hnext : s.carriageNext = some d) (hroom : s.laneRoom (dLane d) = true)
    (hturn : dLane d = 0 → s.intk.lineLast = true ∨ s.linesOpen = false ∨ s.lineNext = none) :
    s.laneEntry ecc =
      let t := (s.wakeEcc ecc).2
      let u := t.carriageTake.setLane (dLane d) (t.laneQ (dLane d) ++ [.desc d])
      if (s.wakeEcc ecc).1 then
        (if dLane d = 0 then { u with intk := { u.intk with lineLast := false } } else u).countG 0
      else t := by
  have hturn' : ¬ (dLane d = 0 ∧ !s.intk.lineLast ∧ s.linesOpen ∧ s.lineNext.isSome) := by
    rintro ⟨hzero, hlast, hlines, hline⟩
    rcases hturn hzero with h | h | h <;> simp [h] at hlast hlines hline
  simp only [State.laneEntry, hopen, hnext, hroom, hturn', Bool.not_true, Bool.false_eq_true, if_false]
  cases h : (s.wakeEcc ecc).1 <;> simp

/-- Where the entry of the wake FIFO that leaves cannot be read, it is lost. -/
theorem State.wakeEcc_lost {s : State} {d : Rec} {w : List (Nat × Rec)} {ecc : Ecc} (hwake : s.intk.wake = (0, d) :: w)
    (hecc : ecc = .unc .descriptor ∨ ecc = .uncDomain .descriptor) :
    s.wakeEcc ecc = (false, ({ s with intk := { s.intk with wake := w } }.countG 0x15).error 3 1 none 4 .all) := by
  rcases hecc with rfl | rfl <;> simp [State.wakeEcc, State.carriageTake, hwake]

/-- The next line event when lane 0 has room and the turn. -/
theorem State.lineScan_turn {s : State} {n : Nat} {k : EvKind} {level : Bool} (hopen : s.linesOpen = true)
    (hroom : s.laneRoom 0 = true) (hturn : s.intk.lineLast = true → ∀ d, s.carriageNext = some d → dLane d ≠ 0)
    (hnext : s.lineNext = some (n, k, level)) :
    s.lineScan =
      let t := s.setLane 0 (s.laneQ 0 ++ [.line n k])
      let u : State := if level then { t with intk := { t.intk with linePend := t.intk.linePend.erase (n, k) } }
        else { t.setLatch n false with intk := { (t.setLatch n false).intk with lastLine := n } }
      { u with intk := { u.intk with lineLast := true } }.countG 0x13 := by
  have hturn' : ¬ (s.intk.lineLast ∧ (s.carriageNext).any (fun d => dLane d = 0)) := by
    rintro ⟨hlast, hany⟩
    obtain ⟨d, hd, hzero⟩ := (Option.any_eq_true _ _).mp hany
    exact hturn hlast d hd (of_decide_eq_true hzero)
  simp only [State.lineScan, hopen, hroom, hturn', hnext, Bool.not_true, Bool.false_eq_true, or_self, if_false]

/-- Settles O21: the entry that has the turn joins its lane's end, behind the take that leaves the lanes alone. -/
theorem lanesKeepOrder : Obligations.LanesKeepOrder := by
  refine ⟨fun s d ecc hreset hopen hnext hroom hok hturn => ?entry, fun s d ecc w hreset hopen hnext hroom hturn hwake hecc => ?lost,
    fun s d ecc hreset hopen hnext hfull => ?full, fun s n k level hreset hopen hroom hturn hnext => ?scan⟩
  case entry =>
    have hrun := State.laneEntry_turn ecc hopen hnext hroom hturn
    simp only [hok, if_true] at hrun
    refine ⟨_, (State.next_live hreset).trans (congrArg _ hrun), ?_⟩
    obtain ⟨hlane, hcvn, hdep, hsrc, hpend⟩ :=
      (State.wakeEcc_lanesSame hok).trans (State.carriageTake_lanesSame (s.wakeEcc ecc).2)
    obtain ⟨hq, -⟩ := State.wakeEcc_lanesSame hok
    rw [hq]
    generalize (s.wakeEcc ecc).2.carriageTake = t at *
    obtain ⟨hcvn', hdep', hsrc', hpend', -⟩ := State.setLane_frame t (dLane d) (s.laneQ (dLane d) ++ [.desc d])
    have hother : ∀ k, k < 4 → k ≠ dLane d →
        (t.setLane (dLane d) (s.laneQ (dLane d) ++ [.desc d])).laneQ k = s.laneQ k := fun k hk hne =>
      (State.laneQ_setLane_other t _ (dLane_lt d) hk hne).trans (hlane k)
    have hself := State.laneQ_setLane_self t (dLane d) (s.laneQ (dLane d) ++ [.desc d])
    split
    · exact ⟨hself, hother, fun _ => rfl, hcvn'.trans hcvn, hdep'.trans hdep, hsrc'.trans hsrc, hpend'.trans hpend⟩
    · next hne =>
      exact ⟨hself, hother, fun h => absurd h hne, hcvn'.trans hcvn, hdep'.trans hdep, hsrc'.trans hsrc,
        hpend'.trans hpend⟩
  case lost =>
    refine (State.next_live hreset).trans (congrArg _ ?_)
    rw [State.laneEntry_turn ecc hopen hnext hroom hturn, State.wakeEcc_lost hwake hecc]
    rfl
  case full =>
    have hroom : s.laneRoom (dLane d) = false := decide_eq_false (by omega)
    exact (State.next_live hreset).trans (congrArg _ (by simp [State.laneEntry, hopen, hnext, hroom]))
  case scan =>
    refine ⟨_, (State.next_live hreset).trans (congrArg _ (State.lineScan_turn hopen hroom hturn hnext)), ?_⟩
    cases level with
    | true => exact ⟨rfl, rfl, fun | 1, _, _ | 2, _, _ | _ + 3, _, _ => rfl, rfl, fun _ => ⟨rfl, rfl⟩, fun h => nomatch h⟩
    | false => exact ⟨rfl, rfl, fun | 1, _, _ | 2, _, _ | _ + 3, _, _ => rfl, rfl, fun h => (nomatch h), fun _ => ⟨rfl, rfl⟩⟩

/-! ### Heads of lanes (O22, O24) -/

/-- An event descriptor at the head of a lane that does not stall, read well. -/
theorem State.laneHead_event {s : State} {lane : Nat} {ecc : Ecc} {r : Rec} {q : List LaneItem}
    (hstall : s.noteFull.laneStalls lane = false) (hq : s.noteFull.laneQ lane = .desc r :: q)
    (hlost : s.noteFull.descLost lane ecc = none) (hkind : dKind r = 1) :
    let v := s.noteFull.descCor lane ecc
    (∀ c, v.descReason r = some c → s.laneHead lane ecc = (v.laneDrop lane).discardDesc c lane r none)
    ∧ (v.descReason r = none → v.fld F.INT_WIN_CFG_KIND (dWin r) = 1 → s.laneHead lane ecc = v.windowEvent lane r ecc) := by
  refine ⟨fun c hc => ?_, fun hc hwin => ?_⟩ <;>
    simp only [State.laneHead, hstall, hq, hlost, hkind, hc, Bool.false_eq_true, if_false, if_true]
  exact if_pos hwin

/-- A source without a name yet is looked up, and takes its place in its epoch where the Source Table knows it. -/
theorem State.nameHead_fresh {s : State} {lane : Nat} {r : Rec} {ecc : Ecc}
    (hnone : s.intk.named.find? (fun n => n.lane == lane) = none) :
    let found := s.srcLookup (dSeg r) (dRid r) ecc
    (found.1 = none → s.nameHead lane r ecc = (none, found.2))
    ∧ (∀ ord, found.1 = some ord →
      let placed := found.2.epochOf ord
      let n : Named := ⟨lane, ord, placed.1, placed.2.tim.ft⟩
      s.nameHead lane r ecc =
        (some n, { placed.2 with intk := { placed.2.intk with named := placed.2.intk.named ++ [n] } })) := by
  simp only [State.nameHead, hnone]
  rcases s.srcLookup (dSeg r) (dRid r) ecc with ⟨_ | o, t⟩
  · exact ⟨fun _ => rfl, fun _ h => nomatch h⟩
  · exact ⟨fun h => (nomatch h), fun _ h => by cases h; rfl⟩

/-- An event whose source has its name: it waits for translation, or leaves the lane and is translated. -/
theorem State.windowEvent_named {v w : State} {lane : Nat} {r : Rec} {ecc : Ecc} {m : Named}
    (hname : v.nameHead lane r ecc = (some m, w)) :
    v.windowEvent lane r ecc =
      let key := if v.bit F.INT_WIN_CFG_KEYSEL (dWin r) then dWoff r else dData r
      if w.xlateStalls m.ord key then w
      else ((w.laneDrop lane).translate ⟨⟨lane, none, dSeg r, dRid r⟩, m.ord, .raise, m.pos, m.t0⟩ key ecc).wmAll := by
  simp only [State.windowEvent, hname]

/-- Settles O22: the head of the lane by its kind, then by the name of its source. -/
theorem windowEventsAndLines : Obligations.WindowEventsAndLines := by
  intro s lane ecc hpath u hstall
  have hrun : exec (.eventWindowWrite lane ecc) s = .next (s.laneHead lane.val ecc) := State.next_onPath hpath
  refine ⟨?desc, fun n k q hq hfree => ?line⟩
  case desc =>
    intro r q hq hlost v hkind
    obtain ⟨hreason, hevent⟩ := State.laneHead_event hstall hq hlost hkind
    refine ⟨fun c hc => hrun.trans (congrArg _ (hreason c hc)), ?_⟩
    intro hc hwin o key goes
    have hev : s.laneHead lane.val ecc = v.windowEvent lane.val r ecc := hevent hc hwin
    have hgoes : ∀ w m, v.nameHead lane.val r ecc = (some m, w) → goes w m := by
      intro w m hname
      have hwe := hev.trans (State.windowEvent_named hname)
      refine ⟨fun hwait => ?_, fun hfree => ?_⟩
      · exact hrun.trans (congrArg _ (hwe.trans (if_pos hwait)))
      · exact hrun.trans (congrArg _ (hwe.trans (if_neg (ne_true_of_eq_false hfree))))
    refine ⟨fun m hm => hgoes v m (by simp only [State.nameHead, hm]), fun hnone => ?_⟩
    obtain ⟨hunknown, hknown⟩ := State.nameHead_fresh (r := r) (ecc := ecc) hnone
    refine ⟨fun hfound => ?_, fun ord hfound => hgoes _ _ (hknown ord hfound)⟩
    rw [hrun, hev]
    simp only [State.windowEvent, hunknown hfound, o]
  case line =>
    refine hrun.trans (congrArg _ ?_)
    simp only [State.laneHead, hstall, hq, State.lineEvent, u, Bool.false_eq_true, if_false] at hfree ⊢
    rw [if_neg (ne_true_of_eq_false hfree)]

@[simp] theorem State.countG_tim (s : State) (c n : Nat) : (s.countG c n).tim = s.tim := by
  obtain ⟨_, _, _, _, _, _, h⟩ := State.Reported.count s c n
  rw [State.countG, h]

@[simp] theorem State.laneDrop_tim (s : State) (k : Nat) : (s.laneDrop k).tim = s.tim :=
  match k with
  | 0 | 1 | 2 | _ + 3 => rfl

/-- Settles O24: the message at the head of lane 0 against the wire that it names. -/
theorem intxWires : Obligations.IntxWires := by
  intro s up ecc r q hpath c x u w ord hstall hq hkind hlost
  have hrun : exec c s = .next (s.intx up ecc) := by
    cases up <;> exact State.next_onPath hpath
  simp only [u, w, x, ord] at hstall hq hlost ⊢
  refine ⟨fun hpoison => ?_, fun hpoison hsame => ?_, fun hpoison hdiff hfree => ?_⟩
  · refine hrun.trans (congrArg _ ?_)
    simp [State.intx, hstall, hq, hkind, hlost, hpoison]
  · refine hrun.trans (congrArg _ ?_)
    simp [State.intx, hstall, hq, hkind, hlost, hpoison, hsame]
  · refine hrun.trans (congrArg _ ?_)
    simp [State.intx, hstall, hq, hkind, hlost, hpoison, hdiff, hfree]

/-! ### Translation (O23) -/

/-- The words of an INDIRECT translation, asked for by the tag that a response names. -/
theorem State.mapResponse_found {s : State} {tag : Nat} {m : MapWait} (poison : Bool) (ecc : Ecc)
    (hm : s.intk.maps.find? (fun x => x.tag == tag) = some m) : s.mapResponse tag poison ecc = s.mapReturn tag poison ecc := by
  have hany : s.intk.maps.any (fun x => x.tag == tag) = true :=
    List.any_eq_true.mpr ⟨m, List.mem_of_find?_eq_some hm, List.find?_some (p := fun x : MapWait => x.tag == tag) hm⟩
  exact if_pos hany

/-- Settles O23: the entry read, then its validity, its limit and its kind. -/
theorem translationOutcomes : Obligations.TranslationOutcomes := by
  refine ⟨?entry, ?word⟩
  case entry =>
    intro s a key ecc u e
    simp only [u, e]
    refine ⟨fun hv => ?_, fun hv hk => ?_, fun hv hk hi => ?_, fun t v hv hk hi hread => ?_⟩
    · simp [State.translate, hv]
    · simp [State.translate, hv, hk]
    · simp [State.translate, hv, Nat.not_le.mpr hk, hi]
    · simp [State.translate, hv, Nat.not_le.mpr hk, hi, hread]
  case word =>
    intro s tag poison ecc m hcore hm u addr a w
    have hrun : exec (.mapReadReturn tag poison ecc) s = .next (s.mapReturn tag.toNat poison ecc) :=
      (State.next_onCore hcore).trans (congrArg _ (State.mapResponse_found poison ecc hm))
    have hw : u.depNat addr 4 = w := rfl
    refine ⟨fun hpoison => ?_, fun hpoison hlow => ?_, fun hpoison hhigh => ?_⟩
    · refine hrun.trans (congrArg _ ?_)
      simp only [State.mapReturn, hm, hpoison, if_true]
      rfl
    · refine hrun.trans (congrArg _ ?_)
      simp only [State.mapReturn, hm, hpoison, Bool.false_eq_true, if_false]
      exact congrArg (fun t : State => t.wmAll.askFills) (if_pos hlow)
    · refine hrun.trans (congrArg _ ?_)
      simp only [State.mapReturn, hm, hpoison, Bool.false_eq_true, if_false]
      exact congrArg (fun t : State => t.wmAll.askFills) (if_neg (Nat.not_lt.mpr hhigh))

/-! ### Lines (O25) -/

/-- Settles O25: a pulse sets the latch, a level passes the synchroniser. -/
theorem lineInputs : Obligations.LineInputs := by
  refine ⟨fun s n hreset hedge => ?edge, fun s n hreset hlevel hon => ?level, fun s n hreset => ?narrow, fun s n v => ?change⟩
  case edge =>
    have hedge' : (s.lineIsLevel n.toNat && s.coreOn) = false := by
      rcases hedge with h | h <;> simp [h]
    intro u
    have hen : (u.setLatch n.toNat true).bit F.LIN_CFG_EN n.toNat = s.bit F.LIN_CFG_EN n.toNat := by
      simp only [u]
      split <;> rfl
    have hrun : exec (.lineCapture n false) s = .next
        (if (u.setLatch n.toNat true).bit F.LIN_CFG_EN n.toNat then (u.setLatch n.toNat true).wakeReq 2 n.toNat
          else u.setLatch n.toNat true) := by
      refine (State.next_live hreset).trans (congrArg _ ?_)
      simp only [State.lineCapture, hedge', Bool.false_and, Bool.false_eq_true, if_false]
      rfl
    rw [hrun, hen]
    exact ⟨fun h => by rw [if_pos h], fun h => by rw [if_neg (ne_true_of_eq_false h)]⟩
  case level =>
    exact (State.next_live hreset).trans (congrArg _ (by simp [State.lineCapture, hlevel, hon]))
  case narrow =>
    intro u
    have hresetu : u.inReset = false := hreset
    refine ⟨fun hmiss => ?_, fun hhit => ?_⟩
    · exact (State.next_live hreset).trans (congrArg _ (by simp [State.lineCapture, hmiss, u]))
    · have hone : exec (.lineCapture n false) u = .next (u.lineCapture n.toNat false) := State.next_live hresetu
      refine (State.next_live hreset).trans (Eq.trans (congrArg _ ?_) hone.symm)
      simp only [State.lineCapture, hhit, u, Bool.not_true, Bool.and_false, Bool.false_and, Bool.false_eq_true, if_false,
        if_true]
  case change =>
    intro u
    refine ⟨fun hoff => ?_, fun hreset hon hne => ?_⟩
    · refine congrArg Host.Outcome.next ?_
      by_cases hreset : s.inReset = true
      · exact if_pos hreset
      · have hcore : !s.coreOn ∨ s.intk.sync.getLsbD n.toNat = v := .inl (by simp [hoff.resolve_left hreset])
        exact (if_neg hreset).trans (if_pos hcore)
    · intro w
      have hmove : ¬ (!s.coreOn ∨ s.intk.sync.getLsbD n.toNat = v) := by simp [hon, hne]
      have hrun : exec (.lineLevelChange n v) s = .next (if s.bit F.LIN_CFG_EN n.toNat && s.lineIsLevel n.toNat then
          (w.linePush n.toNat (if w.lineLevel n.toNat then .lvlAssert else .lvlDeassert)).lineScan else w) :=
        congrArg Host.Outcome.next ((if_neg (ne_true_of_eq_false hreset)).trans (if_neg hmove))
      exact ⟨fun h => hrun.trans (congrArg _ (if_neg (ne_true_of_eq_false h))), fun h => hrun.trans (congrArg _ (if_pos h))⟩

end Sys2Proof.Machine
end

section
/-! PROOFS. The depot's answers and the event state store: O26, O27, O28, O29. -/

namespace Sys2Proof.Machine

/-- Settles O26: the answer goes by the use of the tag that it names. -/
theorem depotResponses : Obligations.DepotResponses := by
  intro s data poison ecc tag hheld bad
  have hrun : exec (.depResponse data tag poison ecc) s = .next (s.depAnswer data tag.toNat poison ecc) :=
    congrArg Host.Outcome.next (if_neg (ne_true_of_eq_false hheld))
  rw [hrun]
  have hbad : s.depProto tag.toNat = bad := rfl
  refine ⟨fun hnone => by simp only [State.depAnswer, hnone, hbad], fun t ht => ?_⟩
  refine ⟨fun n hu => ?fill, fun hu => ?map, fun n hu => ?stateWb, fun d hu => ?jrnl, fun d hu => ?replay,
    fun id n hu => ?job, fun hu => ?other⟩ <;>
    simp only [State.depAnswer, ht, hu, hbad]

/-! ### Fills and write-backs (O27) -/

/-- Settles O27: each command by what it finds outstanding. -/
theorem fillsAndWriteBacks : Obligations.FillsAndWriteBacks := by
  refine ⟨fun s line poison ecc hcore hnone => ?noread, fun s line poison ecc m hcore hm => ?filled,
    fun s v n m ecc hm => ⟨fun hi => ?noplace, fun hi hr => ?notready, fun hi hr => ?lands⟩,
    fun s hcore hno => ?nowrite, fun s u v t hcore hv hj hw => ?writes, fun s hcore => ⟨fun hst hscan hinit => ?init, fun hno => ?noinit⟩⟩
  case noread =>
    exact (State.next_onCore hcore).trans (congrArg _ (by simp only [State.fill, hnone]))
  case filled =>
    exact (State.next_onCore hcore).trans (congrArg _ (by simp only [State.fill, hm]))
  case noplace =>
    simp only [State.landMiss, hm, hi, Option.filter_none]
  case notready =>
    simp only [State.landMiss, hm, hi, Option.filter_some, hr, Bool.false_eq_true, if_false]
  case lands =>
    simp only [State.landMiss, hm, hi, Option.filter_some, hr, if_true]
  case nowrite =>
    refine (State.next_onCore hcore).trans (congrArg _ ?_)
    unfold State.writeVictim
    split
    · rfl
    · next v hv =>
      rw [if_pos (hno.resolve_left (by simp [hv]))]
  case writes =>
    refine (State.next_onCore hcore).trans (congrArg _ ?_)
    simp only [State.writeVictim, hv, hj, hw, Bool.false_eq_true, if_false]
  case init =>
    refine (State.next_onCore hcore).trans (congrArg _ ?_)
    simp [State.backingInit, State.initDone, hst, hscan, hinit]
  case noinit =>
    refine (State.next_onCore hcore).trans (congrArg _ ?_)
    unfold State.backingInit State.initDone
    rcases hno with h | h | h
    · rw [if_neg (fun hc => h hc.1)]
    · rw [if_neg (fun hc => h (Option.isNone_iff_eq_none.mp hc.2))]
    · rw [if_pos h, ite_self]

/-! ### The scrubber (O28) -/

/-- The scrubber at the line that it takes. -/
theorem State.scrubLine_takes {s : State} {n : Nat} {l : Line} (hint : s.fld F.SST_CTRL_SCRUB_INT ≠ 0)
    (htake : (s.sst.cache.find? (fun x => decide (s.sst.scrub ≤ x.1))).orElse (fun _ => s.sst.cache.head?) = some (n, l)) :
    let u := { s with sst := { s.sst with scrub := n + 1 } }
    s.scrubLine .none = u
    ∧ ∀ (k : Fin 8) (ecc : Ecc), ecc = .cor (.stateEntry k) ∨ ecc = .unc (.stateEntry k) ∨ ecc = .uncDomain (.stateEntry k) →
      s.scrubLine ecc = (let r := u.entryEcc (8 * n + k.val) ecc
        if r.1 then r.2 else if r.2.mqRoom n then r.2.joinAll n [] else r.2.raise F.SST_STATUS_MQ_FULL) := by
  refine ⟨?_, fun k ecc hecc => ?_⟩
  · simp only [State.scrubLine, hint, htake, if_false]
  · rcases hecc with rfl | rfl | rfl <;> simp only [State.scrubLine, hint, htake, if_false]

/-- Settles O28: nothing to scrub, or the line at the pointer. -/
theorem scrubReadsOneLine : Obligations.ScrubReadsOneLine := by
  refine ⟨fun s ecc hcore hno => ?idle, fun s n l hcore hint htake => ?takes⟩
  case idle =>
    refine (State.next_onCore hcore).trans (congrArg _ ?_)
    rcases hno with h | h
    · exact if_pos h
    · simp [State.scrubLine, h]
  case takes =>
    obtain ⟨hnone, hecc⟩ := State.scrubLine_takes hint htake
    refine ⟨(State.next_onCore hcore).trans (congrArg _ hnone), fun k => ?_, fun k => ?_, fun k => ?_⟩
    · exact (State.next_onCore hcore).trans (congrArg _ (hecc k _ (.inl rfl)))
    · exact (State.next_onCore hcore).trans (congrArg _ (hecc k _ (.inr (.inl rfl))))
    · exact (State.next_onCore hcore).trans (congrArg _ (hecc k _ (.inr (.inr rfl))))

/-! ### Range commands (O29) -/

/-- BUSY reads 1 after it is raised and ERR is cleared. -/
theorem State.busy_of_rtGo (s : State) (d : Nat) :
    ((s.raise F.SST_RTCMD_BUSY d).setFld F.SST_RTCMD_ERR d 0).fld F.SST_RTCMD_BUSY d = 1 :=
  (State.fld_setFld_other (s.raise F.SST_RTCMD_BUSY d) F.SST_RTCMD_ERR F.SST_RTCMD_BUSY d 0 rfl (by decide)).trans
    (State.fld_setFld_self s F.SST_RTCMD_BUSY d 1 (by decide) (by decide))

/-- A runtime command that is accepted waits for the epoch close, or runs. -/
theorem State.startRt_accepted {s go : State} {d op eid n : Nat} (ecc : Ecc) (hop : s.fld F.SST_RTCMD_OP d = op)
    (heid : s.fld F.SST_RTCMD_EID d = eid) (hn : (if op = 1 then 0 else s.fld F.SST_RTCNT_CNT d) = n)
    (hgo : (s.raise F.SST_RTCMD_BUSY d).setFld F.SST_RTCMD_ERR d 0 = go) (hbusy : s.bit F.SST_RTCMD_BUSY d = false)
    (hrange : s.rangeOk d eid n = true) (hknown : ¬ (op = 0 ∨ 5 < op)) :
    s.startRt d ecc =
      if op ≠ 1 && go.sequenced d && go.domEn d then
        { go with sst := { go.sst with cmds := go.sst.cmds ++ [⟨false, d, op, eid, n + 1, true, false⟩] } }
      else State.runCmd (n + 2) (go.cmdEcc eid ecc) ⟨false, d, op, eid, n + 1, false, false⟩ := by
  simp only [State.startRt, hbusy, hop, heid, hn, hgo, hrange, hknown, Bool.not_true, Bool.false_eq_true, if_false]
  generalize (decide (op ≠ 1) && go.sequenced d && go.domEn d) = wait
  cases wait with
  | true => simp only [if_true]
  | false => simp only [Bool.false_eq_true, if_false]

/-- Settles O29: the checks in their order, then the command as it starts. -/
theorem rangeCommands : Obligations.RangeCommands := by
  refine ⟨fun s d ecc => ?rt, fun s d ecc => ?cfg⟩
  case rt =>
    intro op eid n go
    refine ⟨fun hbusy => if_pos hbusy, fun hbusy hr => ?_, fun hbusy hr hop => ?_, fun hbusy hr hlo hhi => ?_⟩
    · simp only [op, eid, n] at hr
      simp [State.startRt, hbusy, hr]
    · simp only [op, eid, n] at hr hop
      simp [State.startRt, hbusy, hr, hop]
    · have hstart := State.startRt_accepted (go := go) ecc rfl rfl rfl rfl hbusy hr (by omega)
      refine ⟨fun ⟨hop, hseq, hen⟩ => ?_, fun hnow => ?_⟩
      · have hwait : (decide (op ≠ 1) && go.sequenced d && go.domEn d) = true := by simp [hop, hseq, hen]
        rw [if_pos hwait] at hstart
        rw [hstart]
        exact ⟨rfl, State.busy_of_rtGo s d⟩
      · have hrun : ¬ (decide (op ≠ 1) && go.sequenced d && go.domEn d) = true := by
          rcases hnow with h | h | h <;> simp [h]
        exact hstart.trans (if_neg hrun)
  case cfg =>
    intro op eid n go
    simp only [op, eid, n, go]
    refine ⟨fun hbusy => if_pos hbusy, fun hbusy hr => ?_, fun hbusy hr hop => ?_, fun hbusy hr hop hen => ?_,
      fun hbusy hr hop hen => ?_, fun hbusy hr hop => ?_⟩
    · simp [State.startCfg, hbusy, hr]
    · simp [State.startCfg, hbusy, hr, hop]
    · simp [State.startCfg, hbusy, hr, hop, hen]
    · simp [State.startCfg, hbusy, hr, hop, hen]
    · rcases hop with hop | hop <;> simp [State.startCfg, hbusy, hr, hop]

end Sys2Proof.Machine
end

section
/-! PROOFS. Caravan ordering: O30, O31, O32, O33, O43. -/

namespace Sys2Proof.Machine

/-! ### Waymarks (O30) -/

/-- A waymark of the command's kind at the head of a lane that does not stall, read well. -/
theorem State.waymarkHead_mine {s : State} {lane : Nat} {kinds : List Nat} {ecc : Ecc} {r : Rec}
    (hstall : s.noteFull.laneStalls lane = false) (hhead : s.noteFull.windowHead lane 2 = some r)
    (hmine : kinds.contains (dData r / 2 ^ 30 % 4) = true) (hlost : s.noteFull.descLost lane ecc = none) :
    let f := (s.noteFull.descCor lane ecc).srcLookup (dSeg r) (dRid r) ecc
    (f.1 = none → s.waymarkHead lane kinds ecc = (f.2.laneDrop lane).discard 7 ⟨lane, none, dSeg r, dRid r⟩ none none)
    ∧ (∀ ord, f.1 = some ord → s.waymarkHead lane kinds ecc =
        if (f.2.img.caravanOf ord).any f.2.jStopped then f.2 else (f.2.laneDrop lane).waymarkOf ord r) := by
  simp only [State.waymarkHead, hstall, hhead, hmine, hlost, Bool.false_eq_true, Bool.not_true, if_false, Option.isSome_none]
  rcases (s.noteFull.descCor lane ecc).srcLookup (dSeg r) (dRid r) ecc with ⟨_ | o, t⟩
  · exact ⟨fun _ => rfl, fun _ h => nomatch h⟩
  · exact ⟨fun h => (nomatch h), fun _ h => by cases h; rfl⟩

/-- Leaving a lane keeps the image. -/
@[simp] theorem State.laneDrop_img (s : State) (k : Nat) : (s.laneDrop k).img = s.img :=
  match k with
  | 0 | 1 | 2 | _ + 3 => rfl

/-- Settles O30: the head by its kind, its source, its domain and that domain's state. -/
theorem waymarksFollowTheirSource : Obligations.WaymarksFollowTheirSource := by
  intro s lane ecc kind r hpath c mine u f hstall hhead
  have hrun : exec c s = .next (s.waymarkHead lane.val mine ecc) := by
    simp only [c, mine]
    split
    · exact State.next_onPath hpath
    · split
      · exact State.next_onPath hpath
      · exact State.next_onPath hpath
  refine ⟨fun hother => ?_, fun hmine hlost hnone => ?_, ?_⟩
  · refine hrun.trans (congrArg _ ?_)
    simp only [u] at hstall hhead
    simp only [State.waymarkHead, hstall, hhead, hother, Bool.false_eq_true, if_false, Bool.not_false, if_true, u]
  · obtain ⟨hunknown, -⟩ := State.waymarkHead_mine hstall hhead hmine hlost
    exact hrun.trans (congrArg _ (hunknown hnone))
  · intro ord hmine hlost hord v
    obtain ⟨-, hknown⟩ := State.waymarkHead_mine hstall hhead hmine hlost
    have hgo : exec c s = .next (if (f.2.img.caravanOf ord).any f.2.jStopped then f.2 else v.waymarkOf ord r) :=
      hrun.trans (congrArg _ (hknown ord hord))
    have himg : v.img.caravanOf ord = f.2.img.caravanOf ord := by rw [State.laneDrop_img]
    refine ⟨fun hcar => ?_, fun d hcar hstop => ?_, fun d hcar hfree => ?_⟩
    · rw [hgo]
      simp [State.waymarkOf, himg, hcar]
    · rw [hgo]
      simp [hcar, hstop]
    · have hof : exec c s = .next (v.waymarkOf ord r) := by
        rw [hgo]
        simp [hcar, hfree]
      rw [hof]
      simp only [State.waymarkOf, himg, hcar]
      refine ⟨fun hseq => by simp [hseq], fun hseq hheld => ?_, fun hseq hen hfence hhold => ⟨fun hrunning => ?_, fun hrunning => ?_⟩⟩
      · have hcond : (!v.domEn d) = true ∨ v.bit F.VFM_DOM_STAT_FENCED d = true ∨ v.held d = true := by simpa using hheld
        simp only [hseq, Bool.not_true, Bool.false_eq_true, if_false]
        rw [if_pos hcond]
      · simp [hseq, hen, hfence, hhold, hrunning]
      · simp [hseq, hen, hfence, hhold, hrunning]

/-! ### Timers of an epoch (O31, O43) -/

/-- Settles O31: each timer by its condition. -/
theorem epochTimers : Obligations.EpochTimers := by
  refine ⟨?hold, ?overdue, ?straggler⟩
  case hold =>
    intro s d hpath r
    refine ⟨fun hrun hseq hclock hlen => ?_, fun hno => ?_⟩
    · exact (State.next_onPath hpath).trans (congrArg _ (if_pos ⟨hrun, hseq, hclock, hlen⟩))
    · refine (State.next_onPath hpath).trans (congrArg _ (if_neg ?_))
      rintro ⟨hrun, -, -, hlen⟩
      rcases hno with h | h
      · exact absurd hrun (ne_true_of_eq_false h)
      · exact absurd hlen (Nat.not_le.mpr h)
  case overdue =>
    intro s d hpath due
    have hdue : (s.coordinator ∧ s.clockAt d.toNat (s.stragTs d.toNat) ∧ !(s.run d.toNat).overdue) ↔ due = true := by
      simp [due, and_assoc]
    exact ⟨fun h => (State.next_onPath hpath).trans (congrArg _ (if_pos (hdue.mpr h))),
      fun h => (State.next_onPath hpath).trans (congrArg _ (if_neg (fun hc => ne_true_of_eq_false h (hdue.mp hc))))⟩
  case straggler =>
    intro s d hpath atCeiling e
    have hdue : (s.coordinator ∧ s.clockAt d.toNat (s.holdCeil d.toNat)) ↔ atCeiling = true := by
      simp [atCeiling]
    exact ⟨fun h => (State.next_onPath hpath).trans (congrArg _ (if_pos (hdue.mpr h))),
      fun h => (State.next_onPath hpath).trans (congrArg _ (if_neg (fun hc => ne_true_of_eq_false h (hdue.mp hc))))⟩

/-- Settles O43: the timers of O31 at their time. -/
theorem epochTimersComplete : Obligations.EpochTimersComplete := by
  obtain ⟨hstart, hoverdue, hstraggler⟩ := epochTimers
  refine ⟨fun s d hpath hrun hseq hclock hlen => ?_, fun s d hpath hcoord hat hfirst => ?_, fun s d hpath hcoord hat => ?_⟩
  · exact (hstart s d hpath).1 hrun hseq hclock hlen
  · exact (hoverdue s d hpath).1 (by simp [hcoord, hat, hfirst])
  · exact (hstraggler s d hpath).1 (by simp [hcoord, hat])

/-! ### Releases (O32) -/

theorem State.PathUp.not_halted {s : State} (h : s.PathUp) : s.halted = false := by
  obtain ⟨-, -, hhalt⟩ := h
  exact hhalt

/-- Settles O32: the halt is excluded, so both run as they are written. -/
theorem releasesOfClosedEpochs : Obligations.ReleasesOfClosedEpochs := by
  refine ⟨?release, ?retry⟩
  case release =>
    intro s ecc hpath u v
    have hgo : s.releaseTwo ecc = if (v.nextGroup.map (·.eid)) = (u.nextGroup.map (·.eid)) then v else v.releaseOne .none :=
      if_neg (ne_true_of_eq_false hpath.not_halted)
    exact ⟨fun h => (State.next_onPath hpath).trans (congrArg _ (hgo.trans (if_pos h))),
      fun h => (State.next_onPath hpath).trans (congrArg _ (hgo.trans (if_neg h)))⟩
  case retry =>
    intro s ecc hpath
    have hgo : s.halted = false := hpath.not_halted
    refine ⟨fun hnil => ?_, fun r l hcons => ?_⟩
    · exact (State.next_onPath hpath).trans (congrArg _ (by simp [State.releaseRetry, hnil]))
    · exact (State.next_onPath hpath).trans (congrArg _ (by simp only [State.releaseRetry, hgo, hcons, Bool.false_eq_true, if_false]))

/-! ### Silence (O33) -/

/-- Settles O33: the checks in their order. -/
theorem silenceOfASource : Obligations.SilenceOfASource := by
  intro s o d
  refine ⟨fun hno => ?_, fun hd hop => ?_, fun hd hop hcoord => ?_, fun k hk hrun hop hcoord => ?_⟩
  · simp only [d, o] at hno
    simp [State.startSilence, hno]
  · simp only [d, o] at hd
    simp [State.startSilence, hd, hop]
  · simp only [d, o] at hd
    simp [State.startSilence, hd, hop, hcoord]
  · simp only [d, o] at hk ⊢
    simp [State.startSilence, hk, hrun, hop, hcoord]

end Sys2Proof.Machine
end

section
/-! PROOFS. Ranking, routing, shaping and gates: O34, O35, O36. -/

namespace Sys2Proof.Machine

/-! ### Runtime controls of a target (O34) -/

/-- A register that a field is not of keeps its word. -/
theorem State.reg_setFld_ne (s : State) {f : Field} {r : Reg} {i j : Nat} (v : Nat) (hi : i < 65536) (hj : j < 65536)
    (hne : ¬ (r = f.reg ∧ j = i)) : (s.setFld f i v).reg r j = s.reg r j :=
  State.reg_setReg_other _ _ (fun h => hne (Reg.key_inj hj hi h))

/-- A move of one register's word to another, reported in the command register without an error: what each register
reads after it. -/
theorem State.moved_reads (s : State) {src dst : Reg} {i j d : Nat} (hi : i < 65536) (hj : j < 65536) (hd : d < 65536)
    (hsrc : src ≠ dst) (hsrc' : src ≠ .RTE_TCMD) (hdst : dst ≠ .RTE_TCMD) :
    let u := (s.setReg dst j (s.reg src i)).setFld F.RTE_TCMD_ERR d 0
    u.reg dst j = s.reg src i ∧ u.fld F.RTE_TCMD_ERR d = 0 ∧ u.reg src i = s.reg src i
    ∧ ∀ (r : Reg) (k : Nat), k < 65536 → ¬ (r = dst ∧ k = j) → ¬ (r = .RTE_TCMD ∧ k = d) → u.reg r k = s.reg r k := by
  have hother : ∀ (r : Reg) (k : Nat), k < 65536 → ¬ (r = dst ∧ k = j) → ¬ (r = .RTE_TCMD ∧ k = d) →
      ((s.setReg dst j (s.reg src i)).setFld F.RTE_TCMD_ERR d 0).reg r k = s.reg r k := fun r k hk hne hcmd =>
    (State.reg_setFld_ne _ 0 hd hk hcmd).trans (State.reg_setReg_other _ _ (fun h => hne (Reg.key_inj hk hj h)))
  refine ⟨?_, State.fld_setFld_self _ _ _ _ (by decide) (by decide), ?_, hother⟩
  · exact (State.reg_setFld_ne _ 0 hd hj (fun h => hdst h.1)).trans (State.reg_setReg_self _ _ _ _)
  · exact hother src i hi (fun h => hsrc h.1) (fun h => hsrc' h.1)

/-- Settles O34: the owner, then the operation. -/
theorem targetRuntimeCommands : Obligations.TargetRuntimeCommands := by
  intro s d hd t u ht
  refine ⟨fun howner => if_pos howner, fun howner => ?_⟩
  have hown : u = match s.fld F.RTE_TCMD_OP d with
      | 1 => (s.setReg .RTE_TDATA d (s.reg .RTE_TGT_RT t)).setFld F.RTE_TCMD_ERR d 0
      | 2 => (s.setReg .RTE_TGT_RT t (s.reg .RTE_TDATA d)).setFld F.RTE_TCMD_ERR d 0
      | _ => s.setFld F.RTE_TCMD_ERR d 2 := if_neg (not_not.mpr howner)
  obtain ⟨hread, hrerr, hrsrc, hrother⟩ :=
    s.moved_reads (src := .RTE_TGT_RT) (dst := .RTE_TDATA) ht hd hd (by decide) (by decide) (by decide)
  obtain ⟨hwrite, hwerr, hwsrc, hwother⟩ :=
    s.moved_reads (src := .RTE_TDATA) (dst := .RTE_TGT_RT) hd ht hd (by decide) (by decide) (by decide)
  refine ⟨fun hop => ?read, fun hop => ?write, fun h1 h2 => ?reserved, fun r i hi hdata hrt hcmd => ?frame⟩
  case read =>
    simp only [hop] at hown
    rw [hown]
    exact ⟨hread, hrerr, hrsrc⟩
  case write =>
    simp only [hop] at hown
    rw [hown]
    exact ⟨hwrite, hwerr, hwsrc⟩
  case reserved =>
    rw [hown]
    split
    · next h => exact absurd h h1
    · next h => exact absurd h h2
    · rfl
  case frame =>
    rw [hown]
    split
    · exact hrother r i hi hdata hcmd
    · exact hwother r i hi hrt hcmd
    · exact State.reg_setFld_ne _ 2 hd hi hcmd

/-! ### Ranking (O35) -/

/-- Settles O35: what the scan and the choice find. -/
theorem rankingCommands : Obligations.RankingCommands := by
  refine ⟨fun s ecc hpath hno => ?idle, ?admits, fun s ecc hpath hno => ?nothing, ?hands⟩
  case idle =>
    refine (State.next_onPath hpath).trans (congrArg _ ?_)
    rcases hno with h | h
    · simp [State.waitingAdmission, h]
    · simp [State.waitingAdmission, h]
  case admits =>
    intro s ecc d e hpath hprim hscan w u
    have hgo : s.waitingAdmission ecc =
        if w.1 then (match u.scanNext (some d) with | none => u | some (d2, e2) => u.scanAdmit d2 e2) else w.2 := by
      simp only [State.waitingAdmission, hprim, hpath.not_halted, hscan, Bool.or_self, Bool.false_eq_true, if_false, w, u]
      rcases s.waitEcc d e ecc with ⟨_ | _, v⟩ <;> rfl
    refine ⟨fun hw => ?_, fun hw hnext => ?_, fun d2 e2 hw hnext => ?_⟩
    · refine (State.next_onPath hpath).trans (congrArg _ ?_)
      simp only [hgo, hw, Bool.false_eq_true, if_false]
    · refine (State.next_onPath hpath).trans (congrArg _ ?_)
      simp only [hgo, hw, hnext, if_true]
    · refine (State.next_onPath hpath).trans (congrArg _ ?_)
      simp only [hgo, hw, hnext, if_true]
  case nothing =>
    refine (State.next_onPath hpath).trans (congrArg _ ?_)
    rcases hno with h | h | h
    · simp [State.handOver, h]
    · simp [State.handOver, h]
    · simp [State.handOver, h]
  case hands =>
    intro s u ecc t hpath hprim hroom hone
    refine ⟨fun hno => ?_, fun t2 v htwo => ?_⟩
    · refine (State.next_onPath hpath).trans (congrArg _ ?_)
      simp [State.handOver, hprim, hpath.not_halted, hroom, hone, hno]
    · refine (State.next_onPath hpath).trans (congrArg _ ?_)
      simp [State.handOver, hprim, hpath.not_halted, hroom, hone, htwo]

/-! ### Clocks of shaping and gates (O36) -/

/-- Settles O36: each clock at its time. -/
theorem wheelAndGateClocks : Obligations.WheelAndGateClocks := by
  refine ⟨fun s ecc hcore htick => ?tick, fun s ecc hcore hearly => ?notick, fun s ecc hsaving => ?saving,
    fun s g l hcore hpend => ⟨fun hearly => ?early, fun hdue => ?switch⟩, fun s g hcore hnone => ?nolist,
    fun s g ecc hpath => ?opening, ?cycle, fun s ecc hpath hnone => ?noparked, fun s ecc h hpath hfound => ?parked⟩
  case tick => exact (State.next_onCore hcore).trans (congrArg _ (if_neg (Nat.not_lt.mpr htick)))
  case notick => exact (State.next_onCore hcore).trans (congrArg _ (if_pos hearly))
  case saving => exact if_pos (.inr hsaving)
  case early => exact (State.next_onCore hcore).trans (congrArg _ (by simp only [State.switchList, hpend, hearly, if_true]))
  case switch =>
    refine (State.next_onCore hcore).trans (congrArg _ ?_)
    simp only [State.switchList, hpend, Nat.not_lt.mpr hdue, if_false]
  case nolist => exact (State.next_onCore hcore).trans (congrArg _ (by simp only [State.switchList, hnone]))
  case opening => exact State.next_onPath hpath
  case cycle =>
    intro s g hcore u
    exact ⟨fun hin => (State.next_onCore hcore).trans (congrArg _ (if_pos hin)),
      fun hnew => (State.next_onCore hcore).trans (congrArg _ (if_neg (Nat.not_le.mpr hnew)))⟩
  case noparked => exact (State.next_onPath hpath).trans (congrArg _ (by simp only [State.parkedReturn, hnone]))
  case parked => exact (State.next_onPath hpath).trans (congrArg _ (by simp only [State.parkedReturn, hfound]))

end Sys2Proof.Machine
end

section
/-! PROOFS. Delivery and completion: O38, O39, O40, O41, O42. -/

namespace Sys2Proof.Machine

/-! ### Egress writes (O38, O39) -/

/-- Settles O38: the halt for the beat, the tag and the status for the acknowledgement. -/
theorem egressWritesAndAcknowledgements : Obligations.EgressWritesAndAcknowledgements := by
  have hack : ∀ (s : State) (tag : BitVec 12) (st : BitVec 2), s.boot.held = false →
      exec (.egressAck tag st) s = .next (s.egressAck tag.toNat st.toNat) := fun s tag st hheld =>
    congrArg Host.Outcome.next (if_neg (ne_true_of_eq_false hheld))
  refine ⟨fun s hreset hhalt => ?halted, fun s hreset hhalt => ?taken, fun s tag st hheld hnone => ?stray,
    fun s tag w hheld hw => ?good, fun s tag st w hheld hw hst => ?bad, fun s hheld tag st => ?held⟩
  case halted => exact (State.next_live hreset).trans (congrArg _ (if_pos hhalt))
  case taken => exact (State.next_live hreset).trans (congrArg _ (if_neg (ne_true_of_eq_false hhalt)))
  case stray => simp only [hack s tag st hheld, State.egressAck, hnone]
  case good => exact (hack s tag 0 hheld).trans (by simp [State.egressAck, hw])
  case bad =>
    have hne : st.toNat ≠ 0 := fun h => hst (BitVec.eq_of_toNat_eq h)
    simp only [hack s tag st hheld, State.egressAck, hw, hne, if_false, State.ackBad]
  case held => exact congrArg Host.Outcome.next (if_pos hheld)

/-- One bit of a word cleared: it reads 0, and the others as before. -/
theorem getLsbD_clearBit (w : Word) {k : Nat} (hk : k < 32) :
    (w &&& ~~~(BitVec.ofNat 32 (2 ^ k))).getLsbD k = false
    ∧ ∀ j, j < 32 → j ≠ k → (w &&& ~~~(BitVec.ofNat 32 (2 ^ k))).getLsbD j = w.getLsbD j := by
  refine ⟨?_, fun j hj hne => ?_⟩
  · simp only [BitVec.getLsbD_and, BitVec.getLsbD_not, BitVec.getLsbD_ofNat, hk, Nat.testBit_two_pow_self]
    simp
  · have hbit : (2 ^ k).testBit j = false := Nat.testBit_two_pow_of_ne (Ne.symm hne)
    simp only [BitVec.getLsbD_and, BitVec.getLsbD_not, BitVec.getLsbD_ofNat, hj, hbit]
    simp

/-- Settles O39: the port's bit and its unsent writes before the writes go on. -/
theorem resumeReissues : Obligations.ResumeReissues := by
  refine ⟨fun s p hp => ?_, fun s r => rfl⟩
  obtain ⟨hclear, hkeep⟩ := getLsbD_clearBit (s.reg .DLV_HPORT_DOWN (p / 32)) (Nat.mod_lt p (by decide : 0 < 32))
  let t := s.setReg .DLV_HPORT_DOWN (p / 32) (s.reg .DLV_HPORT_DOWN (p / 32) &&& ~~~(BitVec.ofNat 32 (2 ^ (p % 32))))
  have hreg : t.reg .DLV_HPORT_DOWN (p / 32) =
      s.reg .DLV_HPORT_DOWN (p / 32) &&& ~~~(BitVec.ofNat 32 (2 ^ (p % 32))) := State.reg_setReg_self _ _ _ _
  refine ⟨{ t with dlv := { t.dlv with
    unsent := t.dlv.unsent.filter (·.hport ≠ p), reissue := t.dlv.reissue ++ t.dlv.unsent.filter (·.hport = p) } },
    rfl, ?_, fun k hk hne => ?_, rfl, rfl, rfl, rfl⟩
  · exact (congrArg (fun w : Word => w.getLsbD (p % 32)) hreg).trans hclear
  · exact (congrArg (fun w : Word => w.getLsbD k) hreg).trans (hkeep k hk hne)

/-! ### Doorbells (O40, O41) -/

/-- A doorbell of the command's operation at the head of a lane that does not stall, read well. -/
theorem State.doorbellHead_mine {s : State} {lane op : Nat} {ecc : Ecc} {r : Rec}
    (hstall : s.noteFull.laneStalls lane = false) (hhead : s.noteFull.windowHead lane 3 = some r)
    (hop : dWoff r / 2 ^ 20 = op) (hlost : s.noteFull.descLost lane ecc = none) :
    s.doorbellHead lane op ecc =
      let v := (s.noteFull.descCor lane ecc).laneDrop lane
      if v.standby then v.toPartner 4 (dHport r * 2 ^ 109 + dWoff r * 2 ^ 87 + dData r * 2 ^ 55)
      else (v.doorbell (some (dHport r)) (dWoff r) (dData r) ecc).2.askFills := by
  simp only [State.doorbellHead, hstall, hhead, hop, hlost, Bool.false_eq_true, if_false, Option.isSome_none, ne_eq,
    not_true_eq_false]

/-- The command of each doorbell operation runs it at the head of its lane. -/
theorem exec_doorbell {s : State} (lane op : Fin 4) (ecc : Ecc) (hpath : s.PathUp) :
    exec (if op.val = 0 then .complete lane ecc else if op.val = 1 then .completeAny lane ecc
      else if op.val = 2 then .consume lane ecc else .doorbellReservedOp lane ecc) s =
      .next (s.doorbellHead lane.val op.val ecc) :=
  match op with
  | 0 | 1 | 2 | 3 => State.next_onPath hpath

/-- Settles O40: the head by its operation, then the role of the block. -/
theorem doorbellsOfALane : Obligations.DoorbellsOfALane := by
  intro s lane op ecc r hpath c u hstall hhead
  have hrun : exec c s = .next (s.doorbellHead lane.val op.val ecc) := exec_doorbell lane op ecc hpath
  refine ⟨fun hother => ?_, fun hop => ?_⟩
  · refine hrun.trans (congrArg _ ?_)
    simp only [u] at hstall hhead
    simp only [State.doorbellHead, hstall, hhead, hother, Bool.false_eq_true, if_false, if_true, ne_eq, not_false_eq_true, u]
  · intro v
    refine ⟨fun x hx => ?_, fun hlost hstand => ?_, fun hlost hprim => ?_⟩
    · refine hrun.trans (congrArg _ ?_)
      simp only [u] at hstall hhead hx
      simp only [State.doorbellHead, hstall, hhead, hop, hx, Bool.false_eq_true, if_false, if_true, ne_eq,
        not_true_eq_false, Option.isSome_some, Option.getD_some]
    · exact hrun.trans (congrArg _ ((State.doorbellHead_mine hstall hhead hop hlost).trans (if_pos hstand)))
    · have hgo : exec c s = .next (v.doorbell (some (dHport r)) (dWoff r) (dData r) ecc).2.askFills :=
        hrun.trans (congrArg _ ((State.doorbellHead_mine hstall hhead hop hlost).trans
          (if_neg (ne_true_of_eq_false hprim))))
      have hmod : dWoff r / 2 ^ 20 % 4 = op.val := by omega
      rw [hgo]
      refine ⟨fun h => ?_, fun h => ?_, fun h => ?_, fun h => ?_⟩ <;>
        simp only [State.doorbell, hmod, h, Option.getD_some]

/-- Settles O41: the checks of each register in their order. -/
theorem doorbellRegisters : Obligations.DoorbellRegisters := by
  refine ⟨fun s d ecc => ?db, fun s ecc => ?force⟩
  case db =>
    refine ⟨fun hout => if_pos hout, fun hin hop => ?_, fun hin hop => ?_⟩
    · simp [State.startDb, hin, hop]
    · intro run
      have hgo : s.startDb d ecc = State.dbEnd d run := by
        simp only [State.startDb, hin, hop, Bool.false_eq_true, if_false, run]
      rw [hgo]
      refine ⟨fun h => ?_, fun h => ?_⟩ <;> simp only [State.dbEnd, h] <;> rfl
  case force =>
    intro eid u
    refine ⟨fun hne => if_pos hne, fun hact => ⟨fun a ha => ?_, fun hnone => ?_⟩⟩
    · simp only [eid, u] at hact ha
      intro r
      have hgo : s.startForce ecc = if r.1 then r.2.finish a ecc else (r.2.completeAt eid none .none).pumpHeads := by
        simp only [State.startForce, hact, ha, r, eid, u, ne_eq, not_true_eq_false, if_false]
      exact ⟨fun h => hgo.trans (if_pos h), fun h => hgo.trans (if_neg (ne_true_of_eq_false h))⟩
    · simp only [eid, u] at hact hnone ⊢
      simp only [State.startForce, hact, hnone, ne_eq, not_true_eq_false, if_false]

/-! ### Redelivery and the fault ring (O42) -/

/-- The fault ring with something to deliver, once it may. -/
theorem State.faultDelivery_ready {s : State}
    (hready : (!s.standby && !s.saving && !s.tdm.switching && s.faultRingReady && s.faultTurn) = true)
    (hwork : ¬ (s.dlv.lost = [] ∧ s.rnk.faultQ = [])) :
    s.faultDelivery .none =
      if s.dlv.lost = [] ∧ s.activeFull then s.raise F.DLV_STATUS_ACT_FULL
      else if !s.tagsFree (s.writesOf none) then s.raise F.DLV_STATUS_TAG_STALL
      else if s.lagFull then s.raise F.TDM_STATUS_LAG
      else if !s.egrRoom (s.writesOf none) then s
      else match s.dlv.lost with
        | r :: rest =>
          let u := { s with dlv := { s.dlv with lost := rest } }
          let d := recFld r 64 12
          (((u.writeEntry none d (u.entryAgain r reLost (recFld r 60 4) false)).countD d 19).raise F.CMP_STATUS_LOST).vfStatus d 3
        | [] => match s.rnk.faultQ with
          | [] => s
          | x :: _ => s.issueFault x .none := by
  refine if_neg ?_
  simp only [Bool.and_eq_true, Bool.not_eq_true'] at hready
  obtain ⟨⟨⟨⟨hstand, hsave⟩, hswitch⟩, hring⟩, hturn⟩ := hready
  simpa [hstand, hsave, hswitch, hring, hturn] using hwork

/-- Settles O42: the expiry by its domain and count; the fault ring by its conditions in their order. -/
theorem redeliveryAndFaultRing : Obligations.RedeliveryAndFaultRing := by
  refine ⟨fun s eid hpath => ⟨fun hnone => ?none, ?expired⟩, fun s hcore => State.next_onCore hcore, ?fault⟩
  case none => exact (State.next_onPath hpath).trans (congrArg _ (by simp only [State.redeliveryTimeout, hnone]))
  case expired =>
    intro a ha u
    have hgo : exec (.redeliveryTimeout eid) s = .next (s.expire a).pumpHeads :=
      (State.next_onPath hpath).trans (congrArg _ (by simp only [State.redeliveryTimeout, ha]))
    refine ⟨fun hlost => ?_, fun hcar hred => ?_⟩
    · exact hgo.trans (congrArg (fun x : State => Host.Outcome.next x.pumpHeads) (if_pos hlost))
    · have hnot : ¬ (u.caravan a.dom ∨ a.rdMax ≤ a.redelivs) := by simp [hcar, hred]
      exact hgo.trans (congrArg (fun x : State => Host.Outcome.next x.pumpHeads) (if_neg hnot))
  case fault =>
    intro s hpath ready free room
    have hrun : exec .faultDelivery s = .next (s.faultDelivery .none) := State.next_onPath hpath
    have hboth : ∀ {p : Prop}, s.dlv.lost ≠ [] ∨ (s.rnk.faultQ ≠ [] ∧ p) → ¬ (s.dlv.lost = [] ∧ s.rnk.faultQ = []) := by
      rintro p (h | ⟨h, -⟩) ⟨hl, hq⟩
      · exact h hl
      · exact h hq
    have hact : s.dlv.lost ≠ [] ∨ (s.rnk.faultQ ≠ [] ∧ s.activeFull = false) → ¬ (s.dlv.lost = [] ∧ s.activeFull) := by
      rintro (h | ⟨-, h⟩) ⟨hl, hf⟩
      · exact h hl
      · exact ne_true_of_eq_false h hf
    refine ⟨fun hno => ?_, fun _ hl hq => ?_, fun hr hl hq hfull => ?_, fun hr hw hfree => ?_, fun hr hw hfree hlag => ?_,
      fun hr hw hfree hlag hroom => ?_, fun r rest hr hl hfree hlag hroom => ?_, fun x q hr hl hq hfull hfree hlag hroom => ?_⟩
    · refine hrun.trans (congrArg _ (if_pos ?_))
      by_contra hc
      simp only [not_or, Bool.not_eq_true, Bool.not_eq_false'] at hc
      simp [ready, hc] at hno
    · exact hrun.trans (congrArg _ (if_pos (.inr (.inr (.inr (.inr (.inr ⟨hl, hq⟩)))))))
    · rw [hrun, State.faultDelivery_ready hr (hboth (.inr ⟨hq, hfull⟩)), if_pos ⟨hl, hfull⟩]
    · rw [hrun, State.faultDelivery_ready hr (hboth hw), if_neg (hact hw)]
      simp only [free] at hfree
      simp [hfree]
    · rw [hrun, State.faultDelivery_ready hr (hboth hw), if_neg (hact hw)]
      simp only [free] at hfree
      simp [hfree, hlag]
    · rw [hrun, State.faultDelivery_ready hr (hboth hw), if_neg (hact hw)]
      simp only [free, room] at hfree hroom
      simp [hfree, hlag, hroom]
    · have hw : s.dlv.lost ≠ [] ∨ (s.rnk.faultQ ≠ [] ∧ s.activeFull = false) := .inl (by simp [hl])
      rw [hrun, State.faultDelivery_ready hr (hboth hw), if_neg (hact hw)]
      simp only [free, room] at hfree hroom
      simp [hfree, hlag, hroom, hl]
    · have hw : s.dlv.lost ≠ [] ∨ (s.rnk.faultQ ≠ [] ∧ s.activeFull = false) := .inr ⟨by simp [hq], hfull⟩
      rw [hrun, State.faultDelivery_ready hr (hboth hw), if_neg (hact hw)]
      simp only [free, room] at hfree hroom
      simp [hfree, hlag, hroom, hl, hq]

end Sys2Proof.Machine
end

section
/-! PROOFS. Journal, replay, domain ends and persistent saves: O44, O45, O46. -/

namespace Sys2Proof.Machine

/-! ### Journal and replay (O44) -/

/-- Settles O44: the journal by what may leave, the replay by its line. -/
theorem journalAndReplayRecords : Obligations.JournalAndReplayRecords := by
  refine ⟨?timeout, ?write, ?replay, ?ask⟩
  case timeout =>
    intro s d hcore j mine
    have hgo : exec (.journalLineTimeout d) s = .next
        (if !mine && decide (j.partAt + 256 * s.period ≤ s.tim.now) then (s.jWriteLine d.toNat j.part).getD s else s) :=
      State.next_onCore hcore
    refine ⟨fun hmine htime => ⟨fun u hu => ?_, fun hnone => ?_⟩, fun hno => ?_⟩
    · simp only [hgo, hmine, htime, hu, Bool.not_false, Bool.true_and, decide_true, if_true, Option.getD_some]
    · simp only [hgo, hmine, htime, hnone, Bool.not_false, Bool.true_and, decide_true, if_true, Option.getD_none]
    · rw [hgo, if_neg]
      rcases hno with h | h
      · simp [h]
      · simp [Nat.not_le.mpr h]
  case write =>
    intro s ecc hcore u
    have hgo : exec (.journalLineWrite ecc) s = .next (match u.jLeave with
        | none => u
        | some (true, v) => v
        | some (false, v) => State.jLineWrite s.way.q.length v) := State.next_onCore hcore
    exact ⟨fun h => by rw [hgo, h], fun v h => by rw [hgo, h], fun v h => by rw [hgo, h]⟩
  case replay =>
    intro s d hpath r
    have hgo : exec (.replayRecord d) s = .next (s.replayRecord d.toNat) := State.next_onPath hpath
    refine ⟨fun hnone => ?_, fun n data poison hline => ?_⟩
    · simp only [r] at hnone
      simp only [hgo, State.replayRecord, hnone]
    · simp only [r] at hline ⊢
      refine ⟨fun hoff => ?_, fun hon hne => ?_, fun hon heq hgood => ?_, fun hon heq hbad => ?_⟩
      · simp [hgo, State.replayRecord, hline, hoff]
      · simp [hgo, State.replayRecord, hline, hon, hne]
      · simp [hgo, State.replayRecord, hline, hon, heq, hgood]
      · simp [hgo, State.replayRecord, hline, hon, heq, hbad]
  case ask =>
    intro s d r
    simp only [r]
    refine ⟨fun hno => if_pos ?_, fun hon hask hline => ?_⟩
    · rcases hno with h | h | h <;> simp [h]
    · have hgo : s.rplAsk d = match s.depRead (.replay d) (s.rplLine d) with
          | none => s
          | some (_, u) => u.setReplay d { u.replay d with ask := some (u.rplLine d) } :=
        if_neg (by simp [hon, hask, hline])
      exact ⟨fun h => by rw [hgo, h], fun t u h => by rw [hgo, h]⟩

/-! ### Ends of a reset and of a save (O45) -/

/-- Settles O45: the function and the stage; the walk; the save. -/
theorem domainResetAndSaveEnds : Obligations.DomainResetAndSaveEnds := by
  refine ⟨fun s fn hreset => ⟨fun hno => ?nofn, fun hpos hfn hstage => ?flr, fun hpos hfn hstage => ?held⟩,
    ?walk, fun s d hcore => ⟨fun hno => ?nosave, ?save⟩⟩
  case nofn => exact (State.next_live hreset).trans (congrArg _ (if_pos hno))
  case flr =>
    refine (State.next_live hreset).trans (congrArg _ ?_)
    simp [State.flrFn, hpos, Nat.not_lt.mpr hfn, hstage]
  case held =>
    refine (State.next_live hreset).trans (congrArg _ ?_)
    have hin : ¬ (fn.toNat = 0 ∨ s.vfm.vfs < fn.toNat) := by omega
    exact (if_neg hin).trans (if_pos hstage)
  case walk =>
    intro s d hcore e past
    exact ⟨fun h => (State.next_onCore hcore).trans (congrArg _ (if_pos h)),
      fun h => (State.next_onCore hcore).trans (congrArg _ (if_neg (ne_true_of_eq_false h)))⟩
  case nosave =>
    refine (State.next_onCore hcore).trans (congrArg _ ?_)
    rcases hno with h | h | h
    · simp [State.saveDone, h]
    · simp [State.saveDone, h]
    · simp [State.saveDone, h]
  case save =>
    intro x hsaving hdone hx u v
    refine (State.next_onCore hcore).trans (congrArg _ ?_)
    simp only [State.saveDone, hsaving, hdone, hx, Bool.not_true, Bool.or_self, Bool.false_eq_true, if_false, u, v]

/-! ### Persistent saves (O46) -/

/-- PERIODIC at a multiple of its period, between two saves: it is judged, and the save begins or asks for the wake. -/
theorem State.periodic_due {u : State} (hon : (!u.periodicDue || u.saveBarred) = false) :
    let w := { u with sav := { u.sav with skips := u.sav.skips + 1 } }
    u.periodic = if u.inInterval || u.sav.run.isSome then w.bump F.SAV_SKIPPED_CNT
      else if !w.holdupCheck.2.saveReady then w.holdupCheck.2.saveWake 2 w.holdupCheck.1 0
      else w.holdupCheck.2.saveAct 2 w.holdupCheck.1 :=
  if_neg (ne_true_of_eq_false hon)

/-- The record of a save whose lines are all acknowledged. -/
theorem State.persistDone_record {s : State} {x : SaveRun} {r : SaveRec} (hdone : s.jobDone .record = true)
    (hrun : s.sav.run = some x) (hsnap : x.snap = some r) :
    (if s.jobDone .record then s.sav.run.bind (fun x => x.snap.map (fun r => (x, r))) else none) = some (x, r) := by
  simp [hdone, hrun, hsnap]

/-- Settles O46: each trigger by what holds it. -/
theorem persistentSaveTriggers : Obligations.PersistentSaveTriggers := by
  refine ⟨?pfail, ?periodic, ?interval, ?home, ?done⟩
  case pfail =>
    intro s hu u gone
    have hgo : exec (.pfail hu) s = .next (gone (if u.boot.held then u else if !u.boot.warmHeld then u.pfail
        else if u.saveBarred then u.saveWait 0 2 else u.holdupCheck.2.saveWait 0 u.holdupCheck.1)) := rfl
    have hheld : u.boot.held = s.boot.held := rfl
    have hwarm : u.boot.warmHeld = s.boot.warmHeld := rfl
    have hbar : u.saveBarred = s.saveBarred := rfl
    rw [hheld, hwarm, hbar] at hgo
    refine ⟨fun h => ?_, fun h hw hb => ?_, fun h hw hb => ?_, fun h hw => ?_⟩
    · simp only [hgo, h, if_true]
    · simp only [hgo, h, hw, hb, if_true, Bool.not_true, Bool.false_eq_true, if_false]
    · simp only [hgo, h, hw, hb, Bool.not_true, Bool.false_eq_true, if_false]
    · simp only [hgo, h, hw, Bool.not_false, if_true, Bool.false_eq_true, if_false]
  case periodic =>
    intro s hu hreset u gone w off
    have hgo : exec (.periodic hu) s = .next (gone u.periodic) := State.next_live hreset
    refine ⟨fun hoff => ?_, fun hon hskip => ?_, fun hon hfree => ?_⟩
    · exact hgo.trans (congrArg (fun t => Host.Outcome.next (gone t)) (if_pos hoff))
    · exact hgo.trans (congrArg (fun t => Host.Outcome.next (gone t)) ((State.periodic_due (u := u) hon).trans (if_pos hskip)))
    · intro c
      have hnext : u.periodic = if !c.2.saveReady then c.2.saveWake 2 c.1 0 else c.2.saveAct 2 c.1 :=
        (State.periodic_due (u := u) hon).trans (if_neg (ne_true_of_eq_false hfree))
      refine ⟨fun hr => ?_, fun hr => ?_⟩
      · simp only [hgo, hnext, hr, Bool.not_false, if_true]
      · simp only [hgo, hnext, hr, Bool.not_true, Bool.false_eq_true, if_false]
  case interval =>
    intro s hreset
    have hgo : exec .saveIntervalEnd s = .next s.saveWaiting := State.next_live hreset
    refine ⟨fun hnone => ?_, fun trig v htrig => ?_⟩
    · simp only [hgo, State.saveWaiting, hnone]
    · intro rest
      have hwait : s.saveWaiting = if !s.saveReady || s.sav.run.isSome then s
          else if s.saveBarred || decide (2 ≤ v) then rest.saveAct trig 2
          else if s.inInterval && (trig != 0 || s.sav.pfailed) then s
          else rest.saveAct trig v := by
        simp only [State.saveWaiting, htrig, rest]
      rw [hgo, hwait]
      refine ⟨fun h => by rw [if_pos h], fun h => ?_⟩
      rw [if_neg (ne_true_of_eq_false h)]
      refine ⟨fun hb => by rw [if_pos hb], fun hb => ?_⟩
      rw [if_neg (ne_true_of_eq_false hb)]
      exact ⟨fun hi => by rw [if_pos hi], fun hi => by rw [if_neg (ne_true_of_eq_false hi)]⟩
  case home =>
    intro s hreset
    have hgo : exec .homeWrite s = .next s.homeLater := State.next_live hreset
    refine ⟨fun hno => ?_, fun hwant hdue => ⟨fun href => ?_, fun href => ?_⟩⟩
    · rcases hno with h | h
      · simp [hgo, State.homeLater, h]
      · simp [hgo, State.homeLater, h]
    · simp [hgo, State.homeLater, hwant, hdue, href]
    · simp [hgo, State.homeLater, hwant, hdue, href]
  case done =>
    intro s hcore
    have hgo : exec .persistentSaveDone s = .next s.persistDone := State.next_onCore hcore
    refine ⟨fun hno => ?_, fun x r hdone hrun hsnap => ?_⟩
    · rcases hno with h | h
      · simp [hgo, State.persistDone, h]
      · have hnone : (s.sav.run.bind (fun x => x.snap.map (fun r => (x, r)))) = none := by
          cases hr : s.sav.run with
          | none => rfl
          | some x => simpa [hr] using h
        simp [hgo, State.persistDone, hnone]
    · intro base b v w z
      rw [hgo]
      simp only [State.persistDone, State.persistDone_record hdone hrun hsnap]
      rfl

end Sys2Proof.Machine
end

section
/-! PROOFS. Records of the ring: O47, O48, O49. -/

namespace Sys2Proof.Machine

/-! ### Taking a record -/

theorem State.RingOpen.not_inReset {s : State} (h : s.RingOpen) : s.inReset = false := by
  obtain ⟨⟨hreset, -⟩, -⟩ := h
  exact hreset

theorem State.RingOpen.onRing {s : State} (h : s.RingOpen) : s.onRing = true := by
  obtain ⟨-, hring⟩ := h
  exact hring

/-- A joined member with its ring clock counts a record and acts on it. -/
theorem State.receive_open {s : State} (h : s.RingOpen) (p : ChlPort) (r : Rec) (f : State → State) :
    s.receive p r f = f (s.rxCount p r) := by
  obtain ⟨⟨-, hclk⟩, hring⟩ := h
  exact if_pos (by simp [hclk, hring])

/-- A member that is not joined takes no record. -/
theorem State.receive_off {s : State} (h : s.onRing = false) (p : ChlPort) (r : Rec) (f : State → State) :
    s.receive p r f = s :=
  if_neg (by simp [h])

/-- Counting a record moves telemetry and the counts of its port. -/
theorem State.rxCount_eq (s : State) (p : ChlPort) (r : Rec) :
    ∃ tel east west, s.rxCount p r = { s with tel := tel, chl := { s.chl with east := east, west := west } } := by
  have htraffic : ∃ tel, s.traffic (bwPort p) false 16 = { s with tel := tel } := by
    unfold State.traffic
    split
    · exact ⟨s.tel, rfl⟩
    · exact ⟨_, rfl⟩
  obtain ⟨tel, htel⟩ := htraffic
  unfold State.rxCount
  rw [htel]
  dsimp only
  split
  · exact ⟨tel, s.chl.east, s.chl.west, rfl⟩
  · cases p with
    | east => exact ⟨tel, _, s.chl.west, rfl⟩
    | west => exact ⟨tel, s.chl.east, _, rfl⟩

theorem State.rxCount_st (s : State) (p : ChlPort) (r : Rec) : (s.rxCount p r).chl.st = s.chl.st := by
  obtain ⟨_, _, _, h⟩ := s.rxCount_eq p r
  rw [h]

theorem State.RingOpen.rxCount_onRing {s : State} (h : s.RingOpen) (p : ChlPort) (r : Rec) :
    (s.rxCount p r).onRing = true := by
  unfold State.onRing
  rw [State.rxCount_st]
  exact h.onRing

/-! ### Caravan records (O47) -/

/-- A caravan record of its command's type is acted on once it is counted. -/
theorem State.rxCaravan_open {s : State} (h : s.RingOpen) {ty : Nat} {r : Rec} (hty : rTy r = ty) (f : State → State) :
    s.rxCaravan ty r f = f (s.rxCount .west r) :=
  (if_neg (not_not.mpr hty)).trans (State.receive_open h .west r f)

/-- A record of another type, or at a member that is not joined, is not taken. -/
theorem State.rxCaravan_none {s : State} {ty : Nat} {r : Rec} (hno : rTy r ≠ ty ∨ s.onRing = false) (f : State → State) :
    s.rxCaravan ty r f = s := by
  unfold State.rxCaravan
  split
  · rfl
  · next hty => exact State.receive_off (hno.resolve_left hty) .west r f

/-- Settles O47: the record is counted, then its position decides. -/
theorem caravanRecordsFromTheRing : Obligations.CaravanRecordsFromTheRing := by
  refine ⟨?taken, fun s r hreset => ⟨?_, ?_, ?_, ?_⟩, fun s p r f => ⟨fun h => if_pos h, fun h => if_neg (ne_true_of_eq_false h)⟩⟩
  case taken =>
    intro s r hopen u
    have hrun : ∀ (ty : Nat) (f : State → State), rTy r = ty →
        (.next (s.live fun s => s.rxCaravan ty r f) : Out) = .next (f u) := fun ty f hty =>
      (State.next_live hopen.not_inReset).trans (congrArg _ (State.rxCaravan_open hopen hty f))
    refine ⟨fun hty => ⟨fun hpos => ?_, fun hpos htan hpart => ?_, fun hpos hno => ?_⟩, fun hty => ⟨fun hpos => ?_, fun hpos => ?_⟩,
      fun hty => ⟨fun hpos => ?_, fun hpos => ?_⟩, fun hty => ⟨fun hpos => ?_, fun hpos => ?_⟩⟩
    · exact (hrun _ _ hty).trans (congrArg _ (if_pos hpos))
    · exact (hrun _ _ hty).trans (congrArg _ ((if_neg hpos).trans (if_pos ⟨htan, hpart⟩)))
    · have hnot : ¬ (u.tandem = true ∧ u.partnerPos = some (rPos r)) := by
        rintro ⟨ht, hp⟩
        rcases hno with h | h
        · exact ne_true_of_eq_false h ht
        · exact h hp
      exact (hrun _ _ hty).trans (congrArg _ ((if_neg hpos).trans (if_neg hnot)))
    · exact (hrun _ _ hty).trans (congrArg _ (if_pos hpos))
    · exact (hrun _ _ hty).trans (congrArg _ (if_neg hpos))
    · exact (hrun _ _ hty).trans (congrArg _ (if_pos hpos))
    · exact (hrun _ _ hty).trans (congrArg _ (if_neg hpos))
    · exact (hrun _ _ hty).trans (congrArg _ (if_pos hpos))
    · exact (hrun _ _ hty).trans (congrArg _ (if_neg hpos))
  all_goals exact fun hno => (State.next_live hreset).trans (congrArg _ (State.rxCaravan_none hno _))

/-! ### Records of the partner (O48) -/

/-- A TANDEM record of its command's subtype, at its unit or passed on. -/
theorem State.rxTandem_open {s : State} (h : s.RingOpen) {sub : Nat} {r : Rec} (hty : rTy r = chTandem) (hsub : rTsub r = sub) :
    let u := s.rxCount .east r
    (rPos r ≠ u.pos → s.rxTandem sub r = u.passOn .east r)
    ∧ (rPos r = u.pos → tandemLight sub = true → s.rxTandem sub r = u.takeTandem r)
    ∧ (rPos r = u.pos → tandemLight sub = false → s.rxTandem sub r = u.whenCore .east r (fun x => x.takeTandem r)) := by
  intro u
  have hnot : ¬ (rTy r ≠ chTandem ∨ rTsub r ≠ sub) := by simp [hty, hsub]
  have hgo : s.rxTandem sub r = if rPos r ≠ u.pos then u.passOn .east r
      else if tandemLight sub then u.takeTandem r else u.whenCore .east r (fun x => x.takeTandem r) :=
    (if_neg hnot).trans (State.receive_open h .east r _)
  refine ⟨fun hpos => hgo.trans (if_pos hpos), fun hpos hlight => ?_, fun hpos hheavy => ?_⟩
  · exact hgo.trans ((if_neg (not_not.mpr hpos)).trans (if_pos hlight))
  · exact hgo.trans ((if_neg (not_not.mpr hpos)).trans (if_neg (ne_true_of_eq_false hheavy)))

/-- A TANDEM record of another subtype changes nothing. -/
theorem State.rxTandem_other {s : State} {sub : Nat} {r : Rec} (hsub : rTsub r ≠ sub) : s.rxTandem sub r = s :=
  if_pos (.inr hsub)

/-- A PEER record of its command's kind, at its unit or passed on. -/
theorem State.rxPeer_open {s : State} (h : s.RingOpen) {resp : Bool} {r : Rec} (hty : rTy r = chPeer)
    (hop : decide (rOp r = 3) = resp) :
    let u := s.rxCount .east r
    (rPos r ≠ u.pos → s.rxPeer resp r = u.passOn .east r)
    ∧ (rPos r = u.pos → s.rxPeer resp r = u.whenCore .east r (fun x => x.takePeer r)) := by
  intro u
  have hnot : ¬ (rTy r ≠ chPeer ∨ decide (rOp r = 3) ≠ resp) := by simp [hty, hop]
  have hgo : s.rxPeer resp r =
      if rPos r ≠ u.pos then u.passOn .east r else u.whenCore .east r (fun x => x.takePeer r) :=
    (if_neg hnot).trans (State.receive_open h .east r _)
  exact ⟨fun hpos => hgo.trans (if_pos hpos), fun hpos => hgo.trans (if_neg (not_not.mpr hpos))⟩

/-- Settles O48: the subtype of the command, then the position, then the clock of CORE. -/
theorem tandemRecordsFromThePartner : Obligations.TandemRecordsFromThePartner := by
  refine ⟨?tandem, ?other, ?peer, ?timeout⟩
  case tandem =>
    intro s r hopen hty u run now
    have hrun : ∀ (sub : Nat) (f : State → State), rTsub r = sub → tandemLight sub = false →
        (∀ x : State, x.takeTandem r = f x.heardPartner) →
        (rPos r = u.pos → (.next (s.live fun s => s.rxTandem sub r) : Out) =
          .next (u.whenCore .east r (fun x => f x.heardPartner)))
        ∧ (rPos r ≠ u.pos → (.next (s.live fun s => s.rxTandem sub r) : Out) = .next (u.passOn .east r)) := by
      intro sub f hsub hheavy htake
      obtain ⟨hpass, -, hwait⟩ := State.rxTandem_open hopen hty hsub
      have hfun : (fun x : State => x.takeTandem r) = fun x => f x.heardPartner := funext htake
      rw [← hfun]
      exact ⟨fun hpos => (State.next_live hopen.not_inReset).trans (congrArg _ (hwait hpos hheavy)),
        fun hpos => (State.next_live hopen.not_inReset).trans (congrArg _ (hpass hpos))⟩
    have hnow : ∀ (sub : Nat) (f : State → State), rTsub r = sub → tandemLight sub = true →
        (∀ x : State, x.takeTandem r = f x.heardPartner) →
        (rPos r = u.pos → (.next (s.live fun s => s.rxTandem sub r) : Out) = .next (f u.heardPartner))
        ∧ (rPos r ≠ u.pos → (.next (s.live fun s => s.rxTandem sub r) : Out) = .next (u.passOn .east r)) := by
      intro sub f hsub hlight htake
      obtain ⟨hpass, htakes, -⟩ := State.rxTandem_open hopen hty hsub
      exact ⟨fun hpos => (State.next_live hopen.not_inReset).trans (congrArg _ ((htakes hpos hlight).trans (htake u))),
        fun hpos => (State.next_live hopen.not_inReset).trans (congrArg _ (hpass hpos))⟩
    refine ⟨fun h => hrun 1 (·.takeState r) h rfl ?_, fun h => hrun 2 (·.takeDeliv r) h rfl ?_,
      fun h => hrun 3 (·.takeCfg r) h rfl ?_, fun h => hrun 4 (·.takeDoorbell r) h rfl ?_,
      fun h => hnow 5 (·.takeAck r) h rfl ?_, fun h => hnow 6 (·.takeHeartbeat r) h rfl ?_,
      fun h => hnow 7 (·.takeHello r) h rfl ?_, fun h => hrun 8 (·.takeDigest r) h rfl ?_,
      fun h => hrun 9 (·.takeBulk r) h rfl ?_, fun h => hrun 10 (·.takeBulkEnd) h rfl ?_,
      fun h => hrun 11 (·.takeHandover) h rfl ?_⟩ <;>
    · intro x
      simp only [State.takeTandem, h]
  case other =>
    intro s r hreset none_
    have hno : ∀ sub : Nat, rTsub r ≠ sub → (.next (s.live fun s => s.rxTandem sub r) : Out) = .next s := fun sub hsub =>
      (State.next_live hreset).trans (congrArg _ (State.rxTandem_other hsub))
    exact ⟨hno 1, hno 2, hno 3, hno 4, hno 5, hno 6, hno 7, hno 8, hno 9, hno 10, hno 11⟩
  case peer =>
    intro s r hopen hty u
    refine ⟨fun hpos hop => ?_, fun hpos hop => ?_, fun hpos hop => ?_, fun hpos hop => ?_⟩
    · obtain ⟨-, htake⟩ := State.rxPeer_open hopen (resp := false) hty (by simp [hop])
      refine (State.next_live hopen.not_inReset).trans (congrArg _ ((htake hpos).trans ?_))
      simp only [State.takePeer, hop, if_false, u]
    · obtain ⟨-, htake⟩ := State.rxPeer_open hopen (resp := true) hty (by simp [hop])
      refine (State.next_live hopen.not_inReset).trans (congrArg _ ((htake hpos).trans ?_))
      simp only [State.takePeer, hop, if_true, u]
    · obtain ⟨hpass, -⟩ := State.rxPeer_open hopen (resp := false) hty (by simp [hop])
      exact (State.next_live hopen.not_inReset).trans (congrArg _ (hpass hpos))
    · obtain ⟨hpass, -⟩ := State.rxPeer_open hopen (resp := true) hty (by simp [hop])
      exact (State.next_live hopen.not_inReset).trans (congrArg _ (hpass hpos))
  case timeout =>
    intro s hreset
    refine ⟨fun hnone => ?_, fun n t hreq => ⟨fun hearly => ?_, fun hlate => ?_⟩⟩
    · exact (State.next_live hreset).trans (congrArg _ (by simp only [State.peerTimeout, hnone]))
    · exact (State.next_live hreset).trans (congrArg _ (by simp [State.peerTimeout, hreq, hearly]))
    · exact (State.next_live hreset).trans (congrArg _ (by simp only [State.peerTimeout, hreq, hlate, if_true]))

/-! ### Control records (O49) -/

/-- A CTRL record of its command's subtype is acted on once it is counted. -/
theorem State.rxCtrl_open {s : State} (h : s.RingOpen) {sub : Nat} {p : ChlPort} {r : Rec} (hsub : isCtrl r sub = true)
    (f : State → State) : s.rxCtrl sub p r f = f (s.rxCount p r) :=
  (if_pos hsub).trans (State.receive_open h p r f)

/-- A joined member counts a BEACON or a WINDOW and acts on it. -/
theorem State.listenTo_open {s : State} (h : s.RingOpen) (p : ChlPort) (r : Rec) (f : State → State) :
    s.listenTo p r f = f (s.rxCount p r) :=
  (if_pos h.onRing).trans (State.receive_open h p r f)

/-- A record passed on, whose queue words read well. -/
theorem State.passEcc_none (s : State) (p : ChlPort) (r : Rec) : s.passEcc p r .none = s.rxPass p r := by
  have hqueue : ∀ (x : State) (q : ChlPort) (n : Nat), x.ringQueueEcc q n .none = x := fun x q n => ite_self _
  have horigin : ∀ (x : State) (q : ChlPort), x.originEcc q .none = x := fun x q => ite_self _
  rw [State.passEcc, hqueue, horigin]

/-- What a joined member does with a BEACON. -/
theorem State.rxBeacon_joined {s : State} (hring : s.onRing = true) (p : ChlPort) (r : Rec) :
    s.rxBeacon p r = if rPos r = s.pos then s
      else if s.coordinator ∧ s.pos < rPos r then s.forward p r else (s.beaconTake r).forward p r := by
  have hst : s.chl.st = .joined := of_decide_eq_true hring
  simp only [State.rxBeacon, hst]

/-- What a joined member does with a WINDOW of another. -/
theorem State.rxWindow_joined {s : State} (hring : s.onRing = true) (p : ChlPort) {r : Rec} (hpos : rPos r ≠ s.pos) :
    s.rxWindow p r =
      State.forward { s with chl := { s.chl with window := some (recFld r 48 64, max 1 (recFld r 32 16)), opened := false } } p r := by
  have hor : s.onRing = true ∨ s.chl.st = .ready := .inl hring
  simp only [State.rxWindow, hpos, hor, if_false, if_true]
  exact if_pos hring

/-- Settles O49: the subtype of the command, then the origin of the record. -/
theorem ringControlRecords : Obligations.RingControlRecords := by
  refine ⟨?either, ?west, ?want⟩
  case either =>
    intro s p r hopen u good v
    have hrun : ∀ (sub : Nat) (f : State → State), isCtrl r sub = true →
        (.next (s.live fun s => s.rxCtrl sub p r f) : Out) = .next (f u) := fun sub f hsub =>
      (State.next_live hopen.not_inReset).trans (congrArg _ (State.rxCtrl_open hopen hsub f))
    refine ⟨fun h => ⟨fun hgood => ?_, fun hbad => ?_⟩, fun h => ⟨fun hpos => ?_, fun hpos => ?_⟩,
      fun h => ⟨fun hpos => ?_, fun hpos hwend => ?_, fun hpos hwend => ?_⟩, fun h => ⟨fun hpos => ?_, fun hpos => ?_⟩,
      fun hty hsub => ?_, fun hother => ?_⟩
    · exact (hrun _ _ h).trans (congrArg _ (if_pos hgood))
    · exact (hrun _ _ h).trans (congrArg _ (if_neg hbad))
    · exact (hrun _ _ h).trans (congrArg _ (if_pos hpos))
    · exact (hrun _ _ h).trans (congrArg _ (if_neg hpos))
    · exact (hrun _ _ h).trans (congrArg _ (if_pos hpos))
    · refine (hrun _ _ h).trans (congrArg _ ((if_neg hpos).trans ?_))
      simp only [hwend, if_true]
    · refine (hrun _ _ h).trans (congrArg _ ((if_neg hpos).trans ?_))
      simp only [hwend, Bool.false_eq_true, if_false]
    · exact (hrun _ _ h).trans (congrArg _ (if_pos hpos))
    · exact (hrun _ _ h).trans (congrArg _ (if_neg hpos))
    · exact (State.next_live hopen.not_inReset).trans (congrArg _ ((if_pos ⟨hty, hsub⟩).trans (State.receive_open hopen p r _)))
    · refine (State.next_live hopen.not_inReset).trans (congrArg _ ((State.passEcc_none s p r).trans ?_))
      exact (if_neg (ne_true_of_eq_false hother)).trans (State.receive_open hopen p r _)
  case west =>
    intro s r hopen u
    have hrun : ∀ (sub : Nat) (f : State → State), isCtrl r sub = true →
        (.next (s.live fun s => s.rxCtrl sub .west r f) : Out) = .next (f u) := fun sub f hsub =>
      (State.next_live hopen.not_inReset).trans (congrArg _ (State.rxCtrl_open hopen hsub f))
    have hlisten : ∀ (sub : Nat) (f : State → State), isCtrl r sub = true →
        (.next (s.live fun s => if isCtrl r sub then s.listenTo .west r f else s) : Out) = .next (f u) := fun sub f hsub =>
      (State.next_live hopen.not_inReset).trans (congrArg _ ((if_pos hsub).trans (State.listenTo_open hopen .west r f)))
    have hring : u.onRing = true := hopen.rxCount_onRing .west r
    refine ⟨fun h hpos => ?_, fun h hpos hcal => ?_, fun at_ n m h hpos hcal => ?_, fun h hpos => ⟨fun hco hlt => ?_, fun hno => ?_⟩,
      fun h hpos => ?_, fun h hpos => ?_, fun h hpos => ?_, fun h hpos => ?_, fun h hpos hco => ?_, fun h hpos hco => ?_,
      fun h => hrun _ _ h, fun h => hrun _ _ h, fun h hpos => ?_, fun h hpos => ?_⟩
    · exact (hrun _ _ h).trans (congrArg _ (if_pos hpos))
    · refine (hrun _ _ h).trans (congrArg _ ((if_neg (not_not.mpr hpos)).trans ?_))
      simp only [hcal]
    · refine (hrun _ _ h).trans (congrArg _ ((if_neg (not_not.mpr hpos)).trans ?_))
      simp only [hcal]
    · refine (hlisten _ _ h).trans (congrArg _ ((State.rxBeacon_joined hring .west r).trans ?_))
      exact (if_neg hpos).trans (if_pos ⟨hco, hlt⟩)
    · refine (hlisten _ _ h).trans (congrArg _ ((State.rxBeacon_joined hring .west r).trans ?_))
      refine (if_neg hpos).trans (if_neg ?_)
      rintro ⟨hco, hlt⟩
      rcases hno with hno | hno
      · exact ne_true_of_eq_false hno hco
      · exact absurd hlt (Nat.not_lt.mpr hno)
    · exact (hlisten _ _ h).trans (congrArg _ ((State.rxBeacon_joined hring .west r).trans (if_pos hpos)))
    · exact (hlisten _ _ h).trans (congrArg _ (if_pos hpos))
    · exact (hlisten _ _ h).trans (congrArg _ (State.rxWindow_joined hring .west hpos))
    · exact (hrun _ _ h).trans (congrArg _ (if_pos hpos))
    · refine (hrun _ _ h).trans (congrArg _ ((if_neg hpos).trans ?_))
      simp only [hco, Bool.not_false, if_true]
    · intro v
      refine (hrun _ _ h).trans (congrArg _ ((if_neg hpos).trans ?_))
      simp only [hco, Bool.not_true, Bool.false_eq_true, if_false, v]
    · exact (hrun _ _ h).trans (congrArg _ (if_pos hpos))
    · exact (hrun _ _ h).trans (congrArg _ (if_neg hpos))
  case want =>
    intro s p r
    refine ⟨fun hpos => if_pos hpos, fun hpos hco => (if_neg hpos).trans ?_, fun hpos hco => (if_neg hpos).trans ?_⟩
    · simp only [hco, if_true]
    · simp only [hco, Bool.false_eq_true, if_false]

end Sys2Proof.Machine
end

section
/-! PROOFS. Sends, timers, joining and leaving on the ring: O50, O51. -/

namespace Sys2Proof.Machine

/-! ### Sends and timers (O50) -/

/-- Sending to the partner keeps the roles and times of the pair. -/
@[simp] theorem State.toPartner_tdm (s : State) (sub body : Nat) : (s.toPartner sub body).tdm = s.tdm := by
  unfold State.toPartner State.originate
  split
  · rfl
  · rfl

/-- A command of the ring port that acts under a condition: what it does with it and without. -/
theorem State.next_ringIf {s : State} (h : s.RingUp) {p : Prop} [Decidable p] {b : Bool} {f : State → State} {t : State}
    (hf : f s = if p then t else s) (hb : b = true ↔ p) :
    (b = true → (.next (s.live fun s => s.onRingClk f) : Out) = .next t)
    ∧ (b = false → (.next (s.live fun s => s.onRingClk f) : Out) = .next s) :=
  ⟨fun ht => (State.next_onRing h).trans (congrArg _ (hf.trans (if_pos (hb.mp ht)))),
    fun hn => (State.next_onRing h).trans (congrArg _ (hf.trans (if_neg (fun hp => ne_true_of_eq_false hn (hb.mpr hp)))))⟩

/-- Settles O50: each send and each timer by its condition. -/
theorem ringSendsAndTimers : Obligations.RingSendsAndTimers := by
  refine ⟨?check, ?mark, ?coordinator, ?partner⟩
  case check =>
    intro s p hring
    refine ⟨fun h => ?_, fun h => ?_⟩
    · exact (State.next_onRing hring).trans (congrArg _ (if_neg (by simpa using h)))
    · refine (State.next_onRing hring).trans (congrArg _ (if_pos ?_))
      rcases Bool.and_eq_false_iff.mp h with h | h <;> simp [h]
  case mark =>
    intro s p hring x body
    have hgo : exec (.txQueueMark p) s = .next (s.txMark p) := State.next_onRing hring
    refine ⟨fun hfull hp => ?_, fun hlow hp => ?_, fun hlo hhi => ?_⟩
    · exact hgo.trans (congrArg _ (if_pos ⟨hfull, by simpa [x] using hp⟩))
    · have hnot : ¬ (4096 ≤ x.tx.length ∧ !x.pausing) := fun h => by omega
      exact hgo.trans (congrArg _ ((if_neg hnot).trans (if_pos ⟨hlow, hp⟩)))
    · have hnot : ¬ (4096 ≤ x.tx.length ∧ !x.pausing) := fun h => by omega
      have hnot' : ¬ (x.tx.length < 2048 ∧ x.pausing) := fun h => by omega
      exact hgo.trans (congrArg _ ((if_neg hnot).trans (if_neg hnot')))
  case coordinator =>
    intro s hring lead beacon probe window closing miss
    obtain ⟨hbeacon, hnobeacon⟩ := State.next_ringIf hring (b := beacon) (f := State.beaconSend) rfl
      (by simp [beacon, lead, and_assoc])
    obtain ⟨hprobe, hnoprobe⟩ := State.next_ringIf hring (b := probe) (f := State.probeSend) rfl
      (by simp [probe, lead, and_assoc])
    obtain ⟨hwindow, hnowindow⟩ := State.next_ringIf hring (b := window) (f := State.windowSend) rfl
      (by simp [window, lead, and_assoc])
    obtain ⟨hclosing, hnoclosing⟩ := State.next_ringIf hring (b := closing) (f := State.windowEnd) rfl
      (by simp [closing, lead, and_assoc])
    obtain ⟨hmiss, hnomiss⟩ := State.next_ringIf hring (b := miss) (f := State.beaconMiss) rfl
      (by simp [miss, and_assoc])
    exact ⟨hbeacon, hnobeacon, hprobe, hnoprobe, fun h => ⟨_, hwindow h, rfl, rfl, rfl⟩, hnowindow, hclosing, hnoclosing,
      hmiss, hnomiss⟩
  case partner =>
    intro s hring beat hello ack lost
    obtain ⟨hbeat, hnobeat⟩ := State.next_ringIf hring (b := beat) (f := State.heartbeatSend) rfl
      (by simp [beat, and_assoc])
    obtain ⟨hhello, hnohello⟩ := State.next_ringIf hring (b := hello) (f := State.helloSend) rfl
      (by simp [hello, and_assoc])
    obtain ⟨hack, hnoack⟩ := State.next_ringIf hring (b := ack) (f := State.ackSend) rfl
      (by simp [ack, and_assoc])
    have hlost : exec .primaryLost s = .next s.primaryLost := State.next_onRing hring
    refine ⟨fun h => ?_, hnobeat, fun h => ?_, hnohello, hack, hnoack, fun h => ?_, fun h => ?_⟩
    · rw [State.toPartner_tdm]
      exact hbeat h
    · rw [State.toPartner_tdm]
      exact hhello h
    · have hgo : ¬ (!s.standby ∨ s.pwr.detached ∨ !s.partnerLost) := by
        simp only [lost, Bool.and_eq_true, Bool.not_eq_true'] at h
        simp [h]
      exact hlost.trans (congrArg _ (if_neg hgo))
    · have hno : !s.standby ∨ s.pwr.detached ∨ !s.partnerLost := by
        by_contra hc
        simp only [not_or, Bool.not_eq_true, Bool.not_eq_false'] at hc
        simp [lost, hc] at h
      exact hlost.trans (congrArg _ (if_pos hno))

/-! ### Joining and leaving (O51) -/

/-- Settles O51: founding and joining by their time, the window by its state, the lanes by the reset lines. -/
theorem joiningAndLeavingTheRing : Obligations.JoiningAndLeavingTheRing := by
  refine ⟨?founding, ?window, ?loss, ?lock⟩
  case founding =>
    intro s hring found up late stuck
    obtain ⟨hfound, hnofound⟩ := State.next_ringIf hring (b := found) (f := State.founding) rfl (by simp [found])
    obtain ⟨hup, hnoup⟩ := State.next_ringIf hring (b := up) (f := State.foundingJoined) rfl (by simp [up, and_assoc])
    obtain ⟨hlate, hnolate⟩ := State.next_ringIf hring (b := late) (f := State.foundingTimeout) rfl (by simp [late])
    obtain ⟨hstuck, hnostuck⟩ := State.next_ringIf hring (b := stuck) (f := State.joinTimeout) rfl (by simp [stuck])
    exact ⟨hfound, hnofound, hup, hnoup, hlate, hnolate, hstuck, hnostuck⟩
  case window =>
    intro s hring
    have hgo : exec .windowOpen s = .next s.windowOpen := State.next_onRing hring
    refine ⟨fun hnone => by simp only [hgo, State.windowOpen, hnone], fun opn len hwin => ⟨fun hno => ?_, fun hshut htime => ?_⟩⟩
    · simp only [hgo, State.windowOpen, hwin, hno, if_true]
    · intro u
      have hopens : exec .windowOpen s = .next (if s.chl.st = .ready then
            { u with chl := { u.chl with st := .joined, joining := true, lockE := false, lockW := false, tried := s.tim.now } }
          else if s.onRing ∧ s.chl.leaving then
            { u.sendCtrl .east 9 0 with chl := { (u.sendCtrl .east 9 0).chl with departing := true } }
          else if s.onRing ∧ s.chl.waking then (u.wakePort .east).wakePort .west else u) := by
        have hnot : ¬ (s.chl.opened = true ∨ s.ns < opn) := by simp [hshut, htime]
        refine hgo.trans (congrArg _ ?_)
        unfold State.windowOpen
        split
        · next hnone => simp [hwin] at hnone
        · next hsome =>
          cases hwin.symm.trans hsome
          exact if_neg hnot
      refine ⟨fun hst => ?_, fun hst hleave => ?_, fun hst hleave hwake => ?_, fun hst hleave hwake => ?_, fun hready hjoined => ?_⟩
      · simp only [hopens, hst, if_true]
      · simp [hopens, State.onRing, hst, hleave]
      · simp [hopens, State.onRing, hst, hleave, hwake]
      · simp [hopens, State.onRing, hst, hleave, hwake]
      · simp [hopens, State.onRing, hready, hjoined]
  case loss =>
    intro s p l u
    have hgo : s.inReset = false →
        exec (.hopLoss p l) s = .next (if ((s.side p).lanes &&& ~~~l) ≠ 0 ∧ u.onRing then State.hopLoss u p else u) :=
      fun hreset => congrArg Host.Outcome.next (if_neg (ne_true_of_eq_false hreset))
    refine ⟨fun hreset => congrArg Host.Outcome.next (if_pos hreset), fun hreset hfell hring => ?_, fun hreset hno => ?_⟩
    · exact (hgo hreset).trans (congrArg _ (if_pos ⟨hfell, hring⟩))
    · refine (hgo hreset).trans (congrArg _ (if_neg ?_))
      rintro ⟨hfell, hring⟩
      rcases hno with h | h
      · exact hfell h
      · exact ne_true_of_eq_false h hring
  case lock =>
    intro s p u v
    have hgo : s.inReset = false → exec (.laneLock p) s = .next (if !u.chl.joining then u
        else if v.chl.lockE && v.chl.lockW then
          let w := { v with chl := { v.chl with joining := false } }
          ((w.setJoined (w.joinedList ++ [w.pos])).sendCtrl .east 7 (w.img.ring.ringId.toNat * 2 ^ 80)).lowestTakes
        else v) := by
      intro hreset
      refine congrArg Host.Outcome.next ((if_neg (ne_true_of_eq_false hreset)).trans ?_)
      cases p with
      | east =>
        have hv : v = { u with chl := { u.chl with lockE := true } } := by
          simp only [v, decide_true, Bool.or_true, reduceCtorEq, decide_false, Bool.or_false]
        rw [hv]
        rfl
      | west =>
        have hv : v = { u with chl := { u.chl with lockW := true } } := by
          simp only [v, decide_true, Bool.or_true, reduceCtorEq, decide_false, Bool.or_false]
        rw [hv]
        rfl
    refine ⟨fun hreset => congrArg Host.Outcome.next (if_pos hreset), fun hreset hidle => ?_,
      fun hreset hjoining => ⟨fun hone => ?_, fun hboth => ?_⟩⟩
    · simp only [hgo hreset, hidle, Bool.not_false, if_true]
    · simp only [hgo hreset, hjoining, hone, Bool.not_true, Bool.false_eq_true, if_false]
    · simp only [hgo hreset, hjoining, hboth, Bool.not_true, Bool.false_eq_true, if_false, if_true]

end Sys2Proof.Machine
end

section
/-! PROOFS. Sleep, wake, power switches and rails: O52, O53. -/

namespace Sys2Proof.Machine

/-! ### Sleep and wake (O52) -/

/-- DRAIN_END goes on only in a drain whose work is done. -/
theorem State.drainEnd_eq (s : State) :
    s.drainEnd = if (decide (s.pst = 1) && s.pwr.rows.isNone && s.pwr.back.isNone && !s.pwr.gated) && s.drainDone then
      s.abortPoint 1 (fun s => { s with pwr := { s.pwr with rows := some (s.tim.now, 0) } }) else s := by
  have hidle : (s.pst ≠ 1 ∨ s.pwr.rows.isSome ∨ s.pwr.back.isSome ∨ s.pwr.gated ∨ !s.drainDone) ↔
      ¬ ((decide (s.pst = 1) && s.pwr.rows.isNone && s.pwr.back.isNone && !s.pwr.gated) && s.drainDone) = true := by
    simp only [ne_eq, Bool.and_eq_true, decide_eq_true_eq, Bool.not_eq_true', not_and_or, Bool.not_eq_true,
      Bool.not_eq_false, Option.isNone_eq_false_iff, or_assoc]
  exact (if_congr hidle rfl rfl).trans (ite_not _ _ _)

/-- DRAIN_TIMEOUT acts only in a drain that has lasted DRAIN_MAX. -/
theorem State.drainTimeout_decided {s : State} {t : Nat} (ht : s.pwr.decided = some t) :
    s.drainTimeout = if (decide (s.pst = 1) && s.pwr.rows.isNone && s.pwr.back.isNone && !s.pwr.gated)
        && s.passed t (max 1 (s.fld F.PWR_SLEEP_CFG_DRAIN_MAX) * 1000) then s.abandon 1 2 else s := by
  simp only [State.drainTimeout, ht]
  refine if_congr ?_ rfl rfl
  simp [and_assoc]

/-- Settles O52: each command of sleep and wake by its condition. -/
theorem sleepEntryAndWake : Obligations.SleepEntryAndWake := by
  refine ⟨?decision, ?drain, fun s code detail hreset => ⟨fun hpos hle => ?wakes, fun hno => ?nowake⟩, ?timer,
    fun s p quiet hreset => ⟨fun hst hq => ?sigdet, fun hno => ?nosigdet⟩,
    fun s addr hreset => ⟨fun heq => ?smbus, fun hne => ?nosmbus⟩, fun s hreset => ⟨fun hst hback hdone => ?restored, fun hno => ?notrestored⟩⟩
  case decision =>
    intro s hreset go
    exact ⟨fun h => (State.next_live hreset).trans (congrArg _ (if_pos h)),
      fun h => (State.next_live hreset).trans (congrArg _ (if_neg (ne_true_of_eq_false h)))⟩
  case drain =>
    intro s hreset draining
    have hend : exec .drainEnd s = .next s.drainEnd := State.next_live hreset
    have htime : exec .drainTimeout s = .next s.drainTimeout := State.next_live hreset
    refine ⟨fun hdrain hdone => ?_, fun hno => ?_, fun t ht => ?_, fun hnone => ?_⟩
    · have hgo : exec .drainEnd s =
          .next (s.abortPoint 1 (fun s => { s with pwr := { s.pwr with rows := some (s.tim.now, 0) } })) := by
        rw [hend, State.drainEnd_eq, if_pos (by simp only [draining] at hdrain; simp [hdrain, hdone])]
      refine ⟨fun hvote => ?_, fun hvote hwake => ?_, fun hvote hwake => ?_⟩
      · simp [hgo, State.abortPoint, hvote]
      · simp [hgo, State.abortPoint, hvote, hwake]
      · simp [hgo, State.abortPoint, hvote, hwake]
    · rw [hend, State.drainEnd_eq, if_neg]
      rcases hno with h | h
      · simp only [draining] at h
        simp [h]
      · simp [h]
    · intro late
      rw [htime, State.drainTimeout_decided ht]
      refine ⟨fun hdrain hlate => ?_, fun hno => ?_⟩
      · rw [if_pos (Bool.and_eq_true_iff.mpr ⟨hdrain, hlate⟩)]
      · rw [if_neg]
        rcases hno with h | h
        · simp only [draining] at h
          simp [h]
        · simp only [late] at h
          simp [h]
    · simp only [htime, State.drainTimeout, hnone]
  case wakes =>
    have hcode : ¬ (code = 0 ∨ 8 < code.toNat) := not_or.mpr ⟨hpos, by omega⟩
    exact (State.next_live hreset).trans (congrArg _ (if_neg hcode))
  case nowake => exact (State.next_live hreset).trans (congrArg _ (if_pos hno))
  case timer =>
    intro s hreset due
    have hdue : due = true ↔ (s.pst = 2 ∨ s.pst = 3) ∧ s.deadline.any (fun t => decide (t ≤ s.ns + 1500)) = true := by
      simp only [due, Bool.and_eq_true, Bool.or_eq_true, decide_eq_true_eq]
    exact ⟨fun h => (State.next_live hreset).trans (congrArg _ (if_pos (hdue.mp h))),
      fun h => (State.next_live hreset).trans (congrArg _ (if_neg (fun hc => ne_true_of_eq_false h (hdue.mpr hc))))⟩
  case sigdet => exact (State.next_live hreset).trans (congrArg _ (if_pos ⟨hst, hq⟩))
  case nosigdet =>
    have hnot : ¬ (s.pst = 3 ∧ 25 ≤ quiet.toNat) := by omega
    exact (State.next_live hreset).trans (congrArg _ (if_neg hnot))
  case smbus => exact (State.next_live hreset).trans (congrArg _ (if_pos heq))
  case nosmbus => exact (State.next_live hreset).trans (congrArg _ (if_neg hne))
  case restored =>
    exact (State.next_live hreset).trans (congrArg (fun t : State => Host.Outcome.next t.serveAccs) (if_pos ⟨hst, hback, hdone⟩))
  case notrestored =>
    refine (State.next_live hreset).trans (congrArg (fun t : State => Host.Outcome.next t.serveAccs) (if_neg ?_))
    rintro ⟨hst, hback, hdone⟩
    rcases hno with h | h | h
    · exact h hst
    · exact ne_true_of_eq_false h hback
    · exact ne_true_of_eq_false h hdone

/-! ### Power switches and rails (O53) -/

/-- The answer to a frame that waits. -/
theorem State.avsResponse_frame {s : State} {c : PerfChange} (a : AvsAnswer) (hc : s.pwr.change = some c)
    (hph : c.phase = .frame false) :
    s.avsResponse a = if a = .ack 0 then
        (if c.up then (s.lower F.PWR_STATUS_VHIGH).perfPhase c .settle else (s.lower F.PWR_STATUS_VHIGH).perfEnd)
      else if c.left = 0 then s.avsFail c
      else s.perfPhase { c with left := c.left - 1 } (.frame true) := by
  simp only [State.avsResponse, hc, hph, ne_eq, not_true_eq_false, if_false]

/-- Settles O53: the handshake by its phase, the frame by its phase and answer. -/
theorem powerSwitchesAndRails : Obligations.PowerSwitchesAndRails := by
  refine ⟨?ack, ?timeout, fun s hreset hnone => ⟨fun a => ?_, ?_, ?_⟩, ?frame⟩
  case ack =>
    intro s pd v d p u
    have hgo : s.boot.held = false → exec (.pswAck pd v) s = .next (State.serveAccs (if p.phase ≠ .wait ∨ p.en ≠ v then u
        else if v then u.setPsw d { p with ack := true, phase := .acked, since := s.tim.now } else u.pswOff d)) :=
      fun hheld => congrArg Host.Outcome.next (if_neg (ne_true_of_eq_false hheld))
    refine ⟨fun hheld => congrArg Host.Outcome.next (if_pos hheld), fun hheld hno => ?_, fun hheld hwait hen => ?_⟩
    · rw [hgo hheld, if_pos hno]
    · have hboth : ¬ (p.phase ≠ .wait ∨ p.en ≠ v) := by simp [hwait, hen]
      rw [hgo hheld, if_neg hboth]
      exact ⟨fun hv => by rw [if_pos hv], fun hv => by rw [if_neg (ne_true_of_eq_false hv)]⟩
  case timeout =>
    intro s pd hreset d p late u
    have hgo : exec (.pswTimeout pd) s = .next (State.serveAccs (if p.phase ≠ .wait ∨ !late then s
        else if p.en then u.switchDead d else u.switchUndo d)) := State.next_live hreset
    have hact : p.phase = .wait → late = true → ¬ (p.phase ≠ .wait ∨ !late) := fun hwait hlate => by simp [hwait, hlate]
    refine ⟨fun hno => ?_, fun hwait hlate hen => ?_, fun hwait hlate hen => ?_⟩
    · have hno' : p.phase ≠ .wait ∨ !late := by simpa using hno
      rw [hgo, if_pos hno']
    · rw [hgo, if_neg (hact hwait hlate), if_pos hen]
      rfl
    · rw [hgo, if_neg (hact hwait hlate), if_neg (ne_true_of_eq_false hen)]
      rfl
  case frame =>
    intro s c a hreset hc
    have hresp : exec (.avsResponse a) s = .next (s.avsResponse a) := State.next_live hreset
    refine ⟨fun hph => ?_, fun hph ha => ?_, fun hph ha => ⟨fun hleft => ?_, fun hleft => ?_⟩, fun hph hpass => ?_, fun hno => ?_,
      fun hph hpass => ?_, fun hno => ?_⟩
    · simp [hresp, State.avsResponse, hc, hph]
    · rw [hresp, State.avsResponse_frame a hc hph, if_pos ha]
      exact ⟨fun hup => by rw [if_pos hup], fun hup => by rw [if_neg (ne_true_of_eq_false hup)]⟩
    · rw [hresp, State.avsResponse_frame a hc hph, if_neg ha, if_pos hleft]
    · rw [hresp, State.avsResponse_frame a hc hph, if_neg ha, if_neg hleft]
    · exact (State.next_live hreset).trans (congrArg _ (by simp [State.avsRetry, hc, hph, hpass]))
    · refine (State.next_live hreset).trans (congrArg _ ?_)
      rcases hno with h | h <;> simp [State.avsRetry, hc, h]
    · exact (State.next_live hreset).trans (congrArg _ (by simp [State.settleEnd, hc, hph, hpass]))
    · refine (State.next_live hreset).trans (congrArg _ ?_)
      rcases hno with h | h <;> simp [State.settleEnd, hc, h]
  · exact (State.next_live hreset).trans (congrArg _ (by simp only [State.avsResponse, hnone]))
  · exact (State.next_live hreset).trans (congrArg _ (by simp only [State.avsRetry, hnone]))
  · exact (State.next_live hreset).trans (congrArg _ (by simp only [State.settleEnd, hnone]))

end Sys2Proof.Machine
end

section
/-! PROOFS. Resets, images, time and telemetry: O54, O55, O56. -/

namespace Sys2Proof.Machine

/-! ### Resets and start-up (O54) -/

/-- What STAGE_READY waits for. -/
def State.readyGo (s : State) : Bool :=
  decide (s.stage = 2) && s.mainOn && s.pwr.change.isNone && s.bit F.SST_STATUS_INIT_DONE && s.sav.scan.isNone
    && !(s.boot.cold && !s.vfm.walks.isEmpty)

/-- The block as STAGE_READY makes it ready, before what waited for that. -/
def State.readied (s : State) : State :=
  let s := s.setStage 3
  { s with
    intk := { s.intk with ready := true, credits := 64 }
    cfg := { s.cfg with on := true, ran := 0, clean := s.bnd.isEmpty, skipped := false, read := [] }
    boot := { s.boot with cold := false, warmArb := false } }

theorem State.ready_eq (s : State) :
    s.ready = if s.readyGo then s.readied.heldFlrs.ringGo.saveWaiting else s := by
  have hwaits : (s.stage ≠ 2 ∨ !s.mainOn ∨ s.pwr.change.isSome ∨ !s.bit F.SST_STATUS_INIT_DONE ∨ s.sav.scan.isSome
      ∨ (s.boot.cold ∧ !s.vfm.walks.isEmpty)) ↔ ¬ s.readyGo = true := by
    simp only [State.readyGo, ne_eq, Bool.and_eq_true, decide_eq_true_eq, Bool.not_eq_true', not_and_or, Bool.not_eq_true,
      Bool.not_eq_false, Option.isNone_eq_false_iff, or_assoc]
  exact (if_congr hwaits rfl rfl).trans (ite_not _ _ _)

theorem State.readied_stage (s : State) : s.readied.stage = 3 :=
  State.fld_setFld_self s F.REG_RST_STAT_STAGE 0 3 (by decide) (by decide)

/-- A WARM outside a reset, by what the block does: in a power-fail save, in dormancy, in an exit, and otherwise. -/
theorem exec_warm {s : State} (hreset : s.inReset = false) :
    exec .warm s = .next (
      let l := { s with boot := { s.boot with warmLow := true } }
      if s.pst = 6 ∨ s.sav.run.any (fun x => x.trig == 0) then l.raise F.REG_RST_STAT_WARM_IGN
      else if s.pst = 1 ∨ s.pst = 2 ∨ s.pst = 3 then State.wake { l with boot := { l.boot with warmWant := true } } 6 0
      else if s.pst = 4 then { l with boot := { l.boot with warmWant := true } }
      else l.warmApply) := by
  obtain ⟨hheld, hwarm⟩ := Bool.or_eq_false_iff.mp hreset
  have hgo : exec .warm s = .next (if s.boot.warmHeld then s else s.warm) := rfl
  have hnow : State.warmNow { s with boot := { s.boot with warmLow := true } } =
      State.warmApply { s with boot := { s.boot with warmLow := true } } := if_pos rfl
  rw [hgo, if_neg (ne_true_of_eq_false hwarm)]
  unfold State.warm
  dsimp only
  rw [if_neg (ne_true_of_eq_false hheld), hnow]
  rfl

/-- Settles O54: each reset and each step of the start-up by its condition. -/
theorem resetsAndStartup : Obligations.ResetsAndStartup := by
  refine ⟨fun s w => ⟨s.cold w, rfl, State.reg_setReg_self .., ?regs, rfl, rfl, rfl, rfl, rfl, rfl, rfl, rfl, rfl, rfl, rfl,
      rfl, rfl, rfl, rfl, rfl, rfl, rfl, rfl, rfl, rfl, rfl, rfl⟩,
    fun s => ⟨s.coldAssert, rfl, rfl, rfl, rfl, rfl, rfl, rfl⟩, ?warm, ?rise,
    fun s => ⟨fun hlow => if_pos hlow, fun hlow => if_neg (ne_true_of_eq_false hlow)⟩, ?wait,
    fun s => ⟨fun hreset => congrArg _ (if_pos hreset), fun hreset hbusy => ?fabricWaits, fun hreset hbusy => ?fabric⟩, ?ready⟩
  case regs =>
    intro r i hi hne
    refine State.reg_setReg_other _ _ (fun hkey => hne ?_)
    exact Reg.key_inj hi (by decide) hkey
  case warm =>
    intro s l
    refine ⟨fun hwarm => congrArg Host.Outcome.next (if_pos hwarm), fun hwarm hheld =>
      congrArg Host.Outcome.next ((if_neg (ne_true_of_eq_false hwarm)).trans (if_pos hheld)), fun hreset => ?_⟩
    intro late
    have hlate : (s.pst = 6 ∨ s.sav.run.any (fun x => x.trig == 0) = true) ↔ late = true := by simp [late]
    have hgo := (exec_warm hreset).trans (congrArg Host.Outcome.next (if_congr hlate rfl rfl))
    refine ⟨fun h => ?_, fun h hdown => ?_, fun h hexit => ?_, fun h hone htwo hthree hfour => ?_⟩
    · rw [hgo, if_pos h]
    · rw [hgo, if_neg (ne_true_of_eq_false h), if_pos hdown]
    · rw [hgo, if_neg (ne_true_of_eq_false h), if_neg (by simp [hexit]), if_pos hexit]
    · rw [hgo, if_neg (ne_true_of_eq_false h), if_neg (by simp [hone, htwo, hthree]), if_neg hfour]
  case rise =>
    intro s u
    have hgo : s.boot.warmHeld = true → exec .warmRstNDeasserted s = .next (if s.dep.tags.isEmpty then u.warmGo else u) :=
      fun hheld => congrArg Host.Outcome.next (if_pos hheld)
    refine ⟨fun hheld => congrArg Host.Outcome.next (if_neg (ne_true_of_eq_false hheld)), fun hheld htags => ?_, fun hheld htags => ?_⟩
    · rw [hgo hheld, if_pos (List.isEmpty_iff.mpr htags)]
    · rw [hgo hheld, if_neg (mt List.isEmpty_iff.mp htags)]
  case wait =>
    intro s t hreset ht
    have hgo : exec .warmDepotWaitEnd s = .next s.depWaitEnd := State.next_live hreset
    rw [hgo]
    simp only [State.depWaitEnd, ht]
    refine ⟨fun htags => ?_, fun htags hpass => ?_, fun htags hpass => ?_⟩
    · rw [if_pos (List.isEmpty_iff.mpr htags)]
    · rw [if_neg (mt List.isEmpty_iff.mp htags), if_neg (ne_true_of_eq_false hpass)]
    · rw [if_neg (mt List.isEmpty_iff.mp htags), if_pos hpass]
  case fabricWaits =>
    exact congrArg Host.Outcome.next ((if_neg (ne_true_of_eq_false hreset)).trans (if_pos hbusy))
  case fabric =>
    exact congrArg Host.Outcome.next ((if_neg (ne_true_of_eq_false hreset)).trans (if_neg (ne_true_of_eq_false hbusy)))
  case ready =>
    intro s hreset go
    have hgo : exec .stageReady s = .next (if go then s.readied.heldFlrs.ringGo.saveWaiting else s) :=
      (State.next_live hreset).trans (congrArg _ s.ready_eq)
    refine ⟨fun h => ⟨s.readied, ?_, s.readied_stage, rfl, rfl, rfl, rfl⟩, fun h => ?_⟩
    · rw [hgo, if_pos h]
    · rw [hgo, if_neg (ne_true_of_eq_false h)]

/-! ### Image transfers (O55) -/

/-- Settles O55: each command of the loader by its phase. -/
theorem imageTransfers : Obligations.ImageTransfers := by
  refine ⟨?chunk, ?timeout, ?choice, ?apply⟩
  case chunk =>
    intro s b hopen o r
    obtain ⟨hreset, hfree, hq⟩ := hopen
    have hdo (f : SbFrame) : exec (.imageChunkSideband f b) s = .next (s.sbImage f b) := by
      refine (State.next_live hreset).trans (congrArg _ ?_)
      exact State.sbCommand_open (.image f b) hfree hq
    have hgood : exec (.imageChunkSideband .good b) s = .next (if b.length < 5 ∨ 68 < b.length then s.sbEnd 3 3
        else if !s.holds .sideband 3 then s.sbEnd 3 4 else r.2.sbEnd 3 (if r.1 then 0 else 5)) := hdo .good
    refine ⟨⟨hdo .pecWrong, hdo .unknownCode, hdo .wrongCount⟩, fun hlen => ?_, fun hmin hmax hclass => ?_, fun hmin hmax hclass => ?_⟩
    · rw [hgood, if_pos hlen]
    · rw [hgood, if_neg (by omega), if_pos (by simp [hclass])]
    · rw [hgood, if_neg (by omega), if_neg (by simp [hclass])]
  case timeout =>
    intro s hreset late
    have hlate : (s.imgReq = true ∧ s.passed s.imgl.since 100000000 = true) ↔ late = true := by simp [late]
    have hgo : exec .timeout s = .next (if late then s.imgJudge 2 (s.fld F.IMG_FETCH_OFFSET) else s) :=
      (State.next_live hreset).trans (congrArg _ (if_congr hlate rfl rfl))
    exact ⟨fun h => by rw [hgo, if_pos h], fun h => by rw [hgo, if_neg (ne_true_of_eq_false h)]⟩
  case choice =>
    intro s hreset u
    have hgo : exec .arbitrationDone s = .next s.arbDone := State.next_live hreset
    have himgl : u.imgl = s.imgl := by
      simp only [u]
      split <;> rfl
    have hnoslot : s.imgl.phase = .judged → s.imgl.choose.1 = none → exec .arbitrationDone s = .next (if u.imgl.reload then
        { (u.raise F.IMG_STATUS_KEPT).setFld F.IMG_STATUS_STATE 0 u.imgl.code with imgl := Loader.idle }
        else { u with imgl := { u.imgl with phase := .loaded, code := 0x13, a := none, b := none } }) := by
      intro hph hnone
      simp only [hgo, State.arbDone, hph, hnone, u, ne_eq, not_true_eq_false, if_false]
    refine ⟨fun hph => ?_, fun slot hph hslot => ?_, fun hph hnone hre => ?_, fun hph hnone hre => ?_⟩
    · rw [hgo, State.arbDone, if_pos hph]
    · simp only [hgo, State.arbDone, hph, hslot, u, ne_eq, not_true_eq_false, if_false]
    · rw [hnoslot hph hnone, himgl, if_pos hre]
    · rw [hnoslot hph hnone, himgl, if_neg (ne_true_of_eq_false hre)]
  case apply =>
    intro s hreset r
    have hgo : exec .imageApplyDone s = .next (if !r.1 then r.2 else if r.2.stage = 3 then r.2.ringImage s.img else r.2.bootImage) :=
      State.next_live hreset
    refine ⟨fun hph => ?_, fun hno => ?_, fun hyes hst => ?_, fun hyes hst => ?_⟩
    · have hr : r = (false, s) := if_pos hph
      rw [hgo, hr]
      rfl
    · rw [hgo, if_pos (by simp [hno])]
    · rw [hgo, if_neg (by simp [hyes]), if_pos hst]
    · rw [hgo, if_neg (by simp [hyes]), if_neg hst]

/-! ### Time, the walker and telemetry (O56) -/

/-- `t` is `s` but for what a measurement moves: registers and telemetry. -/
def State.Measured (s t : State) : Prop := ∃ regs tel, t = { s with regs := regs, tel := tel }

namespace State.Measured

theorem refl (s : State) : s.Measured s := ⟨_, _, rfl⟩

theorem trans {s t u : State} (hst : s.Measured t) (htu : t.Measured u) : s.Measured u := by
  obtain ⟨_, _, rfl⟩ := hst
  obtain ⟨_, _, rfl⟩ := htu
  exact ⟨_, _, rfl⟩

theorem setReg (s : State) (r : Reg) (i : Nat) (w : Word) : s.Measured (s.setReg r i w) := ⟨_, _, rfl⟩

theorem setFld (s : State) (f : Field) (i v : Nat) : s.Measured (s.setFld f i v) := ⟨_, _, rfl⟩

theorem foldl {α : Type} {f : State → α → State} (hf : ∀ (s : State) a, s.Measured (f s a)) (l : List α) (s : State) :
    s.Measured (l.foldl f s) := by
  induction l generalizing s with
  | nil => exact refl s
  | cons a l ih => exact (hf s a).trans (ih (f s a))

theorem probe (s : State) (p v : Nat) : s.Measured (s.probe p v) := by
  unfold State.probe
  split
  · exact refl s
  · have hcount (n : Nat) : s.Measured (s.count n) := by
      unfold State.count
      split
      · exact refl s
      · exact ⟨_, _, rfl⟩
    exact (((hcount _).trans ⟨_, _, rfl⟩).trans (setFld _ _ _ _)).trans (setFld _ _ _ _)

theorem bwEnd (s : State) (i : Nat) (last max_ : Reg) (k : Nat) : s.Measured (s.bwEnd i last max_ k) := by
  unfold State.bwEnd
  dsimp only
  split
  · exact (setReg _ _ _ _).trans (setReg _ _ _ _)
  · exact setReg _ _ _ _

theorem bwEnds (s : State) : s.Measured s.bwEnds := by
  unfold State.bwEnds
  dsimp only
  split
  · exact ⟨_, _, rfl⟩
  · exact (foldl (fun x i => (bwEnd x i _ _ _).trans (bwEnd _ i _ _ _)) _ s).trans ⟨_, _, rfl⟩

end State.Measured

/-- What a counter's memory error does is a report. -/
theorem State.counterEcc_reported (s : State) (ecc : Ecc) : s.Reported (s.counterEcc ecc) := by
  unfold State.counterEcc
  split
  · exact .error s 9 12 _ .none rfl
  · exact .trans ⟨_, _, _, _, _, _, rfl⟩ (.error _ 9 12 _ .none rfl)
  · exact .error s 9 12 _ .none rfl
  · exact .trans ⟨_, _, _, _, _, _, rfl⟩ (.error _ 9 12 _ .none rfl)
  · exact .refl s

/-- The end of a window: its maxima and this cycle's counts start anew, and only registers move besides. -/
theorem State.winClose_due {s : State} (h : s.tel.winEnd ≤ s.ns) :
    s.winClose.tel.wmax = [] ∧ s.winClose.tel.qCur = 0 ∧ s.winClose.oas.prev = s.oas.cur ∧ s.winClose.oas.cur = []
      ∧ s.winClose.dep = s.dep ∧ s.winClose.pending = s.pending := by
  have hshown : s.Measured (State.bwEnds (probes.foldl (fun (x : State) p =>
      x.setReg .TEL_H_WMAX p (BitVec.ofNat 32 (SMap.get 0 x.tel.wmax p))) s)) :=
    (State.Measured.foldl (fun x p => .setReg x _ _ _) probes s).trans (.bwEnds _)
  unfold State.winClose
  rw [if_neg (Nat.not_lt.mpr h)]
  obtain ⟨regs, tel, hshown⟩ := hshown
  dsimp only
  rw [hshown]
  split <;> exact ⟨rfl, rfl, rfl, rfl, rfl, rfl⟩

/-- A level sample takes its measurements and sets the time of the next. -/
theorem State.levelSample_due {s : State} (h : s.tel.lvlAt ≤ s.ns) :
    s.levelSample.tel.lvlAt
        = (s.ns / ((s.fld F.TEL_LVL_PERIOD + 1) * 128) + 1) * ((s.fld F.TEL_LVL_PERIOD + 1) * 128)
      ∧ s.levelSample.dep = s.dep ∧ s.levelSample.rnk = s.rnk ∧ s.levelSample.dlv = s.dlv
      ∧ s.levelSample.pending = s.pending := by
  have hsampled (l : List (Nat × Nat)) :
      s.Measured (l.foldl (fun (x : State) (y : Nat × Nat) => x.probe y.1 y.2) s) := .foldl (fun x y => .probe x _ _) l s
  unfold State.levelSample
  rw [if_neg (Nat.not_lt.mpr h)]
  dsimp only
  obtain ⟨regs, tel, hsampled⟩ := hsampled [(8, s.mqUsed), (9, s.holdUsed), (10, s.rnk.offers.length),
    (11, s.way.q.length), (12, s.dlv.active.length), (13, s.dlv.tags.length),
    (14, max s.chl.east.tx.length s.chl.west.tx.length), (15, s.shapedHeads.length)]
  rw [hsampled]
  exact ⟨rfl, rfl, rfl, rfl, rfl⟩

/-- A toggle: what `ftToggle` leaves, with the time gained counted. -/
theorem exec_ftToggle {s : State} (ft : BitVec 64) (hheld : s.boot.held = false) :
    exec (.ftToggle ft) s = .next (s.ftToggleRun ft.toNat) :=
  congrArg Host.Outcome.next (if_neg (ne_true_of_eq_false hheld))

/-- Settles O56: each clock before its time and at it. -/
theorem timeWalkerAndTelemetry : Obligations.TimeWalkerAndTelemetry := by
  refine ⟨?toggle, ?holdover, ?walker, fun s ecc hcore => ?window, fun s hcore => ?level, fun s hcore => ?sampler⟩
  case toggle =>
    intro s ft v b k j gain
    have hgo : s.boot.held = false → exec (.ftToggle ft) s = .next (
        let x := if v < s.tim.ft then k else if s.tim.ft + 1000000 * 45 < v then j else b
        gain x (x.tim.ft - s.tim.ft)) := exec_ftToggle ft
    refine ⟨fun hheld => congrArg Host.Outcome.next (if_pos hheld), fun hheld hback => ?_, fun hheld hle hnear => ?_,
      fun hheld hjump => ?_⟩
    · have hkeep : k.tim.ft - s.tim.ft = 0 := by
        have : k.tim.ft = max s.tim.ft v := rfl
        omega
      simp only [hgo hheld, if_pos hback, hkeep]
    · have hgain : b.tim.ft - s.tim.ft = v - s.tim.ft := by
        have : b.tim.ft = max s.tim.ft v := rfl
        omega
      simp only [hgo hheld, if_neg (Nat.not_lt.mpr hle), if_neg (Nat.not_lt.mpr hnear), hgain]
    · have hforward : ¬ v < s.tim.ft := by omega
      simp only [hgo hheld, if_neg hforward, if_pos hjump]
  case holdover =>
    intro s gone
    have hgo : exec .holdover s = .next (if gone then s.raise F.TIM_STATUS_HOLDOVER else s) := by
      have hdo : exec .holdover s = .next (if s.boot.held then s else s.holdover) := rfl
      rw [hdo]
      cases hheld : s.boot.held with
      | true => simp [gone, hheld]
      | false => simp [gone, hheld, State.holdover]
    exact ⟨fun h => by rw [hgo, if_pos h], fun h => by rw [hgo, if_neg (ne_true_of_eq_false h)]⟩
  case walker =>
    intro s bad hcore early u crcs live v w
    have hgo : exec (.walkerPassEnd bad) s = .next (if early then s else
        if u.cfg.skipped then (u.raise F.CFG_STATUS_PARTIAL).nextPass
        else (if w.bit F.CFG_STATUS_REF_VALID && live != w.reg .CFG_CRC_REF then w.mismatch else w).nextPass) :=
      State.next_onCore hcore
    refine ⟨fun h => ?_, fun h hskip => ?_, fun h hskip => ?_⟩
    · rw [hgo, if_pos h]
    · rw [hgo, if_neg (ne_true_of_eq_false h), if_pos hskip]
    · rw [hgo, if_neg (ne_true_of_eq_false h), if_neg (ne_true_of_eq_false hskip)]
  case window =>
    intro u
    have hgo : exec (.telemetryWindowEnd ecc) s = .next u.winClose := State.next_onCore hcore
    have hpending : u.pending = s.pending := by
      obtain ⟨_, _, _, _, _, _, hu⟩ := s.counterEcc_reported ecc
      simp only [u, hu]
    refine ⟨fun hearly => by rw [hgo, State.winClose, if_pos hearly], fun hdue => ⟨u.winClose, hgo, ?_⟩⟩
    have hclosed := State.winClose_due hdue
    rwa [hpending] at hclosed
  case level =>
    have hgo : exec .levelSample s = .next s.levelSample := State.next_onCore hcore
    exact ⟨fun hearly => by rw [hgo, State.levelSample, if_pos hearly], fun hdue => ⟨_, hgo, State.levelSample_due hdue⟩⟩
  case sampler =>
    have hgo : exec .samplerRecord s = .next s.samplerRecord := State.next_onCore hcore
    refine ⟨fun hnone => ?_, fun m hm => ?_⟩
    · simp only [hgo, State.samplerRecord, hnone]
    · intro u k
      refine ⟨fun hfull => ?_, fun hroom => ?_⟩
      · simp only [hgo, State.samplerRecord, hm, if_pos hfull, u]
      · simp only [hgo, State.samplerRecord, hm, if_neg (Nat.not_le.mpr hroom), u, k]

end Sys2Proof.Machine
end
